-- ==== Sys2Proof/Word.lean ====
section
/-! DEFINITION. Word.lean: the words of the ZA32 (00_scope R5, R6): bytes, 16-, 32- and 64-bit values. -/

namespace Sys2Proof

/-- One byte of a message, a structure or a memory. -/
abbrev Byte := BitVec 8
/-- A 2-byte field. -/
abbrev Half := BitVec 16
/-- A 4-byte field, and a BAR0 register (R5). -/
abbrev Word := BitVec 32
/-- An 8-byte field, a sequencer register (R221), a device-time value in ns (R44). -/
abbrev Dword := BitVec 64
/-- Bytes in ascending address order. -/
abbrev Bytes := List Byte

end Sys2Proof
end

