-- ==== Sys2Proof/Syntax.lean ====
section
/-! DEFINITION. Syntax.lean: the commands. What State already holds is read from State; an operand names the
object a step concerns, or brings what the outside supplies to the step. -/

namespace Sys2Proof

/-- A mailbox channel: 0 to 15 in BAR0, 16 over SMBus/I3C (05, Channels and ownership). -/
abbrev Chan := Fin 17

/-- A BAR0 access that breaks R5: 8-bit, 16-bit, or misaligned 32- or 64-bit (INT_BAD_ACCESS.KIND, R142). -/
inductive AccessSize where
  | byte | half | misaligned (wide : Bool)
deriving DecidableEq, Repr

/-- The two GNSS sample ports (R68). -/
inductive Port where
  | spa | spb
deriving DecidableEq, Repr

/-- What a calibration run measured (R51, R62), in the units of the item table (03). -/
structure CalMeas where
  /-- GNSS_IFB -/
  gnssIfb : Word
  /-- THERM, the offset of each sensor: the hotspots of octants 0 to 7, then towers 0 to 7 (log 22) -/
  therm : List Word
  /-- LINK_D_k by link number -/
  linkD : List Word
deriving DecidableEq, Repr

/-- One clock of a sample port: D3 to D0 at the rising and at the falling edge (R68). -/
structure Pins where
  rise : BitVec 4
  fall : BitVec 4
deriving DecidableEq, Repr

/-- The samples the engine takes for the blocks of one Doppler bin: one list of clocks for each 1 ms block (04,
Acquisition). -/
abbrev BinSamples := List (List Pins)

/-- Navigation data that a channel has decoded: KIND 1 an almanac, 2 an ephemeris, its satellite, and its words (R92). -/
structure NavData where
  kind : BitVec 8
  sv : BitVec 8
  words : Bytes
deriving DecidableEq, Repr

/-- What the code of the position and time solution of one epoch found (R83, R86); its orbit and least-squares
computations are not given by the spec (log 15). -/
structure SolInput where
  /-- an inconsistency remains that exclusion cannot resolve -/
  traim : Bool
  /-- T-RAIM can exclude -/
  canExclude : Bool
  /-- PDOP in hundredths -/
  pdop100 : Nat
  /-- the solved system time named by REF_SYS at the epoch, ANT_DELAY still in it, 2^-32 ns -/
  sysTime : Nat
  /-- 1-sigma uncertainty of the time, ps -/
  uncPs : Word
  /-- the solved position, ECEF mm -/
  x : Int
  y : Int
  z : Int
  /-- TAI - UTC from navigation data, if decoded -/
  taiUtc : Option Half
  /-- an announced leap: NEXT_DELTA code and DT instant -/
  leap : Option (BitVec 2 × Dword)
deriving DecidableEq, Repr

/-- What a tracking channel measured for an epoch (R71, R83, R84), and what the solution predicts of it. -/
structure RecInput where
  /-- channel -/
  chan : Nat
  /-- samples from the port's last time tag to the one at which the code phase was read -/
  sample : Nat
  /-- transmit time of that code phase on the timescale of DT, 2^-16 ns -/
  tx : Nat
  /-- carrier phase, 2^-16 cycles -/
  cp : Dword
  /-- half cycle resolved -/
  halfOk : Bool
  /-- cycle slip since the last epoch -/
  slip : Bool
  /-- the pseudorange the solution predicts, 2^-16 m, where an orbit of the satellite is known -/
  pred : Option Int
  /-- sigma of the pseudorange, 2^-16 m -/
  sigma : Nat
  /-- ionospheric delay by the system's broadcast model, 2^-16 m -/
  iono : Int
deriving DecidableEq, Repr

/-- How the host link trained (INT_LINK, R142). -/
structure LinkParams where
  speed : BitVec 4
  width : BitVec 5
  flit : Bool
  cxl : Bool
  cache : Bool
  mem : Bool
  /-- back-invalidation -/
  bi : Bool
deriving DecidableEq, Repr

/-- One MSI-X table entry (R120). -/
structure MsixEntry where
  addr : Dword
  data : Word
  mask : Bool
deriving DecidableEq, Repr

/-- The PCIe configuration the host has programmed when the link is up: the table has no row for
configuration writes, so HOST_LINK_TRAIN brings it (log 16). -/
structure PcieConfig where
  /-- Bus Master Enable -/
  bme : Bool
  /-- Memory Space Enable -/
  mse : Bool
  /-- PASID Enable -/
  pasidEn : Bool
  /-- ATS Enable -/
  atsEn : Bool
  /-- Enable Relaxed Ordering -/
  roEn : Bool
  /-- Completion Timeout Value of Device Control 2 (R119) -/
  cto : BitVec 4
  /-- Max Payload Size and Max Read Request Size: 128 bytes times 2 to the code (R117) -/
  mps : BitVec 3
  mrrs : BitVec 3
  /-- MSI-X Enable -/
  msixEn : Bool
  /-- Function Mask -/
  funcMask : Bool
  /-- MSI-X table, entry n for vector n -/
  msix : List MsixEntry
deriving DecidableEq, Repr

/-- What the code over a memory line found (R182). -/
inductive LineErr where
  | none | corrected | uncorrectable
deriving DecidableEq, Repr

/-- An ATS translation completion (R141). -/
structure AtsResp where
  read : Bool
  write : Bool
  /-- translated address of the page -/
  addr : Nat
  /-- size of the page in bytes -/
  size : Nat
deriving DecidableEq, Repr

/-- What MSIX_UNMASK clears (R136). -/
inductive UnmaskWhat where
  | vector (v : Fin 256)
  | function
deriving DecidableEq, Repr

/-- A Type 3 device's response to one line request (R184). -/
inductive DeepResp where
  | data (line : Bytes)
  | poison
  | written
deriving DecidableEq, Repr

/-- What enumeration found on one deep port (R176, R177). -/
structure DeepPortFound where
  /-- capacity of each Type 3 device that meets R176, in 256 MiB units, by downstream port -/
  devices : List Nat
  /-- devices left undecoded: downstream port (0xFF with no switch) and reason (R112) -/
  undecoded : List (BitVec 8 × BitVec 8)
  speed : BitVec 8
  width : BitVec 8
  /-- a switch is present -/
  switched : Bool
  /-- the link trained -/
  up : Bool
deriving DecidableEq, Repr

/-- The cause of a fence (CORE_FENCE_INFO.CAUSE, R217): driver fences come by OP_CORE_FENCE. -/
inductive FenceCause where
  | spadParity (bank word : Nat) (portB : Bool)
  | internal
deriving DecidableEq, Repr

/-- Why a Ratline link goes down (R353). -/
inductive LossCause where
  | signal | replayExhausted | serdesOff | peerReset
deriving DecidableEq, Repr

/-- The end of a training or retraining (R352, R353): trained with a peer's identity, or not. -/
inductive TrainResult where
  | trained (chip inc : Half) (linkD : Word)
  | failed
deriving DecidableEq, Repr

/-- What puts the device into cold reset (R359, R415). -/
inductive ColdTrigger where
  | pin (lowUs : Nat)
  | rail
  | debug
deriving DecidableEq, Repr

/-- What the board and the flash present at the release of COLD_RST_N (R396, R416). -/
structure BootInput where
  /-- every monitored rail has been in range for 1 ms and COLD_RST_N is high (R415) -/
  railsOk : Bool
  /-- the fuses could be read (R399) -/
  fusesOk : Bool
  /-- straps ADDR_SEL1:ADDR_SEL0 (R428) -/
  addrSel : BitVec 2
  /-- TAMPER_N is low (R406, R428) -/
  tamperLow : Bool
deriving DecidableEq, Repr

/-- The monitored rails (R415). -/
inductive Rail where
  | vddAon | vddSoc | vinCore | vddTwr | vddSerdes
deriving DecidableEq, Repr

/-- Boundary-scan instructions (R412): the three mandatory ones, or another by its code. -/
inductive JtagInstr where
  | bypass | samplePreload | extest
  | other (code : Nat)
deriving DecidableEq, Repr


/-- The commands of the block: one constructor for each row of spec/opcode_table.json. -/
inductive Instr where
  /-- BAR0_WRITE_PLAIN (R11). -/
  | bar0WritePlain (off : Nat) (wide : Bool) (val : Dword)
  /-- BAR0_BAD_ACCESS (R8). -/
  | bar0BadAccess (off : Nat) (write : Bool) (size : AccessSize)
  /-- TB_SNAP_LATCH (R25). -/
  | tbSnapLatch (n : Fin 64) (wide : Bool)
  /-- GNSS_QUALIFY (R30). -/
  | gnssQualify
  /-- GNSS_DISQUALIFY (R30). -/
  | gnssDisqualify
  /-- PPS_IN_EDGE (R33). -/
  | ppsInEdge (dev refPpb : Int) (periods : Nat)
  /-- REF10M_LOSS (R30). -/
  | ref10mLoss
  /-- EXCHANGE_INTERVAL_MISSED (R30). -/
  | exchangeIntervalMissed
  /-- SOURCE_TAKEOVER (R32). -/
  | sourceTakeover
  /-- LOCK_24H_SET (R40). -/
  | lock24hSet
  /-- LEAP_SECOND (R22). -/
  | leapSecond
  /-- TIMESYNC_EXCHANGE_START (R41): of this chip as the downstream, or by the chip on the far end of a link, with the
  number it gives the exchange (log 55). -/
  | timesyncExchangeStart (peer : Option (Fin 24 × Half))
  /-- SYNC (R41). -/
  | sync (l : Fin 24)
  /-- DELAY_REQ (R41). -/
  | delayReq (l : Fin 24)
  /-- DELAY_RESP (R41). -/
  | delayResp (l : Fin 24)
  /-- PPS_OUT_RISE (R43). -/
  | ppsOutRise
  /-- PPS_OUT_FALL (R43). -/
  | ppsOutFall
  /-- OP_TIME_CONFIG (R48). -/
  | opTimeConfig (c : Chan)
  /-- OP_TIME_SET (R48). -/
  | opTimeSet (c : Chan)
  /-- TIME_SET_TIMEOUT (R48). -/
  | timeSetTimeout
  /-- OP_TIME_STATUS (R47). -/
  | opTimeStatus (c : Chan)
  /-- REF_PRESENCE_DECIDED (R50). -/
  | refPresenceDecided (freqPpm : Int)
  /-- CAL_LOOPBACKS_DONE (R57). -/
  | calLoopbacksDone (m : CalMeas)
  /-- FREQUENCY_GATE_START (R51). -/
  | frequencyGateStart
  /-- FREQUENCY_GATE_END (R51). -/
  | frequencyGateEnd (osc tempco : Word) (span : Nat)
  /-- OP_CAL_RUN (R62). -/
  | opCalRun (c : Chan) (m : CalMeas)
  /-- OP_CAL_READ (R66). -/
  | opCalRead (c : Chan)
  /-- SAMPLE_PORT_FAULT (R69). -/
  | samplePortFault (port : Port) (noEdge : Bool) (devPpm : Nat)
  /-- SAMPLE_PORT_FAULT_CLEAR (R69). -/
  | samplePortFaultClear (port : Port)
  /-- SAMPLE_TIME_TAG (R71). -/
  | sampleTimeTag (port : Port)
  /-- SEARCH (R75). -/
  | search (j : Nat) (bins : List BinSamples)
  /-- VERIFY (R75). -/
  | verify (j : Nat) (tests : List (List BinSamples))
  /-- PULL_IN_LOCK (R75). -/
  | pullInLock (ch : Fin 128)
  /-- PULL_IN_TIMEOUT (R75). -/
  | pullInTimeout (ch : Fin 128)
  /-- TRACK_LOSS (R75). -/
  | trackLoss (ch : Fin 128)
  /-- SEARCH_LIST_RETURN (R75). -/
  | searchListReturn (j : Nat)
  /-- COHERENT_INTERVAL_END (R76). -/
  | coherentIntervalEnd (ch : Fin 128) (acc : List Int) (bitSync : Bool)
  /-- SYNC_EVENT_VERIFIED (R82). -/
  | syncEventVerified (ch : Fin 128) (word : Nat) (crcOk towKnown : Bool) (nav : List NavData)
  /-- CN0_EXPIRE (R82). -/
  | cn0Expire (ch : Fin 128)
  /-- MEASUREMENT_EPOCH (R83). -/
  | measurementEpoch (sol : SolInput) (recs : List RecInput)
  /-- SURVEY_COMPLETE (R87). -/
  | surveyComplete
  /-- HOLD_RESIDUAL_CHECK (R87). -/
  | holdResidualCheck
  /-- OP_GNSS_CONFIG (R90). -/
  | opGnssConfig (c : Chan)
  /-- OP_GNSS_SURVEY (R91). -/
  | opGnssSurvey (c : Chan)
  /-- OP_GNSS_POSITION (R91). -/
  | opGnssPosition (c : Chan)
  /-- OP_GNSS_STREAM (R85). -/
  | opGnssStream (c : Chan)
  /-- OP_GNSS_ASSIST (R92). -/
  | opGnssAssist (c : Chan) (ok : List Bool)
  /-- MBX_DOORBELL (R101). -/
  | mbxDoorbell (c : Fin 16) (val : Word)
  /-- MBX_ACK (R97). -/
  | mbxAck (c : Chan)
  /-- MBX_STATUS_CLEAR (R116). -/
  | mbxStatusClear (c : Fin 16) (val : Word)
  /-- SOLP_REQ (R113). -/
  | solpReq (msg : Bytes) (pecOk : Bool)
  /-- SOLP_STAT (R113). -/
  | solpStat
  /-- OP_NOP (R107). -/
  | opNop (c : Chan)
  /-- OP_GET_INFO (R108). -/
  | opGetInfo (c : Chan)
  /-- OP_MBX_GRANT (R95). -/
  | opMbxGrant (c : Chan)
  /-- OP_MBX_RESET (R109). -/
  | opMbxReset (c : Chan)
  /-- OP_EVENT_RING (R111). -/
  | opEventRing (c : Chan)
  /-- OP_ERROR_LOG (R110). -/
  | opErrorLog (c : Chan)
  /-- OP_HEALTH_SUMMARY (R110). -/
  | opHealthSummary (c : Chan)
  /-- FW_UPDATE_SESSION_TIMEOUT (R114). -/
  | fwUpdateSessionTimeout
  /-- HOST_LINK_TRAIN (R117). -/
  | hostLinkTrain (p : LinkParams) (cfg : PcieConfig)
  /-- BAR4_READ (R122). -/
  | bar4Read (off len : Nat) (errs : List (Nat × LineErr))
  /-- BAR4_WRITE (R122). -/
  | bar4Write (off : Nat) (data : List (Option Byte)) (ep : Bool) (errs : List (Nat × LineErr))
  /-- CXL_MEM_READ (R124). -/
  | cxlMemRead (dpa : Nat) (err : LineErr)
  /-- CXL_MEM_WRITE (R134). -/
  | cxlMemWrite (dpa : Nat) (data : List (Option Byte)) (poison : Bool) (err : LineErr)
  /-- BAR4_RESIZE (R434). -/
  | bar4Resize (size : Nat)
  /-- COMPLETION_TIMEOUT (R119). -/
  | completionTimeout (tag : Nat)
  /-- HOST_READ_COMPLETION (R432). -/
  | hostReadCompletion (tag : Nat) (data : Option Bytes)
  /-- ATS_TRANSLATION_COMPLETION (R141). -/
  | atsTranslationCompletion (id : Nat) (resp : AtsResp)
  /-- ATS_INVALIDATION (R140). -/
  | atsInvalidation (addr size : Nat) (pasid : Option Nat)
  /-- MSIX_UNMASK (R136). -/
  | msixUnmask (what : UnmaskWhat)
  /-- MSIX_GAP_END (R137). -/
  | msixGapEnd (v : Fin 256)
  /-- INT_STATUS_CLEAR (R142). -/
  | intStatusClear (val : Word)
  /-- INT_ENABLE_WRITE (R142). -/
  | intEnableWrite (val : Word)
  /-- OP_COHERENCE_MODE (R126). -/
  | opCoherenceMode (c : Chan)
  /-- OP_CTX_CREATE (R143). -/
  | opCtxCreate (c : Chan)
  /-- OP_CTX_DESTROY (R144). -/
  | opCtxDestroy (c : Chan)
  /-- OP_MAP (R150). -/
  | opMap (c : Chan)
  /-- OP_UNMAP (R161). -/
  | opUnmap (c : Chan)
  /-- OP_TLB_INVAL (R161). -/
  | opTlbInval (c : Chan)
  /-- UNMAP_HOST_ABANDON (R161). -/
  | unmapHostAbandon (c : Chan)
  /-- OP_PREFETCH (R162). -/
  | opPrefetch (c : Chan)
  /-- PREFETCH_DONE (R162). -/
  | prefetchDone (j : Nat)
  /-- OP_MIGRATE (R163). -/
  | opMigrate (c : Chan)
  /-- MIGRATE_PAGE (R163). -/
  | migratePage (j : Nat)
  /-- OP_ADVISE (R165). -/
  | opAdvise (c : Chan)
  /-- TRANSLATION_WALK_DONE (R157). -/
  | translationWalkDone (acc : Nat)
  /-- TOWER_LINE_ACCESS (R175). -/
  | towerLineAccess (acc : Nat) (err : LineErr)
  /-- DEEP_PORT_RESPONSE (R184). -/
  | deepPortResponse (p : Fin 4) (acc : Nat) (r : DeepResp)
  /-- DEEP_REQUEST_TIMEOUT (R179). -/
  | deepRequestTimeout (p : Fin 4) (acc : Nat)
  /-- DEEP_PORT_LINK_DOWN (R179). -/
  | deepPortLinkDown (p : Fin 4)
  /-- PATROL_SCRUB (R183). -/
  | patrolScrub (k : Fin 8) (err : LineErr)
  /-- TOWER_TEMPERATURE_CHANGE (R190). -/
  | towerTemperatureChange (k : Fin 8) (t : Int)
  /-- OP_ROWCACHE_CONFIG (R171). -/
  | opRowcacheConfig (c : Chan)
  /-- OP_DEEP_PORT_CONFIG (R178). -/
  | opDeepPortConfig (c : Chan) (found : List DeepPortFound)
  /-- OP_FILL (R188). -/
  | opFill (c : Chan) (lines : Nat)
  /-- OP_PAGE_RETIRE (R187). -/
  | opPageRetire (c : Chan)
  /-- HANDOVER_COMPLETE (R200). -/
  | handoverComplete (core : Fin 32) (bank : Fin 34)
  /-- RECLAIM_COMPLETE (R202). -/
  | reclaimComplete (core : Fin 32) (bank : Fin 34)
  /-- CORE_FENCE (R206). -/
  | coreFence (core : Fin 32) (cause : FenceCause)
  /-- OP_CORE_FENCE (R206). -/
  | opCoreFence (c : Chan)
  /-- OP_CORE_BRIDLE (R213). -/
  | opCoreBridle (c : Chan)
  /-- OP_CORE_UNBRIDLE (R213). -/
  | opCoreUnbridle (c : Chan)
  /-- OP_CORE_STATUS (R218). -/
  | opCoreStatus (c : Chan)
  /-- ADD (R225). -/
  | seqAdd (core : Fin 32) (t : Fin 4)
  /-- SUB (R225). -/
  | seqSub (core : Fin 32) (t : Fin 4)
  /-- AND (R225). -/
  | seqAnd (core : Fin 32) (t : Fin 4)
  /-- OR (R225). -/
  | seqOr (core : Fin 32) (t : Fin 4)
  /-- XOR (R225). -/
  | seqXor (core : Fin 32) (t : Fin 4)
  /-- SLL (R225). -/
  | seqSll (core : Fin 32) (t : Fin 4)
  /-- SRL (R225). -/
  | seqSrl (core : Fin 32) (t : Fin 4)
  /-- SRA (R225). -/
  | seqSra (core : Fin 32) (t : Fin 4)
  /-- SLT (R225). -/
  | seqSlt (core : Fin 32) (t : Fin 4)
  /-- SLTU (R225). -/
  | seqSltu (core : Fin 32) (t : Fin 4)
  /-- MIN (R225). -/
  | seqMin (core : Fin 32) (t : Fin 4)
  /-- MAX (R225). -/
  | seqMax (core : Fin 32) (t : Fin 4)
  /-- MINU (R225). -/
  | seqMinu (core : Fin 32) (t : Fin 4)
  /-- MAXU (R225). -/
  | seqMaxu (core : Fin 32) (t : Fin 4)
  /-- ADDI (R225). -/
  | seqAddi (core : Fin 32) (t : Fin 4)
  /-- ANDI (R225). -/
  | seqAndi (core : Fin 32) (t : Fin 4)
  /-- ORI (R225). -/
  | seqOri (core : Fin 32) (t : Fin 4)
  /-- XORI (R225). -/
  | seqXori (core : Fin 32) (t : Fin 4)
  /-- SLLI (R225). -/
  | seqSlli (core : Fin 32) (t : Fin 4)
  /-- SRLI (R225). -/
  | seqSrli (core : Fin 32) (t : Fin 4)
  /-- SRAI (R225). -/
  | seqSrai (core : Fin 32) (t : Fin 4)
  /-- MUL (R222). -/
  | seqMul (core : Fin 32) (t : Fin 4)
  /-- MULU (R222). -/
  | seqMulu (core : Fin 32) (t : Fin 4)
  /-- PRODUCT_LAND (R222). -/
  | productLand (core : Fin 32) (t : Fin 4)
  /-- MFPL (R225). -/
  | seqMfpl (core : Fin 32) (t : Fin 4)
  /-- MFPH (R225). -/
  | seqMfph (core : Fin 32) (t : Fin 4)
  /-- MFLK (R225). -/
  | seqMflk (core : Fin 32) (t : Fin 4)
  /-- MTLK (R225). -/
  | seqMtlk (core : Fin 32) (t : Fin 4)
  /-- JR (R225). -/
  | seqJr (core : Fin 32) (t : Fin 4)
  /-- CALLR (R225). -/
  | seqCallr (core : Fin 32) (t : Fin 4)
  /-- RET (R225). -/
  | seqRet (core : Fin 32) (t : Fin 4)
  /-- RDTIME (R29). -/
  | seqRdtime (core : Fin 32) (t : Fin 4)
  /-- SRD (R225). -/
  | seqSrd (core : Fin 32) (t : Fin 4)
  /-- CDRAIN (R225). -/
  | seqCdrain (core : Fin 32) (t : Fin 4)
  /-- SPB (R239). -/
  | seqSpb (core : Fin 32) (t : Fin 4)
  /-- HALT (R225). -/
  | seqHalt (core : Fin 32) (t : Fin 4)
  /-- BRK (R225). -/
  | seqBrk (core : Fin 32) (t : Fin 4)
  /-- LUI (R225). -/
  | seqLui (core : Fin 32) (t : Fin 4)
  /-- SIG (R320). -/
  | seqSig (core : Fin 32) (t : Fin 4)
  /-- SSET (R320). -/
  | seqSset (core : Fin 32) (t : Fin 4)
  /-- WARM (R231). -/
  | seqWarm (core : Fin 32) (t : Fin 4)
  /-- WBLK (R232). -/
  | seqWblk (core : Fin 32) (t : Fin 4)
  /-- WAIT (R232). -/
  | seqWait (core : Fin 32) (t : Fin 4)
  /-- SYNC_WAIT_TIMEOUT (R231). -/
  | syncWaitTimeout (core : Fin 32) (t : Fin 4) (w : Nat)
  /-- LD (R226). -/
  | seqLd (core : Fin 32) (t : Fin 4)
  /-- LW (R226). -/
  | seqLw (core : Fin 32) (t : Fin 4)
  /-- LBU (R226). -/
  | seqLbu (core : Fin 32) (t : Fin 4)
  /-- ST (R227). -/
  | seqSt (core : Fin 32) (t : Fin 4)
  /-- SW (R227). -/
  | seqSw (core : Fin 32) (t : Fin 4)
  /-- SB (R227). -/
  | seqSb (core : Fin 32) (t : Fin 4)
  /-- BEQ (R234). -/
  | seqBeq (core : Fin 32) (t : Fin 4)
  /-- BNE (R234). -/
  | seqBne (core : Fin 32) (t : Fin 4)
  /-- BLT (R234). -/
  | seqBlt (core : Fin 32) (t : Fin 4)
  /-- BGE (R234). -/
  | seqBge (core : Fin 32) (t : Fin 4)
  /-- BLTU (R234). -/
  | seqBltu (core : Fin 32) (t : Fin 4)
  /-- BGEU (R234). -/
  | seqBgeu (core : Fin 32) (t : Fin 4)
  /-- J (R225). -/
  | seqJ (core : Fin 32) (t : Fin 4)
  /-- CALL (R225). -/
  | seqCall (core : Fin 32) (t : Fin 4)
  /-- CRR (R228). -/
  | seqCrr (core : Fin 32) (t : Fin 4)
  /-- CRW (R228). -/
  | seqCrw (core : Fin 32) (t : Fin 4)
  /-- COP (R229). -/
  | seqCop (core : Fin 32) (t : Fin 4)
  /-- BRANCH_RESOLVE (R235). -/
  | branchResolve (core : Fin 32) (t : Fin 4)
  /-- SQUASHED_OPERATION_BOUNDARY (R238). -/
  | squashedOperationBoundary (core : Fin 32) (op : Nat)
  /-- MM_LOAD (R252). -/
  | mmLoad (core : Fin 32) (op : Nat)
  /-- MM_RUN (R254). -/
  | mmRun (core : Fin 32) (op : Nat) (bad : Option (Nat × Nat))
  /-- VECTOR_ADD (R263). -/
  | vecAdd (core : Fin 32) (op : Nat)
  /-- VECTOR_SUB (R263). -/
  | vecSub (core : Fin 32) (op : Nat)
  /-- VECTOR_MUL (R263). -/
  | vecMul (core : Fin 32) (op : Nat)
  /-- FMA (R263). -/
  | vecFma (core : Fin 32) (op : Nat)
  /-- VECTOR_MIN (R263). -/
  | vecMin (core : Fin 32) (op : Nat)
  /-- VECTOR_MAX (R263). -/
  | vecMax (core : Fin 32) (op : Nat)
  /-- DIV (R263). -/
  | vecDiv (core : Fin 32) (op : Nat)
  /-- SQRT (R263). -/
  | vecSqrt (core : Fin 32) (op : Nat)
  /-- RSQRT (R263). -/
  | vecRsqrt (core : Fin 32) (op : Nat)
  /-- EXP (R263). -/
  | vecExp (core : Fin 32) (op : Nat)
  /-- LOG (R263). -/
  | vecLog (core : Fin 32) (op : Nat)
  /-- TANH (R263). -/
  | vecTanh (core : Fin 32) (op : Nat)
  /-- SIGMOID (R263). -/
  | vecSigmoid (core : Fin 32) (op : Nat)
  /-- GELU (R263). -/
  | vecGelu (core : Fin 32) (op : Nat)
  /-- RELU (R263). -/
  | vecRelu (core : Fin 32) (op : Nat)
  /-- RSUM (R265). -/
  | vecRsum (core : Fin 32) (op : Nat)
  /-- RMAX (R265). -/
  | vecRmax (core : Fin 32) (op : Nat)
  /-- CONVERT (R264). -/
  | vecConvert (core : Fin 32) (op : Nat)
  /-- QUANT (R266). -/
  | vecQuant (core : Fin 32) (op : Nat)
  /-- REQUANT (R266). -/
  | vecRequant (core : Fin 32) (op : Nat)
  /-- MXQUANT (R264). -/
  | vecMxquant (core : Fin 32) (op : Nat)
  /-- DEQUANT (R263). -/
  | vecDequant (core : Fin 32) (op : Nat)
  /-- DMA_COPY (R267). -/
  | dmaCopy (core : Fin 32) (op : Nat)
  /-- COP_OPERATION_COMPLETE (R230). -/
  | copOperationComplete (core : Fin 32) (op : Nat)
  /-- LOOKUP (R274). -/
  | lookup (core : Fin 32) (op : Nat)
  /-- LOOKUP_ACCEPT (R283). -/
  | lookupAccept (e : Fin 8)
  /-- LOOKUP_ROW_RETURN (R277). -/
  | lookupRowReturn (e : Fin 8) (lk acc : Nat)
  /-- LOOKUP_DEADLINE (R283). -/
  | lookupDeadline (e : Fin 8) (lk : Nat)
  /-- LOOKUP_COMPLETE (R281). -/
  | lookupComplete (e : Fin 8) (lk : Nat)
  /-- TE_UPDATE (R285). -/
  | teUpdate (core : Fin 32) (op : Nat)
  /-- UPDATE_RECORD_ARRIVAL (R286). -/
  | updateRecordArrival (e : Fin 8)
  /-- RQ_UPD_TAIL_WRITE (R289). -/
  | rqUpdTailWrite (h : Fin 1024) (val : Word)
  /-- UPDATE_RING_RECORD (R289). -/
  | updateRingRecord (h : Fin 1024)
  /-- EPOCH_SWITCH (R291). -/
  | epochSwitch (tbl : Fin 4096)
  /-- PREV_BUSY_CLEAR (R292). -/
  | prevBusyClear (tbl : Fin 4096)
  /-- OP_TABLE_CREATE (R272). -/
  | opTableCreate (c : Chan)
  /-- OP_TABLE_DESTROY (R431). -/
  | opTableDestroy (c : Chan)
  /-- OP_TABLE_EPOCH_AT (R293). -/
  | opTableEpochAt (c : Chan)
  /-- OP_UPDATE_STREAM_OPEN (R296). -/
  | opUpdateStreamOpen (c : Chan)
  /-- OP_UPDATE_STREAM_CLOSE (R296). -/
  | opUpdateStreamClose (c : Chan)
  /-- OP_TABLE_STATS (R296). -/
  | opTableStats (c : Chan)
  /-- RQ_SQ_TAIL_WRITE (R298). -/
  | rqSqTailWrite (q : Fin 256) (val : Word)
  /-- RQ_CQ_HEAD_WRITE (R298). -/
  | rqCqHeadWrite (q : Fin 256) (val : Word)
  /-- RQ_Q_STATUS_CLEAR (R325). -/
  | rqQStatusClear (q : Fin 256) (val : Word)
  /-- RQ_SYNC_SEL_WRITE (R322). -/
  | rqSyncSelWrite (n : Fin 64) (val : Word)
  /-- DESCRIPTOR_READ (R17). -/
  | descriptorRead (data : Option Bytes) (errs : List (Nat × LineErr))
  /-- STAGE_DISPATCH (R306). -/
  | stageDispatch
  /-- STAGE_END (R203). -/
  | stageEnd (core : Fin 32)
  /-- COMPLETION_RECORD_POST (R130). -/
  | completionRecordPost (slot : Fin 4096) (errs : List (Nat × LineErr))
  /-- OP_PLAN_LOAD (R305). -/
  | opPlanLoad (c : Chan)
  /-- OP_PLAN_UNLOAD (R327). -/
  | opPlanUnload (c : Chan)
  /-- OP_QUEUE_CREATE (R327). -/
  | opQueueCreate (c : Chan)
  /-- OP_QUEUE_DESTROY (R327). -/
  | opQueueDestroy (c : Chan)
  /-- OP_REPLAY_WINDOW (R315). -/
  | opReplayWindow (c : Chan)
  /-- OP_REQ_CANCEL (R317). -/
  | opReqCancel (c : Chan)
  /-- OP_SYNC_ALLOC (R318). -/
  | opSyncAlloc (c : Chan)
  /-- OP_SYNC_FREE (R318). -/
  | opSyncFree (c : Chan)
  /-- DATA_FLIT (R330). -/
  | dataFlit (l : Fin 24) (flit : Bytes) (crcOk : Bool)
  /-- LINK_CTRL_FLIT (R330). -/
  | linkCtrlFlit (l : Fin 24) (flit : Bytes) (crcOk : Bool)
  /-- NAK_FLIT (R330). -/
  | nakFlit (l : Fin 24) (flit : Bytes) (crcOk : Bool)
  /-- IDLE_FLIT (R330). -/
  | idleFlit (l : Fin 24) (flit : Bytes) (crcOk : Bool)
  /-- TIMESYNC_FLIT (R351). -/
  | timesyncFlit (l : Fin 24) (flit : Bytes) (crcOk : Bool)
  /-- PACKET_FORWARD (R336). -/
  | packetForward (j : Nat)
  /-- RATLINE_READ (R343). -/
  | ratlineRead (j : Nat)
  /-- RATLINE_WRITE (R344). -/
  | ratlineWrite (j : Nat)
  /-- RATLINE_ADD (R340). -/
  | ratlineAdd (j : Nat)
  /-- RATLINE_ADD_UPDATE_FORM (R340). -/
  | ratlineAddUpdateForm (j : Nat)
  /-- RATLINE_SIGNAL (R340). -/
  | ratlineSignal (j : Nat)
  /-- RATLINE_LOOKUP (R341). -/
  | ratlineLookup (j : Nat)
  /-- ACK (R346). -/
  | ack (j : Nat)
  /-- READ_DATA (R340). -/
  | readData (j : Nat)
  /-- POOLED (R279). -/
  | pooled (j : Nat)
  /-- REFUSED (R340). -/
  | refused (j : Nat)
  /-- REMOTE_TIMEOUT_FIRE (R347). -/
  | remoteTimeoutFire (tag : Nat)
  /-- RATLINE_LINK_LOSS (R353). -/
  | ratlineLinkLoss (l : Fin 24) (cause : LossCause)
  /-- RATLINE_LINK_RETRAIN_DONE (R353). -/
  | ratlineLinkRetrainDone (l : Fin 24) (r : TrainResult)
  /-- OP_CHIP_ID_SET (R334). -/
  | opChipIdSet (c : Chan)
  /-- OP_LINK_UP (R352). -/
  | opLinkUp (c : Chan)
  /-- OP_LINK_DOWN (R353). -/
  | opLinkDown (c : Chan)
  /-- OP_ROUTE_SET (R335). -/
  | opRouteSet (c : Chan)
  /-- OP_REMOTE_TIMEOUT (R347). -/
  | opRemoteTimeout (c : Chan)
  /-- OP_FABRIC_STATUS (R354). -/
  | opFabricStatus (c : Chan)
  /-- FLR (R359). -/
  | flr
  /-- PERST_N_ASSERT (R397). -/
  | perstNAssert
  /-- WARM_RESET (R361). -/
  | warmReset
  /-- COLD_RESET (R359). -/
  | coldReset (trigger : ColdTrigger)
  /-- DBG_COLD_REQ_WRITE (R375). -/
  | dbgColdReqWrite (val : Word)
  /-- OP_CHIP_RESET (R109). -/
  | opChipReset (c : Chan)
  /-- OP_DUMP (R369). -/
  | opDump (c : Chan)
  /-- OP_HEARTBEAT_CONFIG (R376). -/
  | opHeartbeatConfig (c : Chan)
  /-- HEARTBEAT (R367). -/
  | heartbeat (check : Option (Fin 5 × Word))
  /-- CAPTURE (R370). -/
  | capture
  /-- FREEZE (R371). -/
  | freeze
  /-- CAPTURE_DONE (R370). -/
  | captureDone
  /-- OP_POWER_LIMIT (R392). -/
  | opPowerLimit (c : Chan)
  /-- OP_REEF_STATUS (R392). -/
  | opReefStatus (c : Chan)
  /-- OP_DOMAIN_POWER (R377). -/
  | opDomainPower (c : Chan) (found : List DeepPortFound)
  /-- OP_BOOST (R385). -/
  | opBoost (c : Chan)
  /-- OP_THERMAL_READ (R392). -/
  | opThermalRead (c : Chan)
  /-- HOTSPOT_TEMPERATURE_CHANGE (R383). -/
  | hotspotTemperatureChange (k : Fin 8) (t : Int)
  /-- POWER_SAMPLE (R383). -/
  | powerSample (watts : Half)
  /-- PWR_CAP_N_CHANGE (R383). -/
  | pwrCapNChange (low : Bool)
  /-- OVERCURRENT (R383). -/
  | overcurrent (amps : Nat)
  /-- REEF_LEVEL_STEP (R384). -/
  | reefLevelStep (k : Fin 8)
  /-- BOOT (R396). -/
  | boot (b : BootInput)
  /-- FIRMWARE_START (R394). -/
  | firmwareStart
  /-- BOOT_READY (R396). -/
  | bootReady
  /-- OP_FW_UPDATE_BEGIN (R400). -/
  | opFwUpdateBegin (c : Chan)
  /-- OP_FW_UPDATE_DATA (R400). -/
  | opFwUpdateData (c : Chan)
  /-- OP_FW_UPDATE_COMMIT (R401). -/
  | opFwUpdateCommit (c : Chan)
  /-- OP_LIFECYCLE_ADVANCE (R403). -/
  | opLifecycleAdvance (c : Chan)
  /-- OP_LIFECYCLE_STATUS (R411). -/
  | opLifecycleStatus (c : Chan)
  /-- OP_ATTEST (R407). -/
  | opAttest (c : Chan)
  /-- TAMPER (R406). -/
  | tamper (ns : Nat)
  /-- RAIL_UNDERVOLTAGE (R415). -/
  | railUndervoltage (rail : Rail) (lowNs : Nat)
  /-- JTAG_INSTRUCTION (R412). -/
  | jtagInstruction (j : JtagInstr)
  /-- PPS_IN_MISSING (R30). -/
  | ppsInMissing
  /-- TB_SLEWING_CLEAR (R38). -/
  | tbSlewingClear (err : Word)
  /-- CAL_SLEWING_CLEAR (R64). -/
  | calSlewingClear
  /-- LINK_TRAINING_END (R352). -/
  | linkTrainingEnd (l : Fin 24) (r : TrainResult)
  /-- HOST_LINK_DOWN (R432). -/
  | hostLinkDown
  /-- DEEP_PORT_LINK_RETURN (R179). -/
  | deepPortLinkReturn (p : Fin 4)
  /-- TOWER_TRAINING_DONE (R399). -/
  | towerTrainingDone (ok : Bool) (found : List DeepPortFound)
  /-- TAMPER_N_RELEASE (R406). -/
  | tamperNRelease
  /-- MAX_FIRMWARE_TIME_EXPIRY (R99). -/
  | maxFirmwareTimeExpiry (c : Chan)
deriving DecidableEq, Repr

end Sys2Proof
end

