-- ==== Sys2Proof/Config.lean ====
section
/-! DEFINITION. Config.lean: what one part fixes (order code, fuses, straps) and the values the spec leaves
open. An `opaque` has no body: nothing can evaluate it, and a theorem about it holds for every value. -/

namespace Sys2Proof.Config

/-- Tower capacity in GiB per tower: 32 is the ZA32-T256 (R1, R19). DESIGN CHOICE, log 3. -/
def towerGib : Nat := 32
/-- Granules of 8 MiB in each channel: 256 on the T256, 128 on the T128 (08, Tower layout). -/
def granules : Nat := towerGib * 8
/-- ID_FAMILY.STEPPING, a fuse (R19). DESIGN CHOICE, log 3. -/
def stepping : BitVec 8 := 1
/-- ID_SECURITY.LIFECYCLE fuse at reset: 2 DEPLOYED (R402, R410). DESIGN CHOICE, log 3. -/
def lifecycleFuse : BitVec 2 := 2
/-- ID_SECURITY.SVN_MIN fuse (R410). DESIGN CHOICE, log 3. -/
def svnMinFuse : BitVec 6 := 0
/-- ID_SECURITY.TAMPER_FUSES (R410). DESIGN CHOICE, log 3. -/
def tamperFuses : BitVec 6 := 0
/-- Straps ADDR_SEL1:ADDR_SEL0 (R423, R428). DESIGN CHOICE, log 3. -/
def addrSel : BitVec 2 := 0
/-- The incarnation number held in the flash before the first boot (R348: never 0). DESIGN CHOICE, log 3. -/
def incarnation0 : Half := 1
/-- The factory value of each calibration item, from fuses (R54). DESIGN CHOICE, log 3. -/
def calFactory : Word := 0
/-- The timing-clock increment of 0.8 ns in units of 2^-32 ns, nearest (02, Format of device time; log 10). -/
def nominalInc : Nat := 3435973837

/-- FREE VALUE: the n-th value the spec leaves open, as a number (log 5). -/
opaque freeNat : Nat → Nat
/-- FREE VALUE: the choice, by KIND and operand, among the codes within 2 ulp of RSQRT, EXP, LOG, TANH, SIGMOID and GELU
(R263); the result itself where the rule states none (log 13). -/
opaque vecApprox : Half → Word → Word
/-- FREE VALUE: the same choice for exp(r - AUX) of the EXP_ROWSUM epilogue (R254; log 13). -/
opaque epiExp : Word → Word → Word
/-- FREE VALUE: an MX element as an operand without its scale, by descriptor, operand, place and code (R251, R264; log 42). -/
opaque vecWiden (desc : Bytes) (operand i code : Nat) : Nat
/-- FREE VALUE: an FP32 code stored as an element to which R264 gives no conversion, by descriptor, place and code (R251;
log 42). -/
opaque vecNarrow (desc : Bytes) (i code : Nat) : Nat
/-- FREE VALUE: the old output of ACCUM where the run has no output, by descriptor, token and column (R251; log 43). -/
opaque accumNone (desc : Bytes) (t c : Nat) : Nat
/-- FREE VALUE: the mantissas of a block after carrier wipe-off and decimation (04, Acquisition): fs, IF, spectrum inverted,
Doppler in Hz, decimated rate in kHz, section; and the samples (log 59). -/
opaque decimate (fs : Nat) (ifHz : Int) (inv : Bool) (doppler : Int) (sps sect : Nat) : List (Int × Int) → List (Int × Int)
/-- FREE VALUE: the stored transform of a code replica: signal, satellite, section, point; 2^-15 (log 59). -/
opaque replica (sig sv sect : Nat) : Nat → Int × Int
/-- FREE VALUE: the twiddle factor exp(-2 pi i k / 4096) as the engine stores it, 2^-15 (log 59). -/
opaque twiddle : Nat → Int × Int
/-- FREE VALUE: the C/N0 estimate, 0.01 dB-Hz, of prompt and noise power over intervals of `ms` (04, C/N0; log 59). -/
opaque cn0Est (prompt noise ms : Nat) : Nat
/-- FREE VALUE: what the loops of a channel add to its code phase (2^-16 chip) and Doppler (2^-8 Hz): FLL or PLL,
bandwidths, spacing, and the scaled correlator values (R76; log 59). -/
opaque loopStep (pll : Bool) (pllBw dllBw spacing : Nat) : List Int → Int × Int
/-- FREE VALUE: the elevation of a satellite in degrees: system, navigation words, position (mm) and time (log 59). -/
opaque elevation (sys : Nat) (words : Bytes) (x y z : Int) (ns : Nat) : Int
/-- FREE VALUE: the set of a second-level TLB that a context and a DVA hash to, modulo its 1,024 sets (R156; log 25). -/
opaque tlbSet (ctx dva : Nat) : Nat
/-- FREE VALUE: the set of a row cache of `rc` GiB that a deep line hashes to, modulo its sets (08, Row cache; log 25). -/
opaque rcSet (rc line : Nat) : Nat
/-- FREE VALUE: the line of a row cache's granules that holds a way of a set, modulo their number (log 25). -/
opaque rcPlace (rc set way : Nat) : Nat
/-- FREE VALUE: the reserve lines, by cell address div 64, that a walk of an address reads at an up time (R173, R186;
log 5). -/
opaque walkLines (up ctx dva : Nat) : List Nat
/-- SHA-384 (R393), by the standard named there; uninterpreted (log 12). -/
opaque sha384 : Bytes → Bytes
/-- ECDSA P-384 verification: public key, digest, signature (R393); uninterpreted (log 12). -/
opaque ecdsaVerify : Bytes → Bytes → Bytes → Bool
/-- ECDSA P-384 signature by a private key held in the sealed scratch: key, digest (R405, R407; log 12). -/
opaque ecdsaSign : Bytes → Bytes → Bytes
/-- The public half of a private key (R405, R411; log 12). -/
opaque ecdsaPublic : Bytes → Bytes
/-- The private halves derived by the ROM from the fused secret and a label (17, Sealed scratch; log 12). -/
opaque deriveKey : Bytes → Bytes
/-- Ubten's authorising key hash, held in ROM (R402; log 12). -/
opaque ubtenKeyHash : Bytes
/-- CHIP_UID, 16 bytes (R411; log 12). -/
opaque chipUid : Bytes
/-- FREE VALUE: what the CRC of a flit starts from; the spec gives the polynomial alone (log 11). -/
opaque crcStart : Dword
/-- FREE VALUE: the bit order in which a byte enters the CRC (log 11). -/
opaque crcByte : Byte → Byte
/-- FREE VALUE: how the CRC's remainder is presented (log 11). -/
opaque crcEnd : Dword → Dword

/-- One step of division by the ECMA-182 polynomial (R329). -/
def crcStep (c : Dword) : Dword := if c.msb then (c <<< 1) ^^^ 0x42F0E1EBA9EA3693 else c <<< 1

/-- CRC-64 of the bytes of a flit (R329). -/
def crc64 (b : Bytes) : Dword :=
  crcEnd (b.foldl (fun c x => (List.range 8).foldl (fun c _ => crcStep c) (c ^^^ ((crcByte x).setWidth 64 <<< 56))) crcStart)

/-- The firmware log section of OP_DUMP; not part of the interface (R372; log 14). -/
opaque fwLogByte : Nat → Byte

end Sys2Proof.Config
end

