-- ==== Sys2Proof/Machine/Types.lean ====
section
/-! DEFINITION. Types.lean: the parts that State is made of, block by block. Times called `up` are in 2^-32 ns of
the unstepped count of the timing clock; times called DT are device-time nanoseconds. -/

namespace Sys2Proof.Machine

/-- Sparse memory: (address, byte) pairs, addresses strictly rising, no entry equal to the unlisted value. -/
abbrev Mem := List Host.Cell
/-- A table of numbered objects, numbers strictly rising. -/
abbrev Tab (α : Type) := List (Nat × α)

/-! ### 02: device time -/

/-- The followed source (TB_STATUS.SOURCE, R46). -/
inductive Source where
  | none | gnss | ext | fabric | host
deriving DecidableEq, Repr

/-- The latch of one snapshot set (R25). -/
structure Snap where
  w0 : Word
  w1 : Word
  w2 : Word
deriving DecidableEq, Repr

/-- The exchange in progress: its number, t1, t2, t3 in 2^-16 ns (R41). -/
structure Exchange where
  seq : Half
  t1 : Nat
  t2 : Nat
  t3 : Nat
  /-- SYNC has been received and DELAY_REQ sent -/
  asked : Bool
deriving DecidableEq, Repr

/-- The upstream's last TIMESYNC report (R42). -/
structure Upstream where
  valid : Bool
  traceable : Bool
  holdover : Bool
  hops : Byte
  unc : Word
deriving DecidableEq, Repr

/-- An OP_TIME_SET that waits for a PPS_IN edge (R33, R48). -/
structure TimeSetWait where
  chan : Chan
  taiNs : Dword
  utc : Half
  /-- up time at which it times out -/
  limit : Nat
deriving DecidableEq, Repr

/-- TB_CONFIG and the two firmware-held delays (R46). -/
structure TbConfig where
  prio : BitVec 6
  slewPpm : Byte
  upstream : BitVec 5
  exchRate : BitVec 7
  ppsWidth : BitVec 3
  ppsGate : Bool
  ppsAdv : Half
  ppsInDly : Half
deriving DecidableEq, Repr

/-- TB_UTC_OFFSET and the instant of the announced leap (R46). -/
structure UtcOffset where
  seconds : Half
  pending : Bool
  nextDelta : BitVec 2
  fromNav : Bool
  leapAt : Dword
deriving DecidableEq, Repr

/-- The timebase unit (R22 to R49). -/
structure Timebase where
  /-- DT in units of 2^-32 ns: 64 bits of ns, 32 of fraction of which the upper 16 are FRAC -/
  count : BitVec 96
  /-- the same count, never stepped: what every interval is measured in (R21, R36) -/
  up : Nat
  /-- the increment of the last timing-clock edge less the nominal one, 2^-32 ns -/
  corr : Int
  /-- frequency correction that the followed source last gave, kept in holdover (R39), 2^-32 ns per edge -/
  freq : Int
  /-- the oscillator's own correction when it was taken -/
  calAt : Int
  snaps : Vector Snap 64
  valid : Bool
  source : Source
  holdover : Bool
  lock24h : Bool
  gnssQual : Bool
  extQual : Bool
  fabQual : Bool
  cfg : TbConfig
  utc : UtcOffset
  /-- TB_HOLDOVER_EST at entry into holdover, and the up time of the entry -/
  holdEst : Word
  holdAt : Nat
  phaseErr : Word
  /-- up time at which it was last measured -/
  errAt : Nat
  /-- the time solution has reported valid / invalid since (up) -/
  solValidSince : Option Nat
  solInvalidSince : Option Nat
  /-- qualified without a break since (up), per source (R32) -/
  gnssSince : Option Nat
  extSince : Option Nat
  fabSince : Option Nat
  /-- up time at which a source was followed at once, none of TB_CONFIG.PRIO being followed (R32) -/
  tookAt : Option Nat
  /-- lock to a traceable source without a break since (up) (R40) -/
  lockSince : Option Nat
  /-- DT minus the source's time, 2^-32 ns, as last measured and since slewed -/
  gnssOff : Int
  extOff : Int
  fabOff : Int
  /-- REF10M_IN runs within 10 ppm -/
  refOk : Bool
  /-- consecutive PPS_IN edges within 50 ns, and up time of the last edge -/
  ppsGood : Nat
  ppsAt : Option Nat
  /-- consecutive completed exchanges and missed intervals (R30) -/
  exchGood : Nat
  exchMissed : Nat
  upstream : Upstream
  exch : Option Exchange
  /-- number of the next exchange this chip starts as upstream or asks for, and start of the last interval (up) -/
  exchSeq : Half
  exchAt : Nat
  /-- length of that interval, at the rate in force when it began (R48) -/
  exchIv : Nat
  /-- earlier exchanges in progress, each with the up time at which its interval ends (R48) -/
  exchOld : List (Exchange × Nat)
  timeSet : Option TimeSetWait
  ppsOut : Bool
  /-- DT at which PPS_OUT falls -/
  ppsFall : Dword
deriving DecidableEq, Repr

/-! ### 03: calibration -/

/-- The registers and the record of one calibration item (R65, R66). -/
structure CalItem where
  result : BitVec 3
  inForce : BitVec 2
  count : Word
  last : Dword
  value : Word
  target : Word
  stored : Option Word
  /-- the count and the time of last success in the record (R55, R61) -/
  recCount : Word
  recLast : Dword
  factory : Word
  /-- passed in the power-up run: CAL_LAST becomes the DT of first lock (R61) -/
  bootPass : Bool
  /-- up time at which the present slew began, and the value it began from -/
  slewAt : Nat
  slewFrom : Word
deriving DecidableEq, Repr

/-- The frequency gate (R51). -/
inductive Gate where
  | idle
  | waiting (since : Nat)
  | running (since : Nat) (pps : Bool) (edges : Nat)
deriving DecidableEq, Repr

/-- A calibration run: the power-up run (no channel) or an OP_CAL_RUN (R57, R62). -/
structure CalRun where
  chan : Option Chan
  mask : BitVec 28
  ovr : Bool
  gate : Gate
  /-- items still to be measured -/
  todo : BitVec 28
deriving DecidableEq, Repr

/-- CAL_STATUS, the items and the run (R65). -/
structure Calib where
  running : Bool
  refPresent : Bool
  ppsUsed : Bool
  untraced : Bool
  recFail : Bool
  items : Vector CalItem 28
  /-- THERM by sensor: the offsets in force, and those in the record (R53) -/
  therm : List Word
  thermRec : Option (List Word)
  run : Option CalRun
deriving DecidableEq, Repr

/-! ### 04: GNSS -/

/-- The OP_GNSS_CONFIG parameters (R90, R91). -/
structure GnConfig where
  fsHz : Word
  fmtSpa : Byte
  fmtSpb : Byte
  invert : Byte
  elevMask : Byte
  ifSpa : Word
  ifSpb : Word
  sigEnable : Half
  doppRange : Half
  k : Byte
  thresh : Byte
  m : Byte
  n : Byte
  spacing : Byte
  pllBw : Byte
  dllBw : Byte
  refSys : Byte
  intervalMs : Half
  surveyH : Byte
  feIfb : Word
  antDelay : Word
deriving DecidableEq, Repr

/-- One sample port (R69, R71). -/
structure GnPort where
  fault : Bool
  /-- up time at which its clock was last found outside limits -/
  badAt : Nat
  /-- time tags taken, and the DT (64.16) of the last and of the one before it -/
  tags : Nat
  tagDt : BitVec 80
  prevDt : BitVec 80
deriving DecidableEq, Repr

/-- Where a search target stands (R75). -/
inductive TargetState where
  /-- in VERIFY: the candidate's Doppler bin (500 Hz) and code phase (decimated samples) -/
  | verifying (bin : Int) (phase : Nat)
  | excluded (untl : Nat)
  /-- heads the list, to be searched around its last state -/
  | first (untl : Nat) (bin : Int) (phase : Nat)
  | onChannel
deriving DecidableEq, Repr

/-- A search target that is not simply on the list: a signal of a satellite (04, Acquisition). -/
structure GnTarget where
  sig : Byte
  sv : Byte
  state : TargetState
deriving DecidableEq, Repr

/-- GN_CHAN_n.STATE (R89). -/
inductive ChanState where
  | free | pullIn | track
deriving DecidableEq, Repr

/-- Prompt and noise correlator outputs of one coherent interval, scaled by 2^k (R77, R81; 04, C/N0). -/
structure CorrPoint where
  /-- up time of the interval's end -/
  at_ : Nat
  ip : Int
  qp : Int
  inz : Int
  qnz : Int
deriving DecidableEq, Repr

/-- One tracking channel (R75 to R84). -/
structure GnChan where
  state : ChanState
  sig : Byte
  sv : Byte
  codeLock : Bool
  carrierLock : Bool
  bitSync : Bool
  /-- continuous estimate, 0.01 dB-Hz -/
  cn0Now : Nat
  /-- reported value, 0.01 dB-Hz -/
  cn0 : Half
  cn0Valid : Bool
  /-- up time of the last verified sync event -/
  lastSync : Nat
  /-- the twelve stored correlator values and their shift (R81) -/
  store : List Int
  scale : Byte
  /-- up time of entry into PULL_IN -/
  since : Nat
  /-- code lock came within 200 ms of it, carrier lock within 1 s -/
  codeBy : Bool
  carrierBy : Bool
  /-- up time of the last coherent interval's end -/
  cohAt : Nat
  /-- the outputs of the intervals of the last 100 ms, and of at least the last 20, newest first -/
  hist : List CorrPoint
  /-- code phase of the replica, 2^-16 chip -/
  codePh : Nat
  lowSince : Option Nat
  unlockedSince : Option Nat
  lockedSince : Option Nat
  pr : Dword
  cp : Dword
  doppler : Word
  prValid : Bool
  halfOk : Bool
  slip : Bool
  used : Bool
  excluded : Bool
deriving DecidableEq, Repr

/-- The host measurement ring (R85). -/
structure GnRing where
  addr : Dword
  log2 : Nat
  irq : Bool
  vector : Byte
deriving DecidableEq, Repr

/-- An accepted aiding item (R92), with the up time of its acceptance. -/
structure GnAssist where
  kind : Byte
  sys : Byte
  item : Bytes
  at_ : Nat
deriving DecidableEq, Repr

/-- An antenna position in ECEF mm. -/
structure Position where
  x : Dword
  y : Dword
  z : Dword
deriving DecidableEq, Repr

/-- The GNSS baseband, its solution and the GN registers (R89). -/
structure Gnss where
  cfg : GnConfig
  spa : GnPort
  spb : GnPort
  targets : List GnTarget
  chans : Vector GnChan 128
  mode : BitVec 2
  solValid : Bool
  traim : Bool
  usedCnt : Byte
  solOffsetPs : Word
  solUncPs : Word
  epochSeq : Word
  mirrorGen : Word
  measSeq : Word
  evictCnt : Word
  /-- the latest epoch message -/
  epoch : Bytes
  /-- stored in the firmware SPI NOR -/
  position : Option Position
  /-- the stored position was entered by OP_GNSS_POSITION -/
  entered : Bool
  surveyAt : Nat
  targetMin : Half
  holdAt : Option Nat
  /-- the check of R87 after 60 s of Hold is to come -/
  holdCheck : Bool
  /-- the sum of the positions solved in a survey, and how many (R86) -/
  posSum : Int × Int × Int
  posCnt : Nat
  /-- the position last solved in a survey -/
  fix : Option Position
  /-- the sum of the squared residuals since Hold began, 2^-32 m^2, and how many (R87) -/
  resSq : Nat
  resCnt : Nat
  ring : Option GnRing
  assists : List GnAssist
  /-- almanacs and ephemerides decoded from the signals: system, then the data (R92) -/
  nav : List (Byte × NavData)
deriving DecidableEq, Repr

/-! ### 05: mailboxes -/

/-- A command firmware holds on a channel (R97, R100). -/
structure CmdHeld where
  opcode : Half
  seq : Half
  payload : Bytes
  /-- the payload is complete (direct, or its indirect buffer has been read) -/
  ready : Bool
  /-- the command has begun its effect and waits for outstanding work -/
  begun : Bool
  /-- pieces of an indirect payload that have been read, by offset (R96) -/
  pieces : List (Nat × Bytes)
  /-- up time of ACK -/
  ackAt : Nat
  /-- bytes, lines or objects already done -/
  progress : Nat
  /-- it ends with this status once the deep writes it has issued have ended (R188) -/
  ending : Option Nat
deriving DecidableEq, Repr

/-- One channel: registers, areas and the command in progress (R116). -/
structure MbxChan where
  busy : Bool
  ack : Bool
  done : Bool
  replayed : Bool
  overrun : Bool
  seqErr : Bool
  lastSeq : Half
  irqEn : Bool
  vector : Byte
  areas : Half
  ctx : BitVec 6
  ctxBound : Bool
  enabled : Bool
  req : Mem
  resp : Mem
  /-- SEQ of the doorbell taken, and its number among the doorbells of all channels (R104) -/
  bell : Half
  bellNo : Nat
  cmd : Option CmdHeld
deriving DecidableEq, Repr

/-- The event ring (R111). -/
structure EvRing where
  addr : Dword
  log2 : Nat
  vector : Byte
  irq : Bool
deriving DecidableEq, Repr

/-- An event record (R111). -/
structure EventRec where
  typ : Half
  sev : Byte
  seq : Word
  dt : Dword
  data : Bytes
deriving DecidableEq, Repr

/-- The firmware update session (R114, R400). -/
structure FwSession where
  chan : Chan
  slotB : Bool
  imageLen : Nat
  received : Nat
  /-- up time of the last OP_FW_UPDATE_DATA or of the opening -/
  lastAt : Nat
deriving DecidableEq, Repr

/-- The MBX block. -/
structure Mbx where
  chans : Vector MbxChan 17
  /-- doorbells taken since reset -/
  bells : Nat
  evtSeq : Word
  ring : Option EvRing
  /-- newest first, 64 at most (R110) -/
  log : List EventRec
  session : Option FwSession
deriving DecidableEq, Repr

/-! ### 06: host link -/

/-- Why a host request is outstanding. -/
inductive ReadWhy where
  /-- the piece of an indirect payload that begins at byte `off` of it (R96, R117) -/
  | indirect (c : Chan) (off : Nat)
  | access (acc : Nat)
  | flush (slot : Nat)
  /-- the write of an access, by CXL.cache: GO is awaited (R130) -/
  | go (acc : Nat)
deriving DecidableEq, Repr

/-- A non-posted request to the host (R119); `sent` is false while its translation is awaited (R139). -/
structure HostRead where
  why : ReadWhy
  addr : Nat
  len : Nat
  pasid : Option (BitVec 20)
  sent : Bool
  /-- up time of completion timeout -/
  limit : Nat
deriving DecidableEq, Repr

/-- An entry of the address translation cache (R139). -/
structure AtcEnt where
  pasid : Option (BitVec 20)
  page : Nat
  size : Nat
  target : Nat
  read : Bool
  write : Bool
deriving DecidableEq, Repr

/-- A posted write or message waiting in order for its translation (R129, R139); a write names the context it is
made for, 0xFF for firmware (R167). -/
inductive Post where
  | write (addr : Nat) (data : Bytes) (ro : Bool) (ctx : Nat)
  /-- the write of an event record to the event ring (R111) -/
  | event (addr : Nat) (data : Bytes)
  | msix (v : Nat)
deriving DecidableEq, Repr

/-- For what a translation was requested: an access, a read by tag, or the oldest waiting post. -/
inductive AtsWhy where
  | access (acc : Nat)
  | read (tag : Nat)
  | post
deriving DecidableEq, Repr

/-- An outstanding ATS translation request (R141). -/
structure AtsReq where
  why : AtsWhy
  write : Bool
  page : Nat
  pasid : Option (BitVec 20)
  /-- up time of completion timeout -/
  limit : Nat
deriving DecidableEq, Repr

/-- Moderation and pending state of one MSI-X vector (R136, R137). -/
structure VecState where
  gapUs : BitVec 10
  pend : Bool
  held : Bool
  /-- up time of the last message -/
  lastAt : Option Nat
deriving DecidableEq, Repr

/-- The host link and the INT block (R142). -/
structure HostLink where
  intStatus : BitVec 6
  intEnable : BitVec 6
  intVector : Byte
  badOff : BitVec 26
  badWrite : Bool
  badKind : BitVec 2
  badValid : Bool
  link : LinkParams
  /-- rate and width of the first training since cold reset -/
  first : Option (BitVec 4 × BitVec 5)
  cohMode : BitVec 2
  winUnits : Word
  winBase : Dword
  /-- window lines that the host has taken since they were last snooped, rising (R125) -/
  held : List Nat
  cfg : PcieConfig
  vecs : Vector VecState 256
  bar4 : Nat
  reads : Tab HostRead
  nextTag : Nat
  atc : List AtcEnt
  ats : Tab AtsReq
  /-- posted writes and messages not yet sent, oldest first -/
  posts : List Post
  /-- invalidations accepted and not completed: the reads each still waits for (R140) -/
  invals : List (List Nat)
deriving DecidableEq, Repr

/-! ### 07: contexts and translation -/

/-- A context (R143). -/
structure Ctx where
  pasid : Option (BitVec 20)
  specOff : Bool
  /-- an OP_CTX_DESTROY ended ST_TIMEOUT (R431) -/
  dying : Bool
deriving DecidableEq, Repr

/-- A valid translation entry: the page it maps and its two words (R149). -/
structure MapEnt where
  ctx : Nat
  dva : Nat
  w0 : Dword
  addr : Dword
deriving DecidableEq, Repr

/-- A cached translation (R156, R158). -/
structure TlbEnt where
  ent : MapEnt
  pinned : Bool
deriving DecidableEq, Repr

/-- Advice on a range (R165). -/
structure Advice where
  ctx : Nat
  dva : Nat
  len : Nat
  kind : Byte
deriving DecidableEq, Repr

/-- An accepted OP_PREFETCH (R162). -/
structure Prefetch where
  ctx : Nat
  dva : Nat
  len : Nat
  what : Byte
  octMask : Byte
  sync : Nat
  sig : Dword
  /-- pages still to walk -/
  pages : List MapEnt
deriving DecidableEq, Repr

/-- An accepted OP_MIGRATE (R163): the pages still to move. -/
structure Migration where
  ctx : Nat
  dva : Nat
  len : Nat
  deep : Bool
  interleave : BitVec 2
  sync : Nat
  sig : Dword
  target : Nat
  /-- old targets, deep or tower: base and length -/
  olds : List (Bool × Nat × Nat)
  pages : List MapEnt
  /-- the first page: 0 not begun, 1 writes held, 2 being read, 3 being written, 4 switched and draining -/
  phase : Nat
  /-- accesses numbered below it were issued before the switch -/
  mark : Nat
deriving DecidableEq, Repr

/-- Contexts, translation store, TLBs and the work on ranges. -/
structure Xlate where
  ctxs : Tab Ctx
  maps : List MapEnt
  l1 : Tab (List TlbEnt)
  l2 : Vector (List TlbEnt) 8
  advice : List Advice
  prefetches : Tab Prefetch
  migrations : Tab Migration
deriving DecidableEq, Repr

/-- A translating stream (R156). -/
inductive Stream where
  | thread (core t : Nat)
  | dma (core ch : Nat)
  | engine (k : Nat)
  | remote (k : Nat)
  | sched
  | firmware
deriving DecidableEq, Repr

/-- What an access does to its line. -/
inductive AccKind where
  | read
  | write
  | add (fmt : Byte)
deriving DecidableEq, Repr

/-- For whom an access is made. -/
inductive AccOwner where
  | dma (core op row : Nat)
  | lookup (eng lk row : Nat)
  | update (eng rec : Nat)
  | prefetch (i : Nat)
  | migrate (i : Nat)
  | remote (pkt : Nat)
  | fill (c : Chan)
  | ring (h : Nat)
  /-- its owner was discarded; an issued write may still be performed (15 R357) -/
  | gone
deriving DecidableEq, Repr

/-- Why an access failed. -/
inductive AccFail where
  | xlate (kind : Byte)
  | poison
  | memory
  | timeout
  | missed
deriving DecidableEq, Repr

/-- How far an access has come. -/
inductive AccStage where
  /-- waits for confirmation of its operation (R153) -/
  | paused
  /-- waits for a walk of the translation store (R157) -/
  | walk
  /-- held by OP_MIGRATE (R163) -/
  | held
  /-- waits for an ATS translation completion (R141) -/
  | ats
  /-- issued to a tower controller, by tower DPA -/
  | tower (dpa : Nat)
  /-- served by the row cache of its octant, by deep DPA -/
  | rowCache (dpa : Nat)
  /-- issued to a deep port, by deep DPA: with a tag, and the up time of its limit, or waiting for one, and its number in the
  order of arrival -/
  | deep (dpa : Nat) (tagged : Bool) (limit : Nat)
  /-- the write of a read-modify-write at a deep port -/
  | deepWb (dpa limit : Nat) (line : Bytes)
  /-- a host read is outstanding -/
  | host (tag : Nat)
  /-- a Ratline request is outstanding -/
  | remote (tag : Nat)
  /-- waits for a free tracker (R346): chip, incarnation, global address -/
  | stalled (chip inc : Half) (gaddr : Dword)
  | done
  | failed (why : AccFail)
deriving DecidableEq, Repr

/-- One access within one 64-byte line (R175). -/
structure Access where
  owner : AccOwner
  stream : Stream
  /-- octant whose second-level TLB, walker and row cache serve it -/
  oct : Nat
  ctx : Nat
  dva : Nat
  len : Nat
  kind : AccKind
  /-- bytes to store or add, or bytes read -/
  data : Bytes
  /-- where the bytes go: an SPA, or a byte offset in a row or reply -/
  dest : Nat
  poison : Bool
  /-- issued before the confirmation of its operation (R153) -/
  spec : Bool
  /-- made for another chip: the page must be REMOTE_OK (R155) -/
  peer : Bool
  /-- its issuer's deadline, for a remote access -/
  deadline : Dword
  stage : AccStage
  /-- up time at which it ended -/
  endAt : Nat
deriving DecidableEq, Repr

/-! ### 08: towers and deep memory -/

/-- One deep port (R176 to R179). -/
structure DeepPort where
  enabled : Bool
  up : Bool
  /-- it trained at the last enumeration -/
  trained : Bool
  /-- decoded capacity in units of 256 MiB -/
  capU : Nat
  devices : Byte
  speed : Byte
  width : Byte
  flags : Byte
deriving DecidableEq, Repr

/-- A row-cache sector: a clean copy of a deep line (R181). -/
structure RcSector where
  line : Nat
  /-- its way in the set -/
  way : Nat
  data : Bytes
deriving DecidableEq, Repr

/-- Tower controllers, deep ports, layout and counters (R191). -/
structure Tower where
  /-- bytes by cell: channel × channel size + offset -/
  cells : Mem
  /-- poisoned lines, by cell address div 64, rising -/
  poison : List Nat
  fullG : Nat
  quadG : Nat
  rc : Vector Nat 8
  /-- retired tower pages, each as its 256-byte channel blocks by cell address div 256, and retired deep pages by
  port and port offset -/
  retPages : List (List Nat)
  retDeep : List (Nat × Nat)
  ce : Vector Word 8
  ue : Vector Word 8
  rcDrop : Vector Word 8
  deepPoison : Vector Word 4
  deepTimeout : Vector Word 4
  scrubPass : Word
  /-- next line of each tower's scrub, and whether it finished the present pass -/
  scrubPos : Vector Nat 8
  scrubDone : Vector Bool 8
  rcs : Vector (List RcSector) 8
  ports : Vector DeepPort 4
  /-- requests that have reached a deep port, which numbers them in order (R179; the model's own) -/
  arrivals : Nat
  interleave : Bool
  /-- deep lines that raised a POISON event within 1 s, with the up time -/
  recent : List (Nat × Nat)
  /-- refresh doubled, admission limited (R190) -/
  refresh2 : Vector Bool 8
  limited : Vector Bool 8
deriving DecidableEq, Repr

/-! ### 09, 10, 11: cores -/

/-- One bank: owner codes and the hand-over in progress (R199, R200, R217). -/
structure Bank where
  ownerB : Byte
  ownerA : Byte
  /-- new owner code of a draining hand-over -/
  pend : Option Byte
  /-- a LOCAL thread waits to reclaim it (R202) -/
  reclaim : Bool
  /-- the thread whose write it was: it issues nothing until the hand-over is complete -/
  byThread : Option (Nat × Nat)
  /-- operations numbered below it were issued before the hand-over write (R200) -/
  mark : Nat
deriving DecidableEq, Repr

/-- A product in flight: the instruction number from which it is readable (R222). -/
structure Product where
  landAt : Nat
  ph : Dword
  pl : Dword
deriving DecidableEq, Repr

/-- The registers of a thread that a squash restores (R221, R222). -/
structure Regs where
  g : Vector Dword 32
  lk : Dword
  ph : Dword
  pl : Dword
  pc : Nat
  /-- number of the next instruction -/
  num : Nat
  prods : List Product
deriving DecidableEq, Repr

/-- An unresolved branch (R234, R235). -/
structure Branch where
  pc : Nat
  predicted : Nat
  actual : Nat
  /-- registers right after the branch, before any younger instruction -/
  saved : Regs
deriving DecidableEq, Repr

/-- A store held until confirmed (R227); `depth` counts the older unresolved branches. -/
structure HeldStore where
  /-- registers as it stood, its PC and number among them -/
  saved : Regs
  spa : Nat
  data : Bytes
  depth : Nat
deriving DecidableEq, Repr

/-- An armed wait (R231); `settled` is some true when satisfied, some false when timed out. -/
structure Wait where
  obj : Nat
  value : Dword
  deadline : Dword
  settled : Option Bool
deriving DecidableEq, Repr

/-- A WBLK or WAIT in progress (R232). -/
structure Block where
  all : Bool
  rd : Nat
  /-- a WAIT: it blocks on the last armed wait alone -/
  only : Bool
  /-- armed waits at its beginning -/
  count : Nat
deriving DecidableEq, Repr

/-- A fault held or recorded (R240, R241). -/
structure FaultRec where
  kind : Byte
  detail : Byte
  pc : Nat
  addr : Dword
deriving DecidableEq, Repr

/-- CORE_SEQ_FAULT_t and its companions (R242). -/
structure SeqFault where
  kind : Byte
  detail : Byte
  slot : BitVec 12
  valid : Bool
  pc : BitVec 18
  addr : Dword
deriving DecidableEq, Repr

/-- Thread state (R372). -/
inductive ThState where
  | unused | running | waiting | stalled | halted | faulted
deriving DecidableEq, Repr

/-- One sequencer thread (R219 to R242). -/
structure Thread where
  state : ThState
  regs : Regs
  branches : List Branch
  stores : List HeldStore
  waits : List Wait
  block : Option Block
  fault : SeqFault
  /-- place in program order of the fault raised in this stage (R241) -/
  faultNum : Nat
  /-- confirmed instructions already counted in the core's progress (R368) -/
  confirmed : Nat
  /-- G1 bits 15:0 at HALT -/
  app : Half
deriving DecidableEq, Repr

/-- Life of a coprocessor operation. -/
inductive OpPhase where
  | queued
  /-- begun: accesses or pooling in progress -/
  | running
  /-- results formed; COP_OPERATION_COMPLETE may follow -/
  | ready
  /-- squashed after it had begun (R238) -/
  | squashed
deriving DecidableEq, Repr

/-- A coprocessor operation outstanding in a core's queue (R229, R230). -/
structure CopOp where
  id : Nat
  unit : Nat
  /-- the queues it counts against (R209): 1 the lead core's, 2 the odd core's, 3 both -/
  side : Nat
  thread : Nat
  pc : Nat
  /-- number of its COP in the thread -/
  num : Nat
  desc : Bytes
  /-- unresolved branches older than its COP; 0 when confirmed -/
  depth : Nat
  phase : OpPhase
  /-- rows whose accesses have been issued (DMA), or records routed (TE_UPDATE) -/
  prog : Nat
  status : Half
  detail : Word
  /-- bytes staged before confirmation: SPA and value (R237) -/
  staging : List (Nat × Byte)
  fault : Option FaultRec
  /-- columns its arrays were found bad in: array, physical column, core (R260) -/
  badCols : List (Nat × Nat × Nat)
  /-- registers as its COP stood -/
  saved : Regs
deriving DecidableEq, Repr

/-- One column of a weight tile: element codes of 256 rows and 8 block scales. -/
structure TileCol where
  codes : List Nat
  scales : Bytes
deriving DecidableEq, Repr

/-- The weights in one bank of registers (R243, R252). -/
structure Tile where
  fmt : Byte
  n : Nat
  cols : List TileCol
deriving DecidableEq, Repr

/-- The stage a core runs (R306). -/
structure StageRun where
  slot : Nat
  plan : Nat
  stage : Nat
  ctx : Nat
  specOff : Bool
deriving DecidableEq, Repr

/-- One core (R193 to R218). -/
structure Core where
  fenced : Bool
  cause : BitVec 3
  held : Bool
  banks : Vector Bank 34
  spad : Mem
  capBank : BitVec 6
  capWord : BitVec 18
  capPortB : Bool
  capByMp : Bool
  capValid : Bool
  squashed : Word
  width : Vector (BitVec 16) 4
  bypass : Vector Byte 4
  /-- column faults to be bypassed at the stage's end: array, physical column (R260) -/
  badCols : List (Nat × Nat)
  /-- columns bypassed in the field: array, physical column (R260) -/
  outCols : List (Nat × Nat)
  progress : Dword
  /-- confirmed instructions since the last multiple of 1,024 (R368) -/
  instrs : Nat
  stages : Dword
  copDone : Dword
  lookups : Dword
  seqFaults : Dword
  specSquashed : Dword
  istore : Mem
  /-- plan and stage whose code the instruction store holds (R307) -/
  icode : Option (Nat × Nat)
  stage : Option StageRun
  cops : List CopOp
  nextOp : Nat
  active : Tile
  shadow : Tile
  threads : Vector Thread 4
deriving DecidableEq, Repr

/-! ### 12: tables -/

/-- An owner entry (R296). -/
structure OwnerEnt where
  gaddr : Dword
  inc : Half
  table : Half
  rowBase : Dword
deriving DecidableEq, Repr

/-- A scheduled epoch switch (R291). -/
structure PendSwitch where
  at_ : Dword
  base : Dword
  ballast : Dword
deriving DecidableEq, Repr

/-- A table descriptor (R270 to R273, R296). -/
structure TableD where
  ctx : Nat
  fmt : Byte
  rowBytes : Nat
  elems : Nat
  flags : Half
  home : Nat
  shard : Byte
  rows : Dword
  missing : Dword
  base : Dword
  ballast : Dword
  owners : List OwnerEnt
  epoch : Word
  pend : Option PendSwitch
  prevBase : Dword
  prevBallast : Dword
  lastAt : Option Dword
  prevBusy : Bool
  lookups : Dword
  ballasts : Dword
  updApplied : Dword
  updDup : Dword
  updStale : Dword
  updDropped : Dword
  dying : Bool
  /-- the request that created it, INC fields and UPDATE_OWNERS zero (R272) -/
  created : Bytes
deriving DecidableEq, Repr

/-- An update stream and its de-duplication window (R286, R289). -/
structure UpdStream where
  source : Half
  stream : Half
  ctx : Nat
  engine : Nat
  /-- HIGH + 1 -/
  next : Nat
  /-- bit i: HIGH - i has been accepted -/
  window : BitVec 1024
  ring : Bool
  log2 : Nat
  ringDva : Dword
  slotLog2 : Nat
  tail : Word
  head : Word
deriving DecidableEq, Repr

/-- Who issued a lookup: a core's operation, or a peer's LOOKUP packet (by intake number). -/
inductive LookupFrom where
  | core (core op : Nat)
  | peer (pkt : Nat)
deriving DecidableEq, Repr

/-- One position of a lookup: its bag, the index and the weight. -/
structure LkPos where
  bag : Nat
  idx : Nat
  /-- none: invalid, the ballast row stands in -/
  owner : Option Nat
  row : Nat
  weight : Word
deriving DecidableEq, Repr

/-- The part of a lookup sent to one owner as one operation (R342). -/
structure LkPart where
  owner : Nat
  /-- the owner's incarnation number when the lookup was accepted (R272) -/
  inc : Half
  /-- its tracker, once sent -/
  tag : Option Nat
  /-- bags (or CONCAT positions) this operation carries -/
  bags : List Nat
  /-- it has ended, and what came back: bag and partial, or row -/
  isOver : Bool
  reply : List (Nat × Bytes)
deriving DecidableEq, Repr

/-- A distinct row a lookup fetches on this chip (R277); owner 1000 stands for the ballast row. -/
structure RowFetch where
  owner : Nat
  row : Nat
  ctx : Nat
  dva : Nat
  len : Nat
  issued : Bool
  /-- its bytes; none after a failure -/
  isOver : Bool
  data : Bytes
deriving DecidableEq, Repr

/-- A lookup at an engine (R274 to R283). -/
structure Lookup where
  id : Nat
  src : LookupFrom
  table : Nat
  pool : Byte
  ofmt : Byte
  retBank : Bool
  nBags : Nat
  outSpa : Nat
  outStride : Nat
  /-- core and number of each bank that its output range names (R202) -/
  banks : List (Nat × Nat)
  deadline : Dword
  epoch : Word
  base : Dword
  ballast : Dword
  pos : List LkPos
  fetch : List RowFetch
  parts : List LkPart
  /-- the status met first; 0 while none; and the up time at which it was met (R282) -/
  status : Half
  metAt : Nat
  /-- DEADLINE fired: it ends at once -/
  isOver : Bool
  /-- a row carried poison (R280) -/
  poison : Bool
  subst : Nat
deriving DecidableEq, Repr

/-- Where an update record came from. -/
inductive UpdFrom where
  | core (core op : Nat)
  | ring (h : Nat)
  | peer (pkt : Nat)
  /-- a ring whose stream has been closed since -/
  | closed
deriving DecidableEq, Repr

/-- An update record on its way to, or being applied at, its owner (R284 to R288). -/
structure UpdRec where
  id : Nat
  src : UpdFrom
  source : Half
  table : Nat
  stream : Half
  seq : Dword
  index : Dword
  deadline : Dword
  delta : Bytes
  /-- context the issuer's global address names -/
  gctx : Nat
  /-- its adds have been issued -/
  applied : Bool
  /-- tracker of a record sent to another chip -/
  tag : Option Nat
deriving DecidableEq, Repr

/-- One table engine. -/
structure Engine where
  intake : List Lookup
  active : List Lookup
  /-- records waiting at this engine as owner -/
  arriving : List UpdRec
  /-- records accepted whose adds are in flight, or sent to another owner -/
  inflight : List UpdRec
deriving DecidableEq, Repr

/-- The table engines, tables and streams. -/
structure Tables where
  tables : Tab TableD
  streams : Tab UpdStream
  engines : Vector Engine 8
  nextId : Nat
deriving DecidableEq, Repr

/-! ### 13: requests -/

/-- A queue (R297 to R301, R325). -/
structure Queue where
  ctx : Nat
  source : Half
  log2 : Nat
  sqAddr : Dword
  cqAddr : Dword
  vector : Byte
  irq : Bool
  fabric : Bool
  pretrans : Bool
  sqSync : Nat
  cqSync : Nat
  notifyChip : Half
  notifyObj : Half
  notifyInc : Half
  sqTail : Word
  sqHead : Word
  cqHead : Word
  cqTail : Word
  reserved : Nat
  stopping : Bool
  ptrErr : Bool
  notifyErr : Bool
  /-- notifications that wait for a tracker (R301, R346) -/
  notes : Nat
deriving DecidableEq, Repr

/-- A request descriptor (R302). -/
structure Desc where
  token : Dword
  deadline : Dword
  plan : Half
  ctx : Byte
  flags : Byte
  inDva : Dword
  inLen : Dword
  outDva : Dword
  outLen : Dword
  user : Dword
  args : Bytes
deriving DecidableEq, Repr

/-- An attached duplicate (R314). -/
structure Attach where
  queue : Nat
  user : Dword
deriving DecidableEq, Repr

/-- The outcome of a request (R312, R313). -/
structure ReqEnd where
  status : Half
  detail : Half
  stagesDone : Byte
  app : Half
  partial_ : Bool
  dtDone : Dword
deriving DecidableEq, Repr

/-- Slot states (R372). -/
inductive SlotState where
  | waiting | running | completing
deriving DecidableEq, Repr

/-- A request slot in use (R314). -/
structure Slot where
  queue : Nat
  source : Half
  desc : Desc
  state : SlotState
  /-- next stage, or the stage running -/
  stage : Nat
  core : Option Nat
  cancelled : Bool
  /-- admission order -/
  order : Nat
  attached : List Attach
  fin : Option ReqEnd
  /-- a host write of its stages failed (R432), or its flush read -/
  outFail : Bool
  flushFail : Bool
  /-- a flush read has been issued; it is still outstanding (R130) -/
  flushed : Bool
  flushing : Bool
  /-- address of its last output write to host memory -/
  lastHost : Option Nat
  /-- translations held with the slot (07 R159) -/
  pages : List MapEnt
deriving DecidableEq, Repr

/-- A completion-cache entry (R315). -/
structure CacheEnt where
  source : Half
  token : Dword
  fin : ReqEnd
deriving DecidableEq, Repr

/-- One stage of a plan (R305). -/
structure PlanStage where
  code : Bytes
  entry : List Word
  stackTop : Word
  argSpa : Word
  pair : Bool
  octant : Byte
deriving DecidableEq, Repr

/-- A loaded plan. -/
structure Plan where
  ctx : Nat
  imageLen : Nat
  stages : List PlanStage
deriving DecidableEq, Repr

/-- An allocated sync object (R318). -/
structure SyncObj where
  ctx : Nat
  remoteOk : Bool
  counter : Dword
deriving DecidableEq, Repr

/-- A read set of the sync unit (R322). -/
structure ReadSet where
  sel : BitVec 13
  lo : Word
  hi : Word
deriving DecidableEq, Repr

/-- The request scheduler and the sync unit. -/
structure Sched where
  queues : Tab Queue
  slots : Tab Slot
  cache : List CacheEnt
  replayMs : BitVec 10
  ccEvict : Word
  plans : Tab Plan
  sync : Tab SyncObj
  /-- counters that freed objects keep until they are allocated again, where not zero (R322) -/
  kept : Tab Dword
  readSets : Vector ReadSet 64
  frozen : Bool
  /-- queue served last, and the next admission number -/
  rr : Nat
  nextOrder : Nat
deriving DecidableEq, Repr

/-! ### 14: fabric -/

/-- Where a packet is being forwarded: link and channel, its ROUTE byte there, and the flits that have left (R333). -/
structure Egress where
  link : Nat
  vc : Nat
  route : Byte
  sent : Nat
deriving DecidableEq, Repr

/-- A packet (R339). -/
structure Packet where
  op : Byte
  flags : Byte
  route : Byte
  tclass : Byte
  destChip : Half
  destInc : Half
  srcChip : Half
  srcInc : Half
  tag : Half
  part : Half
  nparts : Half
  status : Byte
  gaddr : Dword
  deadline : Dword
  /-- LEN, and what has arrived of that payload; flits of it are still to come (R333) -/
  len : Nat
  payload : Bytes
  more : Bool
  /-- virtual channel it is on, and the link it arrived on -/
  vc : Nat
  link : Option Nat
  /-- flits it took on that link -/
  flits : Nat
  out : Option Egress
  /-- number given at arrival, by which accesses name it -/
  num : Nat
deriving DecidableEq, Repr

/-- Link states (R354). -/
inductive LinkState where
  | down | training | up | fault
deriving DecidableEq, Repr

/-- One Ratline link (R328 to R333, R352 to R354). -/
structure Link where
  state : LinkState
  cause : Byte
  peerChip : Half
  peerInc : Half
  peerLinkD : Word
  fecCorr : Dword
  replays : Word
  downCount : Word
  tsFail : Word
  /-- next number to send, next number expected -/
  txSeq : Half
  rxSeq : Half
  replay : List (Half × Bytes)
  /-- consecutive NAKs and the SEQ they name -/
  naks : Nat
  nakSeq : Half
  /-- credits held for the peer's buffers, per virtual channel -/
  credits : Vector Nat 8
  /-- credits to return to the peer -/
  owed : Vector Nat 8
  /-- a LINK_CTRL flit waits for room in the replay buffer -/
  ctrlDue : Bool
  /-- bytes of the packet arriving on each channel -/
  partials : Vector Bytes 8
  /-- and the flits they came in -/
  partN : Vector Nat 8
  /-- a TIMESYNC frame received and its receive time in 2^-16 ns -/
  frame : Option (Bytes × Nat)
  /-- channel of the OP_LINK_UP that trains it -/
  chan : Option Chan
  /-- the one retrain after a loss is under way -/
  retrain : Bool
  /-- up time at which training began -/
  trainAt : Nat
deriving DecidableEq, Repr

/-- What a tracker's request serves. -/
inductive TrackWhy where
  | access (acc : Nat)
  | lookup (eng lk : Nat)
  | update (eng rec : Nat)
  | notify (q : Nat)
deriving DecidableEq, Repr

/-- A live origin tracker (R346). -/
structure Tracker where
  gen : BitVec 2
  why : TrackWhy
  dest : Half
  tclass : Byte
  deadline : Dword
  /-- the timeout, not the issuer's deadline, was the earlier -/
  byTimeout : Bool
deriving DecidableEq, Repr

/-- The Ratline fabric of this chip. -/
structure Fabric where
  chipId : Option (BitVec 12)
  inc : Half
  topo : Byte
  dims : Nat × Nat × Nat
  peers : Vector Half 24
  detours : Vector Half 24
  links : Vector Link 24
  trackers : Tab Tracker
  /-- generation of each tracker that has been freed -/
  gens : Tab (BitVec 2)
  toLookupUs : Nat
  toDataUs : Nat
  toSignalUs : Nat
  /-- longest LOOKUP timeout set since cold reset (R292) -/
  longestUs : Nat
  routeDrop : Word
  staleIn : Word
  router : List Packet
  intake : List Packet
  /-- packets being performed at this chip as destination -/
  serving : List Packet
  nextNum : Nat
deriving DecidableEq, Repr

/-! ### 15 to 18: failure, power, security -/

/-- What started the warm reset in progress (R359). -/
inductive WarmTrigger where
  | flr | perst
  | command (c : Chan)
deriving DecidableEq, Repr

/-- HLT and DBG state (R375). -/
structure Health where
  heartbeat : Word
  /-- up time of the last increment -/
  beatAt : Nat
  hbPeriod : Byte
  warmResets : Word
  warm : Option WarmTrigger
  /-- firmware has begun the steps of the warm reset (R361, R363) -/
  warmBegun : Bool
  dbgBusy : Bool
  dbgDone : Bool
  captures : Half
  image : Bytes
  /-- DT, in ns, at which the capture in progress started -/
  capAt : Dword
  mpHung : Bool
deriving DecidableEq, Repr

/-- One octant's reefing (R381 to R388). -/
structure Octant where
  level : BitVec 3
  boosted : Bool
  twrDemand : BitVec 3
  hotDemand : BitVec 3
  hotHold : Bool
  towerT : Int
  hotT : Int
  /-- up time since which a lower level is allowed -/
  lowerSince : Option Nat
  /-- up time of the last REEF_CHANGE event -/
  eventAt : Option Nat
deriving DecidableEq, Repr

/-- Power and reefing (R383, R391). -/
structure Power where
  octs : Vector Octant 8
  powerDemand : BitVec 3
  iccDemand : BitVec 3
  capPin : Bool
  powerW : Half
  limitW : Half
  capLevel : BitVec 3
  iccMax : Half
  boostEn : Byte
  domains : BitVec 30
  reefChanges : Word
  /-- consecutive 1 ms samples below 0.97 of the limit -/
  lowMs : Nat
  /-- up time of the last rise of the current demand, while the current stays above ICC_MAX_A -/
  iccAt : Option Nat
  /-- up time since which the current is below 0.97 of ICC_MAX_A -/
  iccLow : Option Nat
deriving DecidableEq, Repr

/-- Boot status and security (R396 to R411, R428). -/
structure Security where
  phase : BitVec 4
  failCode : BitVec 4
  slotB : Bool
  fallback : Bool
  sealedValid : Bool
  lifecycle : BitVec 2
  tamperNow : Bool
  tamperSeen : Bool
  tamperFuses : BitVec 6
  svnMin : BitVec 6
  lcPending : Bool
  /-- target and owner key hash of the pending transition -/
  lcTarget : BitVec 2
  lcKeyHash : Bytes
  /-- the fused owner key hash -/
  ownerHash : Bytes
  nonce : Option Dword
  /-- private halves held in the sealed scratch: DIK, AK; nothing after a wipe -/
  dik : Bytes
  ak : Bytes
  /-- image slots of the firmware SPI NOR -/
  flashA : Bytes
  flashB : Bytes
  /-- boot record: slot B is active -/
  bootSlotB : Bool
  /-- the running image's header -/
  header : Bytes
  addrSel : BitVec 2
  tamperPin : Bool
  /-- the device is held in cold reset -/
  cold : Bool
  /-- boot progress (R396) -/
  fwStarted : Bool
  loopDone : Bool
  towersUp : Bool
  calDone : Bool
  /-- recorded column bypasses: core, array, physical column (R260) -/
  bypassRec : List (Nat × Nat × Nat)
  /-- incarnation number in the record area -/
  incRec : Half
  jtag : JtagInstr
  norOk : Bool
deriving DecidableEq, Repr

/-- How an access to host memory is sent (R124, R139). -/
inductive HostHow where
  /-- a memory request with No Snoop clear, translated or untranslated -/
  | plain (translated : Bool)
  /-- CXL.cache reads, and writes of a full and of a partial line -/
  | rdCurr
  | itoMWr
  | wrCur
deriving DecidableEq, Repr

/-- What the block sends to the outside. -/
inductive Out where
  /-- a write to host memory; `ro` Relaxed Ordering, `ep` poisoned -/
  | hostWrite (addr : Nat) (data : Bytes) (ro ep : Bool) (how : HostHow) (pasid : Option (BitVec 20))
  | hostRead (tag addr len : Nat) (how : HostHow) (pasid : Option (BitVec 20))
  | msix (v : Nat) (addr : Dword) (data : Word)
  /-- the completion of a host read of BAR0, BAR4 or CXL.mem -/
  | readData (data : Bytes) (ep : Bool)
  /-- completion of a CXL.mem write -/
  | writeDone
  /-- Unsupported Request -/
  | unsupported
  | atsReq (id page : Nat) (pasid : Option (BitVec 20))
  | atsInvalDone
  /-- a back-invalidation snoop of a tower line (R125) -/
  | backInval (dpa : Nat)
  /-- a request to a deep-memory device: port, port offset of the line, the bytes of a write -/
  | deepReq (p off : Nat) (write : Option Bytes)
  | flit (l : Nat) (data : Bytes)
  /-- a byte string read by the BMC -/
  | smbus (data : Bytes)
deriving DecidableEq, Repr

end Sys2Proof.Machine
end

