-- ==== Sys2Proof/Machine/State.lean ====
section
/-! DEFINITION. State.lean: the block's state, plain data, and its value right after reset. Reset values that the
spec does not state are named in log entries 3, 5, 7 and 20. -/

namespace Sys2Proof.Machine

/-- Why the block stops. No command of the spec stops the block (every error is a status, an event or a record),
so no step raises this: safe. -/
inductive Fault where
  /-- raised by no one: safe -/
  | never
deriving DecidableEq, Repr

/-- Why a command has no meaning here. -/
inductive Refusal where
  /-- an arm of exec whose meaning has not been written: raised by that arm only; safe -/
  | notModelled (mnemonic : String)
deriving DecidableEq, Repr

/-- The ZA32: every register, memory, buffer and queue the spec gives the block. -/
structure State where
  /-- 02 -/
  tb : Timebase
  /-- 03 -/
  cal : Calib
  /-- 04 -/
  gn : Gnss
  /-- 05 -/
  mbx : Mbx
  /-- 06 -/
  hl : HostLink
  /-- 07 -/
  xl : Xlate
  /-- line accesses in flight, by number (08 R175; the model's own bookkeeping) -/
  acc : Tab Access
  nextAcc : Nat
  /-- 08 -/
  tw : Tower
  /-- 09, 10, 11 -/
  cores : Vector Core 32
  /-- bridle bit of pair slot p: cores 2p and 2p + 1 (09 R212) -/
  bridled : Vector Bool 16
  /-- 12 -/
  te : Tables
  /-- 13 -/
  sch : Sched
  /-- 14 -/
  fab : Fabric
  /-- 15 -/
  hlt : Health
  /-- 16 -/
  pwr : Power
  /-- 17, 18 -/
  sec : Security
  /-- what the block has sent, oldest first (the model's own; log 9) -/
  out : List Out
  /-- number of free values used (the model's own; log 5) -/
  freeCtr : Nat
  /-- commands waiting, first in first out -/
  pending : List Instr
deriving DecidableEq, Repr

/-- TB_CONFIG and the delays at reset (02 R46). -/
def TbConfig.reset : TbConfig :=
  ⟨0b100100, 200, 31, 16, 4, false, 0, 0⟩

/-- The timebase at reset: DT counts from 0 (02 R34), registers as 02 R46 states. -/
def Timebase.reset : Timebase :=
  { count := 0, up := 0, corr := 0, freq := 0, calAt := 0, snaps := Vector.replicate 64 ⟨0, 0, 0⟩,
    valid := false, source := .none, holdover := false, lock24h := false, gnssQual := false, extQual := false,
    fabQual := false, cfg := TbConfig.reset, utc := ⟨0, false, 0, false, 0⟩, holdEst := 0xFFFFFFFF, holdAt := 0,
    phaseErr := 0, errAt := 0, solValidSince := none, solInvalidSince := none, gnssSince := none, extSince := none,
    fabSince := none, tookAt := none, lockSince := none, gnssOff := 0, extOff := 0, fabOff := 0, refOk := false, ppsGood := 0, ppsAt := none,
    exchGood := 0, exchMissed := 0, upstream := ⟨false, false, false, 0, 0⟩, exch := none, exchSeq := 0, exchAt := 0, exchIv := 0,
    exchOld := [],
    timeSet := none, ppsOut := false, ppsFall := 0 }

/-- An item before its power-up run: the factory value applied, no stored value (03 R55, R65; log 3). -/
def CalItem.reset : CalItem :=
  { result := 0, inForce := 0, count := 0, last := 0, value := Config.calFactory, target := Config.calFactory,
    stored := none, recCount := 0, recLast := 0, factory := Config.calFactory, bootPass := false, slewAt := 0,
    slewFrom := Config.calFactory }

/-- RUNNING and UNTRACED read 1 at reset: the power-up run is to come (03 R65). -/
def Calib.reset : Calib :=
  { running := true, refPresent := false, ppsUsed := false, untraced := true, recFail := false,
    items := Vector.replicate 28 CalItem.reset, therm := List.replicate 16 Config.calFactory, thermRec := none,
    run := some ⟨none, 0xFFFFFFF, false, .idle, 0xFFFFFFF⟩ }

/-- OP_GNSS_CONFIG defaults (04 R90). -/
def GnConfig.reset : GnConfig :=
  { fsHz := 0, fmtSpa := 2, fmtSpb := 2, invert := 0, elevMask := 5, ifSpa := 0, ifSpb := 0, sigEnable := 0x3FFE,
    doppRange := 6000, k := 4, thresh := 60, m := 3, n := 4, spacing := 10, pllBw := 10, dllBw := 10, refSys := 0,
    intervalMs := 1000, surveyH := 24, feIfb := 0, antDelay := 0 }

/-- SPA_FAULT and SPB_FAULT read 1 at reset (04 R89). -/
def GnPort.reset : GnPort := ⟨true, 0, 0, 0, 0⟩

def GnChan.reset : GnChan :=
  { state := .free, sig := 0, sv := 0, codeLock := false, carrierLock := false, bitSync := false, cn0Now := 0,
    cn0 := 0, cn0Valid := false, lastSync := 0, store := List.replicate 12 0, scale := 0, since := 0,
    codeBy := false, carrierBy := false, cohAt := 0, hist := [], codePh := 0,
    lowSince := none, unlockedSince := none, lockedSince := none, pr := 0, cp := 0, doppler := 0,
    prValid := false, halfOk := false, slip := false, used := false, excluded := false }

def Gnss.reset : Gnss :=
  { cfg := GnConfig.reset, spa := GnPort.reset, spb := GnPort.reset, targets := [],
    chans := Vector.replicate 128 GnChan.reset, mode := 0, solValid := false, traim := false,
    usedCnt := 0, solOffsetPs := 0, solUncPs := 0, epochSeq := 0, mirrorGen := 0, measSeq := 0, evictCnt := 0,
    epoch := [], position := none, entered := false, surveyAt := 0, targetMin := 0, holdAt := none, holdCheck := false,
    posSum := (0, 0, 0), posCnt := 0, fix := none, resSq := 0, resCnt := 0, ring := none, assists := [], nav := [] }

/-- A channel at reset: channel 0 enabled with every area, channel 16 enabled (05 R95, R116; log 30). -/
def MbxChan.reset (c : Nat) : MbxChan :=
  { busy := false, ack := false, done := false, replayed := false, overrun := false, seqErr := false, lastSeq := 0,
    irqEn := false, vector := 0, areas := if c = 0 then 0xFFFF else 0, ctx := 0, ctxBound := false,
    enabled := c = 0 || c = 16, req := [], resp := [], bell := 0, bellNo := 0, cmd := none }

def Mbx.reset : Mbx :=
  { chans := Vector.ofFn fun i => MbxChan.reset i.val, bells := 0, evtSeq := 0, ring := none, log := [], session := none }

/-- PCIe configuration at reset: every enable clear, completion timeout 10 ms (06 R119, R120); payloads of 128 bytes and read
requests of 512 (log 16). -/
def PcieConfig.reset : PcieConfig :=
  { bme := false, mse := false, pasidEn := false, atsEn := false, roEn := false, cto := 0, mps := 0, mrrs := 2, msixEn := false,
    funcMask := false, msix := List.replicate 256 ⟨0, 0, true⟩ }

def HostLink.reset : HostLink :=
  { intStatus := 0, intEnable := 0, intVector := 0, badOff := 0, badWrite := false, badKind := 0, badValid := false,
    link := ⟨0, 0, false, false, false, false, false⟩, first := none, cohMode := 0, winUnits := 0, winBase := 0, held := [],
    cfg := PcieConfig.reset, vecs := Vector.replicate 256 ⟨0, false, false, none⟩, bar4 := 0x10000000, reads := [],
    nextTag := 0, atc := [], ats := [], posts := [], invals := [] }

def Xlate.reset : Xlate :=
  { ctxs := [], maps := [], l1 := [], l2 := Vector.replicate 8 [], advice := [], prefetches := [], migrations := [] }

def DeepPort.reset : DeepPort := ⟨false, false, false, 0, 0, 0, 0, 0⟩

/-- All of tower memory in the FULL partition but one granule of reserve, no row cache (08 R171). -/
def Tower.reset : Tower :=
  { cells := [], poison := [], fullG := Config.granules - 1, quadG := 0, rc := Vector.replicate 8 0, retPages := [],
    retDeep := [], ce := Vector.replicate 8 0, ue := Vector.replicate 8 0,
    rcDrop := Vector.replicate 8 0, deepPoison := Vector.replicate 4 0, deepTimeout := Vector.replicate 4 0,
    scrubPass := 0, scrubPos := Vector.replicate 8 0, scrubDone := Vector.replicate 8 false,
    rcs := Vector.replicate 8 [], ports := Vector.replicate 4 DeepPort.reset, arrivals := 0, interleave := false, recent := [],
    refresh2 := Vector.replicate 8 false, limited := Vector.replicate 8 false }

/-- A LOCAL bank; ports A exist in banks 32 and 33 only (09 R217). -/
def Bank.reset (b : Nat) : Bank := ⟨1, if b < 32 then 0 else 1, none, false, none, 0⟩

def Regs.reset : Regs := ⟨Vector.replicate 32 0, 0, 0, 0, 0, 0, []⟩

def SeqFault.reset : SeqFault := ⟨0, 0, 0, false, 0, 0⟩

def Thread.reset : Thread :=
  { state := .unused, regs := Regs.reset, branches := [], stores := [], waits := [], block := none,
    fault := SeqFault.reset, faultNum := 0, confirmed := 0, app := 0 }

def Tile.reset : Tile := ⟨0, 0, []⟩

def Core.reset : Core :=
  { fenced := false, cause := 0, held := false, banks := Vector.ofFn fun i => Bank.reset i.val, spad := [],
    capBank := 0, capWord := 0, capPortB := false, capByMp := false, capValid := false,
    squashed := 0, width := Vector.replicate 4 256, bypass := Vector.replicate 4 0,
    badCols := [], outCols := [], progress := 0, instrs := 0, stages := 0, copDone := 0, lookups := 0, seqFaults := 0, specSquashed := 0,
    istore := [], icode := none, stage := none, cops := [], nextOp := 0, active := Tile.reset, shadow := Tile.reset,
    threads := Vector.replicate 4 Thread.reset }

def Engine.reset : Engine := ⟨[], [], [], []⟩

def Tables.reset : Tables := ⟨[], [], Vector.replicate 8 Engine.reset, 0⟩

def Sched.reset : Sched :=
  { queues := [], slots := [], cache := [], replayMs := 50, ccEvict := 0, plans := [], sync := [], kept := [],
    readSets := Vector.replicate 64 ⟨0, 0, 0⟩, frozen := false, rr := 0, nextOrder := 0 }

def Link.reset : Link :=
  { state := .down, cause := 0, peerChip := 0, peerInc := 0, peerLinkD := 0, fecCorr := 0, replays := 0,
    downCount := 0, tsFail := 0, txSeq := 0, rxSeq := 0, replay := [], naks := 0, nakSeq := 0,
    credits := Vector.replicate 8 0, owed := Vector.replicate 8 0, ctrlDue := false,
    partials := Vector.replicate 8 [], partN := Vector.replicate 8 0, frame := none, chan := none,
    retrain := false, trainAt := 0 }

/-- Topology NONE and no chip ID after cold reset; timeouts of 14 R346. -/
def Fabric.reset : Fabric :=
  { chipId := none, inc := Config.incarnation0, topo := 0, dims := (1, 1, 1), peers := Vector.replicate 24 0xFFFF,
    detours := Vector.replicate 24 0xFFFF, links := Vector.replicate 24 Link.reset, trackers := [], gens := [],
    toLookupUs := 200, toDataUs := 200, toSignalUs := 2000, longestUs := 200, routeDrop := 0, staleIn := 0,
    router := [], intake := [], serving := [], nextNum := 0 }

def Health.reset : Health :=
  { heartbeat := 0, beatAt := 0, hbPeriod := 10, warmResets := 0, warm := none, warmBegun := false, dbgBusy := false, dbgDone := false,
    captures := 0, image := [], capAt := 0, mpHung := false }

def Octant.reset : Octant := ⟨0, false, 0, 0, false, 0, 0, none, none⟩

/-- LIMIT_W is 1,300 W and ICC_MAX_A 1,400 A (16 R384, R391). -/
def Power.reset : Power :=
  { octs := Vector.replicate 8 Octant.reset, powerDemand := 0, iccDemand := 0, capPin := false, powerW := 0,
    limitW := 1300, capLevel := 4, iccMax := 1400, boostEn := 0, domains := BitVec.allOnes 30,
    reefChanges := 0, lowMs := 0, iccAt := none, iccLow := none }

/-- PHASE is 0; the device is held in cold reset until BOOT (17 R396, R410; log 17). -/
def Security.reset : Security :=
  { phase := 0, failCode := 0, slotB := false, fallback := false, sealedValid := false,
    lifecycle := Config.lifecycleFuse, tamperNow := false, tamperSeen := false, tamperFuses := Config.tamperFuses,
    svnMin := Config.svnMinFuse, lcPending := false, lcTarget := 0, lcKeyHash := [], ownerHash := List.replicate 48 0, nonce := none,
    dik := [], ak := [], flashA := [], flashB := [], bootSlotB := false, header := [], addrSel := Config.addrSel,
    tamperPin := false, cold := true, fwStarted := false, loopDone := false, towersUp := false, calDone := false,
    bypassRec := [], incRec := Config.incarnation0, jtag := .bypass, norOk := true }

/-- The block right after reset. -/
def State.reset : State :=
  { tb := Timebase.reset, cal := Calib.reset, gn := Gnss.reset, mbx := Mbx.reset, hl := HostLink.reset,
    xl := Xlate.reset, acc := [], nextAcc := 0, tw := Tower.reset, cores := Vector.replicate 32 Core.reset,
    bridled := Vector.replicate 16 false, te := Tables.reset, sch := Sched.reset, fab := Fabric.reset,
    hlt := Health.reset, pwr := Power.reset, sec := Security.reset, out := [], freeCtr := 0, pending := [] }

end Sys2Proof.Machine
end

