-- ==== Sys2Proof/Machine/Ops.lean ====
section
/-! DEFINITION. Ops.lean: the operations every family shares: byte fields, sparse memory, numbered tables, free
values, time and deadlines, posted writes to the host, MSI-X, interrupts and events. -/

namespace Sys2Proof.Machine

/-- What a meaning answers. -/
abbrev Res := Host.Outcome State Fault Refusal

/-- A command's effect; while the device is held in cold reset every command but BOOT finds its outputs inactive
and its state held (18 R426; log 17). -/
def live (s : State) (f : State → State) : Res :=
  .next (if s.sec.cold then s else f s)

/-! ### Byte fields, little-endian (00 R6) -/

/-- The `n` low bytes of `v`, least significant first. -/
def leBytes : Nat → Nat → Bytes
  | 0, _ => []
  | n + 1, v => BitVec.ofNat 8 v :: leBytes n (v / 256)

/-- The number whose bytes are given, least significant first. -/
def leNat : Bytes → Nat
  | [] => 0
  | b :: r => b.toNat + 256 * leNat r

/-- The `n`-byte field at offset `off`. -/
def fieldAt (b : Bytes) (off n : Nat) : Nat := leNat ((b.drop off).take n)

/-- `b` with `new` at offset `off`. -/
def putAt (b : Bytes) (off : Nat) (new : Bytes) : Bytes := b.take off ++ new ++ b.drop (off + new.length)

def zeros (n : Nat) : Bytes := List.replicate n 0

/-- A structure of `len` bytes with the fields (offset, size, value); the rest reads zero (00 R7). -/
def layout (len : Nat) (fs : List (Nat × Nat × Nat)) : Bytes :=
  fs.foldl (fun b f => putAt b f.1 (leBytes f.2.1 f.2.2)) (zeros len)

/-- The bytes of an `n`-byte signed value. -/
def leInt (n : Nat) (v : Int) : Bytes := leBytes n (v % (256 ^ n : Nat)).toNat

/-- The two's-complement reading of an `n`-bit number. -/
def toSigned (bits v : Nat) : Int := if v < 2 ^ (bits - 1) then (v : Int) else (v : Int) - (2 ^ bits : Nat)

/-- The `n`-byte two's-complement code of `v`. -/
def ofSigned (n : Nat) (v : Int) : Nat := (v % (256 ^ n : Nat)).toNat

/-- `v` held to the signed range of `bits` bits. -/
def satInt (bits : Nat) (v : Int) : Int :=
  max (-(2 ^ (bits - 1) : Nat)) (min v ((2 ^ (bits - 1) : Nat) - 1))

def b2n (b : Bool) : Nat := if b then 1 else 0

/-- A register value from (bit position, field value) pairs. -/
def bitsOf (fs : List (Nat × Nat)) : Nat := fs.foldl (fun a f => a + f.2 * 2 ^ f.1) 0

/-- Bits `hi:lo` of a number. -/
def bitsAt (v hi lo : Nat) : Nat := v / 2 ^ lo % 2 ^ (hi + 1 - lo)

def bitAt (v i : Nat) : Bool := v / 2 ^ i % 2 = 1

/-- The offset of the first non-zero byte among `offs`, if any (00 R7). -/
def nonzeroAt (b : Bytes) (offs : List Nat) : List (Bool × Nat) :=
  offs.map fun o => ((b.getD o 0) != 0, o)

/-- Byte offsets `lo` to `hi - 1`. -/
def span (lo hi : Nat) : List Nat := (List.range (hi - lo)).map (· + lo)

def listIdx {α : Type} (l : List α) : List (Nat × α) := (List.range l.length).zip l

/-! ### Sparse memory: unlisted bytes read 0 (log 6) -/

/-- One byte of a memory. -/
def memGet : Mem → Nat → Byte
  | [], _ => 0
  | (b, w) :: r, a => if a = b then w else memGet r a

/-- A memory with one byte written; a zero byte is not listed. -/
def memSet : Mem → Nat → Byte → Mem
  | [], a, v => if v = 0 then [] else [(a, v)]
  | (b, w) :: r, a, v =>
    if a < b then (if v = 0 then (b, w) :: r else (a, v) :: (b, w) :: r)
    else if a = b then (if v = 0 then r else (a, v) :: r)
    else (b, w) :: memSet r a v

/-- Every listed address of `m` is at least `lo`, addresses rise strictly, no listed byte is zero. -/
def memWfFrom : Nat → Mem → Bool
  | _, [] => true
  | lo, (a, v) :: r => lo ≤ a && v != 0 && memWfFrom (a + 1) r

/-- The canonical form of a memory. -/
def Memory.wf (m : Mem) : Bool := memWfFrom 0 m

/-- `n` bytes from address `a`. -/
def memRead (m : Mem) (a n : Nat) : Bytes := (List.range n).map fun i => memGet m (a + i)

/-- The bytes `bs` written from address `a`. -/
def memWrite : Mem → Nat → Bytes → Mem
  | m, _, [] => m
  | m, a, b :: r => memWrite (memSet m a b) (a + 1) r

/-! ### Numbered tables -/

def tget {α : Type} : Tab α → Nat → Option α
  | [], _ => none
  | (j, v) :: r, i => if i = j then some v else tget r i

def tput {α : Type} : Tab α → Nat → α → Tab α
  | [], i, v => [(i, v)]
  | (j, w) :: r, i, v => if i < j then (i, v) :: (j, w) :: r else if i = j then (i, v) :: r else (j, w) :: tput r i v

def tdel {α : Type} (t : Tab α) (i : Nat) : Tab α := t.filter fun e => e.1 != i

def tmod {α : Type} (t : Tab α) (i : Nat) (f : α → α) : Tab α :=
  t.map fun e => if e.1 = i then (e.1, f e.2) else e

def thas {α : Type} (t : Tab α) (i : Nat) : Bool := (tget t i).isSome

/-- `f` applied to element `i` of a vector, where it has one. -/
def vmod {α : Type} {n : Nat} (v : Vector α n) (i : Nat) (f : α → α) : Vector α n :=
  if h : i < n then v.set i (f v[i]) else v

/-- Element `i` of a vector, or a default. -/
def vget {α : Type} {n : Nat} (v : Vector α n) (i : Nat) (d : α) : α :=
  if h : i < n then v[i] else d

/-- A number put into a rising list without repeats. -/
def insertNat : List Nat → Nat → List Nat
  | [], a => [a]
  | b :: r, a => if a < b then a :: b :: r else if a = b then b :: r else b :: insertNat r a

/-! ### Free values (log 5) -/

/-- The next free value, and the state that has used it. -/
def takeFree (s : State) : Nat × State := (Config.freeNat s.freeCtr, { s with freeCtr := s.freeCtr + 1 })

/-- `n` free bytes. -/
def takeFreeBytes (s : State) (n : Nat) : Bytes × State :=
  ((List.range n).map fun i => BitVec.ofNat 8 (Config.freeNat (s.freeCtr + i)), { s with freeCtr := s.freeCtr + n })

/-! ### Time (02) -/

/-- One nanosecond in units of 2^-32 ns. -/
def nsUp (n : Nat) : Nat := n * 2 ^ 32
def usUp (n : Nat) : Nat := nsUp (n * 1000)
def msUp (n : Nat) : Nat := nsUp (n * 1000000)

/-- DT in whole nanoseconds (02 R22, R44). -/
def dtNs (s : State) : Dword := s.tb.count.extractLsb' 32 64

/-- The 16 fraction bits of DT. -/
def dtFrac (s : State) : Half := s.tb.count.extractLsb' 16 16

/-- DT in 2^-16 ns, 80 bits. -/
def dt80 (s : State) : BitVec 80 := s.tb.count.extractLsb' 16 80

/-- A deadline of all ones is none (02 R45). -/
def noDeadline : Dword := BitVec.allOnes 64

/-- A deadline has passed once DT is strictly greater (02 R45). -/
def passed (s : State) (d : Dword) : Bool := d != noDeadline && d < dtNs s

/-- An absolute deadline has passed; none is compared before VALID (02 R36). -/
def late (s : State) (d : Dword) : Bool := s.tb.valid && passed s d

/-- `n` units of up time have gone by since `t`. -/
def since (s : State) (t n : Nat) : Bool := t + n ≤ s.tb.up

def sinceOpt (s : State) (t : Option Nat) (n : Nat) : Bool := t.any fun x => since s x n

/-! ### Posted writes and MSI-X (06 R120, R129, R136 to R139, R432) -/

/-- The completion timeout in microseconds: 10 ms by default, else the upper end of the range that the field names, of
ranges A to C (06 R119; log 16). -/
def ctoUs (g : PcieConfig) : Nat :=
  match g.cto.toNat with
  | 1 => 100
  | 2 => 10000
  | 5 => 55000
  | 6 => 210000
  | 9 => 900000
  | 10 => 3500000
  | _ => 10000

/-- Max Payload Size in bytes, 512 at most (06 R117). -/
def maxPayload (g : PcieConfig) : Nat := 128 * 2 ^ min 2 g.mps.toNat

/-- Max Read Request Size in bytes, 4,096 at most (06 R117). -/
def maxRead (g : PcieConfig) : Nat := 128 * 2 ^ min 5 g.mrrs.toNat

/-- The device reaches host memory by CXL.cache (06 R124, R126). -/
def byCache (s : State) : Bool := s.hl.link.cxl && s.hl.link.cache

/-- How a read of host memory is sent (06 R124, R139). -/
def readHow (s : State) : HostHow := if byCache s then .rdCurr else .plain s.hl.cfg.atsEn

/-- The device can issue requests to the host: link up and Bus Master Enable set (06 R432). -/
def hostUp (s : State) : Bool := s.hl.cfg.bme && s.hl.link.speed != 0

def emit (s : State) (o : Out) : State := { s with out := s.out ++ [o] }

/-- The function decodes memory requests: the link is up and Memory Space Enable is set (06 R434). -/
def hostDecode (s : State) : Bool := s.hl.link.speed != 0 && s.hl.cfg.mse

/-- A host write of BAR0: with decode off it has no effect (06 R434). -/
def barWrite (s : State) (f : State → State) : Res := live s fun s => if hostDecode s then f s else s

/-- A host read: with decode off it completes as Unsupported Request (06 R434). -/
def barRead (s : State) (f : State → State) : Res := live s fun s => if hostDecode s then f s else emit s .unsupported

/-- What the address translation cache holds for a host address. -/
inductive AtcHit where
  | miss
  | denied
  | ok (addr : Nat)
deriving DecidableEq, Repr

/-- Lookup in the address translation cache (06 R139); with ATS clear every access is untranslated. -/
def atcFind (s : State) (pasid : Option (BitVec 20)) (addr : Nat) (write : Bool) : AtcHit :=
  if !s.hl.cfg.atsEn then .ok addr
  else match s.hl.atc.find? (fun e => e.pasid == pasid && e.page ≤ addr && addr < e.page + e.size) with
    | none => .miss
    | some e => if (if write then e.write else e.read) then .ok (e.target + (addr - e.page)) else .denied

/-- A translation request sent to the host (06 R139). -/
def atsAsk (s : State) (why : AtsWhy) (pasid : Option (BitVec 20)) (addr : Nat) (write : Bool) : State :=
  let page := addr / 4096 * 4096
  let tag := s.hl.nextTag
  let s := emit s (.atsReq tag page pasid)
  { s with hl := { s.hl with
    ats := tput s.hl.ats tag ⟨why, write, page, pasid, s.tb.up + usUp (ctoUs s.hl.cfg)⟩
    nextTag := tag + 1 } }

/-- The vector may send now: MSI-X enabled, neither masked nor Function Mask set (06 R136). -/
def vecOpen (s : State) (v : Nat) : Bool :=
  s.hl.cfg.msixEn && !s.hl.cfg.funcMask && !((s.hl.cfg.msix.getD v ⟨0, 0, true⟩).mask)

/-- Inside the moderation gap of vector `v` (06 R137). -/
def vecGap (s : State) (v : Nat) : Bool :=
  let e := vget s.hl.vecs v ⟨0, false, false, none⟩
  e.gapUs != 0 && e.lastAt.any fun t => s.tb.up < t + usUp e.gapUs.toNat

/-- One message on vector `v`; one that cannot be issued is discarded (06 R432). -/
def msixSend (s : State) (v : Nat) : State :=
  let e := s.hl.cfg.msix.getD v ⟨0, 0, true⟩
  let s := { s with hl := { s.hl with
    vecs := vmod s.hl.vecs v fun x => { x with pend := false, held := false, lastAt := some s.tb.up } } }
  if hostUp s then emit s (.msix v e.addr e.data) else s

/-- A trigger on vector `v`: pending while masked, held in a gap, else a message (06 R136, R137). -/
def msixNow (s : State) (v : Nat) : State :=
  if !vecOpen s v then { s with hl := { s.hl with vecs := vmod s.hl.vecs v fun x => { x with pend := true } } }
  else if vecGap s v then { s with hl := { s.hl with vecs := vmod s.hl.vecs v fun x => { x with held := true } } }
  else msixSend s v

/-- INT_STATUS bit `b` sets; the INT vector triggers when it changes an enabled bit from 0 to 1 (06 R142). The
message is a trigger of its own: it announces no record. -/
def setInt (s : State) (b : Fin 6) : State :=
  if s.hl.intStatus.getLsbD b then s
  else
    let s := { s with hl := { s.hl with intStatus := s.hl.intStatus ||| BitVec.ofNat 6 (2 ^ b.val) } }
    if s.hl.intEnable.getLsbD b then msixNow s s.hl.intVector.toNat else s

/-- The PASID of a context's requests; none with PASID Enable clear (06 R138). -/
def pasidOf (s : State) (ctx : Nat) : Option (BitVec 20) :=
  if s.hl.cfg.pasidEn then (tget s.xl.ctxs ctx).bind fun c => c.pasid else none

/-- One posted write leaves, or is discarded when the host cannot be reached (06 R432). -/
def postOut (s : State) (addr : Nat) (data : Bytes) (ro : Bool) (ctx : Nat) : State :=
  if hostUp s then
    emit s (.hostWrite addr data (ro && s.hl.cfg.roEn) false (.plain s.hl.cfg.atsEn) (pasidOf s ctx))
  else s

/-- DATA of a FW_ERROR event that reports a translation fault (07 R167). -/
def xlateFaultData (ctx kind stream dva : Nat) : Bytes :=
  layout 16 [(0, 2, 0x0100), (2, 1, ctx), (3, 1, kind), (4, 2, stream), (8, 8, dva)]

/-- The 32-byte record of an event (05 R111). -/
def eventBytes (e : EventRec) : Bytes :=
  putAt (layout 32 [(0, 2, e.typ.toNat), (2, 1, e.sev.toNat), (4, 4, e.seq.toNat), (8, 8, e.dt.toNat)]) 16
    (e.data.take 16)

/-- Posts join those that wait. -/
def enqueue (s : State) (l : List Post) : State := { s with hl := { s.hl with posts := s.hl.posts ++ l } }

/-- Firmware raises an event: numbered, logged when of severity 1 or 2 (05 R110, R111); the posts that write it to the
ring and send the ring's vector. A stopped MP raises none (05 R115). -/
def eventQuiet (s : State) (typ : Half) (sev : Byte) (data : Bytes) : State × List Post :=
  if s.hlt.mpHung then (s, [])
  else
    let seq := s.mbx.evtSeq + 1
    let e : EventRec := ⟨typ, sev, seq, dtNs s, data.take 16 ++ zeros (16 - data.length)⟩
    let log := if sev = 0 then s.mbx.log else (e :: s.mbx.log).take 64
    let s := { s with mbx := { s.mbx with evtSeq := seq, log := log } }
    match s.mbx.ring with
    | none => (s, [])
    | some r => (s, .event (r.addr.toNat + 32 * (seq.toNat % 2 ^ r.log2)) (eventBytes e)
        :: (if r.irq then [.msix r.vector.toNat] else []))

/-- A posted write whose translation the host refused: dropped; ATS_FAULT sets, and an event reports the fault (06 R141, 07
R167). The event's own write waits behind the posts. -/
def postDenied (s : State) (addr : Nat) (ctx : Nat) : State :=
  let e := eventQuiet (setInt s 3) 0x0009 1 (xlateFaultData ctx 5 (if ctx = 0xFF then 0xA0 else 0x80) addr)
  enqueue e.1 e.2

/-- A refused write of an event record: dropped. The event that reports it is numbered and logged, and not written to
the ring that refused it (log 32). -/
def eventDenied (s : State) (addr : Nat) : State :=
  (eventQuiet (setInt s 3) 0x0009 1 (xlateFaultData 0xFF 5 0xA0 addr)).1

/-- The waiting posts leave in order as far as their translations are known (06 R129, R139). -/
def drainPosts : Nat → State → State
  | 0, s => s
  | fuel + 1, s =>
    match s.hl.posts with
    | [] => s
    | p :: r =>
      let rest := { s with hl := { s.hl with posts := r } }
      match p with
      | .msix v => drainPosts fuel (msixNow rest v)
      | .write addr data ro ctx =>
        (match atcFind s (pasidOf s ctx) addr true with
         | .ok a => drainPosts fuel (postOut rest a data ro ctx)
         | .denied => drainPosts fuel (postDenied rest addr ctx)
         | .miss =>
           if !hostUp s then drainPosts fuel rest
           else if s.hl.ats.any (fun q => q.2.why == .post) then s
           else atsAsk s .post (pasidOf s ctx) addr true)
      | .event addr data =>
        match atcFind s none addr true with
        | .ok a => drainPosts fuel (postOut rest a data false 0xFF)
        | .denied => drainPosts fuel (eventDenied rest addr)
        | .miss =>
          if !hostUp s then drainPosts fuel rest
          else if s.hl.ats.any (fun q => q.2.why == .post) then s
          else atsAsk s .post none addr true

/-- What can leave of the waiting posts leaves: a denied write adds an event's two. -/
def postsGo (s : State) : State := drainPosts (3 * s.hl.posts.length) s

/-- A post joins the waiting ones, and what can leave leaves. -/
def post (s : State) (p : Post) : State := postsGo (enqueue s [p])

/-- A trigger on a vector behind the posts before it (06 R129). -/
def msix (s : State) (v : Nat) : State := post s (.msix v)

/-- A posted write cut at 4 KiB pages and to the Max Payload Size (06 R117). -/
def postPages : Nat → State → Nat → Bytes → Bool → Nat → State
  | 0, s, _, _, _, _ => s
  | fuel + 1, s, addr, data, ro, ctx =>
    let n := min (4096 - addr % 4096) (maxPayload s.hl.cfg)
    if data.length ≤ n then post s (.write addr data ro ctx)
    else postPages fuel (post s (.write addr (data.take n) ro ctx)) (addr + n) (data.drop n) ro ctx

/-- A posted write to host memory, made for a context or for firmware, 0xFF (06 R128 to R130). -/
def hostWrite (s : State) (addr : Nat) (data : Bytes) (ro : Bool) (ctx : Nat) : State :=
  postPages (data.length + 1) s addr data ro ctx

/-- The request awaits GO of a write, not data. -/
def ReadWhy.isGo : ReadWhy → Bool
  | .go _ => true
  | _ => false

/-- Reads outstanding at the host: at most 1,024 (06 R117). -/
def readsSent (s : State) : Nat := (s.hl.reads.filter fun r => r.2.sent && !r.2.why.isGo).length

/-- A recorded read is sent, if its translation is known and a tag is free; else it waits (06 R117, R139). -/
def sendRead (s : State) (tag : Nat) : State :=
  match tget s.hl.reads tag with
  | none => s
  | some r =>
    if r.sent || 1024 ≤ readsSent s then s
    else match atcFind s r.pasid r.addr false with
      | .ok a =>
        emit { s with hl := { s.hl with reads := tmod s.hl.reads tag fun r => { r with
          sent := true
          limit := s.tb.up + usUp (ctoUs s.hl.cfg) } } }
          (.hostRead tag a r.len (readHow s) (if s.hl.cfg.pasidEn then r.pasid else none))
      | .miss => if s.hl.ats.any (fun q => q.2.why == .read tag) then s else atsAsk s (.read tag) r.pasid r.addr false
      | .denied => s

/-- A request to the host is recorded under a new tag. -/
def recordRead (s : State) (why : ReadWhy) (addr len : Nat) (pasid : Option (BitVec 20)) (sent : Bool) : Nat × State :=
  (s.hl.nextTag, { s with hl := { s.hl with
    nextTag := s.hl.nextTag + 1
    reads := tput s.hl.reads s.hl.nextTag ⟨why, addr, len, pasid, sent, s.tb.up + usUp (ctoUs s.hl.cfg)⟩ } })

/-- A read of host memory for a context or for firmware (0xFF): outstanding under a new tag; none where it cannot be
issued or its translation is denied (06 R119, R141, R432). -/
def hostRead (s : State) (why : ReadWhy) (addr len ctx : Nat) : Option Nat × State :=
  let pasid := pasidOf s ctx
  if !hostUp s then (none, s)
  else if atcFind s pasid addr false = .denied then (none, setInt s 3)
  else
    let (tag, s) := recordRead s why addr len pasid false
    (some tag, sendRead s tag)

/-- A read no longer holds back an invalidation's completion (06 R140). -/
def invalDrain (s : State) (tag : Nat) : State :=
  let l := s.hl.invals.map fun i => i.filter (· != tag)
  (l.filter List.isEmpty).foldl (fun s _ => emit s .atsInvalDone)
    { s with hl := { s.hl with invals := l.filter fun i => !i.isEmpty } }

/-! ### Events (05 R110 to R112) -/

/-- Firmware raises an event, and its record goes to the ring if one is set, its vector after it if enabled (05 R110,
R111). -/
def event (s : State) (typ : Half) (sev : Byte) (data : Bytes) : State :=
  let e := eventQuiet s typ sev data
  postsGo (enqueue e.1 e.2)

/-- FW_ERROR with a subtype and bytes 2 to 15 (05 R112). -/
def fwError (s : State) (subtype : Nat) (sev : Byte) (rest : Bytes) : State :=
  event s 0x0009 sev (leBytes 2 subtype ++ rest)

/-- A write to a record of the firmware SPI NOR: an unsuccessful one raises FW_ERROR 0x0500 (05 R112; log 20). -/
def norWrite (s : State) (record : Nat) : State :=
  if s.sec.norOk then s else fwError s 0x0500 1 (leBytes 1 record)

/-! ### Shared views -/

/-- Domain `d` is on (16 R377). -/
def domainOn (s : State) (d : Nat) : Bool := s.pwr.domains.getLsbD d

/-- Bit n of FENCED_MASK: core n fenced (05 R108). -/
def fencedMask (s : State) : Nat :=
  bitsOf ((listIdx s.cores.toList).map fun c => (c.1, b2n c.2.fenced))

/-- Bit p of BRIDLED_MASK: pair slot p bridled (05 R108). -/
def bridledMask (s : State) : Nat :=
  bitsOf ((listIdx s.bridled.toList).map fun b => (b.1, b2n b.2))

def coreOf (s : State) (n : Nat) : Core := vget s.cores n Core.reset

def modCore (s : State) (n : Nat) (f : Core → Core) : State := { s with cores := vmod s.cores n f }

def isBridled (s : State) (core : Nat) : Bool := vget s.bridled (core / 2) false

/-- The octant of a core (01 R13). -/
def octOf (core : Nat) : Nat := core / 4

end Sys2Proof.Machine
end

