-- ==== Sys2Proof/Machine/FlitOps.lean ====
section
/-! DEFINITION. FlitOps.lean: building and sending flits on a Ratline link (14 R329, R330). -/

namespace Sys2Proof.Machine

def linkOf (s : State) (l : Nat) : Link := vget s.fab.links l Link.reset

def modLink (s : State) (l : Nat) (f : Link → Link) : State :=
  { s with fab := { s.fab with links := vmod s.fab.links l f } }

/-- The first virtual channel at or above `i` owed credits, and how many a flit can return (14 R332). -/
def owedFrom (owed : Vector Nat 8) : Nat → Nat → Option (Nat × Nat)
  | 0, _ => none
  | fuel + 1, i => if vget owed i 0 = 0 then owedFrom owed fuel (i + 1) else some (i, min 255 (vget owed i 0))

/-- One CRED_VC and CRED pair, and what is still owed. -/
def takeCredit (owed : Vector Nat 8) (start : Nat) : Nat × Nat × Nat × Vector Nat 8 :=
  match owedFrom owed (8 - start) start with
  | none => (0, 0, 8, owed)
  | some (v, n) => (8 + v, n, v + 1, vmod owed v fun x => x - n)

/-- A flit of 256 bytes (14 R329). -/
def mkFlit (ftype vc seq ack credVcA credA credVcB credB : Nat) (payload : Bytes) : Bytes :=
  let b := layout 14 [(0, 1, ftype), (1, 1, vc), (2, 2, seq), (4, 2, ack), (6, 1, credVcA), (7, 1, credA),
    (8, 1, credVcB), (9, 1, credB), (10, 1, payload.length)] ++ payload ++ zeros (234 - payload.length)
  b ++ leBytes 8 (Config.crc64 b).toNat

/-- A flit leaves on link `l` with the link's acknowledgement and up to two credit returns; its bytes too. -/
def sendFlit (s : State) (l ftype vc seq : Nat) (payload : Bytes) : State × Bytes :=
  let k := linkOf s l
  let (va, ca, nx, owed) := takeCredit k.owed 0
  let (vb, cb, _, owed) := takeCredit owed nx
  let f := mkFlit ftype vc seq (k.rxSeq - 1).toNat va ca vb cb payload
  (emit (modLink s l fun k => { k with owed := owed }) (.flit l f), f)

/-- A numbered flit (DATA or LINK_CTRL) leaves and is kept for replay; the caller has seen room for it (14 R330). -/
def sendNumbered (s : State) (l ftype vc : Nat) (payload : Bytes) : State :=
  let seq := (linkOf s l).txSeq
  let (s, f) := sendFlit s l ftype vc seq.toNat payload
  modLink s l fun k => { k with txSeq := k.txSeq + 1, replay := k.replay ++ [(seq, f)] }

/-- The in-force LINK_D value of link `l` (03 R52). -/
def linkD (s : State) (l : Nat) : Word := (vget s.cal.items (4 + l) CalItem.reset).value

/-- What a LINK_CTRL flit tells the peer: chip ID, incarnation number and LINK_D (03 R52, 14 R349, R352). Its layout
is the model's choice (log 21). -/
def ctrlPayload (s : State) (l : Nat) : Bytes :=
  layout 8 [(0, 2, (s.fab.chipId.getD 0).toNat), (2, 2, s.fab.inc.toNat), (4, 4, (linkD s l).toNat)]

/-- A LINK_CTRL flit, at once or when the replay buffer has room. -/
def sendCtrl (s : State) (l : Nat) : State :=
  if (linkOf s l).replay.length < 512 then
    sendNumbered (modLink s l fun k => { k with ctrlDue := false }) l 2 0 (ctrlPayload s l)
  else modLink s l fun k => { k with ctrlDue := true }

/-- LINK_CTRL on every link in state UP. -/
def sendCtrlAll (s : State) : State :=
  (List.range 24).foldl (fun s l => if (linkOf s l).state = .up then sendCtrl s l else s) s

/-- An IDLE flit carries the acknowledgement and credits (14 R330). -/
def sendIdle (s : State) (l : Nat) : State := (sendFlit s l 0 0 0 []).1

end Sys2Proof.Machine
end

