-- ==== Sys2Proof/Machine/FabricOps.lean ====
section
/-! DEFINITION. FabricOps.lean: packets, origin trackers and the sending of requests and responses (14 R339 to R347). -/

namespace Sys2Proof.Machine

/-! ### Packets (14 R339) -/

/-- The 40-byte header and payload of a packet. -/
def packetBytes (p : Packet) : Bytes :=
  layout 40 [(0, 1, p.op.toNat), (1, 1, p.flags.toNat), (2, 1, p.route.toNat), (3, 1, p.tclass.toNat),
    (4, 2, p.destChip.toNat), (6, 2, p.destInc.toNat), (8, 2, p.srcChip.toNat), (10, 2, p.srcInc.toNat),
    (12, 2, p.tag.toNat), (14, 2, p.len), (16, 2, p.part.toNat), (18, 2, p.nparts.toNat),
    (20, 1, p.status.toNat), (24, 8, p.gaddr.toNat), (32, 8, p.deadline.toNat)] ++ p.payload

/-- Flits that a packet takes (14 R329). -/
def flitCount (p : Packet) : Nat := (40 + p.len + 233) / 234

/-- The packet whose bytes arrived on channel `vc` of link `l`, all of them. -/
def packetOf (b : Bytes) (vc l flits : Nat) : Packet :=
  let f (o n : Nat) := fieldAt b o n
  { op := BitVec.ofNat 8 (f 0 1), flags := BitVec.ofNat 8 (f 1 1), route := BitVec.ofNat 8 (f 2 1),
    tclass := BitVec.ofNat 8 (f 3 1), destChip := BitVec.ofNat 16 (f 4 2 % 4096), destInc := BitVec.ofNat 16 (f 6 2),
    srcChip := BitVec.ofNat 16 (f 8 2 % 4096), srcInc := BitVec.ofNat 16 (f 10 2), tag := BitVec.ofNat 16 (f 12 2),
    part := BitVec.ofNat 16 (f 16 2), nparts := BitVec.ofNat 16 (f 18 2), status := BitVec.ofNat 8 (f 20 1),
    gaddr := BitVec.ofNat 64 (f 24 8), deadline := BitVec.ofNat 64 (f 32 8),
    len := ((b.drop 40).take (f 14 2)).length, payload := (b.drop 40).take (f 14 2), more := false, vc := vc,
    link := some l, flits := flits, out := none, num := 0 }

/-- The packet that begins with these bytes, with flits still to come. -/
def packetFrom (b : Bytes) (vc l flits : Nat) : Packet := { packetOf b vc l flits with
  len := fieldAt b 14 2
  more := true }

/-- The packet once one more flit of it has arrived. -/
def Packet.grow (p : Packet) (d : Bytes) (last : Bool) : Packet :=
  let b := (p.payload ++ d).take p.len
  { p with
    payload := b
    len := if last then b.length else p.len
    more := !last
    flits := p.flits + 1 }

def opRead : Byte := 0x01
def opWrite : Byte := 0x02
def opAdd : Byte := 0x03
def opSignal : Byte := 0x04
def opLookup : Byte := 0x05
def opAck : Byte := 0x80
def opReadData : Byte := 0x81
def opPooled : Byte := 0x85
def opRefused : Byte := 0x8E

/-- The class of a packet: REQUEST 0, UPDATE 1, SIGNAL 2, RESPONSE 3 (14 R332, R340). -/
def packetClass (op flags : Byte) : Nat :=
  if 0x80 ≤ op.toNat then 3
  else if op = opSignal then 2
  else if op = opAdd && flags.getLsbD 1 then 1
  else 0

/-- Status codes of responses (14 R339). -/
def rsOk := 0
def rsStale := 1
def rsDenied := 2
def rsEpoch := 3
def rsMemory := 4

/-- This chip's ID as a packet carries it. -/
def myChip (s : State) : Half := (s.fab.chipId.getD 0).setWidth 16

/-! ### Topology (14 R335) -/

/-- The topology is a torus. -/
def isTorus (s : State) : Bool := s.fab.topo = 1 || s.fab.topo = 2

/-- The sizes of a torus, X first. -/
def dimSizes (s : State) : List Nat :=
  if s.fab.topo = 1 then [s.fab.dims.1, s.fab.dims.2.1, s.fab.dims.2.2] else [s.fab.dims.1, s.fab.dims.2.1]

/-- A chip's coordinates in it, X first. -/
def coordList (s : State) (chip : Half) : List Nat :=
  let c := chip.toNat
  if s.fab.topo = 1 then [c % 16, c / 16 % 16, c / 256 % 16] else [c % 64, c / 64 % 64]

/-- A chip inside the dimensions of the torus. -/
def inTorus (s : State) (chip : Half) : Bool := (List.zip (coordList s chip) (dimSizes s)).all fun x => x.1 < x.2

/-- Links of one direction of one dimension, in a torus. -/
def perDirection (s : State) : Nat := if s.fab.topo = 1 then 4 else 6

/-- Dimension and direction (true for minus) of a link. -/
def linkDim (s : State) (l : Nat) : Nat × Bool := (l / (2 * perDirection s), l / perDirection s % 2 = 1)

/-- FULL names the chip. -/
def fullNames (s : State) (chip : Half) : Bool := s.fab.peers.toList.any fun p => p = chip && p != 0xFFFF

/-- A packet for `chip` has a route from here: to itself, in the torus, or to one FULL names (14 R335). -/
def routed (s : State) (chip : Half) : Bool :=
  s.fab.chipId.isSome &&
    (chip = myChip s || (isTorus s && inTorus s (myChip s) && inTorus s chip) || (s.fab.topo = 3 && fullNames s chip))

/-! ### Origin trackers (14 R346, R347) -/

def toRouter (s : State) (p : Packet) : State := { s with fab := { s.fab with router := s.fab.router ++ [p] } }

/-- The lowest free tracker. -/
def freeTracker (t : Tab Tracker) : Nat := ((List.range (t.length + 1)).find? fun i => !thas t i).getD 0

/-- The remote timeout of a traffic class, in microseconds. -/
def remoteUs (s : State) (tclass : Byte) : Nat :=
  if tclass = 0 then s.fab.toLookupUs else if tclass = 1 then s.fab.toDataUs else s.fab.toSignalUs

inductive SendRes where
  /-- a bound of R346 is met: the issuer stalls -/
  | stalled
  /-- no route: the request ends as if refused ACCESS_DENIED (14 R335) -/
  | noRoute
  | sent (tag : Nat)
deriving DecidableEq, Repr

/-- A request of one or more packets leaves for the router under a new tracker. Its DEADLINE is the earlier of the
issuer's deadline and now plus the remote timeout; before VALID an issuer's deadline is none (02 R45, 14 R347). -/
def sendRequest (s : State) (op flags tclass : Byte) (chip inc : Half) (gaddr issuer : Dword) (parts : List Bytes)
    (why : TrackWhy) : SendRes × State :=
  if !routed s chip then (.noRoute, s)
  else if 16384 ≤ s.fab.trackers.length ||
      2048 ≤ (s.fab.trackers.filter fun t => t.2.tclass == tclass && t.2.dest == chip).length then (.stalled, s)
  else
    let i := freeTracker s.fab.trackers
    let gen := (tget s.fab.gens i).getD 0
    let tmo := dtNs s + BitVec.ofNat 64 (remoteUs s tclass * 1000)
    let issuer := if s.tb.valid then issuer else noDeadline
    let byT := tmo.toNat < issuer.toNat
    let dl := if byT then tmo else issuer
    let tag : Half := BitVec.ofNat 16 (i + gen.toNat * 16384)
    let s := { s with fab := { s.fab with trackers := tput s.fab.trackers i ⟨gen, why, chip, tclass, dl, byT⟩ } }
    let mk (k : Nat × Bytes) : Packet :=
      { op := op, flags := flags, route := 0, tclass := tclass, destChip := chip, destInc := inc,
        srcChip := myChip s, srcInc := s.fab.inc, tag := tag, part := BitVec.ofNat 16 k.1,
        nparts := BitVec.ofNat 16 parts.length, status := 0, gaddr := gaddr, deadline := dl,
        len := k.2.length, payload := k.2, more := false, vc := 2 * packetClass op flags, link := none, flits := 0,
        out := none, num := 0 }
    (.sent i, (listIdx parts).foldl (fun s k => toRouter s (mk k)) s)

/-- Tracker `i` frees: its generation advances (14 R346). -/
def freeTrack (s : State) (i : Nat) : State :=
  match tget s.fab.trackers i with
  | none => s
  | some t => { s with fab := { s.fab with trackers := tdel s.fab.trackers i, gens := tput s.fab.gens i (t.gen + 1) } }

/-- The live tracker a response names: generation and SRC_INC must match (14 R346). -/
def trackerOf (s : State) (p : Packet) : Option (Nat × Tracker) :=
  let i := p.tag.toNat % 16384
  match tget s.fab.trackers i with
  | none => none
  | some t => if t.gen.toNat = p.tag.toNat / 16384 && p.srcInc == s.fab.inc then some (i, t) else none

/-! ### Responses -/

/-- Bytes cut into pieces of at most `n`, at least one piece. -/
def cutEvery : Nat → Nat → Bytes → List Bytes
  | 0, _, _ => []
  | fuel + 1, n, b => if b.length ≤ n then [b] else b.take n :: cutEvery fuel n (b.drop n)

/-- A response to request `p`: TCLASS and TAG are copied, and SRC_INC is the origin's incarnation number in a response too,
by which the origin knows it (14 R339, R346; log 48). -/
def respond (s : State) (p : Packet) (op : Byte) (status : Nat) (poison : Bool) (payload : Bytes) : State :=
  let parts := cutEvery (payload.length + 1) 2048 payload
  (listIdx parts).foldl (fun s k => toRouter s
    { op := op, flags := if poison then 1 else 0, route := 0, tclass := p.tclass, destChip := p.srcChip,
      destInc := p.srcInc, srcChip := myChip s, srcInc := p.srcInc, tag := p.tag, part := BitVec.ofNat 16 k.1,
      nparts := BitVec.ofNat 16 parts.length, status := BitVec.ofNat 8 status, gaddr := p.gaddr,
      deadline := p.deadline, len := k.2.length, payload := k.2, more := false, vc := 6, link := none, flits := 0,
      out := none, num := 0 }) s

def refuse (s : State) (p : Packet) (status : Nat) : State := respond s p opRefused status false []

end Sys2Proof.Machine
end

