-- ==== Sys2Proof/Machine/Sync.lean ====
section
/-! DEFINITION. Sync.lean: operations of the sync unit and the queue pointers they may stand for (13 R298, R301,
R318 to R321). -/

namespace Sys2Proof.Machine

def syncOf (s : State) (o : Nat) : Option SyncObj := tget s.sch.sync o

def queueOf (s : State) (q : Nat) : Option Queue := tget s.sch.queues q

def modQueue (s : State) (q : Nat) (f : Queue → Queue) : State :=
  { s with sch := { s.sch with queues := tmod s.sch.queues q f } }

def Queue.entries (q : Queue) : Nat := 2 ^ q.log2

/-- A new TAIL: ignored, with PTR_ERR, when it moves backward or more than ENTRIES ahead of SQ_HEAD (13 R298). -/
def sqTailTo (q : Queue) (v : Word) : Queue :=
  if (v - q.sqHead).toNat ≤ q.entries && (q.sqTail - q.sqHead).toNat ≤ (v - q.sqHead).toNat then { q with sqTail := v }
  else { q with ptrErr := true }

/-- A new HEAD: ignored, with PTR_ERR, when it moves backward or past CQ_TAIL (13 R298). -/
def cqHeadTo (q : Queue) (v : Word) : Queue :=
  if (v - q.cqHead).toNat ≤ (q.cqTail - q.cqHead).toNat then { q with cqHead := v }
  else { q with ptrErr := true }

/-- An armed wait on object `o` settles once the counter reaches its value (13 R321). -/
def settleWait (o : Nat) (v : Dword) (w : Wait) : Wait :=
  if w.obj = o && w.settled.isNone && w.value.toNat ≤ v.toNat then { w with settled := some true } else w

/-- Every armed wait on object `o` is looked at (13 R321). -/
def settleAll (s : State) (o : Nat) (v : Dword) : State :=
  { s with cores := s.cores.map fun c => { c with
      threads := c.threads.map fun t => { t with waits := t.waits.map (settleWait o v) } } }

/-- Fabric queues whose pointers object `o` stands for see its low 32 bits (13 R301). -/
def fabricQueues (s : State) (o : Nat) (v : Dword) : State :=
  { s with sch := { s.sch with queues := s.sch.queues.map fun e =>
      let q := e.2
      let q := if q.fabric && q.sqSync = o then sqTailTo q (v.setWidth 32) else q
      let q := if q.fabric && q.cqSync = o then cqHeadTo q (v.setWidth 32) else q
      (e.1, q) } }

/-- One operation on an object's counter (13 R320, R321); an object not allocated has none. -/
def syncApply (s : State) (o : Nat) (f : Dword → Dword) : State :=
  match syncOf s o with
  | none => s
  | some x =>
    let v := f x.counter
    fabricQueues (settleAll { s with sch := { s.sch with sync := tput s.sch.sync o { x with counter := v } } } o v) o v

/-- SIGNAL: an unsigned add modulo 2^64. -/
def syncAdd (s : State) (o : Nat) (v : Dword) : State := syncApply s o (· + v)

/-- SET. -/
def syncSet (s : State) (o : Nat) (v : Dword) : State := syncApply s o fun _ => v

end Sys2Proof.Machine
end

