-- ==== Sys2Proof/Machine/Float.lean ====
section
/-! DEFINITION. Float.lean: the number formats, exact arithmetic on their values, and rounding to nearest with ties to
even (11 R246, R264, R429; 12 R288). -/

namespace Sys2Proof.Machine

/-- An exact value: NaN, an infinity, or (-1)^neg * m * 2^e. -/
inductive Num where
  | nan
  | inf (neg : Bool)
  | fin (neg : Bool) (m : Nat) (e : Int)
deriving DecidableEq, Repr

/-- A binary format (11 R246): exponent and mantissa bits, bias, and the codes of its largest finite magnitude, its
infinity (the largest magnitude where it has none) and its canonical NaN (R429). -/
structure Fmt where
  ebits : Nat
  mbits : Nat
  bias : Nat
  maxFin : Nat
  infCode : Nat
  nanCode : Nat
deriving DecidableEq, Repr

def fp32 : Fmt := ⟨8, 23, 127, 0x7F7FFFFF, 0x7F800000, 0x7FC00000⟩
def bf16 : Fmt := ⟨8, 7, 127, 0x7F7F, 0x7F80, 0x7FC0⟩
def fp16 : Fmt := ⟨5, 10, 15, 0x7BFF, 0x7C00, 0x7E00⟩
def e5m2 : Fmt := ⟨5, 2, 15, 0x7B, 0x7C, 0x7E⟩
def e4m3 : Fmt := ⟨4, 3, 7, 0x7E, 0x7E, 0x7F⟩
def e2m1 : Fmt := ⟨2, 1, 1, 7, 7, 7⟩

/-- The value of a code. Formats without infinities give every code above `maxFin` to NaN. -/
def decodeF (f : Fmt) (code : Nat) : Num :=
  let sgn := decide (code / 2 ^ (f.ebits + f.mbits) % 2 = 1)
  let mag := code % 2 ^ (f.ebits + f.mbits)
  if f.maxFin < mag then (if mag = f.infCode then .inf sgn else .nan)
  else
    let ex := mag / 2 ^ f.mbits
    let fr := mag % 2 ^ f.mbits
    if ex = 0 then .fin sgn fr (1 - (f.bias : Int) - f.mbits)
    else .fin sgn (2 ^ f.mbits + fr) ((ex : Int) - f.bias - f.mbits)

def blen (n : Nat) : Nat := if n = 0 then 0 else n.log2 + 1

/-- `m / 2^k` rounded to nearest, ties to even. -/
def rneShift (m k : Nat) : Nat :=
  let q := m / 2 ^ k
  let r := m % 2 ^ k
  if k = 0 then m
  else if 2 * r < 2 ^ k then q else if 2 ^ k < 2 * r then q + 1 else if q % 2 = 0 then q else q + 1

/-- `m * 2^e` rounded to an integer multiple of `2^q`, as that multiple. -/
def rneAt (m : Nat) (e q : Int) : Nat := if q ≤ e then m * 2 ^ (e - q).toNat else rneShift m (q - e).toNat

/-- The code nearest a value, ties to even; an overflow saturates or becomes an infinity (R264, R288). -/
def encodeF (f : Fmt) (sat : Bool) : Num → Nat
  | .nan => f.nanCode
  | .inf n => f.infCode + (if n then 2 ^ (f.ebits + f.mbits) else 0)
  | .fin n m e =>
    let sgn := if n then 2 ^ (f.ebits + f.mbits) else 0
    if m = 0 then sgn
    else
      let emin : Int := 1 - (f.bias : Int)
      let ex : Int := max emin (e + blen m - 1)
      let mag := (ex - emin).toNat * 2 ^ f.mbits + rneAt m e (ex - f.mbits)
      sgn + (if f.maxFin < mag then (if sat then f.maxFin else f.infCode) else mag)

/-- A signed value as an integer multiple of `2^q`, exact when `q` is at most its exponent. -/
def scaledInt (n : Bool) (m : Nat) (e q : Int) : Int :=
  let v : Int := (m * 2 ^ (e - q).toNat : Nat)
  if n then -v else v

/-- Exact sum; a zero sum of opposite signs is +0. -/
def numAdd : Num → Num → Num
  | .nan, _ => .nan
  | _, .nan => .nan
  | .inf a, .inf b => if a = b then .inf a else .nan
  | .inf a, .fin _ _ _ => .inf a
  | .fin _ _ _, .inf b => .inf b
  | .fin a m e, .fin b k g =>
    if m = 0 && k = 0 then .fin (a && b) 0 0
    else
      let q := min e g
      let v := scaledInt a m e q + scaledInt b k g q
      .fin (v < 0) v.natAbs q

def numNeg : Num → Num
  | .nan => .nan
  | .inf a => .inf (!a)
  | .fin a m e => .fin (!a) m e

/-- Exact product; infinity times zero is NaN. -/
def numMul : Num → Num → Num
  | .nan, _ => .nan
  | _, .nan => .nan
  | .inf a, .inf b => .inf (a != b)
  | .inf a, .fin b k _ => if k = 0 then .nan else .inf (a != b)
  | .fin a m _, .inf b => if m = 0 then .nan else .inf (a != b)
  | .fin a m e, .fin b k g => .fin (a != b) (m * k) (e + g)

/-- Quotient to more bits than any format holds, the last one sticky, so that rounding it rounds the exact quotient
(11 R263: correctly rounded division). -/
def numDiv : Num → Num → Num
  | .nan, _ => .nan
  | _, .nan => .nan
  | .inf _, .inf _ => .nan
  | .inf a, .fin b _ _ => .inf (a != b)
  | .fin a _ _, .inf b => .fin (a != b) 0 0
  | .fin a m e, .fin b k g =>
    if k = 0 then (if m = 0 then .nan else .inf (a != b))
    else
      let sh := 64 + blen k
      let q := m * 2 ^ sh / k
      .fin (a != b) (2 * q + (if m * 2 ^ sh % k = 0 then 0 else 1)) (e - g - sh - 1)

/-- Integer square root, by binary digits from bit `i - 1` down. -/
def isqrtFrom (n : Nat) : Nat → Nat → Nat
  | 0, r => r
  | i + 1, r => if (r + 2 ^ i) * (r + 2 ^ i) ≤ n then isqrtFrom n i (r + 2 ^ i) else isqrtFrom n i r

def isqrt (n : Nat) : Nat := isqrtFrom n (blen n) 0

/-- Square root, as `numDiv`: -0 stays -0, a negative operand gives NaN. -/
def numSqrt : Num → Num
  | .nan => .nan
  | .inf a => if a then .nan else .inf false
  | .fin a m e =>
    if m = 0 then .fin a 0 0
    else if a then .nan
    else
      let sh : Nat := 64 + (if e % 2 = 0 then 0 else 1)
      let n := m * 2 ^ sh
      let r := isqrt n
      .fin false (2 * r + (if r * r = n then 0 else 1)) ((e - sh) / 2 - 1)

/-- `a < b` on values that are no NaN. -/
def numLt : Num → Num → Bool
  | .nan, _ => false
  | _, .nan => false
  | .inf a, .inf b => a && !b
  | .inf a, .fin _ _ _ => a
  | .fin _ _ _, .inf b => !b
  | .fin a m e, .fin b k g => scaledInt a m e (min e g) < scaledInt b k g (min e g)

def numIsNan : Num → Bool
  | .nan => true
  | _ => false

/-- An integer as a value. -/
def numOfInt (v : Int) : Num := .fin (v < 0) v.natAbs 0

/-- A value rounded to the nearest integer, ties to even; none for NaN and infinities. -/
def numRne : Num → Option Int
  | .fin n m e => some (if n then -(rneAt m e 0 : Int) else (rneAt m e 0 : Int))
  | _ => none

/-! ### Format codes (11 R246) -/

/-- Bits of an element. -/
def elemBits (fmt : Nat) : Nat :=
  if fmt = 1 || fmt = 5 then 4 else if fmt = 9 || fmt = 10 then 16 else if fmt = 11 || fmt = 12 then 32 else 8

/-- The binary format of a code, where it has one. -/
def fmtOf (fmt : Nat) : Option Fmt :=
  if fmt = 3 || fmt = 6 then some e4m3 else if fmt = 4 || fmt = 7 then some e5m2
  else if fmt = 5 then some e2m1 else if fmt = 9 then some bf16 else if fmt = 10 then some fp16
  else if fmt = 11 then some fp32 else none

def isMx (fmt : Nat) : Bool := 5 ≤ fmt && fmt ≤ 8

/-- The value of an element without its block scale; MXINT8 elements are multiples of 2^-6. -/
def elemNum (fmt code : Nat) : Num :=
  match fmtOf fmt with
  | some f => decodeF f code
  | none =>
    let v := toSigned (elemBits fmt) (code % 2 ^ elemBits fmt)
    if fmt = 8 then .fin (v < 0) v.natAbs (-6) else numOfInt v

/-- The value of an E8M0 scale byte. -/
def scaleNum (b : Nat) : Num := if b = 255 then .nan else .fin false 1 ((b : Int) - 127)

/-- The low and high elements of each byte. -/
def nibbles : Bytes → List Nat
  | [] => []
  | b :: r => b.toNat % 16 :: b.toNat / 16 :: nibbles r

/-- Groups of `n` bytes as numbers, `k` of them. -/
def groups (n : Nat) : Nat → Bytes → List Nat
  | 0, _ => []
  | k + 1, b => leNat (b.take n) :: groups n k (b.drop n)

/-- The element codes packed in a row of bytes. -/
def unpack (fmt : Nat) (b : Bytes) : List Nat :=
  if elemBits fmt = 4 then nibbles b else groups (elemBits fmt / 8) (b.length / (elemBits fmt / 8)) b

def packNibbles : List Nat → Bytes
  | [] => []
  | [a] => [BitVec.ofNat 8 (a % 16)]
  | a :: c :: r => BitVec.ofNat 8 (a % 16 + 16 * (c % 16)) :: packNibbles r

/-- Element codes packed into bytes. -/
def pack (fmt : Nat) (l : List Nat) : Bytes :=
  if elemBits fmt = 4 then packNibbles l else (l.map (leBytes (elemBits fmt / 8))).flatten

/-- A signed integer code of `bits` bits. -/
def intCode (bits : Nat) (v : Int) : Nat := (v % (2 ^ bits : Nat)).toNat

/-- `old + delta` in a table or fabric format (12 R288; 14 R340): integers saturate, FP8 saturates on overflow, wider
formats overflow to infinity. -/
def addElem (fmt a b : Nat) : Nat :=
  match fmtOf fmt with
  | some f => encodeF f (elemBits fmt = 8) (numAdd (decodeF f a) (decodeF f b))
  | none =>
    let n := elemBits fmt
    intCode n (satInt n (toSigned n a + toSigned n b))

/-- Elementwise `addElem` over bytes. -/
def addRow (fmt : Nat) (old delta : Bytes) : Bytes :=
  pack fmt (List.zipWith (addElem fmt) (unpack fmt old) (unpack fmt delta))

/-- FP32 operations on codes. -/
def f32add (a b : Nat) : Nat := encodeF fp32 false (numAdd (decodeF fp32 a) (decodeF fp32 b))
def f32mul (a b : Nat) : Nat := encodeF fp32 false (numMul (decodeF fp32 a) (decodeF fp32 b))

end Sys2Proof.Machine
end

