-- ==== Sys2Proof/Machine/Tower.lean ====
section
/-! DEFINITION. Tower.lean: tower layout and decode, line operations with code and poison, row caches, and the deep
ports' addresses (08). -/

namespace Sys2Proof.Machine

/-! ### Layout (08 R170 to R172) -/

def gib : Nat := 2 ^ 30
def granuleBytes : Nat := 2 ^ 23
/-- Bytes of a channel. -/
def chanBytes : Nat := Config.granules * granuleBytes

def rcOf (s : State) (k : Nat) : Nat := vget s.tw.rc k 0

/-- O_k: granules of the OCTANT partition of tower k in each of its channels (08 R170). -/
def octG (s : State) (k : Nat) : Nat := Config.granules - 1 - s.tw.fullG - s.tw.quadG - 8 * rcOf s k

/-- Bytes of the OCTANT partition of tower k. -/
def octBytes (s : State) (k : Nat) : Nat := octG s k * 16 * granuleBytes

/-- Base DPA of the OCTANT partition of tower k (08 R172). -/
def octBase (s : State) (k : Nat) : Nat := gib + ((List.range k).map (octBytes s)).sum

def quadBytes (s : State) : Nat := s.tw.quadG * 64 * granuleBytes
def quadBase (s : State) (h : Nat) : Nat := octBase s 8 + h * quadBytes s
def fullBytes (s : State) : Nat := s.tw.fullG * 128 * granuleBytes
def fullBase (s : State) : Nat := quadBase s 2

/-- End of the tower DPA space. -/
def dpaEnd (s : State) : Nat := fullBase s + fullBytes s

/-- The partition a tower DPA lies in, with the offset from its base. -/
inductive Region where
  | reserve (x : Nat)
  | octant (k x : Nat)
  | quad (h x : Nat)
  | full (x : Nat)
  | beyond
deriving DecidableEq, Repr

def regionOf (s : State) (dpa : Nat) : Region :=
  if dpa < gib then .reserve dpa
  else match (List.range 8).find? fun k => octBase s k ≤ dpa && dpa < octBase s k + octBytes s k with
    | some k => .octant k (dpa - octBase s k)
    | none =>
      match (List.range 2).find? fun h => quadBase s h ≤ dpa && dpa < quadBase s h + quadBytes s with
      | some h => .quad h (dpa - quadBase s h)
      | none =>
        if fullBase s ≤ dpa && dpa < dpaEnd s then .full (dpa - fullBase s) else .beyond

/-- REGION code of a POISON event (08 R192). -/
def regionCode : Region → Nat
  | .reserve _ => 0
  | .octant _ _ => 1
  | .quad _ _ => 2
  | .full _ => 3
  | .beyond => 3

/-- Channel and offset in the channel of a tower DPA (08 R170, R174); none beyond the end. -/
def decodeDpa (s : State) (dpa : Nat) : Option (Nat × Nat) :=
  match regionOf s dpa with
  | .reserve x => some (16 * (x / 256 % 8) + x / 256 / 8 % 16, x / 256 / 128 * 256 + x % 256)
  | .octant k x => some (16 * k + x / 256 % 16, granuleBytes + (x / 256 / 16 * 256 + x % 256))
  | .quad h x =>
    let c := 64 * h + 16 * (x / 256 % 4) + x / 256 / 4 % 16
    some (c, (1 + octG s (c / 16)) * granuleBytes + (x / 256 / 64 * 256 + x % 256))
  | .full x =>
    let c := 16 * (x / 256 % 8) + x / 256 / 8 % 16
    some (c, (1 + octG s (c / 16) + s.tw.quadG) * granuleBytes + (x / 256 / 128 * 256 + x % 256))
  | .beyond => none

/-- The cell address of a tower DPA: channel by channel. -/
def cellOf (s : State) (dpa : Nat) : Option Nat := (decodeDpa s dpa).map fun c => c.1 * chanBytes + c.2

/-- The tower of a DPA. -/
def towerOf (s : State) (dpa : Nat) : Nat := match decodeDpa s dpa with
  | some c => c.1 / 16
  | none => 0

/-- The DPA of a cell; none in a row cache's granules: the inverse of the channel decode. -/
def dpaOfCell (s : State) (cell : Nat) : Option Nat :=
  let c := cell / chanBytes
  let off := cell % chanBytes
  let k := c / 16
  let o := octG s k
  let x (base unit idx : Nat) := ((off - base) / 256 * unit + idx) * 256 + off % 256
  if off < granuleBytes then some (x 0 128 (c / 16 + 8 * (c % 16)))
  else if off < (1 + o) * granuleBytes then some (octBase s k + x granuleBytes 16 (c % 16))
  else if off < (1 + o + s.tw.quadG) * granuleBytes then
    some (quadBase s (c / 64) + x ((1 + o) * granuleBytes) 64 (c / 16 % 4 + 4 * (c % 16)))
  else if off < (1 + o + s.tw.quadG + s.tw.fullG) * granuleBytes then
    some (fullBase s + x ((1 + o + s.tw.quadG) * granuleBytes) 128 (c / 16 + 8 * (c % 16)))
  else none

/-! ### Poison (08 R182 to R186) -/

/-- A POISON event of a tower line: SEVERITY 2 in the firmware reserve (08 R186, R192). -/
def poisonEvent (s : State) (source dpa : Nat) : State :=
  let c := ((decodeDpa s dpa).map fun c => c.1).getD 0
  event s 0x0001 (if dpa < gib then 2 else 1)
    (layout 16 [(0, 1, 0), (1, 1, source), (2, 1, c / 16), (3, 1, c), (4, 1, regionCode (regionOf s dpa)),
      (8, 8, dpa / 64 * 64)])

def isPoisoned (s : State) (cell : Nat) : Bool := s.tw.poison.contains (cell / 64)

def setPoison (s : State) (cell : Nat) (v : Bool) : State :=
  { s with tw := { s.tw with
    poison := if v then insertNat s.tw.poison (cell / 64) else s.tw.poison.filter (· != cell / 64) } }

def storeCells (s : State) (cell : Nat) (data : Bytes) : State :=
  { s with tw := { s.tw with cells := memWrite s.tw.cells cell data } }

/-- The contents of a line are lost: its bytes are free values (log 5). -/
def loseLine (s : State) (cell : Nat) : State :=
  let (b, s) := takeFreeBytes s 64
  storeCells s (cell / 64 * 64) b

/-- What the controller code found when line `dpa` was read (08 R182): a corrected line counts; an uncorrectable
error loses and poisons the line, counts and raises one event. A line already poisoned raises nothing more. -/
def lineCheck (s : State) (dpa cell : Nat) (err : LineErr) (source : Nat) : State :=
  let k := cell / chanBytes / 16
  match err with
  | .none => s
  | .corrected => if isPoisoned s cell then s else { s with tw := { s.tw with ce := vmod s.tw.ce k (· + 1) } }
  | .uncorrectable =>
    if isPoisoned s cell then s
    else
      let s := setPoison (loseLine { s with tw := { s.tw with ue := vmod s.tw.ue k (· + 1) } } cell) cell true
      poisonEvent s source dpa

/-! ### Line operations (08 R175, R182, R185) -/

/-- What the code found in the line of `a`, by line number. -/
def errOf (errs : List (Nat × LineErr)) (a : Nat) : LineErr :=
  ((errs.find? fun e => e.1 = a / 64).map fun e => e.2).getD .none

/-- A read within one tower line: bytes and poison. Beyond the end it reads zero (08 R172). -/
def towerRead (s : State) (dpa n : Nat) (err : LineErr) (source : Nat) : State × Bytes × Bool :=
  match cellOf s dpa with
  | none => (s, zeros n, false)
  | some cell =>
    let s := lineCheck s dpa cell err source
    (s, memRead s.tw.cells cell n, isPoisoned s cell)

/-- A write within one tower line; false where it is not applied. A whole line is stored with a fresh code and clears
poison; a write of less than the line reads it first, and is not applied to a poisoned line (08 R175, R185). With
`mark` the line written is marked as poison. -/
def towerWrite (s : State) (dpa : Nat) (data : Bytes) (mark : Bool) (err : LineErr) : State × Bool :=
  match cellOf s dpa with
  | none => (s, true)
  | some cell =>
    if data.length = 64 then (setPoison (storeCells s cell data) cell mark, true)
    else
      let s := lineCheck s dpa cell err 0
      if isPoisoned s cell then (s, false)
      else (setPoison (storeCells s cell data) cell mark, true)

/-- An atomic add within one tower line (08 R185, 12 R288). -/
def towerAdd (s : State) (dpa : Nat) (fmt : Nat) (delta : Bytes) (err : LineErr) : State × Bool :=
  match cellOf s dpa with
  | none => (s, true)
  | some cell =>
    let s := lineCheck s dpa cell err 0
    if isPoisoned s cell then (s, false)
    else (storeCells s cell (addRow fmt (memRead s.tw.cells cell delta.length) delta), true)

/-! ### The shared-line window (06 R125, R127) -/

/-- A line of the shared-line window. -/
def inWindow (s : State) (dpa : Nat) : Bool :=
  s.hl.cohMode = 2 && s.hl.winBase.toNat ≤ dpa && dpa < s.hl.winBase.toNat + s.hl.winUnits.toNat * 2 ^ 28

/-- Before a device agent's access to a window line the tower controller snoops the host, where the link can
back-invalidate, which takes the line back (06 R125; log 31). -/
def snoop (s : State) (dpa : Nat) : State :=
  if inWindow s dpa && s.hl.link.bi then
    emit { s with hl := { s.hl with held := s.hl.held.filter (· != dpa / 64) } } (.backInval (dpa / 64 * 64))
  else s

/-- The host has taken a window line since it was last snooped: an access of the device snoops it again first (06 R125). -/
def hostHolds (s : State) (dpa : Nat) : Bool := inWindow s dpa && s.hl.link.bi && s.hl.held.contains (dpa / 64)

/-- The host takes a line of the window (06 R124, R125). -/
def hostTakes (s : State) (dpa : Nat) : State :=
  if inWindow s dpa then { s with hl := { s.hl with held := insertNat s.hl.held (dpa / 64) } } else s

/-! ### Deep ports (08 R176 to R179) -/

def dport (s : State) (p : Nat) : DeepPort := vget s.tw.ports p DeepPort.reset

/-- CAP_p in bytes. -/
def capBytes (s : State) (p : Nat) : Nat := (dport s p).capU * 2 ^ 28

/-- Port and port offset of a backed deep DPA (08 R178). -/
def deepPort (s : State) (a : Nat) : Option (Nat × Nat) :=
  if s.tw.interleave then
    let m := min (min (capBytes s 0) (capBytes s 1)) (min (capBytes s 2) (capBytes s 3))
    if a < 4 * m then some (a / 4096 % 4, a / 16384 * 4096 + a % 4096) else none
  else
    let p := a / 2 ^ 42
    if p < 4 && (dport s p).enabled && a % 2 ^ 42 < capBytes s p then some (p, a % 2 ^ 42) else none

/-- The port's link serves requests: enabled, up, domain PD03 on. -/
def portUp (s : State) (p : Nat) : Bool := (dport s p).up && domainOn s 3

/-- A POISON event of a deep line, unless one was raised for it within 1 s (08 R184). -/
def deepPoisonEvent (s : State) (source p dpa : Nat) : State :=
  let line := dpa / 64
  let recent := s.tw.recent.filter fun r => !since s r.2 (msUp 1000)
  let s' : State := { s with tw := { s.tw with recent := recent } }
  if recent.any fun r => r.1 = line then s'
  else event { s' with tw := { s'.tw with recent := (line, s.tb.up) :: recent } } 0x0001 1
    (layout 16 [(0, 1, 1), (1, 1, source), (2, 1, p), (3, 1, 0xFF), (4, 1, 4), (8, 8, dpa / 64 * 64)])

/-! ### Retired blocks (08 R187) -/

def retiredBlock (s : State) (cell : Nat) : Bool := s.tw.retPages.any fun p => p.contains (cell / 256)

/-- The 256-byte channel blocks of the 4 KiB tower page at `dpa`. -/
def pageBlocks (s : State) (dpa : Nat) : List Nat :=
  (List.range 16).filterMap fun i => (cellOf s (dpa + 256 * i)).map fun c => c / 256

/-- RETIRED_PAGES. -/
def retiredCount (s : State) : Nat := s.tw.retPages.length + s.tw.retDeep.length

/-- A 4 KiB page of a tower or deep target includes a retired block or page. -/
def pageRetired (s : State) (deep : Bool) (a : Nat) : Bool :=
  if deep then match deepPort s a with
    | some p => s.tw.retDeep.contains (p.1, p.2 / 4096 * 4096)
    | none => false
  else (pageBlocks s (a / 4096 * 4096)).any fun b => s.tw.retPages.any fun p => p.contains b

/-- The deep DPA of a port and port offset under the configuration in force. -/
def deepDpaOf (s : State) (p off : Nat) : Nat :=
  if s.tw.interleave then (off / 4096 * 4 + p) * 4096 + off % 4096 else p * 2 ^ 42 + off

/-- A target range includes a retired block (08 R187). -/
def rangeRetired (s : State) (deep : Bool) (a len : Nat) : Bool :=
  if deep then s.tw.retDeep.any fun q => a ≤ deepDpaOf s q.1 q.2 && deepDpaOf s q.1 q.2 < a + len
  else s.tw.retPages.any fun p => p.any fun b => (dpaOfCell s (b * 256)).any fun d => a ≤ d && d < a + len

end Sys2Proof.Machine
end

