-- ==== Sys2Proof/Machine/Access.lean ====
section
/-! DEFINITION. Access.lean: translation, the caches of translations, and the life of a line access from issue to
end (07 R146 to R157, 08 R175 to R185). -/

namespace Sys2Proof.Machine

/-! ### Translation entries (07 R149) -/

/-- Page size by SIZE code. -/
def sizeBytes (code : Nat) : Nat := if code = 0 then 2 ^ 12 else if code = 1 then 2 ^ 16 else if code = 2 then 2 ^ 21 else 2 ^ 30

def MapEnt.bit (e : MapEnt) (i : Nat) : Bool := e.w0.getLsbD i
def MapEnt.fld (e : MapEnt) (hi lo : Nat) : Nat := bitsAt e.w0.toNat hi lo
def MapEnt.size (e : MapEnt) : Nat := sizeBytes (e.fld 11 10)
def MapEnt.tier (e : MapEnt) : Nat := e.fld 7 6

/-- The entry maps address `dva` of context `ctx`. -/
def MapEnt.covers (e : MapEnt) (ctx dva : Nat) : Bool := e.ctx = ctx && e.dva ≤ dva && dva < e.dva + e.size

/-- The entry's page meets the range. -/
def MapEnt.meets (e : MapEnt) (ctx dva len : Nat) : Bool := e.ctx = ctx && e.dva < dva + len && dva < e.dva + e.size

/-- Where the entry takes an address of its page. -/
def MapEnt.at_ (e : MapEnt) (dva : Nat) : Nat := e.addr.toNat + (dva - e.dva)

def findMap (s : State) (ctx dva : Nat) : Option MapEnt := s.xl.maps.find? fun e => e.covers ctx dva

/-- A walk of the address reads a poisoned line: where in the firmware reserve the store's tables lie is not given
(08 R173, R186; log 5). -/
def walkPoisoned (s : State) (ctx dva : Nat) : Bool :=
  s.tw.poison.any fun l => l * 64 % chanBytes < granuleBytes && (Config.walkLines s.tb.up ctx dva).contains l

/-! ### TLBs (07 R156, R158) -/

/-- The number of a stream's first-level TLB. -/
def streamKey : Stream → Nat
  | .thread c t => 4 * c + t
  | .dma c ch => 128 + 4 * c + ch
  | .engine k => 256 + k
  | .remote k => 264 + k
  | .sched => 272
  | .firmware => 273

/-- Entries of a stream's first-level TLB. -/
def l1Cap : Stream → Nat
  | .thread _ _ => 16
  | .dma _ _ => 16
  | .engine _ => 64
  | .remote _ => 32
  | .sched => 32
  | .firmware => 0

/-- The STREAM field of a fault report (07 R167). -/
def streamCode : Stream → Nat
  | .thread c _ => c
  | .dma c _ => 32 + c
  | .engine k => 64 + k
  | .remote k => 96 + k
  | .sched => 128
  | .firmware => 160

def l1Of (s : State) (st : Stream) : List TlbEnt := (tget s.xl.l1 (streamKey st)).getD []
def l2Of (s : State) (k : Nat) : List TlbEnt := vget s.xl.l2 k []

/-- A translation held with the slot of the request whose stage runs on core `n` (07 R159). -/
def slotFind (s : State) (n ctx dva : Nat) : Option MapEnt :=
  s.sch.slots.findSome? fun x =>
    if x.2.core.any (fun k => k = n || (isBridled s n && k = n / 2 * 2)) then x.2.pages.find? fun e => e.covers ctx dva
    else none

/-- A cached translation, first level then second, or one held with the request (07 R157, R159). -/
def tlbFind (s : State) (st : Stream) (k ctx dva : Nat) : Option MapEnt :=
  match (l1Of s st).find? fun e => e.ent.covers ctx dva with
  | some e => some e.ent
  | none => match (l2Of s k).find? fun e => e.ent.covers ctx dva with
    | some e => some e.ent
    | none => match st with
      | .dma n _ => slotFind s n ctx dva
      | .thread n _ => slotFind s n ctx dva
      | _ => none

/-- An entry becomes the most recently used of a first-level TLB; the least recently used one goes (07 R156; log 25). -/
def tlbPut (cap : Nat) (l : List TlbEnt) (e : MapEnt) : List TlbEnt :=
  (⟨e, false⟩ :: l.filter fun x => x.ent != e).take cap

/-- The set of a second-level TLB that an entry belongs to (07 R156). -/
def tlbSetOf (e : MapEnt) : Nat := Config.tlbSet e.ctx e.dva % 1024

/-- An entry becomes the most recently used of its set of 8; of a full set the least recently used one that is not
pinned goes, and where all are pinned it is not installed (07 R156, R158; log 25). A TLB of fewer than 8 entries has no
full set. -/
def tlbInstall (l : List TlbEnt) (e : MapEnt) : List TlbEnt :=
  let x : TlbEnt := ⟨e, l.any fun x => x.ent == e && x.pinned⟩
  let l := l.filter fun x => x.ent != e
  if l.length < 8 then x :: l
  else
    let set := l.filter fun y => tlbSetOf y.ent = tlbSetOf e
    if set.length < 8 then x :: l
    else match set.reverse.find? fun y => !y.pinned with
      | some v => x :: l.filter fun y => y != v
      | none => l

def l2Put (s : State) (k : Nat) (e : MapEnt) : State :=
  { s with xl := { s.xl with l2 := vmod s.xl.l2 k fun l => tlbInstall l e } }

/-- A used translation fills or refreshes its stream's TLB and its octant's. -/
def tlbUse (s : State) (st : Stream) (k : Nat) (e : MapEnt) : State :=
  let s := l2Put s k e
  { s with xl := { s.xl with l1 := tput s.xl.l1 (streamKey st) (tlbPut (l1Cap st) (l1Of s st) e) } }

/-- Cached translations whose entry satisfies `f` are removed, pins included. -/
def tlbDrop (s : State) (f : MapEnt → Bool) : State :=
  let held (x : Nat × Slot) : Nat × Slot := (x.1, { x.2 with pages := x.2.pages.filter fun e => !f e })
  { s with
    xl := { s.xl with
      l1 := s.xl.l1.map fun t => (t.1, t.2.filter fun e => !f e.ent)
      l2 := s.xl.l2.map fun l => l.filter fun e => !f e.ent }
    sch := { s.sch with slots := s.sch.slots.map held } }

/-! ### One line access -/

def accOf (s : State) (id : Nat) : Option Access := tget s.acc id

def accMod (s : State) (id : Nat) (f : Access → Access) : State := { s with acc := tmod s.acc id f }

def accStage (s : State) (id : Nat) (g : AccStage) : State := accMod s id fun a => { a with stage := g }

/-- An access ends; one without an owner is forgotten. -/
def accEnd (s : State) (id : Nat) (g : AccStage) : State :=
  if (accOf s id).any fun a => a.owner == .gone then { s with acc := tdel s.acc id }
  else accMod s id fun a => { a with
    stage := g
    endAt := s.tb.up }

/-- An access fails; a fault in an update stream's ring is an event (07 R167). -/
def accFail (s : State) (id : Nat) (why : AccFail) : State :=
  let s' := accEnd s id (.failed why)
  match accOf s id, why with
  | some a, .xlate k =>
    match a.owner with
    | .ring _ => event s' 0x0009 1 (xlateFaultData a.ctx k.toNat (streamCode a.stream) a.dva)
    | _ => s'
  | _, _ => s'

def AccKind.isRead : AccKind → Bool
  | .read => true
  | _ => false

def Access.full (a : Access) : Bool := a.len = 64

/-- It has left for its target with the translation it was given. -/
def AccStage.issued : AccStage → Bool
  | .rowCache _ => true
  | .deep _ _ _ => true
  | .deepWb _ _ _ => true
  | .tower _ => true
  | .host _ => true
  | .remote _ => true
  | .ats => true
  | .stalled _ _ _ => true
  | _ => false

/-- It has ended. -/
def AccStage.ended : AccStage → Bool
  | .done => true
  | .failed _ => true
  | _ => false

/-- Advice in force on an address: 2 prefer, 3 bypass (07 R165). -/
def adviceAt (s : State) (ctx dva kind : Nat) : Bool :=
  s.xl.advice.any fun a => a.kind.toNat = kind && a.ctx = ctx && a.dva ≤ dva && dva < a.dva + a.len

/-! ### Row caches (08 R180, R181, R187; log 25) -/

/-- Sets of row cache k; a cache whose octant is switched off has none. -/
def rcSets (s : State) (k : Nat) : Nat := if domainOn s (6 + k) then rcOf s k * 2 ^ 22 else 0

/-- The set of row cache k that a deep line belongs to. -/
def rcSetOf (s : State) (k line : Nat) : Nat := Config.rcSet (rcOf s k) line % rcSets s k

/-- The cell of a way of a set: a line of the row cache's granules, the last of each channel of tower k (08 R170). -/
def rcCell (s : State) (k set way : Nat) : Nat :=
  let per := 8 * rcOf s k * granuleBytes / 64
  let i := Config.rcPlace (rcOf s k) set way % (16 * per)
  (16 * k + i / per) * chanBytes + (Config.granules - 8 * rcOf s k) * granuleBytes + i % per * 64

/-- A set whose cells include a retired block is disabled (08 R187). -/
def rcDisabled (s : State) (k set : Nat) : Bool :=
  !s.tw.retPages.isEmpty && (List.range 4).any fun w => retiredBlock s (rcCell s k set w)

/-- The sector of row cache k that holds the line of a deep DPA. -/
def rcHas (s : State) (k dpa : Nat) : Option RcSector :=
  ((vget s.tw.rcs k []).find? fun x => x.line = dpa / 64).filter fun _ => !rcDisabled s k (rcSetOf s k (dpa / 64))

/-- A deep line carries ROWCACHE_PREFER advice now (07 R165). -/
def linePrefer (s : State) (line : Nat) : Bool :=
  s.xl.maps.any fun e => e.tier = 1 && e.addr.toNat ≤ line * 64 && line * 64 < e.addr.toNat + e.size
    && adviceAt s e.ctx (e.dva + (line * 64 - e.addr.toNat)) 2

/-- The sector a full set gives up: the least recently used that is not preferred, or of all (08 R180). -/
def rcVictim (s : State) (l : List RcSector) : Option RcSector :=
  (l.reverse.find? fun x => !linePrefer s x.line) <|> l.getLast?

/-- Room in a set for one more sector: the sectors kept, and the way. -/
def rcRoom (s : State) (k set : Nat) (l : List RcSector) : List RcSector × Nat :=
  let mine := if l.length = 0 then [] else l.filter fun x => rcSetOf s k x.line = set
  match (List.range 4).find? fun w => mine.all fun x => x.way != w with
  | some w => (l, w)
  | none => match rcVictim s mine with
    | some v => (l.filter fun x => x.line != v.line, v.way)
    | none => (l, 0)

/-- A sector is placed, most recently used first; its cells hold the line (08 R180). -/
def rcFill (s : State) (k dpa : Nat) (data : Bytes) : State :=
  let set := rcSetOf s k (dpa / 64)
  if rcSets s k = 0 || rcDisabled s k set then s
  else
    let l : List RcSector := vget s.tw.rcs k []
    let r : List RcSector × Nat := match l.find? fun x => x.line = dpa / 64 with
      | some x => (l.filter fun y => y.line != x.line, x.way)
      | none => rcRoom s k set l
    let cell := rcCell s k set r.2
    let s := setPoison (storeCells s cell data) cell false
    { s with tw := { s.tw with rcs := vmod s.tw.rcs k fun _ => ⟨dpa / 64, r.2, data⟩ :: r.1 } }

/-- A served sector becomes the most recently used. -/
def rcTouch (s : State) (k : Nat) (x : RcSector) : State :=
  { s with tw := { s.tw with rcs := vmod s.tw.rcs k fun l => x :: l.filter fun (y : RcSector) => y.line != x.line } }

/-- The sectors whose deep DPA satisfies `f` leave every row cache. -/
def rcDropIf (s : State) (f : Nat → Bool) : State :=
  { s with tw := { s.tw with rcs := s.tw.rcs.map fun l => l.filter fun x => !f (x.line * 64) } }

/-- A line leaves row cache k for an uncorrectable error; its cells hold free values (08 R191; log 5). -/
def rcDropErr (s : State) (k : Nat) (x : RcSector) : State :=
  let s := loseLine s (rcCell s k (rcSetOf s k x.line) x.way)
  { s with tw := { s.tw with
    rcs := vmod s.tw.rcs k fun l => l.filter fun (y : RcSector) => y.line != x.line
    rcDrop := vmod s.tw.rcDrop k (· + 1) } }

/-! ### Holds and translation of one access -/

/-- OP_MIGRATE holds device writes to this page (07 R163). -/
def migHolds (s : State) (ctx dva : Nat) : Bool :=
  s.xl.migrations.any fun m => match m.2.pages with
    | e :: _ => 1 ≤ m.2.phase && e.covers ctx dva
    | [] => false

/-- What translation says of an access. -/
inductive Xl where
  | fault (kind : Nat)
  /-- held until confirmation (07 R153) -/
  | pause
  | hold
  | miss
  | go (e : MapEnt)
deriving DecidableEq, Repr

/-- Translation of an access (07 R146, R153, R155, R163, R166). -/
def xlate (s : State) (a : Access) : Xl :=
  if 2 ^ 46 ≤ a.dva then .fault 1
  else match tlbFind s a.stream a.oct a.ctx a.dva with
    | none => .miss
    | some e =>
      if a.kind.isRead && !e.bit 1 then .fault 3
      else if !a.kind.isRead && !e.bit 2 then .fault 4
      else if a.peer && !e.bit 5 then .fault 2
      else if a.spec && (!a.kind.isRead || 2 ≤ e.tier || !e.bit 3 || (e.tier = 0 && inWindow s (e.at_ a.dva))) then .pause
      else if !a.kind.isRead && migHolds s a.ctx a.dva then .hold
      else .go e

/-! ### Deep memory -/

/-- A deep read ends as poison, its bytes free values (08 R184; log 5). -/
def poisonRead (s : State) (id : Nat) (a : Access) : State :=
  let (b, s) := takeFreeBytes s a.len
  accEnd (accMod s id fun a => { a with
    data := b
    poison := true }) id .done

/-- A deep request ends by timeout or link loss: a read as poison, a write as a memory error with the line's
contents unknown (08 R179, R184). -/
def deepLost (s : State) (id p dpa : Nat) (a : Access) : State :=
  let s := { s with tw := { s.tw with deepTimeout := vmod s.tw.deepTimeout p (· + 1) } }
  if a.kind.isRead then poisonRead (deepPoisonEvent s 4 p dpa) id a
  else accFail (rcDropIf s fun x => x = dpa / 64 * 64) id .memory

/-- A read-modify-write at the port. -/
def Access.rmw (a : Access) : Bool := match a.kind with
  | .read => false
  | .write => !a.full
  | .add _ => true

/-- Requests that hold a tag of port `p`. -/
def portTags (s : State) (p : Nat) : List (Nat × Nat) :=
  s.acc.filterMap fun x => match x.2.stage with
    | .deep d true _ => if (deepPort s d).any (fun q => q.1 = p) then some (x.1, d / 64) else none
    | .deepWb d _ _ => if (deepPort s d).any (fun q => q.1 = p) then some (x.1, d / 64) else none
    | _ => none

/-- The request waiting for a tag of port `p` that arrived first (08 R179). -/
def portNext (s : State) (p : Nat) : Option (Nat × Nat × Access) :=
  (s.acc.foldl (fun (b : Option (Nat × Nat × Nat × Access)) x => match x.2.stage with
    | .deep d false n =>
      if (deepPort s d).any (fun q => q.1 = p) && b.all (fun b => n < b.1) then some (n, x.1, d, x.2) else b
    | _ => b) none).map fun b => b.2

/-- Waiting requests enter port `p` in arrival order while tags are free; accesses to one line are serialised (08 R175,
R179). -/
def pumpDeep : Nat → State → Nat → State
  | 0, s, _ => s
  | fuel + 1, s, p =>
    match portNext s p with
    | none => s
    | some (id, d, a) =>
      if !portUp s p then pumpDeep fuel (deepLost s id p d a) p
      else
        let tags := portTags s p
        if 512 ≤ tags.length || tags.any (fun t => t.2 = d / 64) then s
        else
          let off := ((deepPort s d).map fun q => q.2).getD 0 / 64 * 64
          let w := if a.kind = .write && a.full then some a.data else none
          let s := emit (accStage s id (.deep d true (s.tb.up + msUp 1))) (.deepReq p off w)
          pumpDeep fuel s p

def pumpPort (s : State) (p : Nat) : State := pumpDeep (s.acc.length + 1) s p

/-- Every port takes up waiting requests. -/
def pumpPorts (s : State) : State := (List.range 4).foldl pumpPort s

/-- An access goes to deep DPA `d`, through its row cache if it is a device agent's read (08 R180). Poisoned data are
not written to deep memory: a memory error (log 35). -/
def deepIssue (s : State) (id d : Nat) (a : Access) : State :=
  if !a.kind.isRead && a.poison then accFail s id .memory
  else if a.kind.isRead && a.stream != .firmware && (rcHas s a.oct d).isSome then accStage s id (.rowCache d)
  else match deepPort s d with
    | none => deepLost s id 0 d a
    | some (p, _) =>
      let n := s.tw.arrivals
      pumpPort (accStage { s with tw := { s.tw with arrivals := n + 1 } } id (.deep d false n)) p

/-! ### Host and remote memory -/

/-- Relaxed Ordering may be set: DMA payload alone, which request outputs are (06 R128). -/
def AccOwner.mayRelax : AccOwner → Bool
  | .dma _ _ _ => true
  | _ => false

/-- How a write of host memory is sent (06 R124, R139). -/
def writeHow (s : State) (a : Access) : HostHow :=
  if !byCache s then .plain s.hl.cfg.atsEn else if a.full then .itoMWr else .wrCur

/-- A write to host memory leaves, poison as EP (06 R432, 08 R185, 11 R267): a posted one is done once issued, one by
CXL.cache at its GO (06 R130). -/
def hostOut (s : State) (id addr : Nat) (a : Access) : State :=
  if !hostUp s then accFail s id .memory
  else
    let s := emit s (.hostWrite addr a.data (s.hl.cfg.roEn && a.owner.mayRelax && !byCache s) a.poison (writeHow s a)
      (pasidOf s a.ctx))
    if byCache s then
      let (tag, s) := recordRead s (.go id) addr a.len (pasidOf s a.ctx) true
      accStage s id (.host tag)
    else accEnd s id .done

/-- A write to host address `addr`, through the address translation cache (06 R139, R141). -/
def hostPut (s : State) (id addr : Nat) (a : Access) : State :=
  match atcFind s (pasidOf s a.ctx) addr true with
  | .ok t => hostOut s id t a
  | .denied => accFail (setInt s 3) id (.xlate 5)
  | .miss =>
    if !hostUp s then accFail s id .memory
    else atsAsk (accStage s id .ats) (.access id) (pasidOf s a.ctx) addr true

/-- A read of host address `addr`. -/
def hostGet (s : State) (id addr : Nat) (a : Access) : State :=
  if hostUp s && atcFind s (pasidOf s a.ctx) addr false = .denied then accFail (setInt s 3) id (.xlate 5)
  else match hostRead s (.access id) addr a.len a.ctx with
    | (none, s) => accFail s id .memory
    | (some tag, s) => accStage s id (.host tag)

/-- The sum of what host memory held and the delta goes back (12 R288; log 33). -/
def addBytes (a : Access) (old : Bytes) : Bytes := match a.kind with
  | .add fmt => addRow fmt.toNat old a.data
  | _ => a.data

/-- A read of host address `addr` for an access ends (06 R432): data, or none for a failure. -/
def hostReadEnd (s : State) (id addr : Nat) (data : Option Bytes) : State :=
  match accOf s id, data with
  | none, _ => s
  | some _, none => accFail s id .memory
  | some a, some d =>
    if a.kind.isRead then accEnd (accMod s id fun a => { a with data := d.take a.len }) id .done
    else
      let b := { a with
        kind := .write
        data := addBytes a (d.take a.len) }
      hostPut (accMod s id fun _ => b) id addr b

/-- GO of an access's write by CXL.cache, or its failure (06 R130, R432). -/
def hostGo (s : State) (id : Nat) (ok : Bool) : State := if ok then accEnd s id .done else accFail s id .memory

/-- A Ratline request for a line of a REMOTE page (07 R152, 14 R340). -/
def remotePut (s : State) (id : Nat) (chip inc : Half) (g : Dword) (a : Access) : State :=
  let r := match a.kind with
    | .read => (opRead, (0 : Nat), leBytes 4 a.len)
    | .write => (opWrite, b2n a.poison, a.data)
    | .add fmt => (opAdd, 16 * (fmt.toNat % 16), a.data)
  match sendRequest s r.1 (BitVec.ofNat 8 r.2.1) 1 chip inc g a.deadline [r.2.2] (.access id) with
  | (.noRoute, s) => accFail s id (.xlate 6)
  | (.stalled, s) => accStage s id (.stalled chip inc g)
  | (.sent t, s) => accStage s id (.remote t)

/-- The global address of an address in a REMOTE page (07 R152, R154). -/
def remoteAddr (e : MapEnt) (dva : Nat) : Dword :=
  BitVec.ofNat 64 (e.at_ dva % 2 ^ 46 + e.fld 33 28 * 2 ^ 46 + e.fld 27 16 * 2 ^ 52)

/-- A translated access goes to its tier (07 R152). -/
def issueAt (s : State) (id : Nat) (a : Access) (e : MapEnt) : State :=
  let pa := e.at_ a.dva
  match e.tier with
  | 0 => snoop (accStage s id (.tower pa)) pa
  | 1 => deepIssue s id pa a
  | 2 => if a.kind = .write then hostPut s id pa a else hostGet s id pa a
  | _ => remotePut s id (BitVec.ofNat 16 (e.fld 27 16)) (BitVec.ofNat 16 (e.fld 49 34)) (remoteAddr e a.dva) a

/-- Earlier misses of the access's stream that wait for their walk. -/
def missesBefore (s : State) (id : Nat) (st : Stream) : Nat :=
  (s.acc.filter fun x => x.1 < id && x.2.stage == .walk && x.2.stream == st).length

/-- An access is translated and goes on as far as it can. Behind a ninth miss of its stream it waits with the misses
(07 R157; log 25). -/
def issue (s : State) (id : Nat) : State :=
  match accOf s id with
  | none => s
  | some a =>
    if 9 ≤ missesBefore s id a.stream then accStage s id .walk
    else match xlate s a with
    | .fault k => accFail s id (.xlate (BitVec.ofNat 8 k))
    | .pause => accStage s id .paused
    | .hold => accStage s id .held
    | .miss => accStage s id .walk
    | .go e => issueAt (tlbUse s a.stream a.oct e) id a e

/-- A range cut at 64-byte lines: offset and length of each piece (08 R175). -/
def lineCuts : Nat → Nat → Nat → Nat → List (Nat × Nat)
  | 0, _, _, _ => []
  | fuel + 1, addr, off, len =>
    if len = 0 then []
    else
      let n := min len (64 - (addr + off) % 64)
      (off, n) :: lineCuts fuel addr (off + n) (len - n)

def addAccess (s : State) (a : Access) : Nat × State :=
  (s.nextAcc, { s with
    acc := s.acc ++ [(s.nextAcc, a)]
    nextAcc := s.nextAcc + 1 })

/-- An access of any length is split into line accesses, each issued (08 R175); `dest` advances with the bytes. -/
def startAccess (s : State) (a : Access) : State :=
  (lineCuts (a.len + 1) a.dva 0 a.len).foldl (fun s c =>
    let (id, s) := addAccess s { a with
      dva := a.dva + c.1
      len := c.2
      data := (a.data.drop c.1).take c.2
      dest := a.dest + c.1
      stage := .walk }
    issue s id) s

/-- A physical line access of firmware: no translation. -/
def startPhys (s : State) (a : Access) (deep : Bool) (pa : Nat) : State :=
  let (id, s) := addAccess s a
  if deep then deepIssue s id pa a else snoop (accStage s id (.tower pa)) pa

/-- The plain access that the owners fill in. -/
def mkAccess (owner : AccOwner) (stream : Stream) (oct ctx dva len : Nat) (kind : AccKind) (data : Bytes) : Access :=
  { owner := owner, stream := stream, oct := oct, ctx := ctx, dva := dva, len := len, kind := kind, data := data,
    dest := 0, poison := false, spec := false, peer := false, deadline := noDeadline, stage := .walk, endAt := 0 }

/-- The accesses of an owner, by number. -/
def accsOf (s : State) (f : AccOwner → Bool) : List (Nat × Access) := s.acc.filter fun x => f x.2.owner

/-- The accesses of an owner are forgotten. -/
def accDrop (s : State) (f : AccOwner → Bool) : State := { s with acc := s.acc.filter fun x => !f x.2.owner }

/-- The accesses of a discarded owner: trackers are freed, writes already issued to memory may still be performed
(15 R357, R361). -/
def accDiscard (s : State) (f : AccOwner → Bool) : State :=
  let s := (accsOf s f).foldl (fun s x => match x.2.stage with
    | .remote t => freeTrack s t
    | _ => s) s
  let keep (a : Access) : Bool := !a.kind.isRead && (match a.stage with
    | .tower _ => true
    | .deep _ _ _ => true
    | .deepWb _ _ _ => true
    | _ => false)
  { s with acc := s.acc.filterMap fun x =>
      if !f x.2.owner then some x else if keep x.2 then some (x.1, { x.2 with owner := .gone }) else none }

def allEnded (l : List (Nat × Access)) : Bool := l.all fun x => x.2.stage.ended

/-- The failure of ended accesses that came first in time; on a tie the one the order prefers. -/
def firstBad (rank : AccFail → Nat) (l : List (Nat × Access)) : Option AccFail :=
  (l.foldl (fun (b : Option (Nat × Nat × AccFail)) x => match x.2.stage with
    | .failed w =>
      match b with
      | none => some (x.2.endAt, rank w, w)
      | some (t, r, w') =>
        if x.2.endAt < t || (x.2.endAt = t && rank w < r) then some (x.2.endAt, rank w, w) else some (t, r, w')
    | _ => b) none).map fun b => b.2.2

/-- The accesses that satisfy `f` are no longer before confirmation; the paused ones go on (07 R153). -/
def accConfirm (s : State) (f : AccOwner → Bool) : State :=
  (accsOf s f).foldl (fun s x =>
    let s := accMod s x.1 fun a => { a with spec := false }
    if x.2.stage = .paused then issue s x.1 else s) s

/-- Accesses that wait for a tracker try again, oldest first (14 R346). -/
def pumpStalled (s : State) : State :=
  s.acc.foldl (fun s x => match x.2.stage with
    | .stalled chip inc g => remotePut s x.1 chip inc g x.2
    | _ => s) s

def notifyErr (s : State) (q : Nat) : State := modQueue s q fun x => { x with notifyErr := true }

/-- One notification of queue `q` is sent: false where it must wait for a tracker (13 R301; 14 R335, R346). -/
def notifyOnce (s : State) (q : Nat) (x : Queue) : State × Bool :=
  let g : Dword := BitVec.ofNat 64 (x.notifyObj.toNat + x.ctx * 2 ^ 46 + x.notifyChip.toNat % 4096 * 2 ^ 52)
  match sendRequest s opSignal 0 2 x.notifyChip x.notifyInc g noDeadline [leBytes 8 1] (.notify q) with
  | (.stalled, s) => (s, false)
  | (.noRoute, s) => (modQueue (notifyErr s q) q fun x => { x with notes := x.notes - 1 }, true)
  | (.sent _, s) => (modQueue s q fun x => { x with notes := x.notes - 1 }, true)

/-- Waiting notifications leave as far as trackers allow. -/
def pumpNotes (s : State) : State :=
  s.sch.queues.foldl (fun s e => (List.range e.2.notes).foldl (fun s _ =>
    match queueOf s e.1 with
    | some x => (notifyOnce s e.1 x).1
    | none => s) s) s

/-- How a Ratline request ended. -/
inductive RemEnd where
  | ok (data : Bytes) (poison : Bool)
  | status (code : Nat)
  | timeout
  | missed
deriving DecidableEq, Repr

/-- An access's Ratline request ends (07 R166, 11 R433, 14 R340, R347). -/
def accRemoteEnd (s : State) (id : Nat) (r : RemEnd) : State :=
  match r with
  | .ok d p => accEnd (accMod s id fun a => if a.kind.isRead then { a with
      data := d.take a.len
      poison := p } else a) id .done
  | .status c => accFail s id (if c = rsMemory then .memory else .xlate 6)
  | .timeout => accFail s id .timeout
  | .missed => accFail s id .missed

/-! ### The commands that move accesses -/

/-- Its walk has one of the octant's 32 walkers and one of its stream's 8 misses; a miss that is not among its own stream's
8 holds no walker (07 R157). -/
def walkTurn (s : State) (id : Nat) (a : Access) : Bool :=
  let walking := s.acc.filter fun x => x.1 < id && x.2.stage == .walk && x.2.oct == a.oct
    && decide (missesBefore s x.1 x.2.stream < 8)
  missesBefore s id a.stream < 8 && walking.length < 32

/-- TRANSLATION_WALK_DONE (07 R157): the walk finds the entry, or faults NOT_MAPPED, as it does where it reads a poisoned
line of the store (08 R186). -/
def execTranslationWalkDone (id : Nat) (s : State) : Res :=
  live s fun s =>
    match accOf s id with
    | none => s
    | some a =>
      if a.stage != .walk || !walkTurn s id a then s
      else match findMap s a.ctx a.dva with
        | none => accFail s id (.xlate 2)
        | some e =>
          if walkPoisoned s a.ctx a.dva then accFail s id (.xlate 2) else issue (tlbUse s a.stream a.oct e) id

/-- A line of the row cache is served, or is dropped for an uncorrectable error and refetched (08 R191). -/
def rowCacheServe (s : State) (id d : Nat) (a : Access) (err : LineErr) : State :=
  match rcHas s a.oct d, err with
  | none, _ => deepIssue s id d a
  | some x, .uncorrectable => deepIssue (rcDropErr s a.oct x) id d a
  | some x, e =>
    let s := if e = .corrected then { s with tw := { s.tw with ce := vmod s.tw.ce a.oct (· + 1) } } else s
    let s := rcTouch s a.oct x
    accEnd (accMod s id fun a => { a with data := (x.data.drop (d % 64)).take a.len }) id .done

/-- A tower controller serves a line access (08 R175, R182, R185). -/
def towerServe (s : State) (id dpa : Nat) (a : Access) (err : LineErr) : State :=
  match a.kind with
  | .read =>
    let (s, d, p) := towerRead s dpa a.len err 0
    accEnd (accMod s id fun a => { a with
      data := d
      poison := p }) id .done
  | .write =>
    let (s, ok) := towerWrite s dpa a.data a.poison err
    if ok then accEnd s id .done else accFail s id .memory
  | .add fmt =>
    let (s, ok) := towerAdd s dpa fmt.toNat a.data err
    if ok then accEnd s id .done else accFail s id .memory

/-- TOWER_LINE_ACCESS (08 R175). A window line that the host has taken again is snooped first, and waits (06 R125). -/
def execTowerLineAccess (id : Nat) (err : LineErr) (s : State) : Res :=
  live s fun s =>
    match accOf s id with
    | none => s
    | some a => match a.stage with
      | .tower dpa => if hostHolds s dpa then snoop s dpa else towerServe s id dpa a err
      | .rowCache d => rowCacheServe s id d a err
      | _ => s

/-- The line a read-modify-write puts back (08 R175, R181). -/
def rmwLine (a : Access) (d : Nat) (line : Bytes) : Bytes :=
  putAt line (d % 64) (addBytes a ((line.drop (d % 64)).take a.len))

/-- A write to a deep line is complete: the line leaves every row cache first (08 R181). -/
def deepWritten (s : State) (id d : Nat) : State := accEnd (rcDropIf s fun x => x = d / 64 * 64) id .done

/-- What a device's response does to the request that holds the tag (08 R180, R181, R184). -/
def deepServe (s : State) (p id d : Nat) (a : Access) (r : DeepResp) : State :=
  match r with
  | .poison =>
    let s := { s with tw := { s.tw with deepPoison := vmod s.tw.deepPoison p (· + 1) } }
    let s := deepPoisonEvent s 3 p d
    if a.kind.isRead then poisonRead s id a
    else if a.rmw then accFail s id .memory
    else s
  | .data line =>
    if a.kind.isRead then
      let s := if a.stream = .firmware || adviceAt s a.ctx a.dva 3 then s
        else rcFill s a.oct d (line.take 64)
      accEnd (accMod s id fun a => { a with data := (line.drop (d % 64)).take a.len }) id .done
    else if a.rmw then
      let new := rmwLine a d (line.take 64)
      let off := ((deepPort s d).map fun q => q.2).getD 0 / 64 * 64
      emit (accStage s id (.deepWb d (s.tb.up + msUp 1) new)) (.deepReq p off (some new))
    else s
  | .written => if a.kind = .write && a.full then deepWritten s id d else s

/-- DEEP_PORT_RESPONSE (08 R184). -/
def execDeepPortResponse (p : Fin 4) (id : Nat) (r : DeepResp) (s : State) : Res :=
  live s fun s =>
    if !portUp s p then s
    else match accOf s id with
      | none => s
      | some a => match a.stage with
        | .deep d true _ =>
          if (deepPort s d).any (fun q => q.1 = p.val) then pumpPort (deepServe s p id d a r) p else s
        | .deepWb d _ _ =>
          if (deepPort s d).any (fun q => q.1 = p.val) && r == .written then pumpPort (deepWritten s id d) p else s
        | _ => s

/-- DEEP_REQUEST_TIMEOUT (08 R179). -/
def execDeepRequestTimeout (p : Fin 4) (id : Nat) (s : State) : Res :=
  live s fun s =>
    match accOf s id with
    | none => s
    | some a => match a.stage with
      | .deep d true lim =>
        if lim ≤ s.tb.up && (deepPort s d).any (fun q => q.1 = p.val) then pumpPort (deepLost s id p d a) p else s
      | .deepWb d lim _ =>
        if lim ≤ s.tb.up && (deepPort s d).any (fun q => q.1 = p.val) then pumpPort (deepLost s id p d a) p else s
      | _ => s

/-- Every request in flight on port `p` ends by link loss (08 R179). -/
def portLose (s : State) (p : Nat) : State :=
  let s := s.acc.foldl (fun s x => match x.2.stage with
    | .deep d true _ => if (deepPort s d).any (fun q => q.1 = p) then deepLost s x.1 p d x.2 else s
    | .deepWb d _ _ => if (deepPort s d).any (fun q => q.1 = p) then deepLost s x.1 p d x.2 else s
    | _ => s) s
  pumpPort s p

/-- LINK_STATE of a deep port: the event's layout numbers Ratline links only, so byte 0 is free (log 34). -/
def deepLinkEvent (s : State) (up : Bool) : State :=
  let (v, s) := takeFree s
  event s 0x0004 (if up then 0 else 1) (layout 16 [(0, 1, v), (1, 1, if up then 2 else 0), (2, 1, 1)])

/-- DEEP_PORT_LINK_DOWN (08 R179, R181). -/
def execDeepPortLinkDown (p : Fin 4) (s : State) : Res :=
  live s fun s =>
    if !(dport s p).up then s
    else
      let s := { s with tw := { s.tw with ports := vmod s.tw.ports p fun x => { x with up := false } } }
      let s := portLose s p
      deepLinkEvent (rcDropIf s fun x => (deepPort s x).any fun q => q.1 = p.val) false

/-- DEEP_PORT_LINK_RETURN (08 R179): an enabled port that enumerated devices serves again. -/
def execDeepPortLinkReturn (p : Fin 4) (s : State) : Res :=
  live s fun s =>
    let x := dport s p
    if x.up || !x.enabled || !x.trained || !domainOn s 3 then s
    else { s with tw := { s.tw with ports := vmod s.tw.ports p fun x => { x with up := true } } }

end Sys2Proof.Machine
end

