-- ==== Sys2Proof/Machine/Mailbox.lean ====
section
/-! DEFINITION. Mailbox.lean: the opcode table, the check order and the completion of a SOLP command (05), which
the opcodes of every chapter share. -/

namespace Sys2Proof.Machine

/-! ### The opcode table (05 R103, R107) -/

/-- The request lengths an opcode accepts (05 R103). -/
inductive LenRule where
  | fixed (lens : List Nat)
  /-- `base` bytes and `per` bytes for each unit of a count: the product of the fields at the offsets given -/
  | counted (base per : Nat) (counts : List (Nat × Nat))
deriving DecidableEq, Repr

/-- A row of the opcode table: opcode, maximum firmware time in microseconds, the marks C0 and BMC, lengths. -/
structure OpRow where
  op : Nat
  maxUs : Nat
  c0 : Bool
  bmc : Bool
  len : LenRule
deriving DecidableEq, Repr

/-- Areas 0x00 to 0x03 of 05 R107. -/
def opRowsA : List OpRow :=
  [⟨0x0001, 10, false, true, .fixed [0]⟩, ⟨0x0002, 100, false, true, .fixed [0]⟩,
   ⟨0x0003, 100, true, false, .fixed [8]⟩, ⟨0x0004, 1000, true, false, .fixed [4]⟩,
   ⟨0x0005, 1000, true, false, .fixed [16]⟩, ⟨0x0006, 1000, false, true, .fixed [4]⟩,
   ⟨0x0007, 100, false, true, .fixed [0]⟩,
   ⟨0x0101, 1000, false, false, .fixed [16]⟩, ⟨0x0102, 1500000, false, false, .fixed [16]⟩,
   ⟨0x0103, 100, false, true, .fixed [0]⟩, ⟨0x0104, 4000000, false, false, .fixed [8]⟩,
   ⟨0x0105, 100, false, true, .fixed [4]⟩,
   ⟨0x0201, 10000, false, false, .fixed [0, 40]⟩, ⟨0x0202, 1000, false, false, .fixed [4]⟩,
   ⟨0x0203, 1000, false, false, .fixed [24]⟩, ⟨0x0204, 1000, false, false, .fixed [16]⟩,
   ⟨0x0205, 10000, false, false, .counted 16 1 [(2, 2), (4, 2)]⟩,
   ⟨0x0301, 10000, true, false, .fixed [16]⟩, ⟨0x0302, 1000, false, false, .fixed [8]⟩,
   ⟨0x0303, 10000, false, false, .fixed [4]⟩, ⟨0x0304, 1000, false, false, .fixed [40]⟩,
   ⟨0x0305, 5000, false, false, .fixed [24]⟩, ⟨0x0306, 5000, false, false, .fixed [24]⟩,
   ⟨0x0307, 1000, false, false, .fixed [40]⟩, ⟨0x0308, 1000, false, false, .fixed [48]⟩,
   ⟨0x0309, 1000, false, false, .fixed [24]⟩, ⟨0x030A, 2000, false, false, .fixed [32]⟩,
   ⟨0x030B, 10000, false, false, .fixed [16]⟩, ⟨0x030C, 5000, false, false, .fixed [16]⟩,
   ⟨0x030D, 500000, false, false, .fixed [4]⟩]

/-- Areas 0x04 to 0x0A of 05 R107. -/
def opRowsB : List OpRow :=
  [⟨0x0401, 1000, false, false, .fixed [4]⟩, ⟨0x0402, 1000, false, false, .fixed [4]⟩,
   ⟨0x0403, 10000, false, false, .fixed [4]⟩, ⟨0x0404, 100, false, false, .fixed [4]⟩,
   ⟨0x0501, 50000, false, false, .counted 16 1 [(4, 4)]⟩, ⟨0x0502, 10000, false, false, .fixed [4]⟩,
   ⟨0x0503, 1000, false, false, .fixed [40]⟩, ⟨0x0504, 10000, false, false, .fixed [4]⟩,
   ⟨0x0505, 1000, false, false, .fixed [4]⟩, ⟨0x0506, 1000, false, false, .fixed [16]⟩,
   ⟨0x0507, 1000, false, false, .fixed [8]⟩, ⟨0x0508, 1000, false, false, .fixed [4]⟩,
   ⟨0x0601, 5000, false, false, .counted 64 24 [(12, 2)]⟩, ⟨0x0602, 10000, false, false, .fixed [4]⟩,
   ⟨0x0603, 1000, false, false, .fixed [32]⟩, ⟨0x0604, 1000, false, false, .fixed [32]⟩,
   ⟨0x0605, 1000, false, false, .fixed [4]⟩, ⟨0x0606, 100, false, false, .fixed [4]⟩,
   ⟨0x0701, 1000, true, false, .fixed [4]⟩, ⟨0x0702, 500000, false, false, .fixed [4]⟩,
   ⟨0x0703, 10000, false, false, .fixed [4]⟩, ⟨0x0704, 10000, false, false, .fixed [112]⟩,
   ⟨0x0705, 1000, false, false, .fixed [8]⟩, ⟨0x0706, 100, false, false, .fixed [0]⟩,
   ⟨0x0801, 1000, false, true, .fixed [8]⟩, ⟨0x0802, 100, false, true, .fixed [0]⟩,
   ⟨0x0803, 20000, false, false, .fixed [4]⟩, ⟨0x0804, 1000, false, false, .fixed [4]⟩,
   ⟨0x0805, 100, false, true, .fixed [0]⟩,
   ⟨0x0901, 500000, false, false, .fixed [16]⟩, ⟨0x0902, 2000000, true, false, .fixed [4]⟩,
   ⟨0x0903, 1000, false, false, .fixed [4]⟩,
   ⟨0x0A01, 100000, true, true, .fixed [8]⟩, ⟨0x0A02, 50000, true, true, .counted 8 1 [(4, 2)]⟩,
   ⟨0x0A03, 20000000, true, true, .fixed [4]⟩, ⟨0x0A04, 1000000, true, false, .fixed [256]⟩,
   ⟨0x0A05, 100, false, true, .fixed [0]⟩, ⟨0x0A06, 50000, false, false, .fixed [32]⟩]

def opRows : List OpRow := opRowsA ++ opRowsB

def opRow (op : Nat) : Option OpRow := opRows.find? fun r => r.op = op

/-- The length a payload of `len` bytes shall have, given its content. -/
def lenFits (r : LenRule) (len : Nat) (p : Bytes) : Bool :=
  match r with
  | .fixed ls => ls.contains len
  | .counted base per cs => base ≤ len && len = base + per * (cs.foldl (fun a f => a * fieldAt p f.1 f.2) 1)

/-- Some request of the opcode has this length (05 R430 step 4, before an indirect payload is read). -/
def lenPossible (r : LenRule) (len : Nat) : Bool :=
  match r with
  | .fixed ls => ls.contains len
  | .counted base per _ => base ≤ len && (len - base) % per = 0

/-- Maximum firmware time in microseconds; that of OP_FILL follows from TIER and LENGTH (05 R107): 0.5 ms or 12 ms
for each GiB, not rounded. -/
def maxFwNs (op : Nat) (p : Bytes) : Nat :=
  if op = 0x030A then
    2000000 + (if fieldAt p 0 1 = 0 then 500000 else 12000000) * fieldAt p 16 8 / 2 ^ 30
  else match opRow op with
    | some r => r.maxUs * 1000
    | none => 0

/-! ### Channels -/

def chan (s : State) (c : Chan) : MbxChan := s.mbx.chans[c]

def modChan (s : State) (c : Chan) (f : MbxChan → MbxChan) : State :=
  { s with mbx := { s.mbx with chans := s.mbx.chans.set c (f s.mbx.chans[c]) } }

/-- Something executes SOLP commands: firmware, or the ROM in recovery or after a boot failure (17 R395, R398,
R399); a stopped MP executes none (05 R115). -/
def mpServes (s : State) : Bool :=
  !s.hlt.mpHung && (s.sec.fwStarted || s.sec.phase = 8 || s.sec.phase = 9)

/-- Status codes (05 R103). -/
def stOk := 0x0000
def stBusy := 0x0001
def stBadOpcode := 0x0002
def stBadLen := 0x0003
def stBadParam := 0x0004
def stBadState := 0x0005
def stNotPermitted := 0x0006
def stNoResource := 0x0007
def stNotFound := 0x0008
def stDmaFault := 0x0009
def stAuthFail := 0x000A
def stTimeout := 0x000B
def stAborted := 0x000C
def stHwError := 0x000D

/-- The 16-byte header of a response (05, SOLP header). -/
def respHeader (k : CmdHeld) (status detail len : Nat) : Bytes :=
  layout 16 [(0, 2, k.opcode.toNat), (2, 2, k.seq.toNat), (4, 2, len), (7, 1, 1), (8, 2, status), (10, 2, detail)]

/-- Firmware completes the command a channel holds: response, LAST_SEQ, DONE, BUSY, then the MSI-X (05 R97). A stopped
MP completes none (05 R115). -/
def finishWith (irq : Bool) (s : State) (c : Chan) (status detail : Nat) (payload : Bytes) : State :=
  match (chan s c).cmd with
  | none => s
  | some k =>
    if s.hlt.mpHung then s else
    let s := modChan s c fun ch => { ch with
      resp := memWrite ch.resp 0 (respHeader k status detail payload.length ++ payload)
      lastSeq := k.seq
      done := true
      busy := false
      cmd := none }
    if irq && (chan s c).irqEn then msix s (chan s c).vector.toNat else s

def finishCmd := finishWith true

/-- What the checks of 05 R430, steps 5 to 9, found for one command. -/
structure Chk where
  /-- step 5: failing check and payload offset -/
  param : List (Bool × Nat) := []
  /-- step 6: contexts the payload names, and those of the objects it names -/
  ctxs : List Nat := []
  /-- step 7: a named object does not exist -/
  missing : Bool := false
  /-- step 8: ST_BAD_STATE or ST_BUSY -/
  state : Option Nat := none
  /-- step 9: a table or list is full -/
  full : Bool := false
deriving DecidableEq, Repr

/-- The command also names an object of context `x`, where there is one (05 R95). -/
def Chk.alsoNames (h : Chk) (x : Option Nat) : Chk := { h with ctxs := h.ctxs ++ x.toList }

/-- A check of step 5 that fails when `p`, at payload offset `o`. -/
def bad (p : Bool) (o : Nat) : Bool × Nat := (p, o)

/-- The lowest payload offset among the failing checks (05 R430). -/
def lowestBad : List (Bool × Nat) → Option Nat
  | [] => none
  | (b, o) :: r =>
    match lowestBad r with
    | none => if b then some o else none
    | some m => if b then some (min o m) else some m

/-- Status and DETAIL of the first check that fails (05 R430). -/
def firstFail (ch : MbxChan) (k : Chk) : Option (Nat × Nat) :=
  match lowestBad k.param with
  | some o => some (stBadParam, o)
  | none =>
    if ch.ctxBound && k.ctxs.any (fun x => x != ch.ctx.toNat) then some (stNotPermitted, 0)
    else if k.missing then some (stNotFound, 0)
    else match k.state with
      | some st => some (st, 0)
      | none => if k.full then some (stNoResource, 0) else none

/-- How an opcode's execution leaves the channel. -/
inductive Done where
  /-- ST_OK with this response payload -/
  | ok (s : State) (resp : Bytes)
  /-- another status arising while it executes (05 R430) -/
  | fail (s : State) (status : Nat) (resp : Bytes)
  /-- it waits for outstanding work, having begun -/
  | wait (s : State)

/-- The command on channel `c`, if it is an opcode `op` ready to execute. -/
def opCmd (s : State) (c : Chan) (op : Nat) : Option CmdHeld :=
  if !mpServes s then none
  else match (chan s c).cmd with
    | some k => if k.opcode.toNat = op && k.ready then some k else none
    | none => none

def setBegun (s : State) (c : Chan) : State :=
  modChan s c fun ch => { ch with cmd := ch.cmd.map fun k => { k with begun := true } }

def setProgress (s : State) (c : Chan) (n : Nat) : State :=
  modChan s c fun ch => { ch with cmd := ch.cmd.map fun k => { k with progress := n } }

/-- An unsigned field of a request payload. -/
def CmdHeld.f (k : CmdHeld) (off n : Nat) : Nat := fieldAt k.payload off n

/-- The kinds of object that order commands (05 R104): `tower` and `deep` are regions of physical memory, `limit` the
power limit (05 R114). -/
inductive ObjKind where
  | core | ctx | queue | plan | table | sync | link | tower | deep | limit
deriving DecidableEq, Repr

/-- Objects `first` to `first + count - 1` of a kind, or that range of bytes. -/
structure Named where
  kind : ObjKind
  first : Nat
  count : Nat
deriving DecidableEq, Repr

/-- The region an opcode names by TIER and ADDR. -/
def CmdHeld.region (k : CmdHeld) (len : Nat) : Named := ⟨if k.f 0 1 = 0 then .tower else .deep, k.f 8 8, len⟩

/-- The objects that command `k` names (05 R104); a range of DVAs belongs to its context. -/
def namedObjs (k : CmdHeld) : List Named :=
  match k.opcode.toNat with
  | 0x0302 => [⟨.ctx, k.f 0 1, 1⟩]
  | 0x0303 => [⟨.ctx, k.f 0 1, 1⟩]
  | 0x0304 => [⟨.ctx, k.f 0 1, 1⟩]
  | 0x0305 => [⟨.ctx, k.f 0 1, 1⟩]
  | 0x0306 => [⟨.ctx, k.f 0 1, 1⟩]
  | 0x0307 => [⟨.ctx, k.f 0 1, 1⟩, ⟨.sync, k.f 4 2, 1⟩]
  | 0x0308 => [⟨.ctx, k.f 0 1, 1⟩, ⟨.sync, k.f 4 2, 1⟩]
  | 0x0309 => [⟨.ctx, k.f 0 1, 1⟩]
  | 0x030A => [k.region (k.f 16 8)]
  | 0x030C => [k.region 4096]
  | 0x0401 => [⟨.core, 2 * k.f 0 1, 2⟩]
  | 0x0402 => [⟨.core, 2 * k.f 0 1, 2⟩]
  | 0x0403 => [⟨.core, k.f 0 1 / 2 * 2, 2⟩]
  | 0x0404 => [⟨.core, k.f 0 1, 1⟩]
  | 0x0501 => [⟨.plan, k.f 0 2, 1⟩, ⟨.ctx, k.f 2 1, 1⟩]
  | 0x0502 => [⟨.plan, k.f 0 2, 1⟩]
  | 0x0503 => [⟨.queue, k.f 0 1, 1⟩, ⟨.ctx, k.f 1 1, 1⟩, ⟨.sync, k.f 24 2, 1⟩, ⟨.sync, k.f 26 2, 1⟩]
  | 0x0504 => [⟨.queue, k.f 0 1, 1⟩]
  | 0x0507 => [⟨.ctx, k.f 0 1, 1⟩]
  | 0x0508 => [⟨.sync, k.f 0 2, k.f 2 2⟩]
  | 0x0601 => [⟨.table, k.f 0 2, 1⟩, ⟨.ctx, k.f 2 1, 1⟩]
  | 0x0602 => [⟨.table, k.f 0 2, 1⟩]
  | 0x0603 => [⟨.table, k.f 0 2, 1⟩]
  | 0x0604 => [⟨.ctx, k.f 4 1, 1⟩]
  | 0x0606 => [⟨.table, k.f 0 2, 1⟩]
  | 0x0702 => [⟨.link, k.f 0 1, 1⟩]
  | 0x0703 => [⟨.link, k.f 0 1, 1⟩]
  | 0x0801 => [⟨.limit, 0, 1⟩]
  | _ => []

/-- Two commands name one object; of one whose payload has not been read, the opcode alone tells the kinds. -/
def clash (q k : CmdHeld) : Bool :=
  (namedObjs q).any fun a => (namedObjs k).any fun b => a.kind = b.kind &&
    (!q.ready || !k.ready || (a.first < b.first + b.count && b.first < a.first + a.count))

/-- Command `k` names an object of command `q`, or one of a context that `q` destroys (05 R104). -/
def sameObject (q k : CmdHeld) (h : Chk) : Bool :=
  clash q k || (q.opcode.toNat = 0x0303 && !h.ctxs.isEmpty && (!q.ready || h.ctxs.contains (q.f 0 1)))

/-- A command on another channel, accepted earlier or begun, is on the same object: this one waits for it (05 R104). -/
def orderHeld (s : State) (c : Chan) (k : CmdHeld) (h : Chk) : Bool :=
  (listIdx s.mbx.chans.toList).any fun e => e.1 != c.val && e.2.cmd.any fun q =>
    (q.begun || e.2.bellNo < (chan s c).bellNo) && sameObject q k h

/-- Firmware executes opcode `op` on channel `c`: checks 5 to 9, then its effect, then its completion (05 R97, R430).
`refused` is the response payload of a refusal: state after the command, results not produced zero. A command that
has begun is not checked again. -/
def runOp (s : State) (c : Chan) (op : Nat) (chk : CmdHeld → Chk) (refused : CmdHeld → State → Bytes)
    (eff : CmdHeld → State → Done) : State :=
  match opCmd s c op with
  | none => s
  | some k =>
    if !k.begun && orderHeld s c k (chk k) then s
    else match (if k.begun then none else firstFail (chan s c) (chk k)) with
    | some (st, d) => finishCmd s c st d (refused k s)
    | none =>
      match eff k s with
      | .ok s' r => finishCmd s' c stOk 0 r
      | .fail s' st r => finishCmd s' c st 0 r
      | .wait s' => setBegun s' c

/-- An opcode whose effect is a function and whose response is a view of the state after it; it never waits, so its checks are
always made. -/
def plainOp (s : State) (c : Chan) (op : Nat) (chk : CmdHeld → Chk) (resp : CmdHeld → State → Bytes)
    (eff : CmdHeld → State → State) : State :=
  match opCmd s c op with
  | none => s
  | some k =>
    if orderHeld s c k (chk k) then s
    else match firstFail (chan s c) (chk k) with
    | some (st, d) => finishCmd s c st d (resp k s)
    | none => finishCmd (eff k s) c stOk 0 (resp k (eff k s))

def noResp : CmdHeld → State → Bytes := fun _ _ => []

/-- Reserved payload bytes `lo` to `hi - 1` that are not zero (00 R7). -/
def CmdHeld.rsv (k : CmdHeld) (lo hi : Nat) : List (Bool × Nat) := nonzeroAt k.payload (span lo hi)

end Sys2Proof.Machine
end

