-- ==== Sys2Proof/Machine/Slots.lean ====
section
/-! DEFINITION. Slots.lean: request slots and how a request's outcome is decided (13 R308 to R317). -/

namespace Sys2Proof.Machine

def slotOf (s : State) (i : Nat) : Option Slot := tget s.sch.slots i

def modSlot (s : State) (i : Nat) (f : Slot → Slot) : State :=
  { s with sch := { s.sch with slots := tmod s.sch.slots i f } }

/-- STATUS codes of a completion record (13 R313). -/
def rqOk : Half := 0x0000
def rqAdmitFull : Half := 0x0001
def rqShed : Half := 0x0002
def rqMissed : Half := 0x0003
def rqFenced : Half := 0x0004
def rqCancelled : Half := 0x0005
def rqBadDesc : Half := 0x0006
def rqXlate : Half := 0x0007
def rqSeqFault : Half := 0x0008
def rqOutput : Half := 0x0009
def rqNoCore : Half := 0x000A

def Desc.partialOk (d : Desc) : Bool := d.flags.getLsbD 0
def Desc.noReplay (d : Desc) : Bool := d.flags.getLsbD 1
def Desc.specOff (d : Desc) : Bool := d.flags.getLsbD 2

/-- The outcome of a slot's request, decided now (13 R309, R312). -/
def outcome (s : State) (x : Slot) (status detail app : Half) : ReqEnd :=
  { status := status, detail := detail, stagesDone := BitVec.ofNat 8 x.stage, app := app,
    partial_ := x.desc.partialOk && 1 ≤ x.stage && (status == rqMissed || status == rqCancelled), dtDone := dtNs s }

/-- The outcome is decided, once; the request may still hold a core. -/
def decideEnd (s : State) (i : Nat) (status detail app : Half) : State :=
  modSlot s i fun x => if x.fin.isSome then x else { x with fin := some (outcome s x status detail app) }

/-- The request ends: only its records are to come. -/
def endRequest (s : State) (i : Nat) (status detail app : Half) : State :=
  modSlot (decideEnd s i status detail app) i fun x => { x with
    state := .completing
    core := none }

/-- The context a slot's request runs in. -/
def Slot.ctx (x : Slot) : Nat := x.desc.ctx.toNat

end Sys2Proof.Machine
end

