-- ==== Sys2Proof/Machine/Cores.lean ====
section
/-! DEFINITION. Cores.lean: scratchpad addresses and banks, coprocessor queues, and the CORE registers (09 R194 to R218,
10 R242, 11 R269). -/

namespace Sys2Proof.Machine

/-! ### Addresses (09 R194, R210) -/

/-- Bytes of one core's scratchpad. -/
def spadSize : Nat := 0x1820000

/-- The bank of a scratchpad address of one core. -/
def bankAt (loc : Nat) : Nat := if loc < 0x1800000 then loc / 0xC0000 else 32 + (loc - 0x1800000) / 0x10000

/-- The first core of the pair when bridled, else the core itself. -/
def leadOf (s : State) (core : Nat) : Nat := if isBridled s core then core / 2 * 2 else core

/-- The core and local address an SPA of (lead) core `n` names. -/
def spaAt (s : State) (n spa : Nat) : Option (Nat × Nat) :=
  if spa < spadSize then some (n, spa)
  else if isBridled s n && spa < 2 * spadSize then some (n / 2 * 2 + 1, spa - spadSize)
  else none

def bankOf (s : State) (n b : Nat) : Bank := vget (coreOf s n).banks b (Bank.reset b)

def modBank (s : State) (n b : Nat) (f : Bank → Bank) : State :=
  modCore s n fun c => { c with banks := vmod c.banks b f }

/-! ### Ownership (09 R197 to R202) -/

def ownLocal : Byte := 0x01
def ownMp : Byte := 0x02
def ownEngine (k : Nat) : Byte := BitVec.ofNat 8 (0x10 + k)

/-- What a bank answers to an agent of LOCAL. -/
inductive BankSays where
  | ok
  /-- a hand-over to LOCAL drains: the access is held (R200) -/
  | held
  | notOwner
deriving DecidableEq, Repr

/-- An access of a LOCAL agent; `id` is the number of the operation it belongs to, if any. Port A serves whenever
LOCAL does not own port B (R198). -/
def localSays (b : Bank) (id : Option Nat) : BankSays :=
  if b.ownerB = ownLocal && (b.pend.isNone || id.any fun i => i < b.mark) then .ok
  else if b.ownerA = ownLocal then .ok
  else if b.pend == some ownLocal then .held
  else .notOwner

/-- Addresses of a range that together lie in every bank it meets. -/
def rangePoints (spa len : Nat) : List Nat :=
  (List.range ((len - 1) / 0x10000 + 1)).map (fun i => spa + i * 0x10000) ++ [spa + (len - 1)]

/-- The first bank of a range that does not serve, or the whole range served: banks lie next to each other, so a
range of at most 64 KiB meets two at most; longer ranges are looked at every 64 KiB. -/
def rangeSays (s : State) (n spa len : Nat) (id : Option Nat) : Option (Nat × BankSays) :=
  (rangePoints spa len).findSome? fun a => match spaAt s n a with
    | none => none
    | some (c, loc) => match localSays (bankOf s c (bankAt loc)) id with
      | .ok => none
      | r => some (a, r)

/-- A range lies in the scratchpad space of the core or pair. -/
def inSpad (s : State) (n spa len : Nat) : Bool := (spaAt s n spa).isSome && (spaAt s n (spa + (len - 1))).isSome

/-- The bank, with its core, that an SPA lies in. -/
def spaBank (s : State) (n spa : Nat) : Option (Nat × Nat) := (spaAt s n spa).map fun x => (x.1, bankAt x.2)

/-! ### Contents -/

def spadByte (s : State) (n spa : Nat) : Byte :=
  match spaAt s n spa with
  | none => 0
  | some (c, loc) => memGet (coreOf s c).spad loc

def spadRead (s : State) (n spa len : Nat) : Bytes := (List.range len).map fun i => spadByte s n (spa + i)

def spadPut (s : State) (n spa : Nat) (v : Byte) : State :=
  match spaAt s n spa with
  | none => s
  | some (c, loc) => modCore s c fun x => { x with spad := memSet x.spad loc v }

def spadWrite (s : State) (n spa : Nat) : Bytes → State
  | [] => s
  | b :: r => spadWrite (spadPut s n spa b) n (spa + 1) r

/-! ### Queues (09 R209) -/

/-- Operations counting against the queue of `n`: those of its lead core that name its side. -/
def copCount (s : State) (n : Nat) : Nat :=
  let l := leadOf s n
  ((coreOf s l).cops.filter fun o => bitAt o.side (if n = l then 0 else 1)).length

def threadOf (s : State) (n t : Nat) : Thread := vget (coreOf s n).threads t Thread.reset

def modThread (s : State) (n t : Nat) (f : Thread → Thread) : State :=
  modCore s n fun c => { c with threads := vmod c.threads t f }

def ThState.active : ThState → Bool
  | .running => true
  | .waiting => true
  | .stalled => true
  | _ => false

def opOf (s : State) (n id : Nat) : Option CopOp := (coreOf s n).cops.find? fun o => o.id = id

def modOp (s : State) (n id : Nat) (f : CopOp → CopOp) : State :=
  modCore s n fun c => { c with cops := c.cops.map fun o => if o.id = id then f o else o }

/-- A lookup in progress names a bank of core `n` (09 R202, R212). -/
def lookupNames (s : State) (n : Nat) (b : Nat → Bool) : Bool :=
  s.te.engines.any fun e => (e.intake ++ e.active).any fun l => l.banks.any fun x => x.1 = n && b x.2

def bankLocal (b : Bank) : Bool := b.ownerB = ownLocal && b.pend.isNone && (b.ownerA = ownLocal || b.ownerA = 0)

/-- No stage, thread, operation or lookup uses the core, and every bank is LOCAL (09 R212). -/
def coreIdle (s : State) (n : Nat) : Bool :=
  let c := coreOf s n
  let l := coreOf s (leadOf s n)
  !c.fenced && l.stage.isNone && !l.threads.any (fun t => t.state.active) && copCount s n = 0
    && !lookupNames s n (fun _ => true) && c.banks.all bankLocal

/-! ### Registers (09 R217, 10 R242, 11 R269) -/

/-- Bit t of a mask over a core's threads. -/
def threadMask (c : Core) (p : Thread → Bool) : Nat :=
  bitsOf ((listIdx c.threads.toList).map fun t => (t.1, b2n (p t.2)))

def blocked (t : Thread) : Bool := t.state.active && t.block.isSome

/-- At least one thread is active and every active one is blocked in a sync wait. -/
def allWaiting (c : Core) : Bool :=
  c.threads.any (fun t => t.state.active) && c.threads.all fun t => !t.state.active || blocked t

def coreStatus (s : State) (n : Nat) : Nat :=
  let c := coreOf s n
  let l := leadOf s n
  let st := if c.fenced then 2 else if coreIdle s n then 0 else 1
  bitsOf [(0, st), (2, b2n (isBridled s n)), (3, b2n (isBridled s n && n = l)), (4, b2n c.held),
    (5, b2n (allWaiting (coreOf s l))), (8, threadMask c fun t => t.state.active), (12, threadMask c blocked),
    (16, copCount s n)]

def fenceInfo (c : Core) : Nat := c.cause.toNat

def arrayWidth (c : Core) : Nat := bitsOf ((listIdx c.width.toList).map fun w => (16 * w.1, w.2.toNat))

def parityCapture (c : Core) : Nat :=
  bitsOf [(0, c.capBank.toNat), (6, c.capWord.toNat), (24, b2n c.capPortB), (25, b2n c.capByMp), (31, b2n c.capValid)]

def arrayBypass (c : Core) : Nat := bitsOf ((listIdx c.bypass.toList).map fun w => (8 * w.1, w.2.toNat))

def spadOwn (b : Bank) : Nat := bitsOf [(0, b.ownerB.toNat), (8, b.ownerA.toNat), (16, b2n b.pend.isSome)]

/-- Word `w` of the four CORE_SEQ_FAULT registers of a thread. -/
def seqFaultWord (f : SeqFault) (w : Nat) : Nat :=
  match w with
  | 0 => bitsOf [(0, f.kind.toNat), (8, f.detail.toNat), (16, f.slot.toNat), (31, b2n f.valid)]
  | 1 => f.pc.toNat
  | 2 => f.addr.toNat % 2 ^ 32
  | _ => f.addr.toNat / 2 ^ 32

/-- The CORE register at a byte offset of core `n`'s window; an offset with no register reads zero. -/
def coreReg (s : State) (n off : Nat) : Nat :=
  let c := coreOf s n
  if off = 0 then coreStatus s n
  else if off = 4 then fenceInfo c
  else if off = 8 then arrayWidth c % 2 ^ 32
  else if off = 12 then arrayWidth c / 2 ^ 32
  else if off = 0x10 then c.squashed.toNat
  else if off = 0x14 then parityCapture c
  else if off = 0x18 then arrayBypass c
  else if 0x40 ≤ off && off < 0x80 then seqFaultWord (vget c.threads ((off - 0x40) / 16) Thread.reset).fault (off % 16 / 4)
  else if 0x100 ≤ off && off < 0x100 + 4 * 34 then spadOwn (bankOf s n ((off - 0x100) / 4))
  else 0

/-- Bit b set when bank b, or either port of it, is not LOCAL (09 R218): a hand-over takes effect once it has drained. -/
def notLocal (c : Core) : Nat :=
  bitsOf ((listIdx c.banks.toList).map fun b =>
    (b.1, b2n !(b.2.ownerB = ownLocal && (b.2.ownerA = ownLocal || b.2.ownerA = 0))))

/-! ### Opcodes 0x0401, 0x0402 and 0x0404 (09 R213, R218) -/

/-- The response of OP_CORE_BRIDLE and OP_CORE_UNBRIDLE. -/
def bridleResp : CmdHeld → State → Bytes := fun _ s => layout 4 [(0, 2, bridledMask s)]

/-- HELD of both cores of a pair slot. -/
def setHeld (s : State) (p : Nat) (h : Bool) : State :=
  modCore (modCore s (2 * p) fun c => { c with held := h }) (2 * p + 1) fun c => { c with held := h }

/-- OP_CORE_BRIDLE and OP_CORE_UNBRIDLE after the checks of the payload (09 R213, R216): a fenced core is not idle; a slot whose
domain is off is not bridled (16, Edges). -/
def bridleTo (k : CmdHeld) (on : Bool) (s : State) : Done :=
  let p := k.f 0 1
  if bitAt (k.f 1 1) 1 then let s := setHeld s p false; .ok s (bridleResp k s)
  else
    let s := if bitAt (k.f 1 1) 0 then setHeld s p true else s
    if coreIdle s (2 * p) && coreIdle s (2 * p + 1) && (!on || domainOn s (14 + p)) then
      let s := setHeld { s with bridled := vmod s.bridled p fun _ => on } p false
      .ok s (bridleResp k s)
    else .fail s stBadState (bridleResp k s)

/-- Checks of the bridle opcodes: PAIR, FLAGS, HOLD with RELEASE. -/
def bridleChk (k : CmdHeld) : Chk :=
  { param := [bad (15 < k.f 0 1) 0, bad (4 ≤ k.f 1 1) 1, bad (k.f 1 1 % 4 = 3) 1] ++ k.rsv 2 4 }

/-- A slot already as asked completes ST_OK with no change but the end of a hold (09 R213). -/
def bridleEff (k : CmdHeld) (on : Bool) (s : State) : Done :=
  if vget s.bridled (k.f 0 1) false = on then
    let s := setHeld s (k.f 0 1) false
    .ok s (bridleResp k s)
  else bridleTo k on s

/-- OP_CORE_BRIDLE. -/
def execOpCoreBridle (c : Chan) (s : State) : Res :=
  live s fun s => runOp s c 0x0401 bridleChk bridleResp fun k s => bridleEff k true s

/-- OP_CORE_UNBRIDLE. -/
def execOpCoreUnbridle (c : Chan) (s : State) : Res :=
  live s fun s => runOp s c 0x0402 bridleChk bridleResp fun k s => bridleEff k false s

/-- The response of OP_CORE_STATUS. -/
def coreStatusResp (s : State) (n : Nat) : Bytes :=
  let c := coreOf s n
  layout 32 [(0, 4, coreStatus s n), (4, 4, fenceInfo c), (8, 8, arrayWidth c), (16, 4, c.squashed.toNat),
    (20, 4, parityCapture c), (24, 8, notLocal c)]

/-- OP_CORE_STATUS response, zero for a core that is not. -/
def coreStatusAnswer (k : CmdHeld) (s : State) : Bytes := if 31 < k.f 0 1 then zeros 32 else coreStatusResp s (k.f 0 1)

/-- OP_CORE_STATUS. -/
def execOpCoreStatus (c : Chan) (s : State) : Res :=
  live s fun s => plainOp s c 0x0404 (fun k => { param := [bad (31 < k.f 0 1) 0] ++ k.rsv 1 4 }) coreStatusAnswer
    fun _ s => s

end Sys2Proof.Machine
end

