-- ==== Sys2Proof/Machine/CopDesc.lean ====
section
/-! DEFINITION. CopDesc.lean: operation descriptors, the checks of R229, and the scratchpad an operation names (10 R229,
R240; 11 R252 to R267; 12 R274, R285). -/

namespace Sys2Proof.Machine

/-! ### Fault kinds (10 R240) -/

def fkIllegal : Byte := 0x01
def fkPcRange : Byte := 0x02
def fkAlign : Byte := 0x03
def fkSpaRange : Byte := 0x04
def fkNotOwner : Byte := 0x05
def fkTranslation : Byte := 0x06
def fkPoison : Byte := 0x07
def fkSyncRange : Byte := 0x08
def fkSyncLimit : Byte := 0x09
def fkCopDesc : Byte := 0x0A
def fkCrWrite : Byte := 0x0B
def fkBreak : Byte := 0x0C

/-! ### Units and kinds -/

def kindMmLoad := 0x0001
def kindMmRun := 0x0002
def kindDma := 0x0201
def kindLookup := 0x0301
def kindUpdate := 0x0302

/-- KIND codes of the vector unit (11 R263). -/
def vecKinds : List Nat := span 0x0101 0x0112 ++ span 0x0120 0x0125

/-- The unit exists for this core (10 R229). -/
def unitOk (s : State) (n unit : Nat) : Bool :=
  unit ≤ 11 && (isBridled s n || !(unit = 2 || 8 ≤ unit))

/-- The length a KIND has at a unit; none where the unit does not take it. -/
def kindLen (unit kind : Nat) : Option Nat :=
  if unit = 0 then (if kind = kindMmLoad then some 64 else if kind = kindMmRun then some 80 else none)
  else if unit ≤ 2 then (if vecKinds.contains kind then some 64 else none)
  else if unit = 3 then (if kind = kindLookup then some 80 else if kind = kindUpdate then some 48 else none)
  else if kind = kindDma then some 64 else none

def dKind (d : Bytes) : Nat := fieldAt d 0 2
def dSync (d : Bytes) : Nat := fieldAt d 4 2
def dStatusWr (d : Bytes) : Bool := fieldAt d 6 2 % 2 = 1
def dSigValue (d : Bytes) : Nat := fieldAt d 8 8
def dStatusSpa (d : Bytes) : Nat := fieldAt d 16 4

def zeroAt (d : Bytes) (lo hi : Nat) : Bool := (span lo hi).all fun i => d.getD i 0 = 0

/-- The context of the stage a core runs. -/
def stageCtx (s : State) (n : Nat) : Nat := ((coreOf s n).stage.map fun g => g.ctx).getD 0

/-- An allocated object of a context. -/
def syncIn (s : State) (o ctx : Nat) : Bool := (syncOf s o).any fun x => x.ctx = ctx

/-- The narrowest current width of the arrays of a core or pair (09 R211, 11 R252). -/
def minWidth (s : State) (n : Nat) : Nat :=
  let ws := (coreOf s n).width.toList ++ (if isBridled s n then (coreOf s (n + 1)).width.toList else [])
  ws.foldl (fun a w => min a w.toNat) 256

/-- No SPA: the output or mask is left out. -/
def noSpa := 0xFFFFFFFF

/-! ### Bodies -/

/-- MM_LOAD (11 R247, R252). -/
def mmLoadOk (s : State) (n : Nat) (d : Bytes) : Bool :=
  let f := fieldAt d
  f 32 4 % 16 = 0 && f 36 4 % 16 = 0 && f 40 4 % 16 = 0 && 1 ≤ f 44 2 && f 44 2 ≤ 256 && 1 ≤ f 46 2
    && f 46 2 ≤ minWidth s n && 1 ≤ f 48 1 && f 48 1 ≤ 9 && f 49 1 ≤ 1 && (!isMx (f 48 1) || f 44 2 % 32 = 0)
    && zeroAt d 50 64

def spaAligned (a : Nat) : Bool := a % 16 = 0 || a = noSpa

def mmSwaps (o : CopOp) : Bool := dKind o.desc = kindMmRun && bitAt (fieldAt o.desc 75 1) 0

/-- N of the active and the shadow tile of core `n` once the loads and swaps that wait in its queue have been made (11 R256). -/
def tileWidths (s : State) (n : Nat) : Nat × Nat :=
  ((coreOf s n).cops.filter fun o => o.unit = 0 && o.phase != .ready).foldl (fun w o =>
    if dKind o.desc = kindMmLoad then (w.1, fieldAt o.desc 46 2) else if mmSwaps o then (w.2, w.1) else w)
    ((coreOf s n).active.n, (coreOf s n).shadow.n)

/-- N that a run with this descriptor meets, its own swap made. -/
def widthMet (w : Nat × Nat) (d : Bytes) : Nat := if bitAt (fieldAt d 75 1) 0 then w.2 else w.1

/-- OFMT 2 groups 32 columns (11 R254, R255). -/
def groupsFit (w : Nat × Nat) (d : Bytes) : Bool := fieldAt d 73 1 != 2 || widthMet w d % 32 = 0

/-- MM_RUN (11 R253, R255). -/
def mmRunOk (s : State) (n : Nat) (d : Bytes) : Bool :=
  let f := fieldAt d
  groupsFit (tileWidths s n) d &&
  f 32 4 % 16 = 0 && f 36 4 % 16 = 0 && f 40 4 % 16 = 0 && 1 ≤ f 44 4 && f 44 4 ≤ 65536 && spaAligned (f 48 4)
    && f 52 4 % 16 = 0 && f 56 4 % 16 = 0 && spaAligned (f 60 4) && f 64 4 % 16 = 0 && 1 ≤ f 72 1 && f 72 1 ≤ 9
    && f 73 1 ≤ 2 && f 74 1 ≤ 3 && f 75 1 < 8 && f 76 4 % 16 = 0
    && !(bitAt (f 75 1) 2 && f 73 1 != 0) && !(2 ≤ f 74 1 && f 72 1 ≤ 2 && f 73 1 = 0)

def fmtCode (c : Nat) : Bool := 1 ≤ c && c ≤ 12

/-- A vector body (11 R262 to R266). -/
def vecOk (d : Bytes) : Bool :=
  let f := fieldAt d
  let kind := dKind d
  1 ≤ f 48 4 && f 48 4 ≤ 65536 && fmtCode (f 52 1) && fmtCode (f 53 1) && f 54 1 ≤ 1 && f 55 1 ≤ 63 && zeroAt d 62 64
    && (if kind = 0x0121 then f 53 1 ≤ 2
        else if kind = 0x0122 then f 52 1 = 12 && f 53 1 ≤ 2
        else if kind = 0x0123 then isMx (f 53 1)
        else if kind = 0x0124 then isMx (f 52 1) && f 53 1 = 11
        else true)

/-- DMA_COPY (11 R267). -/
def dmaOk (d : Bytes) : Bool :=
  let f := fieldAt d
  f 44 1 ≤ 1 && zeroAt d 45 48 && 1 ≤ f 48 4 && f 48 4 ≤ 65536 && 1 ≤ f 52 4 && f 52 4 ≤ 65536

def tableOf (s : State) (i : Nat) : Option TableD := tget s.te.tables i

/-- The table a LOOKUP names: on this chip, of the context, and not being destroyed (12 R274, R431). -/
def lookupTable (s : State) (ctx : Nat) (d : Bytes) : Option TableD :=
  (tableOf s (fieldAt d 32 2)).filter fun t => t.ctx = ctx && !t.dying

/-- Bytes of one bag's output, or of one position's with CONCAT (12 R270, R274). -/
def packedRow (fmt elems : Nat) : Nat := if isMx fmt then elems + elems / 32 else elems * elemBits fmt / 8

def lookupOutSize (t : TableD) (ofmt : Nat) : Nat :=
  if ofmt = 0 then packedRow t.fmt.toNat t.elems else t.elems * elemBits ofmt / 8

/-- The core of a pair whose scratchpad an SPA lies in. -/
def spaSide (s : State) (n spa : Nat) : Nat := if isBridled s n && spadSize ≤ spa then 1 else 0

/-- LOOKUP (12 R274; 09 R209: in a pair every SPA lies in one core's scratchpad; 16 R377: the engine's domain is on). -/
def lookupOk (s : State) (n : Nat) (d : Bytes) : Bool :=
  let f := fieldAt d
  let pool := f 35 1
  let concat := pool = 4
  let side := spaSide s n (f 60 4)
  match lookupTable s (stageCtx s n) d with
  | none => false
  | some t =>
    f 34 1 ≤ 7 && domainOn s (6 + f 34 1) && pool ≤ 4 && (f 36 1 = 11 || f 36 1 = 9 || (f 36 1 = 0 && concat)) && f 37 1 < 4 && zeroAt d 38 40
      && 1 ≤ f 40 4 && f 40 4 ≤ 16384 && (concat || (1 ≤ f 44 4 && f 44 4 ≤ 16384)) && f 64 4 % 16 = 0
      && lookupOutSize t (f 36 1) ≤ f 64 4 && zeroAt d 68 72 && spaSide s n (f 48 4) = side
      && (concat || spaSide s n (f 52 4) = side) && (pool != 3 || spaSide s n (f 56 4) = side)
      && (!dStatusWr d || spaSide s n (dStatusSpa d) = side)

/-- TE_UPDATE (12 R285). -/
def updateOk (s : State) (n : Nat) (d : Bytes) : Bool :=
  let f := fieldAt d
  1 ≤ f 36 4 && f 36 4 ≤ 4096 && f 40 1 ≤ 7 && domainOn s (6 + f 40 1) && zeroAt d 41 48
    && (!dStatusWr d || spaSide s n (dStatusSpa d) = spaSide s n (f 32 4))

/-- The unit accepts the body. -/
def bodyOk (s : State) (n unit : Nat) (d : Bytes) : Bool :=
  if unit = 0 then (if dKind d = kindMmLoad then mmLoadOk s n d else mmRunOk s n d)
  else if unit ≤ 2 then vecOk d
  else if unit = 3 then (if dKind d = kindLookup then lookupOk s n d else updateOk s n d)
  else dmaOk d

/-- Header and body after the UNIT check: none, or the fault (10 R229, R240; 13 R319). -/
def headerFault (s : State) (n unit : Nat) (d : Bytes) : Option (Byte × Nat) :=
  let spa := dStatusSpa d
  if kindLen unit (dKind d) != some (fieldAt d 2 2) then some (fkCopDesc, 0)
  else if dStatusWr d && spa % 8 != 0 then some (fkAlign, spa)
  else if !(dSync d = 0xFFFF || (dSync d < 8192 && syncIn s (dSync d) (stageCtx s n))) then some (fkCopDesc, 0)
  else if !(fieldAt d 6 2 ≤ 1 && zeroAt d 20 32) then some (fkCopDesc, 0)
  else if !(bodyOk s n unit d) then some (fkCopDesc, 0)
  else none

/-- LEN where it is one a descriptor may have, else the header alone. -/
def descLen (s : State) (n spa : Nat) : Nat :=
  let l := leNat (spadRead s n (spa + 2) 2)
  if 32 ≤ l && l ≤ 256 && l % 16 = 0 then l else 32

/-- The checks of R229 in order: a fault with its address, or a hold, or the descriptor. -/
inductive DescRead where
  | fault (kind : Byte) (addr : Nat)
  | hold
  | ok (d : Bytes)
deriving DecidableEq, Repr

def readDesc (s : State) (n unit spa : Nat) : DescRead :=
  if spa % 16 != 0 then .fault fkAlign spa
  else if !inSpad s n spa 32 then .fault fkSpaRange spa
  else
    let len := descLen s n spa
    if !inSpad s n spa len then .fault fkSpaRange spa
    else match rangeSays s n spa len none with
      | some (_, .held) => .hold
      | some (_, _) => .fault fkNotOwner spa
      | none =>
        if spaBank s n spa != spaBank s n (spa + (len - 1)) then .fault fkCopDesc spa
        else if !unitOk s n unit then .fault fkIllegal spa
        else
          let d := spadRead s n spa len
          match headerFault s n unit d with
          | some (k, a) => .fault k (if k = fkAlign then a else spa)
          | none => .ok d

/-- The queues an operation counts against (09 R209). -/
def opSide (s : State) (n unit : Nat) (d : Bytes) : Nat :=
  if !isBridled s n then 1
  else if unit = 0 then 3
  else if unit = 2 || 8 ≤ unit then 2
  else if unit = 3 then (if spaSide s n (if dKind d = kindLookup then fieldAt d 60 4 else fieldAt d 32 4) = 1 then 2 else 1)
  else 1

/-! ### The scratchpad ranges an operation names (09 R200) -/

def rowRanges (base stride len k : Nat) : List (Nat × Nat) := (List.range k).map fun i => (base + i * stride, len)

def fmtBytes (fmt n : Nat) : Nat := (n * elemBits fmt + 7) / 8

def mmLoadRanges (d : Bytes) : List (Nat × Nat) :=
  let f := fieldAt d
  (if f 49 1 = 0 then rowRanges (f 32 4) (f 36 4) (fmtBytes (f 48 1) (f 46 2)) (f 44 2)
   else rowRanges (f 32 4) (f 36 4) (fmtBytes (f 48 1) (f 44 2)) (f 46 2))
    ++ (if isMx (f 48 1) then [(f 40 4, 8 * f 46 2)] else [])

/-- Bytes of one output element by OFMT of MM_RUN. -/
def mmOutBytes (ofmt : Nat) : Nat := if ofmt = 0 then 4 else if ofmt = 1 then 2 else 1

/-- Token `t` is masked (11 R253). -/
def maskBit (s : State) (n : Nat) (d : Bytes) (t : Nat) : Bool :=
  let m := fieldAt d 60 4
  m != noSpa && bitAt (spadByte s n (m + t / 8)).toNat (t % 8)

/-- The tokens of a run that are not masked: the others read and write nothing (11 R254). -/
def liveTokens (s : State) (n : Nat) (d : Bytes) : List Nat := (List.range (fieldAt d 44 4)).filter fun t => !maskBit s n d t

/-- `len` bytes for each token, `stride` apart. -/
def tokenRanges (base stride len : Nat) (tk : List Nat) : List (Nat × Nat) := tk.map fun t => (base + t * stride, len)

def mmRunReads (s : State) (n : Nat) (d : Bytes) : List (Nat × Nat) :=
  let f := fieldAt d
  let tk := liveTokens s n d
  (if f 60 4 = noSpa then [] else [(f 60 4, (f 44 4 + 7) / 8)])
    ++ tokenRanges (f 32 4) (f 36 4) (fmtBytes (f 72 1) 256) tk
    ++ (if isMx (f 72 1) then tokenRanges (f 40 4) 8 8 tk else [])
    ++ (if 2 ≤ f 74 1 then tokenRanges (f 64 4) 4 4 tk else [])
    ++ (if f 74 1 = 3 then tokenRanges (f 76 4) 4 4 tk else [])

def mmRunWrites (s : State) (n : Nat) (d : Bytes) (cols : Nat) : List (Nat × Nat) :=
  let f := fieldAt d
  let tk := liveTokens s n d
  (if f 48 4 = noSpa then [] else
    tokenRanges (f 48 4) (f 52 4) (cols * mmOutBytes (f 73 1)) tk
      ++ (if f 73 1 = 2 then tokenRanges (f 56 4) 8 8 tk else []))

/-- Which of b and c a vector operation reads from scratchpad. -/
def vecUsesB (kind : Nat) : Bool := (0x0101 ≤ kind && kind ≤ 0x0107) || kind = 0x0124
def vecUsesC (kind : Nat) : Bool := kind = 0x0104

def vecReads (d : Bytes) : List (Nat × Nat) :=
  let f := fieldAt d
  let k := dKind d
  let n := f 48 4
  [(f 32 4, fmtBytes (f 52 1) n)]
    ++ (if vecUsesB k && (k = 0x0124 || f 54 1 = 0) then
          [(f 36 4, if k = 0x0124 then (n + 31) / 32 else fmtBytes (f 52 1) n)] else [])
    ++ (if vecUsesC k then [(f 40 4, fmtBytes (f 52 1) n)] else [])

def vecWrites (d : Bytes) : List (Nat × Nat) :=
  let f := fieldAt d
  let k := dKind d
  let n := f 48 4
  if k = 0x0110 || k = 0x0111 then [(f 44 4, 4)]
  else (f 44 4, fmtBytes (f 53 1) n) :: (if k = 0x0123 then [(f 40 4, (n + 31) / 32)] else [])

def dmaRanges (d : Bytes) : List (Nat × Nat) :=
  let f := fieldAt d
  rowRanges (f 40 4) (f 60 4) (f 48 4) (f 52 4)

def lookupReads (d : Bytes) : List (Nat × Nat) :=
  let f := fieldAt d
  let n := f 40 4
  [(f 48 4, n * (if bitAt (f 37 1) 1 then 4 else 8))]
    ++ (if f 35 1 = 4 then [] else [(f 52 4, 4 * f 44 4)])
    ++ (if f 35 1 = 3 then [(f 56 4, 4 * n)] else [])

/-- Bytes of an update record's header. -/
def recHeader := 32

/-- The records of a TE_UPDATE, each with its own table's ROW_BYTES: where each begins, and its length (12 R284, R285). -/
def recordsAt (s : State) (n : Nat) : Nat → Nat → List (Nat × Nat)
  | 0, _ => []
  | k + 1, spa =>
    let len := recHeader + ((tableOf s (leNat (spadRead s n spa 2))).map fun t => t.rowBytes).getD 0
    (spa, len) :: recordsAt s n k (spa + len)

/-- Every LOCAL range an operation reads or writes. -/
def opRanges (s : State) (n : Nat) (o : CopOp) : List (Nat × Nat) :=
  let d := o.desc
  (if dStatusWr d then [(dStatusSpa d, 8)] else []) ++
  (if o.unit = 0 then
     (if dKind d = kindMmLoad then mmLoadRanges d else mmRunReads s n d ++ mmRunWrites s n d 256)
   else if o.unit ≤ 2 then vecReads d ++ vecWrites d
   else if o.unit = 3 then
     (if dKind d = kindLookup then lookupReads d else recordsAt s n (fieldAt d 36 4) (fieldAt d 32 4))
   else dmaRanges d)

/-- A range of the scratchpad of core `n` meets bank `b` of core `c`. -/
def meetsBank (s : State) (n : Nat) (r : Nat × Nat) (c b : Nat) : Bool :=
  r.2 != 0 && (rangePoints r.1 r.2).any fun a => spaBank s n a == some (c, b)

/-- The first range of a list that the core may not use: the fault and its SPA, or a hold. -/
def rangesFault (s : State) (n id : Nat) (l : List (Nat × Nat)) : Option (Byte × Nat) :=
  l.findSome? fun r =>
    if r.2 = 0 then none
    else if !inSpad s n r.1 r.2 then some (fkSpaRange, r.1)
    else match rangeSays s n r.1 r.2 (some id) with
      | some (a, .notOwner) => some (fkNotOwner, a)
      | _ => none

def rangesHeld (s : State) (n id : Nat) (l : List (Nat × Nat)) : Bool :=
  l.any fun r => r.2 != 0 && (rangeSays s n r.1 r.2 (some id)).any fun x => x.2 == .held

end Sys2Proof.Machine
end

