-- ==== Sys2Proof/Machine/Seq.lean ====
section
/-! DEFINITION. Seq.lean: the sequencer: registers, instruction words, issue, retirement, faults, and the resolving of
branches (10 R219 to R242). -/

namespace Sys2Proof.Machine

/-! ### Registers (10 R221 to R223) -/

/-- G0 reads zero. -/
def Regs.get (r : Regs) (i : Nat) : Dword := if i = 0 then 0 else vget r.g i 0

/-- Writes to G0 are discarded. -/
def Regs.put (r : Regs) (i : Nat) (v : Dword) : Regs := if i = 0 then r else { r with g := vmod r.g i fun _ => v }

/-- Products due before the instruction numbered `num` overwrite PH and PL, in order. -/
def landDue (r : Regs) : Regs :=
  let l := r.prods.filter fun p => p.landAt ≤ r.num
  let r' := { r with prods := r.prods.filter fun p => !(p.landAt ≤ r.num) }
  l.foldl (fun r p => { r with
    ph := p.ph
    pl := p.pl }) r'

/-! ### Instruction words (10 R224, R225) -/

def wOp (w : Nat) : Nat := bitsAt w 31 26
def wRd (w : Nat) : Nat := bitsAt w 25 21
def wRa (w : Nat) : Nat := bitsAt w 20 16
def wRb (w : Nat) : Nat := bitsAt w 15 11
def wRc (w : Nat) : Nat := bitsAt w 10 6
def wFn (w : Nat) : Nat := bitsAt w 5 0
def wImm (w : Nat) : Nat := bitsAt w 15 0
/-- IMM16 sign-extended. -/
def wSimm (w : Nat) : Int := toSigned 16 (wImm w)
def dword (v : Int) : Dword := BitVec.ofInt 64 v

/-- OP and, where the opcode has functions, FN: one number for each instruction. -/
def wKey (w : Nat) : Nat :=
  wOp w * 64 + (if wOp w = 0 || wOp w = 8 || wOp w = 9 || wOp w = 0x0C then wFn w else 0)

/-- Instructions by OP and FN (10 R225). -/
def seqKeys : List Nat :=
  span 0 14 ++ (span 1 8).map (· * 64) ++ [0x200, 0x201] ++ span 0x240 0x24D ++ [0x280] ++ span 0x300 0x305
    ++ [0x400, 0x440, 0x480, 0x500, 0x540, 0x580] ++ (span 0x18 0x20).map (· * 64) ++ [0xA00, 0xA40, 0xE00]

/-- The fields the opcode table calls reserved are zero (10 R224, R225, R228). -/
def reservedZero (w : Nat) : Bool :=
  let op := wOp w
  if op = 5 || op = 6 || op = 7 then bitsAt w 15 6 = 0
  else if op = 8 then wRd w = 0
  else if op = 0x0A then wRa w = 0
  else if op = 0x28 then bitsAt w 15 11 = 0
  else if op = 0x29 then wRa w = 0 && bitsAt w 15 11 = 0
  else if op = 0x38 then bitsAt w 16 0 = 0
  else true

def legalWord (w : Nat) : Bool := seqKeys.contains (wKey w) && reservedZero w

/-- Bytes of the instruction store (10 R219). -/
def istoreSize : Nat := 0x40000

def instrAt (s : State) (n pc : Nat) : Nat := leNat (memRead (coreOf s n).istore pc 4)

/-- A target reached by an offset; one outside the store is no target. -/
def relTarget (pc : Nat) (off : Int) : Nat :=
  let v := (pc : Int) + off * 4
  if v < 0 then istoreSize else v.toNat

/-! ### Progress and squash -/

/-- Instructions of the thread that are confirmed: none older than an unresolved branch is in doubt (10 R234). -/
def confirmedNum (t : Thread) : Nat :=
  match t.branches with
  | b :: _ => b.saved.num
  | [] => t.regs.num

/-- Confirmed instructions count towards HLT_PROGRESS (15 R368). -/
def account (s : State) (n t : Nat) : State :=
  let c := confirmedNum (threadOf s n t)
  let d := c - (threadOf s n t).confirmed
  let s := modThread s n t fun x => { x with confirmed := c }
  modCore s n fun x => { x with
    progress := x.progress + BitVec.ofNat 64 ((x.instrs + d) / 1024)
    instrs := (x.instrs + d) % 1024 }

/-- Operations that satisfy `p` are squashed: those not begun vanish, the others run on to their boundary (10 R238). -/
def squashOps (s : State) (n : Nat) (p : CopOp → Bool) : State :=
  modCore s n fun c =>
    let l := c.cops.filterMap fun o =>
      if !p o then some o
      else if o.phase = .queued then none
      else some { o with
        phase := .squashed
        staging := []
        fault := none }
    { c with cops := l }

/-- The registers a thread has when all it runs past an unresolved branch is squashed. -/
def sureRegs (t : Thread) : Regs :=
  match t.branches with
  | b :: _ => b.saved
  | [] => t.regs

/-- Confirmed stores of a thread, which a draining bank holds (09 R200). -/
def sureStores (t : Thread) : List HeldStore := t.stores.filter fun st => st.depth = 0

/-- A thread's speculative work and waits are dropped. -/
def quiet (t : Thread) (st : ThState) : Thread := { t with
  state := st
  regs := sureRegs t
  branches := []
  stores := sureStores t
  waits := []
  block := none }

/-- A fault of the instruction numbered `num` is raised (10 R241): recorded, every thread of the stage stops, unconfirmed
operations are squashed, and the request is to end SEQ_FAULT (13 R313). In a thread that has raised one already, the older in
program order stays recorded. -/
def raiseFault (s : State) (n t num : Nat) (kind detail : Byte) (pc addr : Nat) : State :=
  match (coreOf s n).stage with
  | none => s
  | some g =>
    if (threadOf s n t).state = .faulted && (threadOf s n t).faultNum ≤ num then
      modCore s n fun c => { c with seqFaults := c.seqFaults + 1 }
    else
      let rec_ : SeqFault := ⟨kind, detail, BitVec.ofNat 12 g.slot, true, BitVec.ofNat 18 pc, BitVec.ofNat 64 addr⟩
      let s := modCore s n fun c => { c with
        seqFaults := c.seqFaults + 1
        threads := c.threads.map fun x => if x.state.active then quiet x .halted else x }
      let s := modThread s n t fun x => { quiet x .faulted with
        fault := rec_
        faultNum := num }
      let s := squashOps s n fun o => 1 ≤ o.depth
      decideEnd s g.slot rqSeqFault (BitVec.ofNat 16 (kind.toNat + 256 * n + 8192 * t)) 0

/-- An instruction that meets a fault: held while unconfirmed, so it waits; else raised. -/
def seqFault (s : State) (n t : Nat) (kind detail : Byte) (pc addr : Nat) : State :=
  if (threadOf s n t).branches.isEmpty then raiseFault s n t (threadOf s n t).regs.num kind detail pc addr else s

/-! ### Issue -/

/-- A hand-over this thread wrote is not complete (09 R200). -/
def handing (s : State) (n t : Nat) : Bool :=
  (coreOf s n).banks.any (fun b => b.pend.isSome && b.byThread == some (n, t)) ||
    (isBridled s n && (coreOf s (n + 1)).banks.any fun b => b.pend.isSome && b.byThread == some (n, t))

def opsOf (s : State) (n t : Nat) : List CopOp :=
  (coreOf s n).cops.filter fun o => o.thread = t && o.phase != .squashed

/-- The thread may issue its next instruction (10 R234, R241); a confirmed store that its bank holds goes first (09 R200). -/
def canIssue (s : State) (n t : Nat) : Bool :=
  let x := threadOf s n t
  (coreOf s n).stage.isSome && !(coreOf s n).fenced && x.state.active && !handing s n t
    && !(opsOf s n t).any (fun o => 1 ≤ o.depth && o.fault.isSome) && !x.stores.any (fun st => st.depth = 0)
    && (match x.branches with
        | b :: _ => x.regs.num - b.saved.num < 24
        | [] => true)

def specOff (s : State) (n : Nat) : Bool := (coreOf s n).stage.any fun g => g.specOff

/-- What executing an instruction does. -/
inductive SeqRes where
  /-- it does not execute yet; the state may show that it stalls -/
  | wait (s : State)
  | fault (kind detail : Byte) (addr : Nat)
  /-- it retires; the next instruction follows -/
  | next (s : State) (r : Regs)
  | goto (s : State) (r : Regs) (target : Nat)
  /-- a predicted jump: where it goes, and another place it may be predicted to go -/
  | branch (s : State) (r : Regs) (actual other : Nat)

/-- The instruction retires with these registers and goes on at `pc`. -/
def retire (s : State) (n t : Nat) (r : Regs) (old pc : Nat) : State :=
  if istoreSize ≤ pc then seqFault s n t fkPcRange 0 old 0
  else account (modThread s n t fun x => { x with
    state := .running
    block := none
    regs := { r with
      pc := pc
      num := r.num + 1 } }) n t

/-- A jump is predicted and run past (10 R234); the prediction is free (log 40). Without speculation, or where the
predicted place is no address, it resolves at once. -/
def branchTo (s : State) (n t : Nat) (r : Regs) (old actual other : Nat) : State :=
  if specOff s n then retire s n t r old actual
  else
    let (v, s) := takeFree s
    let p := if v % 2 = 1 then actual else other
    if istoreSize ≤ p then retire s n t r old actual
    else modThread s n t fun x => { x with
      state := .running
      branches := x.branches ++ [⟨old, p, actual, { r with
        pc := actual
        num := r.num + 1 }⟩]
      regs := { r with
        pc := p
        num := r.num + 1 } }

/-- Thread `t` of core `n` executes the instruction `key` if it stands at its PC; an undefined word there, a reserved
field that is not zero or a PC that is no multiple of 4 faults (10 R219, R224, R225). -/
def seqDo (s : State) (n t key : Nat) (f : Nat → Regs → State → SeqRes) : State :=
  if !canIssue s n t then s
  else
    let r := landDue (threadOf s n t).regs
    if r.pc % 4 != 0 then seqFault s n t fkPcRange 0 r.pc 0
    else
      let w := instrAt s n r.pc
      if !legalWord w then seqFault s n t fkIllegal 0 r.pc 0
      else if wKey w != key then s
      else match f w r s with
        | .wait s => s
        | .fault k d a => seqFault s n t k d r.pc a
        | .next s r' => retire s n t r' r.pc (r.pc + 4)
        | .goto s r' p => retire s n t r' r.pc p
        | .branch s r' a o => branchTo s n t r' r.pc a o

/-- An instruction of registers alone. -/
def seqAlu (s : State) (n t key : Nat) (f : Nat → Regs → Regs) : State :=
  seqDo s n t key fun w r s => .next s (f w r)

/-- An instruction that executes only once confirmed (10 R225). -/
def seqHeld (s : State) (n t key : Nat) (f : Nat → Regs → State → SeqRes) : State :=
  seqDo s n t key fun w r s => if (threadOf s n t).branches.isEmpty then f w r s else .wait s

/-! ### Scalar access to the scratchpad (10 R226, R227, R236) -/

/-- The address of a load or store. -/
def scalarSpa (r : Regs) (w : Nat) : Nat := (r.get (wRa w) + dword (wSimm w)).toNat

/-- The checks of a scalar access, in the order of R226: none, or what the instruction does instead. -/
def scalarBad (s : State) (n spa len : Nat) : Option SeqRes :=
  if spa % len != 0 then some (.fault fkAlign 0 spa)
  else if !inSpad s n spa len then some (.fault fkSpaRange 0 spa)
  else match rangeSays s n spa len none with
    | some (_, .held) => some (.wait s)
    | some _ => some (.fault fkNotOwner 0 spa)
    | none => none

/-- Bytes as a load reads them: held stores of the thread lie over the scratchpad. -/
def loadBytes (s : State) (n t spa len : Nat) : Bytes :=
  (List.range len).map fun i =>
    (threadOf s n t).stores.foldl
      (fun v st => if st.spa ≤ spa + i && spa + i < st.spa + st.data.length then st.data.getD (spa + i - st.spa) 0 else v)
      (spadByte s n (spa + i))

def seqLoad (s : State) (n t key len : Nat) : State :=
  seqDo s n t key fun w r s =>
    let spa := scalarSpa r w
    match scalarBad s n spa len with
    | some x => x
    | none => .next s (r.put (wRd w) (BitVec.ofNat 64 (leNat (loadBytes s n t spa len))))

/-- A store: performed at once when confirmed, held with its older branches otherwise. -/
def seqStore (s : State) (n t key len : Nat) : State :=
  seqDo s n t key fun w r s =>
    let spa := scalarSpa r w
    let data := leBytes len (r.get (wRd w)).toNat
    match scalarBad s n spa len with
    | some x => x
    | none =>
      let d := (threadOf s n t).branches.length
      if d = 0 then .next (spadWrite s n spa data) r
      else .next (modThread s n t fun x => { x with stores := x.stores ++ [⟨r, spa, data, d⟩] }) r

/-! ### Sync objects (10 R233; 13 R319) -/

/-- The object a register names, or SYNC_RANGE, whose ADDR is the index that its low 13 bits hold (10 R233, R242). -/
def syncObj (s : State) (n : Nat) (v : Dword) : Except SeqRes Nat :=
  if v.toNat < 8192 && syncIn s v.toNat (stageCtx s n) then .ok v.toNat
  else .error (.fault fkSyncRange 0 (v.toNat % 8192))

def withObj (s : State) (n : Nat) (v : Dword) (f : Nat → SeqRes) : SeqRes :=
  match syncObj s n v with
  | .ok o => f o
  | .error e => e

/-- A wait as it is when armed (10 R231). -/
def armed (s : State) (o : Nat) (v d : Dword) : Wait :=
  let c := ((syncOf s o).map fun x => x.counter).getD 0
  ⟨o, v, d, if v.toNat ≤ c.toNat then some true else if late s d then some false else none⟩

/-- Arming a wait: its object's home core is this core or its partner, and at most 16 are armed (10 R231; 13 R319). -/
def arm (s : State) (n t : Nat) (obj v d : Dword) (f : State → SeqRes) : SeqRes :=
  withObj s n obj fun o =>
    if !(o / 256 = n || (isBridled s n && o / 256 = n + 1)) then .fault fkSyncRange 0 o
    else if 16 ≤ (threadOf s n t).waits.length then .fault fkSyncLimit 0 0
    else f (modThread s n t fun x => { x with waits := x.waits ++ [armed s o v d] })

/-- Bits of the waits of a list whose end is as given. A wait that settled as it was armed has its bit too: every wait that
WBLK has not reported counts as not yet settled when it begins (log 41). -/
def waitBits (l : List Wait) (e : Bool) (at_ : Nat) : Nat :=
  bitsOf ((listIdx l).map fun w => (w.1 + at_, b2n (w.2.settled == some e)))

/-- A blocked wait set is looked at: done, its result to RD and its settled waits gone, or still blocked (10 R232). -/
def wblkOn (s : State) (n t : Nat) (w : Nat) (r : Regs) (b : Block) : SeqRes :=
  let ws := (threadOf s n t).waits
  let set := ws.take b.count
  let done := if b.only then (set.drop (b.count - 1)).all (fun x => x.settled.isSome)
    else if b.all then set.all (fun x => x.settled.isSome) else set.isEmpty || set.any fun x => x.settled.isSome
  if !done then .wait (modThread s n t fun x => { x with
    state := .waiting
    block := some b })
  else if b.only then
    let v := (ws.getLast?).bind fun x => x.settled
    .next (modThread s n t fun x => { x with waits := x.waits.dropLast }) (r.put (wRd w) (if v == some true then 0 else 1))
  else
    .next (modThread s n t fun x => { x with waits := x.waits.filter fun y => y.settled.isNone })
      (r.put (wRd w) (BitVec.ofNat 64 (waitBits ws true 0 + waitBits ws false 16)))

/-! ### Core registers (10 R228; 09 R199, R202) -/

/-- A thread's write of an owner code to bank `b` of core `c`. -/
def writeOwner (s : State) (n t c b : Nat) (code : Byte) (r : Regs) : SeqRes :=
  let k := bankOf s c b
  if k.pend.isSome then (if k.reclaim && code = ownLocal then .wait s else .fault fkNotOwner 0 0)
  else if k.ownerB = ownLocal then
    if code = ownLocal then .next s r
    else .next (modBank s c b fun k => { k with
      pend := some code
      reclaim := false
      byThread := some (n, t)
      mark := (coreOf s n).nextOp }) r
  else if code = ownLocal && k.ownerB != ownMp then
    .next (modBank s c b fun k => { k with
      pend := some ownLocal
      reclaim := true
      byThread := some (n, t) }) r
  else .fault fkNotOwner 0 0

/-- The core whose window IMM16 selects; bit 10 stands only in the even core of a bridled pair. -/
def crWindow (s : State) (n w : Nat) : Option Nat :=
  if bitAt (wImm w) 10 then (if isBridled s n && n % 2 = 0 then some (n + 1) else none) else some n

def crWrite (s : State) (n t w : Nat) (r : Regs) : SeqRes :=
  let i := wImm w % 1024
  let code := (r.get (wRd w)).setWidth 8
  match crWindow s n w with
  | none => .fault fkIllegal 0 0
  | some c =>
    if !(0x40 ≤ i && i ≤ 0x40 + 33) then .fault fkCrWrite 0 0
    else if !(code = ownLocal || (0x10 ≤ code.toNat && code.toNat ≤ 0x17)) then .fault fkCrWrite 0 0
    else writeOwner s n t c (i - 0x40) code r

/-! ### Coprocessor issue (10 R229, R234, R237) -/

/-- COP: waits at the bounds and behind held stores; else reads the descriptor and queues the operation. -/
def copIssue (s : State) (n t w : Nat) (r : Regs) : SeqRes :=
  let unit := bitsAt w 25 22
  let spa := (r.get (bitsAt w 21 17)).toNat
  let x := threadOf s n t
  let depth := x.branches.length
  let stalls (side : Nat) : Bool :=
    (bitAt side 0 && 128 ≤ copCount s n) || (bitAt side 1 && 128 ≤ copCount s (n + 1))
  if !x.stores.isEmpty || (depth != 0 && 4 ≤ ((opsOf s n t).filter fun o => 1 ≤ o.depth).length) then .wait s
  else match readDesc s n unit spa with
    | .hold => .wait s
    | .fault k a => .fault k (BitVec.ofNat 8 unit) a
    | .ok d =>
      let side := opSide s n unit d
      if stalls side then .wait (modThread s n t fun x => { x with state := .stalled })
      else
        let o : CopOp :=
        { id := (coreOf s n).nextOp, unit := unit, side := side, thread := t, pc := r.pc, num := r.num,
          desc := d, depth := depth, phase := .queued, prog := 0, status := 0, detail := 0, staging := [],
          fault := none, badCols := [], saved := r }
        .next (modCore s n fun c => { c with
          nextOp := c.nextOp + 1
          cops := c.cops ++ [o] }) r

/-! ### Operations' faults and branch resolution -/

/-- An operation ends by a fault: its accesses are discarded and its place freed. -/
def dropOp (s : State) (n id : Nat) : State :=
  accDiscard (modCore s n fun c => { c with cops := c.cops.filter fun o => o.id != id })
    fun w => match w with
      | .dma c o _ => c = n && o = id
      | _ => false

/-- An operation meets a fault: raised if confirmed, held otherwise (10 R241). -/
def opFault (s : State) (n : Nat) (o : CopOp) (kind detail : Byte) (addr : Nat) : State :=
  if o.depth = 0 then raiseFault (dropOp s n o.id) n o.thread o.num kind detail o.pc addr
  else modOp s n o.id fun o => { o with fault := o.fault <|> some ⟨kind, detail, o.pc, BitVec.ofNat 64 addr⟩ }

/-- The thread is as it stood at an instruction that now faults: what is younger is squashed (10 R234, R241). -/
def backTo (s : State) (n t : Nat) (r : Regs) : State :=
  let s := squashOps s n fun o => o.thread = t && r.num < o.num
  account (modThread s n t fun x => { x with
    branches := []
    regs := r }) n t

/-- Confirmed stores are performed in order until one faults, its bank holds it (09 R200), or it is younger than a held
fault. -/
def commitStores (s : State) (n t : Nat) (upTo : Option Nat) : List HeldStore → State
  | [] => s
  | st :: rest =>
    if st.depth != 0 || upTo.any (fun k => k < st.saved.num) then s
    else
      let done := modThread s n t fun x => { x with stores := x.stores.drop 1 }
      match rangeSays s n st.spa st.data.length none with
      | none => commitStores (spadWrite done n st.spa st.data) n t upTo rest
      | some (_, .held) => s
      | some _ => raiseFault (backTo done n t st.saved) n t st.saved.num fkNotOwner 0 st.saved.pc st.spa

/-- The oldest held fault among confirmed operations of a thread. -/
def heldFault (s : State) (n t : Nat) : Option CopOp :=
  (opsOf s n t).foldl (fun b o => if o.depth != 0 || o.fault.isNone then b else match b with
    | none => some o
    | some p => if o.num < p.num then some o else b) none

/-- What is confirmed of a thread takes effect in program order: stores, then the oldest held fault once no store before it
is held (10 R234, R241). -/
def settleThread (s : State) (n t : Nat) : State :=
  let bad := heldFault s n t
  let s := commitStores s n t (bad.map fun o => o.num) (threadOf s n t).stores
  let x := threadOf s n t
  if x.state = .faulted then s
  else match bad.bind fun o => o.fault.map fun f => (o, f) with
    | some (o, f) =>
      if x.stores.any fun st => st.depth = 0 && st.saved.num < o.num then s
      else raiseFault (dropOp (backTo s n t o.saved) n o.id) n t o.num f.kind f.detail o.pc f.addr.toNat
    | none => account s n t

/-- Work behind one branch is confirmed: depths fall by one, and what reaches 0 takes effect (10 R234, R241). -/
def confirmOne (s : State) (n t : Nat) : State :=
  let s := modThread s n t fun x => { x with
    branches := x.branches.drop 1
    stores := x.stores.map fun st => { st with depth := st.depth - 1 } }
  let s := modCore s n fun c =>
    { c with cops := c.cops.map fun o => if o.thread = t then { o with depth := o.depth - 1 } else o }
  accConfirm (settleThread s n t) fun w => match w with
    | .dma c id _ => c = n && (opOf s n id).any fun o => o.thread = t && o.depth = 0 && o.phase != .squashed
    | _ => false

/-- A misprediction: everything younger than the branch is squashed (10 R235). -/
def squashOne (s : State) (n t : Nat) (b : Branch) : State :=
  let s := squashOps s n fun o => o.thread = t && 1 ≤ o.depth
  let s := modThread s n t fun x => { x with
    state := .running
    regs := b.saved
    branches := []
    stores := sureStores x }
  if istoreSize ≤ b.actual then raiseFault s n t b.saved.num fkPcRange 0 b.pc 0 else account s n t

/-- BRANCH_RESOLVE (10 R234, R235): a thread's oldest unresolved branch resolves. -/
def execBranchResolve (n : Fin 32) (t : Fin 4) (s : State) : Res :=
  live s fun s =>
    match (threadOf s n t).branches with
    | [] => s
    | b :: _ => if b.predicted = b.actual then confirmOne s n t else squashOne s n t b

/-- Reads already issued for a squashed operation have returned. -/
def readsBack (s : State) (n id : Nat) : Bool :=
  (accsOf s fun w => match w with
    | .dma c o _ => c = n && o = id
    | _ => false).all fun x => !x.2.stage.issued

/-- SQUASHED_OPERATION_BOUNDARY (10 R238). -/
def execSquashedOperationBoundary (n : Fin 32) (id : Nat) (s : State) : Res :=
  live s fun s =>
    match opOf s n id with
    | none => s
    | some o =>
      if o.phase != .squashed || !readsBack s n id then s
      else modCore (dropOp s n id) n fun c => { c with
        squashed := c.squashed + 1
        specSquashed := c.specSquashed + 1 }

/-- SYNC_WAIT_TIMEOUT (10 R231): an armed wait settles as timed out. -/
def execSyncWaitTimeout (n : Fin 32) (t : Fin 4) (w : Nat) (s : State) : Res :=
  live s fun s =>
    modThread s n t fun x =>
      let ws := (listIdx x.waits).map fun e =>
        if e.1 = w && e.2.settled.isNone && late s e.2.deadline then { e.2 with settled := some false } else e.2
      { x with waits := ws }

end Sys2Proof.Machine
end

