-- ==== Sys2Proof/Machine/CopOps.lean ====
section
/-! DEFINITION. CopOps.lean: how a coprocessor operation begins, stages or writes its results (10 R229, R230, R237). -/

namespace Sys2Proof.Machine

/-- Every operation issued earlier to the same unit has begun (10 R230). -/
def unitTurn (s : State) (n : Nat) (o : CopOp) : Bool :=
  !(coreOf s n).cops.any fun p => p.unit = o.unit && p.id < o.id && p.phase = .queued

/-- Operation `id` of core `n`, if it has this KIND, no fault, and its turn: not begun, or begun and paused, and now
confirmed. -/
def opReady (s : State) (n id kind : Nat) : Option CopOp :=
  match opOf s n id with
  | none => none
  | some o =>
    if dKind o.desc != kind || o.fault.isSome || (coreOf s n).fenced then none
    else if o.phase = .queued && unitTurn s n o then some o
    else if o.phase = .running && o.depth = 0 then some o
    else none

/-- Where the descriptor of an operation stood. -/
def descSpa (s : State) (n : Nat) (o : CopOp) : Nat := (o.saved.get (bitsAt (instrAt s n o.pc) 21 17)).toNat

/-- The bytes an unconfirmed operation may stage (10 R237). -/
def stagingSize : Nat := 0x10000

/-- Bytes with their scratchpad addresses. -/
def spread (ws : List (Nat × Bytes)) : List (Nat × Byte) :=
  (ws.map fun w => (listIdx w.2).map fun b => (w.1 + b.1, b.2)).flatten

def putAll (s : State) (n : Nat) (l : List (Nat × Byte)) : State := l.foldl (fun s b => spadPut s n b.1 b.2) s

/-- Results are formed: written if the operation is confirmed, staged otherwise; more than a buffer pauses it. -/
def opOut (s : State) (n : Nat) (o : CopOp) (ws : List (Nat × Bytes)) (status detail : Nat) : State :=
  let l := spread ws
  if o.depth = 0 then
    modOp (putAll s n l) n o.id fun o => { o with
      phase := .ready
      status := BitVec.ofNat 16 status
      detail := BitVec.ofNat 32 detail }
  else if l.length ≤ stagingSize then
    modOp s n o.id fun o => { o with
      phase := .ready
      staging := l
      status := BitVec.ofNat 16 status
      detail := BitVec.ofNat 32 detail }
  else modOp s n o.id fun o => { o with phase := .running }

/-- Operation `id` runs if its turn has come and it may use its scratchpad: its reads always, its writes once it is
confirmed (09 R197, 10 R237). -/
def opRun (s : State) (n id kind : Nat) (reads writes : Bytes → List (Nat × Nat)) (f : CopOp → State → State) : State :=
  match opReady s n id kind with
  | none => s
  | some o =>
    let l := reads o.desc ++ (if o.depth = 0 then writes o.desc else [])
    match rangesFault s n id l with
    | some (k, a) => opFault s n o k (BitVec.ofNat 8 o.unit) a
    | none => if rangesHeld s n id l then s else f o s

/-- Status codes of operations (11 R268, 12 R282). -/
def osColumn := 0x0010
def osSaturated := 0x0011
def osFormat := 0x0012
def osTimeout := 0x0020
def osMemory := 0x0021

def clampU32 (v : Nat) : Nat := min v (2 ^ 32 - 1)

end Sys2Proof.Machine
end

