-- ==== Sys2Proof/Machine/Dma.lean ====
section
/-! DEFINITION. Dma.lean: DMA_COPY, and the completion of coprocessor operations (10 R230; 11 R267, R268, R433). -/

namespace Sys2Proof.Machine

/-- Accesses of operation `id` of core `n`. -/
def dmaOwns (n id : Nat) (w : AccOwner) : Bool := match w with
  | .dma c o _ => c = n && o = id
  | _ => false

/-- The channel of a unit, and the core whose first-level TLB it has. -/
def dmaStream (s : State) (n unit : Nat) : Stream :=
  if isBridled s n && 8 ≤ unit then .dma (n + 1) (unit - 8) else .dma n (unit - 4)

/-- An operation on a channel begins only when the channel's previous one has completed (10 R230). -/
def channelFree (s : State) (n : Nat) (o : CopOp) : Bool :=
  !(coreOf s n).cops.any fun p => p.unit = o.unit && p.id < o.id

/-- Row `r` issued: reads bring bytes for the scratchpad, writes take them from it. The DATA remote timeout alone bounds
a remote access (11 R433). -/
def dmaRow (s : State) (n : Nat) (o : CopOp) (r : Nat) : State :=
  let f := fieldAt o.desc
  let spa := f 40 4 + r * f 60 4
  let len := f 48 4
  let a := mkAccess (.dma n o.id r) (dmaStream s n o.unit) (octOf n) (stageCtx s n) (f 32 8 + r * f 56 4) len
    (if f 44 1 = 0 then .read else .write) (if f 44 1 = 0 then [] else spadRead s n spa len)
  startAccess s { a with
    dest := spa
    spec := o.depth != 0 }

/-- Rows an operation may issue: all once confirmed; before, reads that fit a staging buffer and no writes (10 R237). -/
def dmaRowsNow (o : CopOp) : Nat :=
  let f := fieldAt o.desc
  if o.depth = 0 then f 52 4 else if f 44 1 = 0 then min (f 52 4) (stagingSize / f 48 4) else 0

/-- DMA_COPY issues the rows it may, once its channel has completed its earlier operations (10 R230). -/
def execDmaCopy (n : Fin 32) (op : Nat) (s : State) : Res :=
  live s fun s =>
    if (opOf s n op).any fun o => o.phase == .queued && !channelFree s n o then s
    else opRun s n op kindDma (fun d => if fieldAt d 44 1 = 1 then dmaRanges d else [])
      (fun d => if fieldAt d 44 1 = 0 then dmaRanges d else []) fun o s =>
      let k := dmaRowsNow o
      let s := (span o.prog k).foldl (fun s r => dmaRow s n o r) s
      modOp s n op fun o => { o with
        phase := .running
        prog := max o.prog k }

/-! ### How a DMA_COPY ends -/

/-- The row an access belongs to. -/
def rowOf (w : AccOwner) : Nat := match w with
  | .dma _ _ r => r
  | _ => 0

/-- Its access read poison that a scratchpad would take (08 R185). -/
def accPoisoned (a : Access) : Bool := a.kind.isRead && a.poison && a.stage == .done

/-- The fault an operation's accesses have met, if any: kind, DETAIL, DVA (11 R433). -/
def dmaFault (o : CopOp) (l : List (Nat × Access)) : Option (Byte × Byte × Nat) :=
  let tr (only : Bool) := l.findSome? fun x => match x.2.stage with
    | .failed (.xlate k) => if !only || k = 6 then some (fkTranslation, k, x.2.dva) else none
    | _ => none
  (tr true) <|> (tr false) <|>
    (l.find? fun x => accPoisoned x.2).map fun x => (fkPoison, BitVec.ofNat 8 o.unit, x.2.dva)

/-- A failed access by the status it gives. -/
def dmaRank : AccFail → Nat
  | .timeout => osTimeout
  | .missed => osTimeout
  | _ => osMemory

/-- Rows from row 0 up, without a gap, all of whose accesses ended well. -/
def rowsDone (rows : Nat) (l : List (Nat × Access)) : Nat :=
  let bad := l.filterMap fun x => match x.2.stage with
    | .failed _ => some (rowOf x.2.owner)
    | _ => none
  bad.foldl min rows

/-- Bytes read go to the scratchpad. -/
def dmaDeliver (s : State) (n : Nat) (l : List (Nat × Access)) : State :=
  l.foldl (fun s x => if x.2.kind.isRead && x.2.stage == .done then spadWrite s n x.2.dest x.2.data else s) s

/-- A write to host memory of this list failed (06 R432). -/
def hostWriteFailed (s : State) (l : List (Nat × Access)) : Bool :=
  l.any fun x => !x.2.kind.isRead && x.2.stage == .failed .memory
    && (findMap s x.2.ctx x.2.dva).any fun e => e.tier = 2

/-- The last host address an operation's writes reached (06 R130). -/
def lastHostAddr (s : State) (l : List (Nat × Access)) : Option Nat :=
  l.foldl (fun b x => if !x.2.kind.isRead && x.2.stage == .done then
    (match findMap s x.2.ctx x.2.dva with
      | some e => if e.tier = 2 then some (e.at_ x.2.dva) else b
      | none => b) else b) none

/-- What a request must know of its stage's host writes before its record (06 R130, R432). -/
def noteHost (s : State) (n : Nat) (l : List (Nat × Access)) : State :=
  match (coreOf s n).stage with
  | none => s
  | some g =>
    let s := modSlot s g.slot fun x => { x with
      outFail := x.outFail || hostWriteFailed s l
      lastHost := lastHostAddr s l <|> x.lastHost }
    if hostWriteFailed s l then setInt s 2 else s

/-! ### Completion (10 R230) -/

/-- The status word: STATUS, two reserved bytes, DETAIL. -/
def statusWord (status detail : Nat) : Bytes := leBytes 2 status ++ zeros 2 ++ leBytes 4 detail

/-- The range of an operation's status word. -/
def statusRange (o : CopOp) : List (Nat × Nat) := if dStatusWr o.desc then [(dStatusSpa o.desc, 8)] else []

/-- Results are visible; the status word is written, the sync object signalled, and the place in the queue freed (10
R230; 15 R368). A status word that finds its bank not owned faults the operation; while its bank drains to LOCAL the operation
waits with its results made (09 R200). -/
def completeOp (s : State) (n : Nat) (o : CopOp) (status detail : Nat) : State :=
  let d := o.desc
  match rangesFault s n o.id (statusRange o) with
  | some (k, a) => opFault s n o k (BitVec.ofNat 8 o.unit) a
  | none =>
    if rangesHeld s n o.id (statusRange o) then modOp s n o.id fun o => { o with
      phase := .ready
      staging := []
      status := BitVec.ofNat 16 status
      detail := BitVec.ofNat 32 detail }
    else
    let s := if dStatusWr d then spadWrite s n (dStatusSpa d) (statusWord status detail) else s
    let s := if dSync d = 0xFFFF then s else syncAdd s (dSync d) (BitVec.ofNat 64 (dSigValue d))
    modCore s n fun c => { c with
      cops := c.cops.filter fun p => p.id != o.id
      badCols := c.badCols ++ (o.badCols.filter fun b => b.2.2 = n).map fun b => (b.1, b.2.1)
      copDone := c.copDone + 1
      progress := c.progress + 1 }

/-- It has not left for its target. -/
def AccStage.waits : AccStage → Bool
  | .paused => true
  | .walk => true
  | .held => true
  | .ats => true
  | .stalled _ _ _ => true
  | _ => false

/-- A write of the list is in flight. -/
def writeInFlight (l : List (Nat × Access)) : Bool := l.any fun x => !x.2.kind.isRead && !x.2.stage.waits && !x.2.stage.ended

/-- A DMA_COPY meets a fault: accesses that have not left are dropped, and the fault follows the end of its writes in
flight, so that a record of the request comes after them (06 R129, R132, R432). -/
def dmaFaults (s : State) (n : Nat) (o : CopOp) (l : List (Nat × Access)) (k d : Byte) (a : Nat) : State :=
  let s := { s with acc := s.acc.filter fun x => !(dmaOwns n o.id x.2.owner && x.2.stage.waits) }
  if writeInFlight l then s else opFault (noteHost s n l) n o k d a

/-- What a DMA_COPY writes of the scratchpad. -/
def dmaWrites (o : CopOp) : List (Nat × Nat) := if fieldAt o.desc 44 1 = 0 then dmaRanges o.desc else []

/-- A DMA_COPY whose accesses have met a fault, or have all ended. One that began before its confirmation checks only now
that it may write the scratchpad (09 R197, 10 R237). -/
def dmaComplete (s : State) (n : Nat) (o : CopOp) : State :=
  let l := accsOf s (dmaOwns n o.id)
  match dmaFault o l with
  | some (k, d, a) => dmaFaults s n o l k d a
  | none =>
    if o.depth != 0 || o.prog < fieldAt o.desc 52 4 || !allEnded l then s
    else match rangesFault s n o.id (dmaWrites o) with
    | some (k, a) => dmaFaults s n o l k (BitVec.ofNat 8 o.unit) a
    | none =>
      if rangesHeld s n o.id (dmaWrites o) then s else
      let (st, det) := match firstBad dmaRank l with
        | none => (0, 0)
        | some w => (dmaRank w, rowsDone (fieldAt o.desc 52 4) l)
      let s := noteHost (dmaDeliver s n l) n l
      completeOp (accDrop s (dmaOwns n o.id)) n o st det

/-- The staged results of an operation confirmed since: written where it owns the banks. -/
def flushStaging (s : State) (n : Nat) (o : CopOp) : Option (Byte × Nat) × State :=
  match rangesFault s n o.id (o.staging.map fun b => (b.1, 1)) with
  | some f => (some f, s)
  | none => (none, putAll s n o.staging)

end Sys2Proof.Machine
end

