-- ==== Sys2Proof/Machine/Approx.lean ====
section
/-! DEFINITION. Approx.lean: the functions that the vector unit and the matrix epilogue give within 2 ulp (11 R254, R263).
Each is evaluated to far more bits than FP32 holds; which of the codes within 2 ulp is given is free (log 13). -/

namespace Sys2Proof.Machine

/-! ### Fixed point with `fxBits` fraction bits -/

def fxBits : Nat := 160
def fxOne : Nat := 2 ^ fxBits

/-- A positive value m * 2^e in fixed point. -/
def fxOf (m : Nat) (e : Int) : Nat := m * 2 ^ (e + fxBits).toNat / 2 ^ (-(e + fxBits)).toNat

def fxMul (a b : Nat) : Nat := a * b / fxOne

/-- The sum over i of z^(2i+1) / (2i+1), `n` terms: `p` is z^(2i+1). -/
def atanhSum (zz : Nat) : Nat → Nat → Nat → Nat
  | 0, _, _ => 0
  | n + 1, i, p => p / (2 * i + 1) + atanhSum zz n (i + 1) (fxMul p zz)

/-- atanh of a fixed-point value below 1/2. -/
def fxAtanh (z : Nat) : Nat := atanhSum (fxMul z z) 90 0 z

/-- ln 2 = 2 atanh(1/3). -/
def fxLn2 : Nat := 2 * fxAtanh (fxOne / 3)

/-- The sum over i of r^i / i!, `n` terms: `p` is r^i / i!. -/
def expSum (r : Nat) : Nat → Nat → Nat → Nat
  | 0, _, _ => 0
  | n + 1, i, p => p + expSum r n (i + 1) (fxMul p r / (i + 1))

/-- exp of x in fixed point, as a mantissa and an exponent; beyond 2,000 it is far outside FP32 either way. -/
def expFx (x : Int) : Nat × Int :=
  let lim : Int := 2000 * fxOne
  let x := max (-lim) (min lim x)
  let k := x / fxLn2
  (expSum (x - k * fxLn2).toNat 50 0 fxOne, k - fxBits)

/-- A finite value in fixed point. -/
def fxNum (neg : Bool) (m : Nat) (e : Int) : Int := if neg then -(fxOf m e : Int) else fxOf m e

/-! ### The functions on a finite value (11 R263): sign, mantissa and exponent of the result -/

abbrev Real3 := Bool × Nat × Int

def expReal (neg : Bool) (m : Nat) (e : Int) : Real3 := (false, expFx (fxNum neg m e))

/-- 1 / sqrt(m * 2^e). -/
def rsqrtReal (m : Nat) (e : Int) : Real3 :=
  let odd : Nat := if e % 2 = 0 then 0 else 1
  (false, isqrt (2 ^ 240 / (m * 2 ^ odd)), -((e - odd) / 2) - 120)

/-- log(m * 2^e): the mantissa is brought into 3/4 to 3/2. -/
def logReal (m : Nat) (e : Int) : Real3 :=
  let up : Int := if 3 * 2 ^ blen m ≤ 4 * m then blen m else blen m - 1
  let f := fxOf m (-up)
  let neg := decide (f < fxOne)
  let d := if neg then fxOne - f else f - fxOne
  let l : Int := 2 * fxAtanh (d * fxOne / (f + fxOne))
  let v : Int := (e + up) * fxLn2 + (if neg then -l else l)
  (decide (v < 0), v.natAbs, -fxBits)

/-- exp(-|x|) of a fixed-point value, in fixed point. -/
def expNeg (x : Nat) : Nat := let r := expFx (-(x : Int)); fxOf r.1 r.2

/-- (1 - t) / (1 + t) with t = exp(-2|x|); a value below 2^-60 is its own result to more bits than FP32 holds. -/
def tanhReal (neg : Bool) (m : Nat) (e : Int) : Real3 :=
  if e + blen m < -60 then (neg, m, e)
  else
    let t := expNeg (2 * fxOf m e)
    (neg, (fxOne - t) * fxOne / (fxOne + t), -fxBits)

/-- 1 / (1 + exp(-x)) of a fixed-point value, as exp(x) / (1 + exp(x)) where it is negative. -/
def sigmoidFx (x : Int) : Nat × Int :=
  let r := expFx (-(x.natAbs : Int))
  let den := fxOne + fxOf r.1 r.2
  if x < 0 then (r.1 * fxOne / den, r.2) else (fxOne * fxOne / den, -fxBits)

def sigmoidReal (neg : Bool) (m : Nat) (e : Int) : Real3 := (false, sigmoidFx (fxNum neg m e))

/-- 2 sqrt(2/pi) of the tanh form of GELU (log 13). -/
def geluCoef : Nat := 15957691216057307117597842397375274738 * fxOne / 10 ^ 37

/-- x * (1 + tanh(sqrt(2/pi) * (x + 0.044715 x^3))) / 2, which is x times a sigmoid. -/
def geluReal (neg : Bool) (m : Nat) (e : Int) : Real3 :=
  let x := fxOf m e
  let u := fxMul geluCoef (x + fxMul (fxMul x x) x * 44715 / 1000000)
  let r := sigmoidFx (if neg then -(u : Int) else u)
  (neg, m * r.1, e + r.2)

/-! ### Codes within 2 ulp -/

/-- The magnitude of an FP32 code lies within 2 ulp of m * 2^e. -/
def near2 (m : Nat) (e : Int) (code : Nat) : Bool :=
  let ulp : Int := max (-149) (e + blen m - 24)
  match decodeF fp32 code with
  | .fin _ k g =>
    let q := min (min e g) ulp
    (scaledInt false m e q - scaledInt false k g q).natAbs ≤ 2 * 2 ^ (ulp - q).toNat
  | _ => false

/-- The FP32 codes within 2 ulp of a value, with its sign; the nearest is among them. -/
def codesNear (r : Real3) : List Nat :=
  let c := encodeF fp32 false (.fin false r.2.1 r.2.2)
  let sgn := if r.1 then 2 ^ 31 else 0
  (((List.range 7).map fun i => c + i - 3).filter fun x => x = c || near2 r.2.1 r.2.2 x).map fun x => sgn + x

/-- The code given: the free choice `pick` among those within 2 ulp. -/
def giveNear (r : Real3) (pick : Nat) : Nat := (codesNear r).getD (pick % (codesNear r).length) 0

/-- What a KIND of R263 is on an FP32 code: none where the rule states no result, that is of an infinity, and of a zero or
negative operand of RSQRT and LOG (log 13). -/
def realOf (kind : Nat) (a : Nat) : Option Real3 :=
  match decodeF fp32 a with
  | .fin neg m e =>
    if kind = 0x0109 then (if neg || m = 0 then none else some (rsqrtReal m e))
    else if kind = 0x010B then (if neg || m = 0 then none else some (logReal m e))
    else if kind = 0x010A then some (expReal neg m e)
    else if kind = 0x010C then some (tanhReal neg m e)
    else if kind = 0x010D then some (sigmoidReal neg m e)
    else some (geluReal neg m e)
  | _ => none

/-- An operation that R263 bounds to 2 ulp: the canonical NaN of a NaN (R264), else a free choice within the bound, a function
of KIND and operand alone. -/
def approx (kind : Nat) (a : Nat) : Nat :=
  let v := (Config.vecApprox (BitVec.ofNat 16 kind) (BitVec.ofNat 32 a)).toNat
  if numIsNan (decodeF fp32 a) then fp32.nanCode
  else match realOf kind a with
    | some r => giveNear r v
    | none => encodeF fp32 false (decodeF fp32 v)

/-- exp(r - AUX) of EXP_ROWSUM (11 R254), within the 2 ulp that R263 gives EXP: the canonical NaN of a NaN, else a free choice
(log 13). -/
def expRow (a0 c : Nat) : Nat :=
  let v := (Config.epiExp (BitVec.ofNat 32 c) (BitVec.ofNat 32 a0)).toNat
  match numAdd (decodeF fp32 c) (numNeg (decodeF fp32 a0)) with
  | .nan => fp32.nanCode
  | .inf _ => encodeF fp32 false (decodeF fp32 v)
  | .fin neg m e => giveNear (expReal neg m e) v

end Sys2Proof.Machine
end

