-- ==== Sys2Proof/Machine/Vector.lean ====
section
/-! DEFINITION. Vector.lean: the vector unit (11 R262 to R266). Where the spec states no result for a format at a port
the element is free, a function of the operands and the descriptor alone (11 R251; log 42). -/

namespace Sys2Proof.Machine

/-! ### Operands -/

/-- The `i`-th free value of an operation. -/
def freeAt (s : State) (i : Nat) : Nat := Config.freeNat (s.freeCtr + i)

/-- `n` free values have been used. -/
def skipFree (s : State) (n : Nat) : State := { s with freeCtr := s.freeCtr + n }

/-- The elements of operand `w` as FP32 codes: exact but for INT32, which rounds; MX elements have no scale here and are
free. -/
def vecIn (s : State) (n : Nat) (d : Bytes) (w fmt spa cnt : Nat) : List Nat :=
  let codes := (unpack fmt (spadRead s n spa (fmtBytes fmt cnt))).take cnt
  if isMx fmt then (listIdx codes).map fun x => Config.vecWiden d w x.1 x.2 % 2 ^ 32
  else codes.map fun c => encodeF fp32 false (elemNum fmt c)

/-- A finite value as MXINT8: units of 2^-6, saturating (11 R264). -/
def mxInt8 (neg : Bool) (m : Nat) (e : Int) : Nat :=
  let q : Int := rneAt m (e + 6) 0
  intCode 8 (satInt 8 (if neg then -q else q))

/-- An FP32 code stored in a format (11 R264, R429). INT4, INT8 and INT32 have no stated conversion, nor have a NaN and an
infinity as MXFP4 or MXINT8: free (log 42). -/
def vecOut (d : Bytes) (fmt i c : Nat) : Nat :=
  let free := Config.vecNarrow d i c % 2 ^ elemBits fmt
  match decodeF fp32 c, fmtOf fmt with
  | .fin neg m e, none => if fmt = 8 then mxInt8 neg m e else free
  | .fin neg m e, some f => encodeF f (elemBits fmt ≤ 8) (.fin neg m e)
  | v, some f => if fmt = 5 then free else encodeF f (elemBits fmt = 8) v
  | _, none => free

/-- Results stored from D_SPA. -/
def vecStore (s : State) (n : Nat) (o : CopOp) (cs : List Nat) : State :=
  let ofmt := fieldAt o.desc 53 1
  opOut s n o [(fieldAt o.desc 44 4, pack ofmt ((listIdx cs).map fun x => vecOut o.desc ofmt x.1 x.2))] 0 0

/-! ### Elementwise operations (11 R263) -/

def vecA (s : State) (n : Nat) (d : Bytes) : List Nat := vecIn s n d 0 (fieldAt d 52 1) (fieldAt d 32 4) (fieldAt d 48 4)

def vecB (s : State) (n : Nat) (d : Bytes) : List Nat :=
  if fieldAt d 54 1 = 1 then List.replicate (fieldAt d 48 4) (fieldAt d 56 4)
  else vecIn s n d 1 (fieldAt d 52 1) (fieldAt d 36 4) (fieldAt d 48 4)

def vecC (s : State) (n : Nat) (d : Bytes) : List Nat := vecIn s n d 2 (fieldAt d 52 1) (fieldAt d 40 4) (fieldAt d 48 4)

/-- A function of exact values, rounded to FP32. -/
def rnd1 (f : Num → Num) (a : Nat) : Nat := encodeF fp32 false (f (decodeF fp32 a))
def rnd2 (f : Num → Num → Num) (a b : Nat) : Nat := encodeF fp32 false (f (decodeF fp32 a) (decodeF fp32 b))

def numSignBit : Num → Bool
  | .nan => false
  | .inf n => n
  | .fin n _ _ => n

/-- IEEE 754 maximum: a NaN wins, +0 is larger than -0. -/
def numMax (a b : Num) : Num :=
  if numIsNan a || numIsNan b then .nan
  else if numLt a b then b else if numLt b a then a else if numSignBit a then b else a

/-- IEEE 754 minimum. -/
def numMin (a b : Num) : Num :=
  if numIsNan a || numIsNan b then .nan
  else if numLt a b then a else if numLt b a then b else if numSignBit a then a else b

def numZero : Num := .fin false 0 0

def f32max (a b : Nat) : Nat := rnd2 numMax a b
def f32relu (a : Nat) : Nat := rnd1 (fun x => numMax x numZero) a

/-- An operation of one operand. -/
def vec1 (s : State) (n id kind : Nat) (f : Nat → Nat) : State :=
  opRun s n id kind vecReads vecWrites fun o s => vecStore s n o ((vecA s n o.desc).map f)

/-- An operation of two operands. -/
def vec2 (s : State) (n id kind : Nat) (f : Nat → Nat → Nat) : State :=
  opRun s n id kind vecReads vecWrites fun o s =>
    vecStore s n o (List.zipWith f (vecA s n o.desc) (vecB s n o.desc))

/-- VECTOR_ADD. -/
def execVecAdd (n : Fin 32) (op : Nat) (s : State) : Res := live s fun s => vec2 s n op 0x0101 f32add

/-- VECTOR_SUB. -/
def execVecSub (n : Fin 32) (op : Nat) (s : State) : Res :=
  live s fun s => vec2 s n op 0x0102 (rnd2 fun a b => numAdd a (numNeg b))

/-- VECTOR_MUL. -/
def execVecMul (n : Fin 32) (op : Nat) (s : State) : Res := live s fun s => vec2 s n op 0x0103 f32mul

/-- FMA: a × b + c with one rounding. -/
def execVecFma (n : Fin 32) (op : Nat) (s : State) : Res :=
  live s fun s => opRun s n op 0x0104 vecReads vecWrites fun o s =>
    let ab := List.zip (vecA s n o.desc) (vecB s n o.desc)
    vecStore s n o (List.zipWith (fun x c => encodeF fp32 false
      (numAdd (numMul (decodeF fp32 x.1) (decodeF fp32 x.2)) (decodeF fp32 c))) ab (vecC s n o.desc))

/-- VECTOR_MIN. -/
def execVecMin (n : Fin 32) (op : Nat) (s : State) : Res := live s fun s => vec2 s n op 0x0105 (rnd2 numMin)

/-- VECTOR_MAX. -/
def execVecMax (n : Fin 32) (op : Nat) (s : State) : Res := live s fun s => vec2 s n op 0x0106 f32max

/-- DIV. -/
def execVecDiv (n : Fin 32) (op : Nat) (s : State) : Res := live s fun s => vec2 s n op 0x0107 (rnd2 numDiv)

/-- SQRT. -/
def execVecSqrt (n : Fin 32) (op : Nat) (s : State) : Res := live s fun s => vec1 s n op 0x0108 (rnd1 numSqrt)

/-- RSQRT. -/
def execVecRsqrt (n : Fin 32) (op : Nat) (s : State) : Res := live s fun s => vec1 s n op 0x0109 (approx 0x0109)

/-- EXP. -/
def execVecExp (n : Fin 32) (op : Nat) (s : State) : Res := live s fun s => vec1 s n op 0x010A (approx 0x010A)

/-- LOG. -/
def execVecLog (n : Fin 32) (op : Nat) (s : State) : Res := live s fun s => vec1 s n op 0x010B (approx 0x010B)

/-- TANH. -/
def execVecTanh (n : Fin 32) (op : Nat) (s : State) : Res := live s fun s => vec1 s n op 0x010C (approx 0x010C)

/-- SIGMOID. -/
def execVecSigmoid (n : Fin 32) (op : Nat) (s : State) : Res := live s fun s => vec1 s n op 0x010D (approx 0x010D)

/-- GELU, tanh form. -/
def execVecGelu (n : Fin 32) (op : Nat) (s : State) : Res := live s fun s => vec1 s n op 0x010E (approx 0x010E)

/-- RELU. -/
def execVecRelu (n : Fin 32) (op : Nat) (s : State) : Res := live s fun s => vec1 s n op 0x010F f32relu

/-- CONVERT (11 R264). -/
def execVecConvert (n : Fin 32) (op : Nat) (s : State) : Res := live s fun s => vec1 s n op 0x0120 id

/-! ### Reductions (11 R265) -/

/-- One level of the tree: lane 2i with lane 2i + 1. -/
def pairUp (f : Nat → Nat → Nat) : List Nat → List Nat
  | a :: b :: r => f a b :: pairUp f r
  | l => l

/-- The tree over 256 lanes. -/
def treeRed (f : Nat → Nat → Nat) (l : List Nat) : Nat := ((List.range 8).foldl (fun l _ => pairUp f l) l).headD 0

/-- Steps of 256 lanes, the last filled up with `z`. -/
def steps256 : Nat → Nat → List Nat → List (List Nat)
  | 0, _, _ => []
  | fuel + 1, z, l =>
    if l.isEmpty then []
    else (l.take 256 ++ List.replicate (256 - (l.take 256).length) z) :: steps256 fuel z (l.drop 256)

/-- Step results combined in step order. -/
def reduce (f : Nat → Nat → Nat) (z : Nat) (l : List Nat) : Nat :=
  match (steps256 (l.length + 1) z l).map (treeRed f) with
  | [] => z
  | a :: r => r.foldl f a

def vecRed (s : State) (n id kind : Nat) (f : Nat → Nat → Nat) (z : Nat) : State :=
  opRun s n id kind vecReads vecWrites fun o s =>
    opOut s n o [(fieldAt o.desc 44 4, leBytes 4 (rnd1 (fun x => x) (reduce f z (vecA s n o.desc))))] 0 0

/-- RSUM. -/
def execVecRsum (n : Fin 32) (op : Nat) (s : State) : Res := live s fun s => vecRed s n op 0x0110 f32add 0

/-- RMAX. -/
def execVecRmax (n : Fin 32) (op : Nat) (s : State) : Res := live s fun s => vecRed s n op 0x0111 f32max 0xFF800000

/-! ### The fixed-point path (11 R266) -/

/-- An integer clamped to the OFMT range; whether it was clamped. -/
def clampTo (ofmt : Nat) (v : Int) : Int × Bool :=
  let w := satInt (elemBits ofmt) v
  (w, w != v)

/-- QUANT of one element: a NaN, and an infinity, count as saturated. -/
def quant1 (ofmt : Nat) (sc : Num) (zp : Int) (x : Nat) : Int × Bool :=
  match numMul (decodeF fp32 x) sc with
  | .nan => ((clampTo ofmt zp).1, true)
  | .inf neg => ((clampTo ofmt (if neg then -(2 ^ 40) else 2 ^ 40)).1, true)
  | p => clampTo ofmt ((numRne p).getD 0 + zp)

/-- A signed quotient by a power of two, rounded half to even. -/
def rneDiv2 (p : Int) (k : Nat) : Int := if p < 0 then -(rneShift p.natAbs k : Int) else (rneShift p.natAbs k : Int)

/-- REQUANT of one element. -/
def requant1 (ofmt sh : Nat) (m zp : Int) (x : Nat) : Int × Bool :=
  clampTo ofmt (rneDiv2 (toSigned 32 x * m) sh + zp)

/-- Integer results stored, with status SATURATED if any was clamped. -/
def vecStoreInt (s : State) (n : Nat) (o : CopOp) (l : List (Int × Bool)) : State :=
  let ofmt := fieldAt o.desc 53 1
  let k := (l.filter fun x => x.2).length
  opOut s n o [(fieldAt o.desc 44 4, pack ofmt (l.map fun x => intCode (elemBits ofmt) x.1))]
    (if k = 0 then 0 else osSaturated) (clampU32 k)

/-- QUANT. -/
def execVecQuant (n : Fin 32) (op : Nat) (s : State) : Res :=
  live s fun s => opRun s n op 0x0121 vecReads vecWrites fun o s =>
    let f := fieldAt o.desc
    vecStoreInt s n o ((vecA s n o.desc).map (quant1 (f 53 1) (decodeF fp32 (f 56 4)) (toSigned 16 (f 60 2))))

/-- REQUANT. -/
def execVecRequant (n : Fin 32) (op : Nat) (s : State) : Res :=
  live s fun s => opRun s n op 0x0122 vecReads vecWrites fun o s =>
    let f := fieldAt o.desc
    let xs := (groups 4 (f 48 4) (spadRead s n (f 32 4) (4 * f 48 4)))
    vecStoreInt s n o (xs.map (requant1 (f 53 1) (f 55 1) (toSigned 32 (f 56 4)) (toSigned 16 (f 60 2))))

/-! ### MX formats (11 R264) -/

/-- emax of an MX element format. -/
def emaxOf (fmt : Nat) : Int := if fmt = 5 then 2 else if fmt = 6 then 8 else if fmt = 7 then 15 else 0

/-- floor(log2 |v|) of a finite value; none of zero. -/
def log2Num : Num → Option Int
  | .fin _ m e => if m = 0 then none else some (e + blen m - 1)
  | _ => none

def numFinite : Num → Bool
  | .fin _ _ _ => true
  | _ => false

/-- A block quantised under the MXQUANT rule: its scale byte and element codes. -/
def mxBlock (fmt : Nat) (vs : List Num) : Nat × List Nat :=
  if vs.any (fun v => !numFinite v) then (255, vs.map fun _ => 0)
  else
    let l := vs.filterMap log2Num
    let x : Int := match l with
      | [] => -127
      | a :: r => max (-127) (min 127 (r.foldl max a - emaxOf fmt))
    let el (v : Num) : Nat := match v with
      | .fin neg m e =>
        if fmt = 8 then mxInt8 neg m (e - x)
        else match fmtOf fmt with
          | some f => encodeF f true (.fin neg m (e - x))
          | none => 0
      | _ => 0
    ((x + 127).toNat, vs.map el)

/-- Blocks of 32. -/
def blocks32 {α : Type} : Nat → List α → List (List α)
  | 0, _ => []
  | fuel + 1, l => if l.isEmpty then [] else l.take 32 :: blocks32 fuel (l.drop 32)

/-- MXQUANT of a list: scale bytes and element codes. -/
def mxQuant (fmt : Nat) (vs : List Num) : Bytes × List Nat :=
  let bs := (blocks32 (vs.length + 1) vs).map (mxBlock fmt)
  (bs.map fun b => BitVec.ofNat 8 b.1, (bs.map fun b => b.2).flatten)

/-- MXQUANT. -/
def execVecMxquant (n : Fin 32) (op : Nat) (s : State) : Res :=
  live s fun s => opRun s n op 0x0123 vecReads vecWrites fun o s =>
    let f := fieldAt o.desc
    let q := mxQuant (f 53 1) ((vecA s n o.desc).map (decodeF fp32))
    opOut s n o [(f 44 4, pack (f 53 1) q.2), (f 40 4, q.1)] 0 0

/-- An MX element with its block scale. -/
def mxNum (fmt code scale : Nat) : Num := numMul (elemNum fmt code) (scaleNum scale)

/-- DEQUANT: MX to FP32, scales at B_SPA. -/
def execVecDequant (n : Fin 32) (op : Nat) (s : State) : Res :=
  live s fun s => opRun s n op 0x0124 vecReads vecWrites fun o s =>
    let f := fieldAt o.desc
    let codes := (unpack (f 52 1) (spadRead s n (f 32 4) (fmtBytes (f 52 1) (f 48 4)))).take (f 48 4)
    let sc := spadRead s n (f 36 4) ((f 48 4 + 31) / 32)
    vecStore s n o ((listIdx codes).map fun x =>
      encodeF fp32 false (mxNum (f 52 1) x.2 ((sc.getD (x.1 / 32) 0).toNat)))

end Sys2Proof.Machine
end

