-- ==== Sys2Proof/Machine/Tables.lean ====
section
/-! DEFINITION. Tables.lean: tables, epochs, and lookups from issue to completion (12 R270 to R283, R290 to R292). -/

namespace Sys2Proof.Machine

/-! ### Tables and epochs -/

def modTable (s : State) (i : Nat) (f : TableD → TableD) : State :=
  { s with te := { s.te with tables := tmod s.te.tables i f } }

def engineOf (s : State) (e : Nat) : Engine := vget s.te.engines e Engine.reset

def modEngine (s : State) (e : Nat) (f : Engine → Engine) : State :=
  { s with te := { s.te with engines := vmod s.te.engines e f } }

def TableD.flag (t : TableD) (i : Nat) : Bool := t.flags.getLsbD i

def gChip (g : Dword) : Half := (g.extractLsb' 52 12).setWidth 16
def gCtx (g : Dword) : Nat := (g.extractLsb' 46 6).toNat

/-- A scheduled switch takes effect (12 R291). -/
def switched (t : TableD) : TableD :=
  match t.pend with
  | none => t
  | some p => { t with
    epoch := t.epoch + 1
    prevBase := t.base
    prevBallast := t.ballast
    base := if t.shard = 0 then p.base else t.base
    ballast := p.ballast
    pend := none
    lastAt := some p.at_
    prevBusy := true }

/-- DT is at or after a table's switch time. -/
def switchDue (s : State) (t : TableD) : Bool := t.pend.any fun p => s.tb.valid && p.at_.toNat ≤ (dtNs s).toNat

def applySwitch (s : State) (i : Nat) : State := modTable s i fun t => if switchDue s t then switched t else t

/-- The switches due of the tables that serve a sharded one on this chip. -/
def ownerSwitches (s : State) (t : TableD) : State :=
  t.owners.foldl (fun s o => if gChip o.gaddr = myChip s then applySwitch s o.table.toNat else s) s

/-- EPOCH_SWITCH (12 R291); during a warm reset it waits for its end. -/
def execEpochSwitch (tbl : Fin 4096) (s : State) : Res :=
  live s fun s => if s.hlt.warmBegun then s else applySwitch s tbl

/-- The table is an owner on this chip of a sharded one. -/
def ownsFor (s : State) (tbl : Nat) (t : TableD) : Bool :=
  t.owners.any fun o => gChip o.gaddr = myChip s && o.table.toNat = tbl

/-- A lookup in progress names the table, itself or through a sharded one, and this epoch. -/
def namesEpoch (s : State) (tbl : Nat) (ep : Word) : Bool :=
  s.te.engines.any fun e => e.active.any fun l =>
    (l.table = tbl || (tget s.te.tables l.table).any (ownsFor s tbl)) && l.epoch = ep

/-- PREV_BUSY_CLEAR (12 R292). -/
def execPrevBusyClear (tbl : Fin 4096) (s : State) : Res :=
  live s fun s => modTable s tbl fun t =>
    if t.prevBusy && (t.lastAt.any fun a => a.toNat + s.fab.longestUs * 1000 < (dtNs s).toNat)
        && !namesEpoch s tbl (t.epoch - 1) then { t with prevBusy := false } else t

/-- The image an epoch number names at an owner: the current one, or the previous one while it is kept (12 R292). -/
def imageAt (t : TableD) (ep : Word) : Option Dword :=
  if ep = t.epoch then some t.base
  else if t.prevBusy && ep = t.epoch - 1 then some t.prevBase
  else none

/-- An index is invalid (12 R276). -/
def badIndex (t : TableD) (idx : Dword) : Bool :=
  t.rows.toNat ≤ idx.toNat || (t.flag 0 && idx.msb) || (t.flag 1 && idx = t.missing)

/-- The owner of a valid index, and its row there (12 R271). -/
def ownerOf (t : TableD) (idx : Nat) : Nat × Nat :=
  if t.shard = 0 then (0, idx)
  else if t.shard = 2 then (idx % t.owners.length, idx / t.owners.length)
  else
    let k := (t.owners.filter fun o => o.rowBase.toNat ≤ idx).length - 1
    (k, idx - ((t.owners[k]?).map fun o => o.rowBase.toNat).getD 0)

/-- The owner ordinal that stands for the ballast row. -/
def ballastOwner : Nat := 1000

/-! ### Issue (12 R274 to R276) -/

/-- Index `i` of a lookup, extended. -/
def lkIndex (s : State) (n : Nat) (t : TableD) (d : Bytes) (i : Nat) : Dword :=
  let f := fieldAt d
  if bitAt (f 37 1) 1 then
    let v := leNat (spadRead s n (f 48 4 + 4 * i) 4)
    if t.flag 0 then dword (toSigned 32 v) else BitVec.ofNat 64 v
  else BitVec.ofNat 64 (leNat (spadRead s n (f 48 4 + 8 * i) 8))

/-- Bag starts. -/
def bagStarts (s : State) (n : Nat) (d : Bytes) : List Nat :=
  (List.range (fieldAt d 44 4)).map fun b => leNat (spadRead s n (fieldAt d 52 4 + 4 * b) 4)

/-- OFFS starts at 0, never falls, and stays within N_IDX (12 R275). -/
def offsOk (l : List Nat) (n : Nat) : Bool :=
  l.headD 0 = 0 && l.all (fun x => x ≤ n) && (List.zip l (l.drop 1)).all fun x => x.1 ≤ x.2

/-- The first OFFS value that breaks it. -/
def offsBad (l : List Nat) (n : Nat) : Nat :=
  ((List.range l.length).find? fun i =>
    let x := l.getD i 0
    (i = 0 && x != 0) || n < x || (i != 0 && x < l.getD (i - 1) 0)).getD 0

/-- The bag of position `i`: the last one that starts at or before it. -/
def bagOf (starts : List Nat) (i : Nat) : Nat := (starts.filter fun x => x ≤ i).length - 1

/-- The positions of a lookup (12 R275, R276). -/
def positions (s : State) (n : Nat) (t : TableD) (d : Bytes) : List LkPos :=
  let f := fieldAt d
  let starts := bagStarts s n d
  (List.range (f 40 4)).map fun i =>
    let idx := lkIndex s n t d i
    let o := ownerOf t idx.toNat
    let w : Word := if f 35 1 = 3 then BitVec.ofNat 32 (leNat (spadRead s n (f 56 4 + 4 * i) 4)) else 0
    ⟨if f 35 1 = 4 then i else bagOf starts i, idx.toNat, if badIndex t idx then none else some o.1, o.2, w⟩

/-- Bags, or positions with CONCAT. -/
def lkOuts (d : Bytes) : Nat := if fieldAt d 35 1 = 4 then fieldAt d 40 4 else fieldAt d 44 4

/-- The whole words that the lookup's output lies in: one range per bag or position (09 R195). -/
def outRanges (spa stride size k : Nat) : List (Nat × Nat) := rowRanges (spa / 4 * 4) stride ((spa % 4 + size + 3) / 4 * 4) k

/-- The banks of core `n`, or of its pair, that a list of ranges touches. -/
def banksOf (s : State) (n : Nat) (l : List (Nat × Nat)) : List (Nat × Nat) :=
  ((if isBridled s n then [n, n + 1] else [n]).map fun c =>
    ((List.range 34).filter fun b => l.any fun r => meetsBank s n r c b).map fun b => (c, b)).flatten

/-- A lookup as it waits at its engine's intake. -/
def newLookup (s : State) (n : Nat) (o : CopOp) (t : TableD) : Lookup :=
  let d := o.desc
  let f := fieldAt d
  let pos := positions s n t d
  { id := s.te.nextId, src := .core n o.id, table := f 32 2, pool := BitVec.ofNat 8 (f 35 1),
    ofmt := BitVec.ofNat 8 (f 36 1), retBank := bitAt (f 37 1) 0, nBags := lkOuts d, outSpa := f 60 4, outStride := f 64 4,
    banks := banksOf s n (outRanges (f 60 4) (f 64 4) (lookupOutSize t (f 36 1)) (lkOuts d)),
    deadline := BitVec.ofNat 64 (f 72 8), epoch := 0, base := 0, ballast := 0, pos := pos, fetch := [], parts := [],
    status := 0, metAt := 0, isOver := false, poison := false, subst := (pos.filter fun p => p.owner.isNone).length }

def lookupWrites (s : State) (n : Nat) (d : Bytes) : List (Nat × Nat) :=
  match lookupTable s (stageCtx s n) d with
  | none => []
  | some t => outRanges (fieldAt d 60 4) (fieldAt d 64 4) (lookupOutSize t (fieldAt d 36 1)) (lkOuts d)

/-- LOOKUP (12 R274): once confirmed, its indices are read and it goes to its engine's intake. -/
def execLookup (n : Fin 32) (op : Nat) (s : State) : Res :=
  live s fun s => opRun s n op kindLookup lookupReads (fun _ => []) fun o s =>
    let f := fieldAt o.desc
    let bad (k : Byte) (a : Nat) := opFault s n o k (BitVec.ofNat 8 o.unit) a
    if o.depth != 0 || o.phase != .queued then s
    else match lookupTable s (stageCtx s n) o.desc with
      | none => bad fkCopDesc (descSpa s n o)
      | some t =>
        let starts := bagStarts s n o.desc
        if f 35 1 != 4 && !offsOk starts (f 40 4) then bad fkCopDesc (f 52 4 + 4 * offsBad starts (f 40 4))
        else match (lookupWrites s n o.desc).find? fun r => !inSpad s n r.1 r.2 with
          | some r => bad fkSpaRange r.1
          | none =>
            let l := newLookup s n o t
            let s := modEngine s (f 34 1) fun e => { e with intake := e.intake ++ [l] }
            let s := { s with te := { s.te with nextId := s.te.nextId + 1 } }
            modOp (modCore s n fun c => { c with lookups := c.lookups + 1 }) n op fun o => { o with phase := .running }

/-! ### Status (12 R282) -/

def lsTimeout : Half := 0x0020
def lsNotOwner : Half := 0x0030
def lsPoison : Half := 0x0031
def lsStale : Half := 0x0032
def lsDenied : Half := 0x0033
def lsMissed : Half := 0x0034
def lsEpoch : Half := 0x0035

def modLookup (s : State) (e id : Nat) (f : Lookup → Lookup) : State :=
  modEngine s e fun x => { x with active := x.active.map fun l => if l.id = id then f l else l }

def lookupOf (s : State) (e id : Nat) : Option Lookup := (engineOf s e).active.find? fun l => l.id = id

/-- A cause met at up time `now`: the first stands, and on a tie the lower code. -/
def meet (now : Nat) (l : Lookup) (st : Half) : Lookup :=
  if l.status = 0 || (l.metAt = now && st < l.status) then { l with
    status := st
    metAt := now }
  else l

def lkOwns (e id : Nat) (w : AccOwner) : Bool := match w with
  | .lookup x l _ => x = e && l = id
  | _ => false

/-- Outstanding row reads of an engine (12 R283). -/
def rowReads (s : State) (e : Nat) : Nat :=
  ((engineOf s e).active.map fun l => (l.fetch.filter fun r => r.issued && !r.isOver).length).foldl (· + ·) 0

/-! ### Acceptance (12 R277, R279, R283, R291) -/

/-- Rows rising without repeats, of one owner. -/
def distinctRows (l : Lookup) (k : Nat) : List Nat :=
  (l.pos.filter fun p => p.owner == some k).foldl (fun a p => insertNat a p.row) []

/-- Bytes of a row that hold elements. -/
def rowLen (t : TableD) : Nat := packedRow t.fmt.toNat t.elems

/-- A fetch of one row. -/
def fetchRow (t : TableD) (k row : Nat) (base : Nat) : RowFetch :=
  ⟨k, row, t.ctx, (base + row * t.rowBytes) % 2 ^ 64, rowLen t, false, false, []⟩

/-- Rows of owner `k` served on this chip from table `t2`: by the lookup's epoch, or the status that stands instead. -/
def localRows (l : Lookup) (k : Nat) (t2 : Option TableD) (ctx : Nat) : Except Half (List RowFetch) :=
  match t2 with
  | none => .error lsDenied
  | some t =>
    if t.shard != 0 || t.ctx != ctx || t.dying then .error lsDenied
    else match imageAt t l.epoch with
      | none => .error lsEpoch
      | some b => .ok ((distinctRows l k).map fun r => fetchRow t k r b.toNat)

/-- One LOOKUP operation's entry bytes: ROW, BAG, WEIGHT (14 R341). -/
def entryBytes (pool : Byte) (p : LkPos) : Bytes :=
  leBytes 8 p.row ++ leBytes 4 p.bag ++ leBytes 4 (if pool = 3 then p.weight.toNat else 0)

/-- Bytes a bag adds to a LOOKUP and to its POOLED. -/
def bagCost (t : TableD) (l : Lookup) (k bag : Nat) : Nat × Nat :=
  (16 * (l.pos.filter fun p => p.owner == some k && p.bag = bag).length,
   8 + (if l.pool = 4 then rowLen t else 4 * t.elems))

/-- Bags cut into operations that each fit 256 packets of 2,048 bytes (14 R342). -/
def cutBags (t : TableD) (l : Lookup) (k : Nat) : List Nat → List Nat → Nat → Nat → List (List Nat)
  | [], cur, _, _ => if cur.isEmpty then [] else [cur]
  | b :: r, cur, a, z =>
    let c := bagCost t l k b
    if cur.isEmpty || (a + c.1 ≤ 524288 && z + c.2 ≤ 524288) then cutBags t l k r (cur ++ [b]) (a + c.1) (z + c.2)
    else cur :: cutBags t l k r [b] (16 + c.1) c.2

/-- The bags that hold rows of owner `k`, rising. -/
def bagsOf (l : Lookup) (k : Nat) : List Nat :=
  (l.pos.filter fun p => p.owner == some k).foldl (fun a p => insertNat a p.bag) []

/-- Remote parts of a lookup, none sent yet. -/
def remoteParts (t : TableD) (l : Lookup) (k : Nat) : List LkPart :=
  (cutBags t l k (bagsOf l k) [] 16 0).map fun bs => ⟨k, ((t.owners[k]?).map fun o => o.inc).getD 0, none, bs, false, []⟩

/-- What each owner of a lookup contributes: rows to fetch here, parts to send, or a status. -/
def ownerWork (s : State) (l : Lookup) (t : TableD) (k : Nat) : Except Half (List RowFetch × List LkPart) :=
  if (bagsOf l k).isEmpty then .ok ([], [])
  else if t.shard = 0 then .ok ((distinctRows l k).map fun r => fetchRow t k r l.base.toNat, [])
  else match t.owners[k]? with
    | none => .error lsDenied
    | some o =>
      if gChip o.gaddr = myChip s then (localRows l k (tableOf s o.table.toNat) (gCtx o.gaddr)).map fun r => (r, [])
      else .ok ([], remoteParts t l k)

/-- The ballast row, if any position takes it. -/
def ballastFetch (l : Lookup) (t : TableD) : List RowFetch :=
  if l.subst = 0 then [] else [⟨ballastOwner, 0, t.ctx, l.ballast.toNat, rowLen t, false, false, []⟩]

/-- An accepted lookup with its work laid out, owners in list order. -/
def layOut (s : State) (l : Lookup) (t : TableD) : Lookup :=
  let owners := if t.shard = 0 then 1 else t.owners.length
  let l := (List.range owners).foldl (fun l k => match ownerWork s l t k with
    | .error st => meet s.tb.up l st
    | .ok w => { l with
      fetch := l.fetch ++ w.1
      parts := l.parts ++ w.2 }) l
  { l with fetch := l.fetch ++ ballastFetch l t }

/-- Row reads issue while fewer than 8,192 are outstanding (12 R277, R283). -/
def pumpRows : Nat → State → Nat → State
  | 0, s, _ => s
  | fuel + 1, s, e =>
    if 8192 ≤ rowReads s e then s
    else
      let next := (engineOf s e).active.findSome? fun l =>
        ((listIdx l.fetch).find? fun r => !r.2.issued).map fun r => (l, r.1, r.2)
      match next with
      | none => s
      | some (l, i, r) =>
        let s := modLookup s e l.id fun l => { l with
          fetch := (listIdx l.fetch).map fun x => if x.1 = i then { x.2 with issued := true } else x.2 }
        let a := mkAccess (.lookup e l.id i) (.engine e) e r.ctx r.dva r.len .read []
        let peer := match l.src with
          | .peer _ => true
          | .core _ _ => false
        pumpRows fuel (startAccess s { a with
          peer := peer
          deadline := l.deadline }) e

/-- Every row of engine `e` that may be read now. -/
def pumpEngine (s : State) (e : Nat) : State :=
  let n := ((engineOf s e).active.map fun l => l.fetch.length).foldl (· + ·) 0
  pumpRows (n + 1) s e

/-- The payload pieces of one LOOKUP operation (14 R341). -/
def lookupPieces (l : Lookup) (t : TableD) (p : LkPart) : List Bytes :=
  let o := (t.owners[p.owner]?).map fun o => o.table.toNat
  let es := l.pos.filter fun x => x.owner == some p.owner && p.bags.contains x.bag
  let rows := es.foldl (fun a x => insertNat a x.row) []
  let sorted := (rows.map fun r => es.filter fun x => x.row = r).flatten
  let head := layout 16 [(0, 2, o.getD 0), (2, 1, l.pool.toNat), (4, 4, l.epoch.toNat), (8, 4, es.length)]
  let b := head ++ (sorted.map (entryBytes l.pool)).flatten
  cutEvery (b.length + 1) 2048 b

/-- Sets one part of a lookup. -/
def modPart (s : State) (e id i : Nat) (f : LkPart → LkPart) : State :=
  modLookup s e id fun l => { l with parts := (listIdx l.parts).map fun x => if x.1 = i then f x.2 else x.2 }

/-- The next part not sent yet is sent; one without a route ends as refused ACCESS_DENIED; a stall leaves it (14 R335,
R346). -/
def sendPart (s : State) (e : Nat) (l : Lookup) (i : Nat) (p : LkPart) : State :=
  match tableOf s l.table with
  | none => s
  | some t => match t.owners[p.owner]? with
    | none => s
    | some o =>
      match sendRequest s opLookup 0 0 (gChip o.gaddr) p.inc o.gaddr l.deadline (lookupPieces l t p) (.lookup e l.id) with
      | (.stalled, s) => s
      | (.noRoute, s) => modLookup (modPart s e l.id i fun p => { p with isOver := true }) e l.id fun l => meet s.tb.up l lsDenied
      | (.sent tag, s) => modPart s e l.id i fun p => { p with tag := some tag }

/-- Unsent parts of every lookup are tried in order. -/
def pumpParts (s : State) : State :=
  (List.range 8).foldl (fun s e => (engineOf s e).active.foldl (fun s l =>
    (listIdx l.parts).foldl (fun s p => if p.2.tag.isNone && !p.2.isOver then sendPart s e l p.1 p.2 else s) s) s) s

/-- Counters of a table at a lookup (12 R296). -/
def countLookup (s : State) (l : Lookup) : State :=
  modTable s l.table fun t => { t with
    lookups := t.lookups + 1
    ballasts := t.ballasts + BitVec.ofNat 64 l.subst }

/-- The image an accepted lookup reads: its own epoch for a local one, the epoch it names for an incoming one. -/
def lookupImage (now : Nat) (l : Lookup) (t : TableD) : Lookup :=
  match l.src with
  | .core _ _ => { l with
    epoch := t.epoch
    base := t.base
    ballast := t.ballast }
  | .peer _ => match imageAt t l.epoch with
    | some b => { l with base := b }
    | none => { meet now l lsEpoch with pos := [] }

/-- An engine accepts a lookup: one late already fetches nothing (12 R283). -/
def acceptLookup (s : State) (e : Nat) (l : Lookup) : State :=
  let s := countLookup (applySwitch s l.table) l
  let s := (tableOf s l.table).elim s (ownerSwitches s)
  let l' := match tableOf s l.table with
    | none => meet s.tb.up l lsDenied
    | some t => if late s l.deadline then { meet s.tb.up (lookupImage s.tb.up l t) lsMissed with isOver := true }
      else layOut s (lookupImage s.tb.up l t) t
  let s := modEngine s e fun x => { x with
    intake := x.intake.drop 1
    active := x.active ++ [l'] }
  pumpParts (pumpEngine s e)

/-- LOOKUP_ACCEPT (12 R283). -/
def execLookupAccept (e : Fin 8) (s : State) : Res :=
  live s fun s =>
    match (engineOf s e).intake with
    | [] => s
    | l :: _ => if 64 ≤ (engineOf s e).active.length || s.hlt.warmBegun then s else acceptLookup s e l

/-! ### Row returns (12 R277, R282) -/

def rowIdx (w : AccOwner) : Nat := match w with
  | .lookup _ _ r => r
  | _ => 0

/-- A row's line accesses put together. -/
def rowBytesOf (len : Nat) (l : List (Nat × Access)) : Bytes :=
  l.foldl (fun b x => putAt b x.2.dest x.2.data) (zeros len)

/-- The lookup is forgotten at its engine, with its accesses and trackers. -/
def dropLookup (s : State) (e id : Nat) : State :=
  let tags := ((lookupOf s e id).map fun l => l.parts.filterMap fun p => if p.isOver then none else p.tag).getD []
  let s := tags.foldl (fun s t => freeTrack s t) s
  modEngine (accDiscard s (lkOwns e id)) e fun x => { x with
    intake := x.intake.filter fun l => l.id != id
    active := x.active.filter fun l => l.id != id }

/-- What a failed row read does: a local lookup's translation fault is its operation's; an owner refuses (12 R280, R282). -/
def rowFailed (s : State) (e : Nat) (l : Lookup) (w : AccFail) (dva : Nat) : State :=
  match l.src, w with
  | .core n id, .xlate k =>
    let s := dropLookup s e l.id
    (match opOf s n id with
      | some o => opFault s n o fkTranslation k dva
      | none => s)
  | .peer _, .xlate _ => modLookup s e l.id fun l => meet s.tb.up l lsDenied
  | .peer _, _ => modLookup s e l.id fun l => { l with poison := true }
  | _, .timeout => modLookup s e l.id fun l => meet s.tb.up l lsTimeout
  | _, .missed => modLookup s e l.id fun l => meet s.tb.up l lsMissed
  | _, _ => modLookup s e l.id fun l => meet s.tb.up l lsPoison

/-- LOOKUP_ROW_RETURN (12 R277): the row access `acc` belongs to has all its lines, or one of them failed. -/
def execLookupRowReturn (e : Fin 8) (lk acc : Nat) (s : State) : Res :=
  live s fun s =>
    match lookupOf s e lk, accOf s acc with
    | some l, some a =>
      if !lkOwns e lk a.owner || !a.stage.ended then s
      else
        let i := rowIdx a.owner
        let mine (w : AccOwner) : Bool := lkOwns e lk w && rowIdx w = i
        let as_ := accsOf s mine
        match firstBad (fun _ => 0) as_ with
        | some w =>
          let bad := (as_.find? fun x => match x.2.stage with
            | .failed _ => true
            | _ => false).map fun x => x.2.dva
          let s := modLookup (accDiscard s mine) e lk fun l => { l with
            fetch := (listIdx l.fetch).map fun x => if x.1 = i then { x.2 with
              isOver := true
              data := zeros x.2.len } else x.2 }
          pumpEngine (rowFailed s e l w (bad.getD 0)) e
        | none =>
          if !allEnded as_ then s
          else
            let len := ((l.fetch[i]?).map fun r => r.len).getD 0
            let b := rowBytesOf len as_
            let p := as_.any fun x => x.2.poison
            let s := modLookup (accDrop s mine) e lk fun l =>
              let l := if p then { meet s.tb.up l (match l.src with
                | .core _ _ => lsPoison
                | .peer _ => l.status) with poison := true } else l
              { l with fetch := (listIdx l.fetch).map fun x => if x.1 = i then { x.2 with
                isOver := true
                data := b } else x.2 }
            pumpEngine s e
    | _, _ => s

/-- A lookup that ends at once: nothing more of it is read or sent, and what it waited for is abandoned (12 R283). -/
def endNow (now : Nat) (l : Lookup) : Lookup := { meet now l lsMissed with
  isOver := true
  fetch := l.fetch.map fun r => { r with
    issued := true
    isOver := true }
  parts := l.parts.map fun p => { p with isOver := true } }

/-- Requests that wait for a tracker, a tag or a row read try again after engine `e` has given some back. -/
def pumpAll (s : State) (e : Nat) : State := pumpEngine (pumpNotes (pumpParts (pumpStalled (pumpPorts s)))) e

/-- LOOKUP_DEADLINE (12 R280, R283): a local lookup ends at once, its remote parts abandoned; an owner abandons its work
and sends no reply. -/
def execLookupDeadline (e : Fin 8) (lk : Nat) (s : State) : Res :=
  live s fun s =>
    match lookupOf s e lk with
    | none => s
    | some l =>
      if l.isOver || !late s l.deadline then s
      else match l.src with
        | .peer i =>
          let s := dropLookup s e lk
          pumpAll { s with fab := { s.fab with serving := s.fab.serving.filter fun p => p.num != i } } e
        | .core _ _ =>
          let tags := l.parts.filterMap fun p => if p.isOver then none else p.tag
          let s := accDiscard (tags.foldl (fun s t => freeTrack s t) s) (lkOwns e lk)
          pumpAll (modLookup s e lk (endNow s.tb.up)) e

end Sys2Proof.Machine
end

