-- ==== Sys2Proof/Machine/Pooling.lean ====
section
/-! DEFINITION. Pooling.lean: how a lookup's rows are combined, and its completion (12 R275, R278 to R282; 14 R341). -/

namespace Sys2Proof.Machine

/-! ### Row elements -/

/-- The elements of a stored row as FP32 codes; MXFP8 elements times their block scale, rounded once (12 R270, R278). -/
def rowElems (t : TableD) (b : Bytes) : List Nat :=
  let fmt := t.fmt.toNat
  let codes := (unpack fmt (b.take (if isMx fmt then t.elems else rowLen t))).take t.elems
  (listIdx codes).map fun x =>
    encodeF fp32 false (if isMx fmt then mxNum fmt x.2 ((b.getD (t.elems + x.1 / 32) 0).toNat) else elemNum fmt x.2)

/-! ### Pooling (12 R278) -/

def poolMean : Byte := 1
def poolMax : Byte := 2
def poolWsum : Byte := 3
def poolConcat : Byte := 4

/-- One contribution taken into a bag: added with one rounding, times its weight with WSUM, or the larger with MAX. -/
def contribute (pool : Byte) (acc : List Nat) (w : Nat) (x : List Nat) : List Nat :=
  if pool = poolWsum then
    List.zipWith (fun a e => encodeF fp32 false (numAdd (decodeF fp32 a) (numMul (decodeF fp32 w) (decodeF fp32 e)))) acc x
  else if pool = poolMax then List.zipWith f32max acc x
  else List.zipWith f32add acc x

/-- Contributions in order, from +0.0, or from the first with MAX. -/
def poolAll (pool : Byte) (n : Nat) (xs : List (Nat × List Nat)) : List Nat :=
  if pool = poolMax then
    match xs with
    | [] => List.replicate n 0
    | x :: r => r.foldl (fun a y => contribute pool a y.1 y.2) (x.2.map (rnd1 fun v => v))
  else xs.foldl (fun a y => contribute pool a y.1 y.2) (List.replicate n 0)

/-- The bytes of a fetched row. -/
def fetched (l : Lookup) (k row : Nat) : Bytes :=
  ((l.fetch.find? fun r => r.owner = k && r.row = row).map fun r => r.data).getD []

/-- The rows of bag `bag` at owner `k` on this chip: ascending rows, positions in order. -/
def bagRows (l : Lookup) (t : TableD) (k bag : Nat) : List (Nat × List Nat) :=
  let ps := l.pos.filter fun p => p.owner == some k && p.bag = bag
  let rows := ps.foldl (fun a p => insertNat a p.row) []
  (rows.map fun r => (ps.filter fun p => p.row = r).map fun p =>
    (p.weight.toNat, rowElems t (fetched l k r))).flatten

/-- FP32 codes of a partial in a reply. -/
def replyElems (n : Nat) (b : Bytes) : List Nat := groups 4 n b

/-- The partial of owner `k` for a bag, if it holds rows of that owner: from here, or from the owner's reply. -/
def partialOf (l : Lookup) (t : TableD) (k bag : Nat) : Option (List Nat) :=
  if !(bagsOf l k).contains bag then none
  else match l.parts.find? fun p => p.owner = k && p.bags.contains bag with
    | some p => some (replyElems t.elems (((p.reply.find? fun r => r.1 = bag).map fun r => r.2).getD []))
    | none => some (poolAll l.pool t.elems (bagRows l t k bag))

/-- Partials are combined by plain sums: their weights have been taken. -/
def combinePool (pool : Byte) : Byte := if pool = poolMax then poolMax else 0

/-- A bag's FP32 elements before OFMT (12 R278). -/
def bagValue (l : Lookup) (t : TableD) (bag : Nat) : List Nat :=
  let owners := if t.shard = 0 then 1 else t.owners.length
  let parts := (List.range owners).filterMap fun k => partialOf l t k bag
  let ball := (l.pos.filter fun p => p.owner.isNone && p.bag = bag).map fun p =>
    (p.weight.toNat, rowElems t (fetched l ballastOwner 0))
  let cnt := (l.pos.filter fun p => p.bag = bag).length
  if cnt = 0 then List.replicate t.elems 0
  else if l.pool = poolMax then poolAll poolMax t.elems (parts.map (fun p => (0, p)) ++ ball)
  else
    let a := poolAll (combinePool l.pool) t.elems (parts.map fun p => (0, p))
    let v := ball.foldl (fun a y => contribute l.pool a y.1 y.2) a
    if l.pool = poolMean then
      v.map fun c => rnd2 numDiv c (encodeF fp32 false (numOfInt cnt))
    else v

/-- A position's row with CONCAT, in stored format. -/
def concatRow (l : Lookup) (p : LkPos) : Bytes :=
  match p.owner with
  | none => fetched l ballastOwner 0
  | some k => match l.parts.find? fun q => q.owner = k && q.bags.contains p.bag with
    | some q => ((q.reply.find? fun r => r.1 = p.bag).map fun r => r.2).getD []
    | none => fetched l k p.row

/-- FP32 elements in the output format. -/
def outElems (ofmt : Nat) (cs : List Nat) : Bytes :=
  if ofmt = 9 then pack 9 (cs.map fun c => encodeF bf16 false (decodeF fp32 c)) else pack 11 cs

/-- The output bytes of bag or position `i`. -/
def outBytes (l : Lookup) (t : TableD) (i : Nat) : Bytes :=
  if l.pool = poolConcat then
      match l.pos[i]? with
      | none => []
      | some p => if l.ofmt = 0 then (concatRow l p).take (rowLen t) else outElems l.ofmt.toNat (rowElems t (concatRow l p))
    else outElems l.ofmt.toNat (bagValue l t i)

/-- The outputs of a lookup, each with its SPA. -/
def lookupOuts (l : Lookup) (t : TableD) : List (Nat × Bytes) :=
  (List.range l.nBags).map fun i => (l.outSpa + i * l.outStride, outBytes l t i)

/-- What completes the outputs to whole words (09 R195, 12 R275): zeros past an output's end, and before one that begins inside
a word the bytes `lead`, which the spec does not state (log 5). The outputs are written after them. -/
def wordPads (l : Lookup) (t : TableD) (lead : Bytes) : List (Nat × Bytes) :=
  (lookupOuts l t).map (fun x => (x.1 / 4 * 4, lead)) ++
    (lookupOuts l t).map fun x => (x.1 + x.2.length, zeros ((4 - (x.1 + x.2.length) % 4) % 4))

/-! ### Output (12 R275; 09 R197) -/

/-- Engine `e` owns the bank, and no reclaim has passed it on. -/
def engineOwns (s : State) (e c b : Nat) : Bool := (bankOf s c b).ownerB = ownEngine e

/-- The engine may write every byte of a range of core `n`. -/
def engineMay (s : State) (e n spa len : Nat) : Bool :=
  inSpad s n spa len && (rangePoints spa len).all fun a => (spaBank s n a).any fun x => engineOwns s e x.1 x.2

/-- A bank of the lookup's output is on its way to the engine: its writes are held (09 R197, R200). -/
def outHeld (s : State) (e : Nat) (l : Lookup) : Bool := l.banks.any fun b => (bankOf s b.1 b.2).pend == some (ownEngine e)

/-- Outputs in order; one whose bank the engine does not own is dropped, and the lookup ends NOT_OWNER. -/
def writeOuts (e n : Nat) : List (Nat × Bytes) → State → Bool → State × Bool
  | [], s, ok => (s, ok)
  | (a, b) :: r, s, ok =>
    if b.isEmpty then writeOuts e n r s ok
    else if engineMay s e n a b.length then writeOuts e n r (spadWrite s n a b) ok
    else writeOuts e n r s false

/-- Contents of the output range after a status other than OK: free where the engine may write (12 R282; log 5). -/
def freeOuts (s : State) (e n : Nat) (l : Lookup) (size : Nat) : State :=
  (outRanges l.outSpa l.outStride size l.nBags).foldl (fun s r =>
    let (b, s) := takeFreeBytes s r.2
    (writeOuts e n [(r.1, b)] s true).1) s

/-- With RETURN_BANK every bank of the output range the engine holds returns to LOCAL (12 R281, 09 R202). -/
def returnBanks (s : State) (e : Nat) (l : Lookup) : State :=
  if !l.retBank then s
  else l.banks.foldl (fun s b => if engineOwns s e b.1 b.2 then modBank s b.1 b.2 fun k => { k with
      ownerB := ownLocal
      pend := none
      reclaim := false
      byThread := none } else s) s

/-- Every row has returned and every part has ended. -/
def lookupDone (l : Lookup) : Bool :=
  l.isOver || (l.fetch.all (fun r => r.isOver) && l.parts.all fun p => p.isOver)

/-- The lookup leaves its engine. -/
def removeLookup (s : State) (e id : Nat) : State :=
  modEngine s e fun x => { x with active := x.active.filter fun l => l.id != id }

/-- The steps of R281 after the outputs. -/
def endLookup (s : State) (e n id : Nat) (l : Lookup) (status : Half) : State :=
  let s := returnBanks (removeLookup s e l.id) e l
  match opOf s n id with
  | none => s
  | some o => completeOp s n o status.toNat l.subst

/-- A local lookup completes (12 R281, R282). -/
def completeLocal (s : State) (e n id : Nat) (l : Lookup) : State :=
  match tableOf s l.table with
  | none => endLookup s e n id l lsDenied
  | some t =>
    if l.status = 0 then
      let (lead, s) := takeFreeBytes s (l.outSpa % 4)
      match writeOuts e n (wordPads l t lead ++ lookupOuts l t) s true with
      | (s, true) => endLookup s e n id l 0
      | (s, false) => endLookup (freeOuts s e n l (lookupOutSize t l.ofmt.toNat)) e n id l lsNotOwner
    else endLookup (freeOuts s e n l (lookupOutSize t l.ofmt.toNat)) e n id l l.status

/-- The entries of a POOLED reply: a partial per bag, or a row per position with CONCAT (12 R279, 14 R341). -/
def pooledBytes (l : Lookup) (t : TableD) : Bytes :=
  ((bagsOf l 0).map fun b => leBytes 4 b ++ zeros 4 ++
    (if l.pool = poolConcat then
       (match l.pos.find? fun p => p.bag = b with
        | some p => fetched l 0 p.row
        | none => [])
     else pack 11 (poolAll l.pool t.elems (bagRows l t 0 b)))).flatten

/-- The response status of an owner that refuses. -/
def respOfStatus (st : Half) : Nat := if st = lsStale then rsStale else if st = lsEpoch then rsEpoch else rsDenied

def servingOf (s : State) (i : Nat) : Option Packet := s.fab.serving.find? fun p => p.num = i

def dropServing (s : State) (i : Nat) : State :=
  { s with fab := { s.fab with serving := s.fab.serving.filter fun p => p.num != i } }

/-- An incoming lookup completes: POOLED, with poison, or REFUSED (12 R280). -/
def completePeer (s : State) (e i : Nat) (l : Lookup) : State :=
  let s := removeLookup s e l.id
  match servingOf s i, tableOf s l.table with
  | some p, some t =>
    let s := dropServing s i
    if l.isOver then s
    else if l.status = 0 then respond s p opPooled rsOk l.poison (pooledBytes l t)
    else refuse s p (respOfStatus l.status)
  | _, _ => dropServing s i

/-- LOOKUP_COMPLETE (12 R281). Outputs whose bank is still on its way to the engine are held (09 R200). -/
def execLookupComplete (e : Fin 8) (lk : Nat) (s : State) : Res :=
  live s fun s =>
    match lookupOf s e lk with
    | none => s
    | some l =>
      if !lookupDone l then s
      else match l.src with
        | .core n id => if outHeld s e l then s else completeLocal s e n id l
        | .peer i => completePeer s e i l

/-! ### Replies to parts (12 R279, R282; 14 R347) -/

/-- The entries of a POOLED payload. -/
def replyEntries : Nat → Nat → Bytes → List (Nat × Bytes)
  | 0, _, _ => []
  | fuel + 1, n, b =>
    if b.length < 8 then []
    else (leNat (b.take 4), (b.drop 8).take n) :: replyEntries fuel n (b.drop (8 + n))

/-- A part of a lookup ends. -/
def partEnd (s : State) (e lk tag : Nat) (r : RemEnd) : State :=
  match lookupOf s e lk with
  | none => s
  | some l =>
    let n := ((tableOf s l.table).map fun t => if l.pool = poolConcat then rowLen t else 4 * t.elems).getD 0
    let setP (f : LkPart → LkPart) : State := modLookup s e lk fun l => { l with
      parts := l.parts.map fun p => if p.tag == some tag && !p.isOver then f p else p }
    let bad (st : Half) : State :=
      modLookup (setP fun p => { p with isOver := true }) e lk fun l => meet s.tb.up l st
    match r with
    | .ok d poison =>
      let s := setP fun p => { p with
        isOver := true
        reply := replyEntries (d.length + 1) n d }
      if poison then modLookup s e lk fun l => meet s.tb.up l lsPoison else s
    | .status c => bad (if c = rsStale then lsStale else if c = rsEpoch then lsEpoch else lsDenied)
    | .timeout => bad lsTimeout
    | .missed => bad lsMissed

end Sys2Proof.Machine
end

