-- ==== Sys2Proof/Machine/Update.lean ====
section
/-! DEFINITION. Update.lean: update records from issue to settlement, de-duplication, and host update rings (12 R284 to
R289, R295). -/

namespace Sys2Proof.Machine

/-! ### Streams (12 R286) -/

/-- The open stream with a key, and its handle. -/
def streamOf (s : State) (source stream : Half) : Option (Nat × UpdStream) :=
  s.te.streams.find? fun x => x.2.source = source && x.2.stream = stream

def modStream (s : State) (h : Nat) (f : UpdStream → UpdStream) : State :=
  { s with te := { s.te with streams := tmod s.te.streams h f } }

/-- What the window says of a sequence number. -/
inductive WindowSays where
  | accept
  | dup
  | stale
deriving DecidableEq, Repr

def windowSays (x : UpdStream) (seq : Nat) : WindowSays :=
  if x.next ≤ seq then .accept
  else
    let back := x.next - 1 - seq
    if 1024 ≤ back then .stale
    else if x.window.getLsbD back then .dup
    else .accept

/-- The window after an accepted number. -/
def windowMark (x : UpdStream) (seq : Nat) : UpdStream :=
  if x.next ≤ seq then { x with
    next := seq + 1
    window := (if seq + 1 - x.next < 1024 then x.window <<< (seq + 1 - x.next) else 0) ||| 1 }
  else { x with window := x.window ||| (1 <<< (x.next - 1 - seq)) }

/-! ### Records (12 R284, R285) -/

/-- The record in `b`. -/
def recOf (id : Nat) (src : UpdFrom) (source : Half) (gctx : Nat) (b : Bytes) : UpdRec :=
  let f := fieldAt b
  { id := id, src := src, source := source, table := f 0 2, stream := BitVec.ofNat 16 (f 2 2),
    seq := BitVec.ofNat 64 (f 8 8), index := BitVec.ofNat 64 (f 16 8), deadline := BitVec.ofNat 64 (f 24 8),
    delta := b.drop 32, gctx := gctx, applied := false, tag := none }

/-- A record's bytes. -/
def recBytes (r : UpdRec) : Bytes :=
  layout 32 [(0, 2, r.table), (2, 2, r.stream.toNat), (8, 8, r.seq.toNat), (16, 8, r.index.toNat),
    (24, 8, r.deadline.toNat)] ++ r.delta

def countUpd (s : State) (tbl : Nat) (st dropped : Bool) : State :=
  modTable s tbl fun t =>
    if dropped then { t with updDropped := t.updDropped + 1 }
    else if st then { t with updStale := t.updStale + 1 }
    else { t with updDup := t.updDup + 1 }

/-- A host ring's record fails: counted in its table's stats, its only trace there (12 R289; log 33). -/
def ringFailed (s : State) (r : UpdRec) : State := match r.src with
  | .ring _ => countUpd s r.table false true
  | _ => s

/-- A record is settled: its issuer learns how. `status` 0 is applied or dropped without failing; `dup` counts towards
DETAIL (12 R285). -/
def recSettled (s : State) (r : UpdRec) (status : Half) (dup : Bool) : State :=
  match r.src with
  | .core n id => modOp s n id fun o => { o with
      status := if o.status = 0 then status else o.status
      detail := o.detail + (if dup then 1 else 0) }
  | .ring h => modStream s h fun x => { x with head := x.head + 1 }
  | .closed => s
  | .peer i =>
    match servingOf s i with
    | none => s
    | some p =>
      let s := dropServing s i
      if status = lsMissed then s
      else if status = 0 then respond s p opAck rsOk false []
      else if status = BitVec.ofNat 16 osMemory then respond s p opAck rsMemory false []
      else refuse s p (if status = lsStale then rsStale else rsDenied)

/-- A new record goes to an engine's arriving ones. -/
def arrive (s : State) (e : Nat) (r : UpdRec) : State :=
  let r := { r with id := s.te.nextId }
  modEngine { s with te := { s.te with nextId := s.te.nextId + 1 } } e fun x => { x with arriving := x.arriving ++ [r] }

/-- A record sent to another chip as an ADD in update form; false if it must wait for a tracker. Here it stays a record of
table `entry`. -/
def sendRec (s : State) (e entry : Nat) (r : UpdRec) (o : OwnerEnt) : State × Bool :=
  let r := { r with id := s.te.nextId }
  let here := { r with
    table := entry
    applied := true }
  match sendRequest s opAdd 2 1 (gChip o.gaddr) o.inc o.gaddr r.deadline [recBytes r] (.update e r.id) with
  | (.stalled, s) => (s, false)
  | (.noRoute, s) => (recSettled (ringFailed s here) here lsDenied false, true)
  | (.sent tag, s) =>
    (modEngine { s with te := { s.te with nextId := s.te.nextId + 1 } } e fun x => { x with
      inflight := x.inflight ++ [{ here with tag := some tag }] }, true)

/-- A record is routed by the owner of its index (12 R285); false if it must wait. The table must be of the context: a record of
another is refused and counted (12 R287). -/
def routeRec (s : State) (e ctx : Nat) (r : UpdRec) : State × Bool :=
  match tableOf s r.table with
  | none => (recSettled s r lsDenied false, true)
  | some t =>
    if t.ctx != ctx then (recSettled (countUpd s r.table false true) r lsDenied false, true)
    else if badIndex t r.index then (recSettled (countUpd s r.table false true) r 0 false, true)
    else
      let r := { r with delta := r.delta.take t.rowBytes }
      if t.shard = 0 then (arrive s t.home r, true)
      else
        let k := ownerOf t r.index.toNat
        match t.owners[k.1]? with
        | none => (recSettled (ringFailed s r) r lsDenied false, true)
        | some o =>
          let entry := r.table
          let r := { r with
            table := o.table.toNat
            index := BitVec.ofNat 64 k.2
            gctx := gCtx o.gaddr }
          if gChip o.gaddr = myChip s then
            match tableOf s o.table.toNat with
            | some t2 => (arrive s t2.home r, true)
            | none => (recSettled (ringFailed s { r with table := entry }) r lsDenied false, true)
          else sendRec s e entry r o

/-- Records of a TE_UPDATE, routed from number `i` on as far as trackers allow; a table that does not exist fails its
record and the rest. -/
def routeAll (n : Nat) (o : CopOp) : List (Nat × Nat × Nat) → State → State
  | [], s => s
  | (i, spa, len) :: rest, s =>
    let r := recOf 0 (.core n o.id) (myChip s) (stageCtx s n) (spadRead s n spa len)
    let all := fieldAt o.desc 36 4
    if (tableOf s r.table).isNone then modOp (recSettled s r lsDenied false) n o.id fun o => { o with prog := all }
    else match routeRec s (fieldAt o.desc 40 1) (stageCtx s n) r with
      | (s, true) => routeAll n o rest (modOp s n o.id fun o => { o with prog := i + 1 })
      | (s, false) => s

/-- The scratchpad ranges of a TE_UPDATE's records. -/
def updateReads (s : State) (n : Nat) (d : Bytes) : List (Nat × Nat) := recordsAt s n (fieldAt d 36 4) (fieldAt d 32 4)

/-- In a pair the records lie in one core's scratchpad (09 R209). -/
def recordsSplit (s : State) (n : Nat) (d : Bytes) : Bool :=
  (updateReads s n d).any fun r => spaSide s n (r.1 + (r.2 - 1)) != spaSide s n (fieldAt d 32 4)

/-- TE_UPDATE (12 R285): once confirmed, its records are routed. -/
def execTeUpdate (n : Fin 32) (op : Nat) (s : State) : Res :=
  live s fun s => opRun s n op kindUpdate (updateReads s n) (fun _ => []) fun o s =>
    if o.depth != 0 then s
    else if o.prog = 0 && recordsSplit s n o.desc then opFault s n o fkCopDesc (BitVec.ofNat 8 o.unit) (descSpa s n o)
    else
      let l := listIdx (updateReads s n o.desc)
      let s := modOp s n op fun o => { o with phase := .running }
      routeAll n o (l.drop o.prog) s

/-! ### At the owner (12 R286 to R288) -/

/-- R155, which is of incoming operations, refuses a line of the row of another chip's record; a local record that cannot be
translated meets a translation fault (07 R167; log 33). -/
def pageRefused (s : State) (ctx : Nat) (peer : Bool) (a len : Nat) : Bool :=
  peer && [a, a + (len - 1)].any fun x => match findMap s ctx x with
    | none => true
    | some e => !e.bit 2 || !e.bit 5

def UpdRec.isPeer (r : UpdRec) : Bool := match r.src with
  | .peer _ => true
  | _ => false

/-- How an arriving record is treated. -/
inductive Arrival where
  | refused (status : Half)
  /-- dropped and counted UPD_DROPPED, with this status -/
  | dropped (status : Half)
  | dup
  | stale
  | accept (h : Nat) (t : TableD) (base : Nat)

/-- The checks of R287 in the order of its table, then the window of R286. -/
def judge (s : State) (r : UpdRec) : Arrival :=
  match tableOf s r.table with
  | none => .refused lsDenied
  | some t =>
    let row := t.base.toNat + r.index.toNat * t.rowBytes
    match streamOf s r.source r.stream with
    | none => .dropped lsDenied
    | some (h, x) =>
      if t.shard != 0 || !t.flag 2 || x.ctx != t.ctx || (r.isPeer && r.gctx != t.ctx) then .dropped lsDenied
      else if badIndex t r.index then .dropped 0
      else if pageRefused s t.ctx r.isPeer row (rowLen t) then .dropped lsDenied
      else if late s r.deadline then .dropped lsMissed
      else match windowSays x r.seq.toNat with
        | .dup => .dup
        | .stale => .stale
        | .accept => .accept h t row

/-- An accepted record's adds are issued, line by line (12 R288). -/
def applyRec (s : State) (e : Nat) (r : UpdRec) (h : Nat) (t : TableD) (row : Nat) : State :=
  let s := modStream s h fun x => windowMark x r.seq.toNat
  let s := modEngine s e fun x => { x with inflight := x.inflight ++ [{ r with applied := true }] }
  let a := mkAccess (.update e r.id) (.engine e) e t.ctx (row % 2 ^ 64) (rowLen t) (.add t.fmt) (r.delta.take (rowLen t))
  startAccess s { a with
    peer := r.isPeer
    deadline := r.deadline }

def updOwns (e id : Nat) (w : AccOwner) : Bool := match w with
  | .update x i => x = e && i = id
  | _ => false

/-- An update's failed access by the status it gives. -/
def updRank : AccFail → Nat
  | .timeout => osTimeout
  | .xlate _ => 0x33
  | .missed => 0x34
  | _ => osMemory

/-- The failed access of a list that failed as `w`. -/
def failedAs (w : AccFail) (l : List (Nat × Access)) : Option Access :=
  (l.find? fun x => x.2.stage == .failed w).map fun x => x.2

/-- A record fails as `w`, at access `a`. Its translation fault is a TE_UPDATE's operation's, or an event for a ring's record; it
refuses another chip's (07 R167). -/
def recFails (s : State) (r : UpdRec) (w : AccFail) (a : Option Access) : State :=
  let dva := (a.map fun a => a.dva).getD 0
  match w, r.src with
  | .xlate k, .core n id =>
    (match opOf s n id with
      | some o => opFault s n o fkTranslation k dva
      | none => s)
  | .xlate k, .ring _ =>
    let s := event s 0x0009 1 (xlateFaultData ((a.map fun a => a.ctx).getD 0) k.toNat
      ((a.map fun a => streamCode a.stream).getD 0) dva)
    recSettled (ringFailed s r) r lsDenied false
  | _, _ => recSettled (ringFailed s r) r (BitVec.ofNat 16 (updRank w)) false

/-- Records of an engine whose adds have all ended are settled (12 R285). -/
def settleUpdates (s : State) (e : Nat) : State :=
  (engineOf s e).inflight.foldl (fun s r =>
    let l := accsOf s (updOwns e r.id)
    if r.tag.isSome || !allEnded l then s
    else
      let s := accDrop s (updOwns e r.id)
      let s := modEngine s e fun x => { x with inflight := x.inflight.filter fun y => y.id != r.id }
      match firstBad updRank l with
      | none => recSettled (modTable s r.table fun t => { t with updApplied := t.updApplied + 1 }) r 0 false
      | some w => recFails s r w (failedAs w l)) s

def settleAllUpdates (s : State) : State := (List.range 8).foldl settleUpdates s

/-- One arriving record at its home engine. -/
def arrival (s : State) (e : Nat) (r : UpdRec) : State :=
  let s := applySwitch s r.table
  match judge s r with
  | .refused st => recSettled s r st false
  | .dropped st => recSettled (countUpd s r.table false true) r st false
  | .dup => recSettled (countUpd s r.table false false) r 0 true
  | .stale => recSettled (countUpd s r.table true false) r 0 true
  | .accept h t row => applyRec s e r h t row

/-- UPDATE_RECORD_ARRIVAL (12 R286). -/
def execUpdateRecordArrival (e : Fin 8) (s : State) : Res :=
  live s fun s =>
    let s := settleUpdates s e
    match (engineOf s e).arriving with
    | [] => s
    | r :: _ => arrival (modEngine s e fun x => { x with arriving := x.arriving.drop 1 }) e r

/-- A record sent to another chip ends (12 R285). -/
def recRemoteEnd (s : State) (e id : Nat) (r : RemEnd) : State :=
  match (engineOf s e).inflight.find? fun x => x.id = id with
  | none => s
  | some x =>
    let s := modEngine s e fun y => { y with inflight := y.inflight.filter fun z => z.id != id }
    let st : Half := match r with
      | .ok _ _ => 0
      | .status c => if c = rsStale then lsStale else if c = rsMemory then BitVec.ofNat 16 osMemory else lsDenied
      | .timeout => lsTimeout
      | .missed => lsMissed
    recSettled (if st = 0 then s else ringFailed s x) x st false

/-- Records of an operation not settled yet. -/
def recsLeft (s : State) (n id : Nat) : Bool :=
  s.te.engines.any fun e => (e.arriving ++ e.inflight).any fun r => r.src == .core n id

/-- A TE_UPDATE completes once every record is settled (12 R285). -/
def updateComplete (s : State) (n : Nat) (o : CopOp) : State :=
  let s := settleAllUpdates s
  match opOf s n o.id with
  | none => s
  | some o =>
    if o.prog < fieldAt o.desc 36 4 || recsLeft s n o.id then s
    else completeOp s n o o.status.toNat o.detail.toNat

/-- COP_OPERATION_COMPLETE (10 R230, R241). -/
def execCopOperationComplete (n : Fin 32) (op : Nat) (s : State) : Res :=
  live s fun s =>
    match opOf s n op with
    | none => s
    | some o =>
      if (coreOf s n).fenced || o.fault.isSome then s
      else if 4 ≤ o.unit && o.phase = .running then dmaComplete s n o
      else if o.unit = 3 && o.phase = .running then (if dKind o.desc = kindUpdate then updateComplete s n o else s)
      else if o.phase != .ready || o.depth != 0 || rangesHeld s n o.id (o.staging.map fun b => (b.1, 1)) then s
      else match flushStaging s n o with
        | (some (k, a), s) => opFault s n o k (BitVec.ofNat 8 o.unit) a
        | (none, s) => completeOp s n o o.status.toNat o.detail.toNat

/-! ### Host rings (12 R289, R295) -/

/-- RQ_UPD_TAIL_h: ignored when it moves backward or too far ahead of HEAD. -/
def execRqUpdTailWrite (h : Fin 1024) (val : Word) (s : State) : Res :=
  barWrite s fun s => modStream s h fun x =>
    if x.ring && (val - x.head).toNat ≤ 2 ^ x.log2 && (x.tail - x.head).toNat ≤ (val - x.head).toNat then
      { x with tail := val } else x

/-- A record of ring `h` is being handled. -/
def ringBusy (s : State) (h : Nat) : Bool :=
  s.te.engines.any fun e => (e.arriving ++ e.inflight).any fun r => r.src == .ring h

def ringOwns (h : Nat) (w : AccOwner) : Bool := match w with
  | .ring x => x = h
  | _ => false

/-- A record read whole from its slot: too long for it, or routed like a TE_UPDATE record. -/
def ringRecord (s : State) (h : Nat) (x : UpdStream) (b : Bytes) : State :=
  let r := recOf 0 (.ring h) x.source x.ctx b
  match tableOf s r.table with
  | none => recSettled s r lsDenied false
  | some t =>
    if 2 ^ x.slotLog2 < 32 + t.rowBytes then recSettled (countUpd s r.table false true) r 0 false
    else (routeRec s x.engine x.ctx r).1

/-- UPDATE_RING_RECORD (12 R289): the record at HEAD is read, then handled; the next follows once it is settled. A slot
that cannot be read, or reads poison, is a failed record. -/
def execUpdateRingRecord (h : Fin 1024) (s : State) : Res :=
  live s fun s =>
    let s := settleAllUpdates s
    match tget s.te.streams h with
    | none => s
    | some x =>
      if !x.ring || x.head = x.tail || ringBusy s h || s.hlt.warmBegun then s
      else
        let l := accsOf s (ringOwns h)
        if l.isEmpty then
          let a := x.ringDva.toNat + x.head.toNat % 2 ^ x.log2 * 2 ^ x.slotLog2
          startAccess s (mkAccess (.ring h) (.engine x.engine) x.engine x.ctx a (2 ^ x.slotLog2) .read [])
        else if !allEnded l then s
        else
          let b := rowBytesOf (2 ^ x.slotLog2) l
          let bad := (firstBad (fun _ => 0) l).isSome || l.any fun a => a.2.poison
          let s := accDrop s (ringOwns h)
          if bad then modStream s h fun x => { x with head := x.head + 1 } else ringRecord s h x b

end Sys2Proof.Machine
end

