-- ==== Sys2Proof/Machine/Handover.lean ====
section
/-! DEFINITION. Handover.lean: the end of a bank's hand-over and of a reclaim (09 R200 to R202). -/

namespace Sys2Proof.Machine

/-- The LOCAL ranges that an operation still uses: a lookup has read its arrays once it runs (12 R275). -/
def openRanges (s : State) (n : Nat) (o : CopOp) : List (Nat × Nat) :=
  if o.unit = 3 && dKind o.desc = kindLookup && o.phase = .running then [] else opRanges s n o

/-- An operation issued before the hand-over of bank `b` of core `c` still uses it (09 R200). -/
def handoverWaits (s : State) (c b : Nat) : Bool :=
  let n := leadOf s c
  (coreOf s n).cops.any fun o => o.id < (bankOf s c b).mark && (openRanges s n o).any fun r => meetsBank s n r c b

/-- The bank has this owner from now on, and nothing pends. -/
def bankTo (code : Byte) (k : Bank) : Bank := { k with
  ownerB := code
  pend := none
  reclaim := false
  byThread := none }

/-- A bank serves its new owner: the confirmed stores it held are performed (09 R200). -/
def bankServes (s : State) (c : Nat) : State :=
  (List.range 4).foldl (fun s t =>
    if (sureStores (threadOf s (leadOf s c) t)).isEmpty then s else settleThread s (leadOf s c) t) s

/-- HANDOVER_COMPLETE (09 R200). -/
def execHandoverComplete (c : Fin 32) (b : Fin 34) (s : State) : Res :=
  live s fun s =>
    let k := bankOf s c b
    match k.pend with
    | none => s
    | some code => if k.reclaim || handoverWaits s c b then s else bankServes (modBank s c b (bankTo code)) c

/-- The engine that owns the bank has no lookup in progress that names it (09 R202). -/
def reclaimFree (s : State) (c b : Nat) : Bool :=
  let e := vget s.te.engines ((bankOf s c b).ownerB.toNat - 0x10) Engine.reset
  !(e.intake ++ e.active).any fun l => l.banks.contains (c, b)

/-- RECLAIM_COMPLETE (09 R202). -/
def execReclaimComplete (c : Fin 32) (b : Fin 34) (s : State) : Res :=
  live s fun s =>
    let k := bankOf s c b
    if k.reclaim && k.pend == some ownLocal && reclaimFree s c b then bankServes (modBank s c b (bankTo ownLocal)) c
    else s

end Sys2Proof.Machine
end

