-- ==== Sys2Proof/Machine/Queues.lean ====
section
/-! DEFINITION. Queues.lean: queue pointers, the reading and admission of descriptors, records and notifications (01
R17, R18; 13 R297 to R304, R312 to R316). -/

namespace Sys2Proof.Machine

/-! ### Registers written by the host (13 R298, R322, R325) -/

/-- RQ_SQ_TAIL_q; on a FABRIC queue a sync object stands for it (13 R301). -/
def execRqSqTailWrite (q : Fin 256) (val : Word) (s : State) : Res :=
  barWrite s fun s => modQueue s q fun x => if x.fabric then x else sqTailTo x val

/-- RQ_CQ_HEAD_q. -/
def execRqCqHeadWrite (q : Fin 256) (val : Word) (s : State) : Res :=
  barWrite s fun s => modQueue s q fun x => if x.fabric then x else cqHeadTo x val

/-- RQ_Q_STATUS_q: write-one-to-clear in bits 3:2. -/
def execRqQStatusClear (q : Fin 256) (val : Word) (s : State) : Res :=
  barWrite s fun s => modQueue s q fun x => { x with
    ptrErr := x.ptrErr && !val.getLsbD 2
    notifyErr := x.notifyErr && !val.getLsbD 3 }

/-- The counter of an object; a freed one keeps its counter (13 R318, R322, R324). -/
def counterOf (s : State) (o : Nat) : Dword :=
  match syncOf s o with
  | some x => x.counter
  | none => (tget s.sch.kept o).getD 0

/-- RQ_SYNC_SEL_n latches the object's counter into set n (13 R322). -/
def execRqSyncSelWrite (n : Fin 64) (val : Word) (s : State) : Res :=
  barWrite s fun s =>
    let sel : BitVec 13 := val.setWidth 13
    let c := counterOf s sel.toNat
    { s with sch := { s.sch with readSets := s.sch.readSets.set n ⟨sel, c.setWidth 32, c.extractLsb' 32 32⟩ } }

/-! ### The scheduler's own accesses (07 R156, R166, R167) -/

/-- A translation for the scheduler, or the fault's KIND; without a cached copy the walk may read poison (08 R186). -/
def schedXlate (s : State) (ctx dva : Nat) (write : Bool) : Except Nat MapEnt :=
  if 2 ^ 46 ≤ dva then .error 1
  else match findMap s ctx dva with
    | none => .error 2
    | some e =>
      if (tlbFind s .sched 0 ctx dva).isNone && walkPoisoned s ctx dva then .error 2
      else if write then (if e.bit 2 then .ok e else .error 4) else if e.bit 1 then .ok e else .error 3

/-- STREAM of a scheduler access. -/
def schedStream : Nat := streamCode .sched

/-! ### Records (13 R297, R301, R312; 06 R129) -/

/-- A completion record. -/
def recordBytes (token user : Dword) (e : ReqEnd) (phase : Nat) (dup cached : Bool) : Bytes :=
  layout 32 [(0, 8, token.toNat), (8, 8, user.toNat), (16, 2, e.status.toNat),
    (18, 1, bitsOf [(0, phase), (1, b2n dup), (2, b2n cached), (3, b2n e.partial_)]), (19, 1, e.stagesDone.toNat),
    (20, 2, e.app.toNat), (22, 2, e.detail.toNat), (24, 8, e.dtDone.toNat)]

/-- PHASE of the record that goes to the queue's next entry (13 R297). -/
def Queue.phase (x : Queue) : Nat := (x.cqTail.toNat / x.entries + 1) % 2

/-- Where the queue's next record goes. -/
def Queue.recordAt (x : Queue) : Nat := x.cqAddr.toNat + 32 * (x.cqTail.toNat % x.entries)

/-- Where the queue's next descriptor lies. -/
def Queue.descAt (x : Queue) : Nat := x.sqAddr.toNat + 128 * (x.sqHead.toNat % x.entries)

/-- A record is globally visible: the notification follows. -/
def notify (s : State) (q : Nat) : State := pumpNotes (modQueue s q fun x => { x with notes := x.notes + 1 })

/-- A record of a FABRIC queue goes to its DVA; one that cannot be translated is lost, with an event and no
notification (07 R167, 13 R301). -/
def fabricRecord (s : State) (q : Nat) (x : Queue) (dva : Nat) (b : Bytes) (errs : List (Nat × LineErr)) : State :=
  match schedXlate s x.ctx dva true with
  | .error k => event s 0x0009 1 (xlateFaultData x.ctx k schedStream dva)
  | .ok e =>
    let s := tlbUse s .sched 0 e
    if e.tier = 0 then
      match towerWrite (snoop s (e.at_ dva)) (e.at_ dva) b false (errOf errs (e.at_ dva)) with
      | (s, true) => notify s q
      | (s, false) => s
    else notify (startAccess s (mkAccess .gone .sched 0 x.ctx dva 32 .write b)) q

/-- One record is posted on queue `q`, then its MSI-X; a queue that is gone has no ring (01 R18; 13 R299, R314). -/
def postRecord (s : State) (q : Nat) (token user : Dword) (e : ReqEnd) (dup cached : Bool)
    (errs : List (Nat × LineErr)) : State :=
  match queueOf s q with
  | none => s
  | some x =>
    let b := recordBytes token user e x.phase dup cached
    let a := x.recordAt
    let s := modQueue s q fun x => { x with
      cqTail := x.cqTail + 1
      reserved := x.reserved - 1 }
    let s := if x.fabric then fabricRecord s q x a b errs else hostWrite s a b false x.ctx
    if x.irq then msix s x.vector.toNat else s

/-- OP_MIGRATE holds writes to a page of the queue's completion ring (07 R163). -/
def ringHeld (s : State) (q : Nat) : Bool :=
  (queueOf s q).any fun x => x.fabric && s.xl.migrations.any fun m => match m.2.pages with
    | e :: _ => 1 ≤ m.2.phase && e.meets x.ctx x.cqAddr.toNat (32 * x.entries)
    | [] => false

/-! ### The completion cache (13 R315) -/

def windowNs (s : State) : Nat := s.sch.replayMs.toNat * 1000000

/-- The entry is inside the replay window now. -/
def inReplay (s : State) (e : CacheEnt) : Bool := (dtNs s).toNat ≤ e.fin.dtDone.toNat + windowNs s

def cacheFind (s : State) (source : Half) (token : Dword) : Option CacheEnt :=
  s.sch.cache.find? fun e => e.source = source && e.token = token && inReplay s e

/-- The entry with the oldest DT_DONE. -/
def oldest : List CacheEnt → Option CacheEnt
  | [] => none
  | e :: r => match oldest r with
    | none => some e
    | some f => if f.fin.dtDone.toNat < e.fin.dtDone.toNat then some f else some e

/-- An entry is made; one of the same key gives way, and when the cache is full the oldest does. -/
def cachePut (s : State) (e : CacheEnt) : State :=
  let l := s.sch.cache.filter fun x => !(x.source = e.source && x.token = e.token)
  if l.length < 16384 then { s with sch := { s.sch with cache := e :: l } }
  else match oldest l with
    | none => { s with sch := { s.sch with cache := e :: l } }
    | some o =>
      let n : Word := if inReplay s o then 1 else 0
      { s with sch := { s.sch with
        cache := e :: l.erase o
        ccEvict := s.sch.ccEvict + n } }

/-! ### Descriptors (13 R302 to R304) -/

def descOf (b : Bytes) : Desc :=
  let f (o n : Nat) := fieldAt b o n
  { token := BitVec.ofNat 64 (f 0 8), deadline := BitVec.ofNat 64 (f 8 8), plan := BitVec.ofNat 16 (f 16 2),
    ctx := BitVec.ofNat 8 (f 18 1), flags := BitVec.ofNat 8 (f 19 1), inDva := BitVec.ofNat 64 (f 24 8),
    inLen := BitVec.ofNat 64 (f 32 8), outDva := BitVec.ofNat 64 (f 40 8), outLen := BitVec.ofNat 64 (f 48 8),
    user := BitVec.ofNat 64 (f 56 8), args := (b.drop 64).take 64 ++ zeros (64 - (b.length - 64)) }

/-- The checks of an admitted descriptor (13 R304): DETAIL of BAD_DESCRIPTOR. -/
def descBad (s : State) (q : Queue) (b : Bytes) (d : Desc) : Option Nat :=
  if 8 ≤ d.flags.toNat || fieldAt b 20 4 != 0 then some 1
  else if d.ctx.toNat != q.ctx then some 2
  else if !(tget s.sch.plans d.plan.toNat).any fun p => p.ctx = q.ctx then some 3
  else none

/-- Pages of a range translated in order while room is left: the entries, or the KIND of the first fault (07 R159). -/
def rangePages (s : State) (ctx : Nat) (write : Bool) : Nat → Nat → Nat → Except Nat (List MapEnt)
  | 0, _, _ => .ok []
  | fuel + 1, a, hi =>
    if hi ≤ a then .ok []
    else match schedXlate s ctx a write with
      | .error k => .error k
      | .ok e => (rangePages s ctx write fuel (e.dva + e.size) hi).map fun l => e :: l

/-- The translations a request of a PRETRANSLATE queue holds (07 R159): 16 pages, the input's first. -/
def pretranslate (s : State) (d : Desc) : Except Nat (List MapEnt) :=
  match rangePages s d.ctx.toNat false 16 d.inDva.toNat (d.inDva.toNat + d.inLen.toNat) with
  | .error k => .error k
  | .ok l =>
    match rangePages s d.ctx.toNat true (16 - l.length) d.outDva.toNat (d.outDva.toNat + d.outLen.toNat) with
    | .error k => .error k
    | .ok m => .ok (l ++ m)

/-- Attached duplicates, chip-wide (13 R314). -/
def attachCount (s : State) : Nat := (s.sch.slots.map fun x => x.2.attached.length).sum

def slotCount : Nat := 4096

/-- The lowest free slot. -/
def freeSlot (s : State) : Option Nat := (List.range slotCount).find? fun i => !thas s.sch.slots i

/-- An outcome decided without a slot. -/
def plainEnd (s : State) (status detail : Half) : ReqEnd := ⟨status, detail, 0, 0, false, dtNs s⟩

/-- A descriptor is admitted to slot `i` (13 R304; 07 R159). -/
def admitSlot (s : State) (i q : Nat) (x : Queue) (b : Bytes) (d : Desc) : State :=
  let slot : Slot :=
    { queue := q, source := x.source, desc := d, state := .waiting, stage := 0, core := none, cancelled := false,
      order := s.sch.nextOrder, attached := [], fin := none, outFail := false, flushFail := false, flushed := false,
      flushing := false, lastHost := none, pages := [] }
  let s := { s with sch := { s.sch with
    slots := tput s.sch.slots i slot
    nextOrder := s.sch.nextOrder + 1 } }
  match descBad s x b d with
  | some k => endRequest s i rqBadDesc (BitVec.ofNat 16 k) 0
  | none =>
    if !x.pretrans then s
    else match pretranslate s d with
      | .error k => endRequest s i rqXlate (BitVec.ofNat 16 k) 0
      | .ok l => modSlot (l.foldl (fun s e => tlbUse s .sched 0 e) s) i fun y => { y with pages := l }

/-- The checks of 01 R17, in order, for a descriptor of queue `q`. -/
def admission (s : State) (q : Nat) (x : Queue) (b : Bytes) (errs : List (Nat × LineErr)) : State :=
  let d := descOf b
  let post (s : State) (e : ReqEnd) (dup cached : Bool) : State := postRecord s q d.token d.user e dup cached errs
  match s.sch.slots.find? fun y => y.2.source = x.source && y.2.desc.token = d.token with
  | some (i, _) =>
    if 4096 ≤ attachCount s then post s (plainEnd s rqAdmitFull 1) false false
    else modSlot s i fun y => { y with attached := y.attached ++ [⟨q, d.user⟩] }
  | none =>
    match cacheFind s x.source d.token with
    | some e => post s e.fin true true
    | none =>
      if late s d.deadline then post s (plainEnd s rqShed 0) false false
      else match freeSlot s with
        | none => post s (plainEnd s rqAdmitFull 0) false false
        | some i => admitSlot s i q x b d

/-! ### DESCRIPTOR_READ (13 R299, R300) -/

/-- A descriptor of the queue may be read: unread, not stopping, and an entry free for its record. -/
def mayRead (s : State) (e : Nat × Queue) : Bool :=
  let x := e.2
  x.sqTail != x.sqHead && !x.stopping && (x.cqTail - x.cqHead).toNat + x.reserved < x.entries && !ringHeld s e.1

/-- The next queue in round-robin order after the one served last. -/
def nextQueue (s : State) : Option (Nat × Queue) :=
  let l := s.sch.queues.filter (mayRead s)
  (l.find? fun e => s.sch.rr < e.1) <|> l.head?

/-- What reading a descriptor gave. -/
inductive DescGot where
  | bytes (b : Bytes)
  /-- a status instead -/
  | bad (status detail : Half)
  /-- its translation is awaited (06 R139) -/
  | wait

/-- A refusal the host gave for a descriptor's page is used once (06 R141). -/
def atcForget (s : State) : State :=
  { s with hl := { s.hl with atc := s.hl.atc.filter fun e => e.read || e.write } }

/-- A descriptor in host memory: the bytes the host returns within the completion timeout, or a failure (06 R119, R141,
R432). The read has one of the 1,024 outstanding while the command lasts (06 R117). -/
def hostDesc (s : State) (x : Queue) (data : Option Bytes) : DescGot × State :=
  let a := x.descAt
  if !hostUp s then (.bad rqBadDesc 0, s)
  else if 1024 ≤ readsSent s then (.wait, s)
  else match atcFind s (pasidOf s x.ctx) a false with
    | .denied => (.bad rqXlate 5, atcForget (setInt s 3))
    | .miss =>
      if s.hl.ats.any fun r => r.2.page = a / 4096 * 4096 && r.2.pasid == pasidOf s x.ctx && !r.2.write then (.wait, s)
      else (.wait, atsAsk s (.read s.hl.nextTag) (pasidOf s x.ctx) a false)
    | .ok t =>
      let s := emit s (.hostRead s.hl.nextTag t 128 (readHow s) (if s.hl.cfg.pasidEn then pasidOf s x.ctx else none))
      let s := { s with hl := { s.hl with nextTag := s.hl.nextTag + 1 } }
      (match data with
        | some b => (.bytes b, s)
        | none => (.bad rqBadDesc 0, s))

/-- A descriptor of a FABRIC queue, by its DVA; a ring outside tower memory takes the bytes brought. -/
def fabricDesc (s : State) (x : Queue) (data : Option Bytes) (errs : List (Nat × LineErr)) : DescGot × State :=
  match schedXlate s x.ctx x.descAt false with
  | .error k => (.bad rqXlate (BitVec.ofNat 16 k), s)
  | .ok e =>
    let s := tlbUse s .sched 0 e
    if e.tier = 0 then
      let pa := e.at_ x.descAt
      let (s, a, p) := towerRead (snoop s pa) pa 64 (errOf errs pa) 0
      let (s, b, r) := towerRead (snoop s (pa + 64)) (pa + 64) 64 (errOf errs (pa + 64)) 0
      (if p || r then .bad rqBadDesc 0 else .bytes (a ++ b), s)
    else match data with
      | some b => (.bytes b, s)
      | none => (.bad rqBadDesc 0, s)

/-- DESCRIPTOR_READ (01 R17; 13 R299, R300). One that cannot be read still has its record (01 R18). `errs` gives what the
code finds in tower lines read here (08 R182). -/
def execDescriptorRead (data : Option Bytes) (errs : List (Nat × LineErr)) (s : State) : Res :=
  live s fun s =>
    if s.sch.frozen || s.hlt.warmBegun then s
    else match nextQueue s with
      | none => s
      | some (q, x) =>
        match (if x.fabric then fabricDesc s x data errs else hostDesc s x data) with
        | (.wait, s) => s
        | (got, s) =>
          let s := { s with sch := { s.sch with rr := q } }
          let s := modQueue s q fun x => { x with
            sqHead := x.sqHead + 1
            reserved := x.reserved + 1 }
          match got with
          | .bytes b => admission s q x b errs
          | .bad st d => postRecord s q 0 0 (plainEnd s st d) false false errs
          | .wait => s

/-! ### COMPLETION_RECORD_POST (06 R129, R130, R432; 13 R314 to R316) -/

/-- A record of the slot goes to tower memory. -/
def toFabric (s : State) (y : Slot) : Bool :=
  (y.queue :: y.attached.map fun a => a.queue).any fun q => (queueOf s q).any fun x => x.fabric

/-- The outcome as posted: OUTPUT_FAULT stands in place of it when a write or the flush read failed. -/
def postedEnd (y : Slot) (e : ReqEnd) : ReqEnd :=
  if y.outFail then { e with status := rqOutput, detail := 2, app := 0, partial_ := false }
  else if y.flushFail then { e with status := rqOutput, detail := 1, app := 0, partial_ := false }
  else e

/-- The slot's record and those of its duplicates are posted, the cache entry made, the slot freed. -/
def postSlot (s : State) (i : Nat) (errs : List (Nat × LineErr)) : State :=
  match slotOf s i with
  | none => s
  | some y => match y.fin with
    | none => s
    | some e =>
      let e := postedEnd y e
      let s := postRecord s y.queue y.desc.token y.desc.user e false false errs
      let s := y.attached.foldl (fun s a => postRecord s a.queue y.desc.token a.user e true false errs) s
      let s := if y.desc.noReplay || e.status = rqFenced || e.status = rqCancelled || e.status = rqNoCore then s
        else cachePut s ⟨y.source, y.desc.token, e⟩
      { s with sch := { s.sch with slots := tdel s.sch.slots i } }

/-- The flush read before a record in tower memory (06 R130); one that cannot be issued has failed (06 R432). -/
def flushRead (s : State) (i a ctx : Nat) : State :=
  match hostRead s (.flush i) a 0 ctx with
  | (some _, s) => modSlot s i fun y => { y with flushing := true }
  | (none, s) => setInt (modSlot s i fun y => { y with
      flushed := true
      flushFail := true }) 2

/-- The flush read of a slot ends. -/
def flushEnd (s : State) (i : Nat) (ok : Bool) : State :=
  let s := modSlot s i fun y => { y with
    flushing := false
    flushed := true
    flushFail := y.flushFail || !ok }
  if ok || (slotOf s i).isNone then s else setInt s 2

/-- COMPLETION_RECORD_POST. `errs` gives what the code finds in the tower lines that hold records (08 R182). -/
def execCompletionRecordPost (i : Fin 4096) (errs : List (Nat × LineErr)) (s : State) : Res :=
  live s fun s =>
    match slotOf s i with
    | none => s
    | some y =>
      if y.state != .completing || s.sch.frozen || s.hlt.warmBegun || y.flushing
          || (y.queue :: y.attached.map fun a => a.queue).any (ringHeld s) then s
      else match y.lastHost with
        | some a => if toFabric s y && !y.flushed && !byCache s then
            (if s.hl.posts.isEmpty then flushRead s i a y.ctx else s) else postSlot s i errs
        | none => postSlot s i errs

end Sys2Proof.Machine
end

