-- ==== Sys2Proof/Machine/Reef.lean ====
section
/-! DEFINITION. Reef.lean: the inputs of reefing, an octant's demand, and the views over them (16 R383 to R387, R391). -/

namespace Sys2Proof.Machine

/-- Demand level of a temperature in 1/16 degree: from `base` up 1.25 degrees a level, down 2 degrees below (16 R383). -/
def heatUp (base t : Int) : Nat := if t < base then 0 else min 7 ((t - base) / 20).toNat.succ

def heatDown (base t : Int) : Nat → Nat
  | 0 => 0
  | l + 1 => if t < base + 20 * (l : Int) - 32 then heatDown base t l else l + 1

def heatDemand (base t : Int) (cur : Nat) : Nat := max (heatUp base t) (heatDown base t cur)

/-- A THERMAL_LIMIT event (16 R392); severity 1 where it sets, 0 where it ends (log 36). -/
def thermalEvent (s : State) (source k : Nat) (t : Int) (cleared : Bool) : State :=
  event s 0x0008 (if cleared then 0 else 1)
    (layout 16 [(0, 1, source), (1, 1, k), (2, 2, ofSigned 2 t), (4, 1, b2n cleared)])

def modOct (s : State) (k : Nat) (f : Octant → Octant) : State :=
  { s with pwr := { s.pwr with octs := vmod s.pwr.octs k f } }

def octState (s : State) (k : Nat) : Octant := vget s.pwr.octs k Octant.reset

/-- The demand of PWR_CAP_N (16 R383). -/
def capDemand (s : State) : Nat := if s.pwr.capPin then s.pwr.capLevel.toNat else 0

/-- CHIP_DEMAND: the highest of the power, pin and current inputs. -/
def chipDemand (s : State) : Nat := max (capDemand s) (max s.pwr.powerDemand.toNat s.pwr.iccDemand.toNat)

/-- The demand that applies to octant k. -/
def octDemand (s : State) (k : Nat) : Nat :=
  let o := octState s k
  max (chipDemand s) (max o.twrDemand.toNat o.hotDemand.toNat)

/-- Since when each octant's level may fall (16 R384). -/
def noteReef (s : State) : State :=
  (List.range 8).foldl (fun s k =>
    modOct s k fun o => { o with
      lowerSince := if octDemand s k < o.level.toNat then some (o.lowerSince.getD s.tb.up) else none }) s

/-- CAP_UNMET: the draw is above LIMIT_W with every octant at level 7. -/
def capUnmet (s : State) : Bool := s.pwr.limitW.toNat < s.pwr.powerW.toNat && s.pwr.octs.all fun o => o.level = 7

/-- ALERT_N is asserted (16 R387). -/
def alertN (s : State) : Bool :=
  s.tw.limited.any (fun b => b) || s.pwr.octs.any (fun o => o.hotHold) || s.pwr.powerDemand != 0 || s.pwr.iccDemand != 0

/-- HOT_HOLD of the octant of core `n`: no new stage is dispatched there (16 R386). -/
def coreHot (s : State) (n : Nat) : Bool := (octState s (octOf n)).hotHold

/-- PWR_OCT_k. -/
def pwrOct (s : State) (k : Nat) : Nat :=
  let o := octState s k
  bitsOf [(0, o.level.toNat), (3, b2n o.boosted), (4, o.twrDemand.toNat), (7, o.hotDemand.toNat), (10, b2n o.hotHold)]

/-- PWR_TEMP_k. -/
def pwrTemp (s : State) (k : Nat) : Nat :=
  let o := octState s k
  bitsOf [(0, ofSigned 2 o.towerT), (16, ofSigned 2 o.hotT)]

/-- PWR_STATUS. -/
def pwrStatus (s : State) : Nat :=
  bitsOf [(0, chipDemand s), (3, b2n s.pwr.capPin), (4, b2n (s.pwr.powerDemand != 0)), (5, b2n (s.pwr.iccDemand != 0)),
    (6, b2n (capUnmet s)), (7, s.pwr.boostEn.toNat)]

/-- PWR_POWER. -/
def pwrPower (s : State) : Nat := bitsOf [(0, s.pwr.powerW.toNat), (16, s.pwr.limitW.toNat)]

end Sys2Proof.Machine
end

