-- ==== Sys2Proof/Machine/Memory.lean ====
section
/-! DEFINITION. Memory.lean: patrol scrub, tower temperature, and the opcodes over tower and deep memory (08). -/

namespace Sys2Proof.Machine

/-! ### Patrol scrub (08 R183) -/

/-- Lines of a tower. -/
def towerLines : Nat := 16 * chanBytes / 64

/-- The cell of line `i` of tower `k`. -/
def scrubCell (k i : Nat) : Nat := 16 * k * chanBytes + 64 * i

/-- The first line at or after `i` outside retired blocks. -/
def scrubSkip (s : State) (k : Nat) : Nat → Nat → Nat
  | 0, i => i
  | fuel + 1, i => if i < towerLines && retiredBlock s (scrubCell k i) then scrubSkip s k fuel (i + 1) else i

/-- A tower finished its pass; the pass counts when every tower has (08 R191). -/
def scrubEnd (s : State) (k : Nat) : State :=
  let d := vmod s.tw.scrubDone k fun _ => true
  if d.toList.all id then { s with tw := { s.tw with
    scrubDone := Vector.replicate 8 false
    scrubPos := Vector.replicate 8 0
    scrubPass := s.tw.scrubPass + 1 } }
  else { s with tw := { s.tw with scrubDone := d } }

/-- Row cache k's sectors whose cells a line of the tower is. -/
def sectorsAt (s : State) (k cell : Nat) : List RcSector :=
  (vget s.tw.rcs k []).filter fun x => rcCell s k (rcSetOf s k x.line) x.way = cell

/-- A dropped sector is read again from deep memory, as a read of its octant (08 R191). -/
def rcRefetch (s : State) (k : Nat) (x : RcSector) : State :=
  startPhys s (mkAccess .gone (.engine k) k 0xFF 0 64 .read []) true (x.line * 64)

/-- What the scrub found in one line (08 R182, R191). A line of a row cache is a clean copy: an uncorrectable error drops
the sector that it holds, which is fetched again, and raises no event. -/
def scrubLine (s : State) (k i : Nat) (err : LineErr) : State :=
  let cell := scrubCell k i
  match dpaOfCell s cell, err with
  | some dpa, e => lineCheck s dpa cell e 1
  | none, .none => s
  | none, .corrected => { s with tw := { s.tw with ce := vmod s.tw.ce k (· + 1) } }
  | none, .uncorrectable => (sectorsAt s k cell).foldl (fun s x => rcRefetch (rcDropErr s k x) k x) (loseLine s cell)

/-- PATROL_SCRUB (08 R183): the next line of tower k; paused while the octant's infrastructure is off (16 R377). -/
def execPatrolScrub (k : Fin 8) (err : LineErr) (s : State) : Res :=
  live s fun s =>
    if !domainOn s (6 + k) || vget s.tw.scrubDone k false then s
    else
      let i := scrubSkip s k (4 * (s.tw.retPages.map List.length).sum + 1) (vget s.tw.scrubPos k 0)
      let s := if i < towerLines then scrubLine s k i err else s
      let s := { s with tw := { s.tw with scrubPos := vmod s.tw.scrubPos k fun _ => i + 1 } }
      if towerLines ≤ i + 1 then scrubEnd s k else s

/-! ### Tower temperature (08 R190, 16 R383) -/

/-- TOWER_TEMPERATURE_CHANGE, in 1/16 degree: refresh doubles from 85 degrees, admission is limited from 95 until the
temperature falls below 93 (08 R190), and the tower demand follows (16 R383). -/
def execTowerTemperatureChange (k : Fin 8) (t : Int) (s : State) : Res :=
  live s fun s =>
    let s := noteReef (modOct s k fun o => { o with
      towerT := t
      twrDemand := BitVec.ofNat 3 (heatDemand (85 * 16) t o.twrDemand.toNat) })
    let s := { s with tw := { s.tw with refresh2 := vmod s.tw.refresh2 k fun _ => decide (85 * 16 ≤ t) } }
    let lim := vget s.tw.limited k false
    if !lim && decide (95 * 16 ≤ t) then
      thermalEvent { s with tw := { s.tw with limited := vmod s.tw.limited k fun _ => true } } 0 k t false
    else if lim && decide (t < 93 * 16) then
      thermalEvent { s with tw := { s.tw with limited := vmod s.tw.limited k fun _ => false } } 0 k t true
    else s

/-! ### OP_ROWCACHE_CONFIG (08 R171, R192) -/

/-- A context holds a valid entry of this tier. -/
def tierMapped (s : State) (tier : Nat) : Bool := s.xl.maps.any fun e => e.tier = tier

/-- OCT_GIB of each tower and DPA_END_GIB. -/
def rowcacheResp (s : State) : Bytes :=
  layout 16 (((List.range 8).map fun k => (k, 1, octG s k / 8)) ++ [(8, 2, dpaEnd s / gib)])

def rowcacheChk (s : State) (k : CmdHeld) : Chk :=
  let f := k.f 0 2
  let q := k.f 2 2
  { param := k.rsv 12 16
      ++ [bad ((List.range 8).any fun i => decide (Config.granules < 1 + f + q + 8 * k.f (4 + i) 1)) 0,
          bad ((1 + f + q) % 8 != 0) 0, bad (q % 2 = 1) 2]
      ++ (List.range 8).map fun i => bad (decide (16 < k.f (4 + i) 1)) (4 + i)
    state := if tierMapped s 0 then some stBadState else none }

def rcEmpty (s : State) : State := { s with tw := { s.tw with rcs := Vector.replicate 8 [] } }

/-- OP_ROWCACHE_CONFIG (08 R171). -/
def execOpRowcacheConfig (c : Chan) (s : State) : Res :=
  live s fun s => plainOp s c 0x030B (rowcacheChk s) (fun _ => rowcacheResp) fun k s =>
    let rc := Vector.ofFn fun i : Fin 8 => k.f (4 + i) 1
    if s.tw.fullG = k.f 0 2 && s.tw.quadG = k.f 2 2 && s.tw.rc = rc then s
    else rcEmpty { s with tw := { s.tw with
      fullG := k.f 0 2
      quadG := k.f 2 2
      rc := rc } }

/-! ### Enumeration of the deep ports (08 R177, R178) -/

/-- The link trained at a speed and width that a port accepts (08 R176). -/
def linkAccepted (x : DeepPortFound) : Bool :=
  (x.speed.toNat = 5 || x.speed.toNat = 6) && [4, 8, 16].contains x.width.toNat

/-- Devices that a port accepts: one, or 8 below a switch (08 R176). -/
def deviceRoom (x : DeepPortFound) : Nat := if x.switched then 8 else 1

/-- The devices that are decoded (08 R176, R177). -/
def decodedOn (x : DeepPortFound) : List Nat := if linkAccepted x then x.devices.take (deviceRoom x) else []

/-- The devices left undecoded, with the REASON of each (05 R112): those that enumeration names, and those that meet R176
but for the link's speed or width (0) or for the number attached (4; log 37). The port's list does not number these below a
switch: SWITCH_PORT is their place in it. -/
def undecodedOn (x : DeepPortFound) : List (BitVec 8 × BitVec 8) :=
  x.undecoded ++ (span (decodedOn x).length x.devices.length).map fun i =>
    (if x.switched then BitVec.ofNat 8 i else 0xFF, if linkAccepted x then 4 else 0)

/-- What one enabled port's enumeration gives: at most 4 TiB is decoded. -/
def foundPort (x : DeepPortFound) (enabled on : Bool) : DeepPort :=
  let left := b2n !(undecodedOn x).isEmpty
  if !enabled then DeepPort.reset
  else if !(x.up && on) then { DeepPort.reset with
    enabled := true
    flags := if on then BitVec.ofNat 8 (bitsOf [(0, b2n x.switched), (2, left)]) else 0 }
  else
    let u := (decodedOn x).sum
    { enabled := true, up := true, trained := true, capU := min u 16384,
      devices := BitVec.ofNat 8 (decodedOn x).length, speed := x.speed, width := x.width,
      flags := BitVec.ofNat 8 (bitsOf [(0, b2n x.switched), (1, b2n (decide (16384 < u))), (2, left)]) }

/-- Every enabled port is enumerated; a device left undecoded raises FW_ERROR 0x0400 (05 R112). The row caches are
emptied: their deep DPAs may name other lines (log 37). -/
def enumerate (s : State) (mask : Nat) (found : List DeepPortFound) : State :=
  let none_ : DeepPortFound := ⟨[], [], 0, 0, false, false⟩
  let s := { s with tw := { s.tw with
    ports := Vector.ofFn fun i : Fin 4 => foundPort (found.getD i none_) (bitAt mask i) (domainOn s 3) } }
  let s := rcEmpty s
  (List.range 4).foldl (fun s p =>
    if !((dport s p).enabled && domainOn s 3) then s
    else (undecodedOn (found.getD p none_)).foldl (fun s d =>
      fwError s 0x0400 1 (leBytes 1 p ++ [d.1, d.2])) s) s

/-- CAP_GIB of port p: whole GiB of the decoded capacity. -/
def capGib (x : DeepPort) : Nat := x.capU / 4

def deepConfigResp (s : State) : Bytes :=
  layout 32 ((List.range 4).flatMap fun p =>
    let x := dport s p
    let up := x.up && domainOn s 3
    [(8 * p, 4, capGib x), (8 * p + 4, 1, x.devices.toNat), (8 * p + 5, 1, if up then x.speed.toNat else 0),
     (8 * p + 6, 1, x.width.toNat), (8 * p + 7, 1, x.flags.toNat)])

/-- OP_DEEP_PORT_CONFIG (08 R177, R178). -/
def execOpDeepPortConfig (c : Chan) (found : List DeepPortFound) (s : State) : Res :=
  live s fun s => plainOp s c 0x030D
    (fun k =>
      { param := k.rsv 2 4 ++ [bad (decide (15 < k.f 0 1)) 0, bad (decide (1 < k.f 1 1)) 1,
          bad (k.f 1 1 % 2 = 1 && k.f 0 1 != 15) 0]
        state := if tierMapped s 1 then some stBadState else none })
    (fun _ => deepConfigResp) fun k s =>
      enumerate { s with tw := { s.tw with interleave := bitAt (k.f 1 1) 0 } } (k.f 0 1) found

/-! ### OP_FILL (05 R108, 08 R188, R189) -/

/-- Ranges overlap. -/
def meets (a la b lb : Nat) : Bool := a < b + lb && b < a + la

/-- Old and new targets of the OP_MIGRATEs in progress. -/
def migTargets (s : State) : List (Bool × Nat × Nat) :=
  s.xl.migrations.flatMap fun m => (m.2.deep, m.2.target, m.2.len) :: m.2.olds

/-- Every deep DPA of the range is backed; each port backs a prefix of what it serves (08 R178). -/
def deepBacked (s : State) (a len : Nat) : Bool :=
  if s.tw.interleave then (deepPort s (a + len - 1)).isSome
  else a + len ≤ 2 ^ 44 && (List.range 4).all fun p =>
    let lo := max a (p * 2 ^ 42)
    let hi := min (a + len) ((p + 1) * 2 ^ 42)
    hi ≤ lo || (deepPort s (hi - 1)).isSome

def fillChk (s : State) (k : CmdHeld) : Chk :=
  let deep := k.f 0 1 = 1
  let a := k.f 8 8
  let n := k.f 16 8
  { param := k.rsv 1 8
      ++ [bad (decide (1 < k.f 0 1)) 0, bad (a % 64 != 0) 8, bad (n % 64 != 0 || n = 0) 16,
          bad (!deep && decide (a < gib)) 8, bad (!deep && decide (dpaEnd s < a + n)) 8,
          bad (deep && !deepBacked s a n) 8]
    state := if (migTargets s).any fun t => t.1 = deep && meets a n t.2.1 t.2.2 then some stBadState else none }

/-- Eight copies of PATTERN. -/
def fillLine (k : CmdHeld) : Bytes := (List.replicate 8 ((k.payload.drop 24).take 8)).flatten

def fillResp (n : Nat) : Bytes := leBytes 8 n

/-- The next `n` lines of a tower range are written. -/
def fillTower (k : CmdHeld) : Nat → State → Nat → State
  | 0, s, _ => s
  | n + 1, s, i =>
    let dpa := k.f 8 8 + 64 * i
    fillTower k n (towerWrite (snoop s dpa) dpa (fillLine k) false .none).1 (i + 1)

def isFill (c : Chan) : AccOwner → Bool
  | .fill d => d = c
  | _ => false

/-- A line of a deep range can be issued: its port has a free tag for it, and no request waits there. -/
def fillRoom (s : State) (d : Nat) : Bool := match deepPort s d with
  | none => true
  | some (p, _) => (portNext s p).isNone && (portTags s p).length < 512 && !(portTags s p).any fun t => t.2 = d / 64

/-- The lowest line whose write failed. -/
def fillBad (l : List (Nat × Access)) : Option Nat :=
  l.findSome? fun x => match x.2.stage with
    | .failed _ => some x.2.dest
    | _ => none

/-- Up to `n` further lines of a deep range are issued, in ascending order (08 R188); the number of the next line. -/
def fillDeep (c : Chan) (k : CmdHeld) : Nat → State → Nat → State × Nat
  | 0, s, i => (s, i)
  | n + 1, s, i =>
    let d := k.f 8 8 + 64 * i
    if !fillRoom s d || (fillBad (accsOf s (isFill c))).isSome then (s, i)
    else
      let a := { mkAccess (.fill c) .firmware 0 0xFF 0 64 .write (fillLine k) with dest := i }
      fillDeep c k n (startPhys s a true d) (i + 1)

/-- FILLED of an OP_FILL: bytes written from ADDR upward (05 R109). -/
def filled (s : State) (c : Chan) (k : CmdHeld) : Nat := 64 * (fillBad (accsOf s (isFill c))).getD k.progress

/-- Deep writes of an OP_FILL are in flight: it ends only after them (08 R188). -/
def fillFlies (s : State) (c : Chan) (k : CmdHeld) : Bool :=
  k.opcode.toNat = 0x030A && !allEnded (accsOf s (isFill c))

/-- The command will end with this status, unless an earlier one stands; it issues nothing more (08 R188). -/
def setEnding (s : State) (c : Chan) (status : Nat) : State :=
  modChan s c fun ch => { ch with cmd := ch.cmd.map fun k => { k with ending := some (k.ending.getD status) } }

/-- OP_FILL writes its next `lines` lines in ascending order, and completes once all are written (08 R188). A deep
write that fails ends it ST_HW_ERROR; one that ends early ends once the writes it has issued have ended. -/
def execOpFill (c : Chan) (lines : Nat) (s : State) : Res :=
  live s fun s => runOp s c 0x030A (fillChk s) (fun _ _ => fillResp 0) fun k s =>
    let total := k.f 16 8 / 64
    let n := min lines (total - k.progress)
    if k.f 0 1 = 0 then
      let s := setProgress (fillTower k n s k.progress) c (k.progress + n)
      if k.progress + n = total then .ok s (fillResp (64 * total)) else .wait s
    else
      let l := accsOf s (isFill c)
      match k.ending <|> (fillBad l).map fun _ => stHwError with
      | some st =>
        if allEnded l then .fail (accDrop s (isFill c)) st (fillResp (filled s c k)) else .wait (setEnding s c st)
      | none =>
        if k.progress = total && allEnded l then .ok (accDrop s (isFill c)) (fillResp (64 * total))
        else
          let (s, i) := fillDeep c k n s k.progress
          .wait (setProgress s c i)

/-! ### OP_PAGE_RETIRE (05 R109, 08 R187) -/

def pageListed (s : State) (deep : Bool) (a : Nat) : Bool :=
  if deep then pageRetired s true a else s.tw.retPages.contains (pageBlocks s a)

def retireChk (s : State) (k : CmdHeld) : Chk :=
  let deep := k.f 0 1 = 1
  let a := k.f 8 8
  { param := k.rsv 1 8
      ++ [bad (decide (1 < k.f 0 1)) 0, bad (a % 4096 != 0) 8, bad (!deep && decide (dpaEnd s < a + 4096)) 8,
          bad (deep && (deepPort s a).isNone) 8]
    full := retiredCount s ≥ 4096 && !pageListed s deep a }

/-- OP_PAGE_RETIRE: the page joins the list in the firmware SPI NOR (05 R109). The spec gives no status to a command whose
write of that list fails: it completes ST_OK with FW_ERROR 0x0500, and the page stays listed (log 20). -/
def execOpPageRetire (c : Chan) (s : State) : Res :=
  live s fun s => plainOp s c 0x030C (retireChk s) (fun _ s => leBytes 4 (retiredCount s)) fun k s =>
    let deep := k.f 0 1 = 1
    let a := k.f 8 8
    if pageListed s deep a then s
    else if deep then match deepPort s a with
      | some p => norWrite { s with tw := { s.tw with retDeep := s.tw.retDeep ++ [(p.1, p.2 / 4096 * 4096)] } } 3
      | none => s
    else norWrite { s with tw := { s.tw with retPages := s.tw.retPages ++ [pageBlocks s a] } } 3

end Sys2Proof.Machine
end

