-- ==== Sys2Proof/Machine/Xlate.lean ====
section
/-! DEFINITION. Xlate.lean: contexts, mapping, invalidation, prefetch, migration and advice (07). -/

namespace Sys2Proof.Machine

/-! ### Contexts (07 R143, R144) -/

def ctxOf (s : State) (x : Nat) : Option Ctx := tget s.xl.ctxs x

/-- A context is being destroyed: every other command that names it is refused (07 R431). -/
def ctxDying (s : State) (x : Nat) : Bool := (ctxOf s x).any fun c => c.dying

/-- Steps 6 to 8 of 05 R430 for an opcode that names context `x`. -/
def ctxChk (s : State) (x : Nat) (param : List (Bool × Nat)) (state : Option Nat) : Chk :=
  { param := param, ctxs := [x], missing := (ctxOf s x).isNone,
    state := if ctxDying s x then some stBadState else state }

/-- OP_CTX_CREATE (07 R143, 06 R138). -/
def execOpCtxCreate (c : Chan) (s : State) : Res :=
  live s fun s => plainOp s c 0x0302
    (fun k =>
      { param := k.rsv 2 4 ++ [bad (decide (63 < k.f 0 1)) 0, bad (decide (3 < k.f 1 1)) 1,
          bad (decide (2 ^ 20 ≤ k.f 4 4)) 4]
        ctxs := [k.f 0 1]
        state := if (ctxOf s (k.f 0 1)).isSome || (bitAt (k.f 1 1) 0 && !s.hl.cfg.pasidEn) then some stBadState
          else none })
    noResp fun k s =>
      let x : Ctx := ⟨if bitAt (k.f 1 1) 0 then some (BitVec.ofNat 20 (k.f 4 4)) else none, bitAt (k.f 1 1) 1, false⟩
      { s with xl := { s.xl with ctxs := tput s.xl.ctxs (k.f 0 1) x } }

/-- Something of context `x` exists that OP_CTX_DESTROY waits for its owner to remove (07 R144). -/
def ctxInUse (s : State) (x : Nat) : Bool :=
  s.sch.queues.any (fun q => q.2.ctx = x) || s.sch.plans.any (fun p => p.2.ctx = x)
    || s.te.tables.any (fun t => t.2.ctx = x) || s.te.streams.any (fun u => u.2.ctx = x)
    || s.sch.sync.any (fun o => o.2.ctx = x) || s.xl.prefetches.any (fun p => p.2.ctx = x)
    || s.xl.migrations.any (fun m => m.2.ctx = x)

/-- An access of the range, numbered below `mark`, has been issued and has not ended (07 R161). -/
def outstanding (s : State) (x dva len mark : Nat) : Bool :=
  s.acc.any fun a => a.1 < mark && a.2.ctx = x && a.2.stage.issued && meets a.2.dva a.2.len dva len

/-- The whole DVA space. -/
def dvaTop : Nat := 2 ^ 46

/-- OP_CTX_DESTROY (07 R144, R431): mappings and translations go, issued accesses drain, the number is freed. -/
def execOpCtxDestroy (c : Chan) (s : State) : Res :=
  live s fun s => runOp s c 0x0303
    (fun k =>
      let x := k.f 0 1
      { param := k.rsv 1 4 ++ [bad (decide (63 < x)) 0]
        ctxs := [x]
        missing := (ctxOf s x).isNone
        state := if ctxInUse s x then some stBadState else none })
    noResp fun k s =>
      let x := k.f 0 1
      let s := if k.begun then s else
        let s := tlbDrop s fun e => e.ctx = x
        setProgress { s with xl := { s.xl with
          maps := s.xl.maps.filter fun e => e.ctx != x
          advice := s.xl.advice.filter fun a => a.ctx != x } } c s.nextAcc
      if outstanding s x 0 (2 ^ 64) s.nextAcc then .wait s
      else .ok { s with xl := { s.xl with ctxs := tdel s.xl.ctxs x } } []

/-! ### OP_MAP (07 R148, R150) -/

/-- The entry that OP_MAP's WORD0 and address make. -/
def mapEnt (ctx dva w0 addr : Nat) : MapEnt := ⟨ctx, dva, BitVec.ofNat 64 w0, BitVec.ofNat 64 addr⟩

/-- A field is set that the entry's tier excludes, or a reserved or missing one (07 R149, R150). -/
def badWord0 (e : MapEnt) : Bool :=
  !e.bit 0 || e.fld 15 12 != 0 || e.fld 63 50 != 0 || (e.bit 3 && 2 ≤ e.tier) || (e.bit 4 && e.tier != 0)
    || (e.bit 5 && 2 ≤ e.tier) || (if e.tier = 0 then e.fld 9 8 = 3 else e.fld 9 8 != 0)
    || (e.tier != 3 && (e.fld 27 16 != 0 || e.fld 33 28 != 0 || e.fld 49 34 != 0)) || (e.bit 4 && e.bit 3)

/-- A tower page lies wholly in a partition of its INTERLEAVE (07 R150, 08 R173). -/
def inPartition (s : State) (il a size : Nat) : Bool :=
  match regionOf s a, regionOf s (a + size - 1) with
  | .octant k _, .octant j _ => il = 0 && k = j
  | .quad h _, .quad j _ => il = 1 && h = j
  | .full _, .full _ => il = 2
  | _, _ => false

/-- The target of the page lies within its tier, its partition and outside retired blocks (07 R150, 08 R187). -/
def targetOk (s : State) (tier il a size : Nat) : Bool :=
  match tier with
  | 0 => inPartition s il a size && !rangeRetired s false a size
  | 1 => deepBacked s a size && !rangeRetired s true a size
  | 2 => a + size ≤ 2 ^ 57
  | _ => a + size ≤ 2 ^ 46

/-- COH asks that the page lie wholly inside the shared-line window. -/
def cohOk (s : State) (e : MapEnt) (a : Nat) : Bool := !e.bit 4 || (inWindow s a && inWindow s (a + e.size - 1))

/-- The pages of a mapping. -/
def mapPages (k : CmdHeld) : List MapEnt :=
  let size := sizeBytes (bitsAt (k.f 24 8) 11 10)
  (List.range (k.f 16 8 / size)).map fun i => mapEnt (k.f 0 1) (k.f 8 8 + i * size) (k.f 24 8) (k.f 32 8 + i * size)

/-- The tables of the translation store that an entry needs: level and index (07 R147). -/
def tablesOf (e : MapEnt) : List (Nat × Nat × Nat) :=
  [(0, e.ctx, 0), (1, e.ctx, e.dva / 2 ^ 39)] ++ (if e.fld 11 10 ≤ 2 then [(2, e.ctx, e.dva / 2 ^ 30)] else [])
    ++ (if e.fld 11 10 ≤ 1 then [(3, e.ctx, e.dva / 2 ^ 21)] else [])

/-- Table pages in use (07 R147, R148). -/
def tablePages (l : List MapEnt) : Nat := (l.flatMap tablesOf).eraseDups.length

/-- Range checks of 07 R168: offsets of DVA and LEN are 8 and 16. -/
def rangeChk (k : CmdHeld) : List (Bool × Nat) :=
  [bad (decide (dvaTop < k.f 8 8 + k.f 16 8)) 8, bad (k.f 16 8 = 0 || k.f 16 8 % 4096 != 0) 16]

def mapChk (s : State) (k : CmdHeld) : Chk :=
  let e := mapEnt 0 0 (k.f 24 8) 0
  let size := e.size
  let ok := k.f 16 8 / size ≤ 16384 && k.f 32 8 % size = 0
  let pages := if ok then mapPages k else []
  let c := ctxChk s (k.f 0 1)
    (k.rsv 1 8 ++ rangeChk k ++
      [bad (decide (63 < k.f 0 1)) 0, bad (k.f 8 8 % size != 0) 8, bad (k.f 16 8 % size != 0) 16,
       bad (decide (16384 < k.f 16 8 / size)) 16, bad (badWord0 e) 24, bad (k.f 32 8 % size != 0) 24,
       bad (pages.any fun p => !targetOk s e.tier (e.fld 9 8) p.addr.toNat size || !cohOk s e p.addr.toNat
          || decide (2 ^ 64 ≤ k.f 32 8 + k.f 16 8)) 24])
    (if s.xl.maps.any fun m => m.meets (k.f 0 1) (k.f 8 8) (k.f 16 8) then some stBadState else none)
  { c with full := decide (65536 < tablePages (s.xl.maps ++ pages)) }

/-- OP_MAP (07 R150). -/
def execOpMap (c : Chan) (s : State) : Res :=
  live s fun s => plainOp s c 0x0304 (mapChk s) noResp fun k s =>
    { s with xl := { s.xl with maps := s.xl.maps ++ mapPages k } }

/-! ### OP_UNMAP and OP_TLB_INVAL (07 R161, R431) -/

/-- The valid entries that meet a range. -/
def entriesOf (s : State) (x dva len : Nat) : List MapEnt := s.xl.maps.filter fun e => e.meets x dva len

/-- An entry is split by the range. -/
def splits (dva len : Nat) (e : MapEnt) : Bool := e.dva < dva || dva + len < e.dva + e.size

def migrating (s : State) (x dva len : Nat) : Bool :=
  s.xl.migrations.any fun m => m.2.ctx = x && meets m.2.dva m.2.len dva len

/-- OP_UNMAP (07 R161). -/
def execOpUnmap (c : Chan) (s : State) : Res :=
  live s fun s => runOp s c 0x0305
    (fun k =>
      let l := entriesOf s (k.f 0 1) (k.f 8 8) (k.f 16 8)
      ctxChk s (k.f 0 1)
        (k.rsv 1 8 ++ rangeChk k ++ [bad (decide (63 < k.f 0 1)) 0, bad (l.any (splits (k.f 8 8) (k.f 16 8))) 8,
          bad (decide (16384 < l.length)) 8])
        (if migrating s (k.f 0 1) (k.f 8 8) (k.f 16 8) then some stBadState else none))
    noResp fun k s =>
      let s := if k.begun then s else
        let s := tlbDrop s fun e => e.meets (k.f 0 1) (k.f 8 8) (k.f 16 8)
        setProgress { s with xl := { s.xl with
          maps := s.xl.maps.filter fun e => !e.meets (k.f 0 1) (k.f 8 8) (k.f 16 8) } } c s.nextAcc
      if outstanding s (k.f 0 1) (k.f 8 8) (k.f 16 8) (if k.begun then k.progress else s.nextAcc) then .wait s
      else .ok s []

/-- The range an OP_TLB_INVAL names: base and length. -/
def invalRange (k : CmdHeld) : Nat × Nat := if bitAt (k.f 1 1) 0 then (0, 2 ^ 64) else (k.f 8 8, k.f 16 8)

/-- OP_TLB_INVAL (07 R161). -/
def execOpTlbInval (c : Chan) (s : State) : Res :=
  live s fun s => runOp s c 0x0306
    (fun k => ctxChk s (k.f 0 1)
      (k.rsv 2 8 ++ [bad (decide (63 < k.f 0 1)) 0, bad (decide (1 < k.f 1 1)) 1]
        ++ (if bitAt (k.f 1 1) 0 then [] else rangeChk k ++
          [bad (decide (16384 < (entriesOf s (k.f 0 1) (k.f 8 8) (k.f 16 8)).length)) 8]))
      none)
    noResp fun k s =>
      let r := invalRange k
      let s := if k.begun then s else
        setProgress (tlbDrop s fun e => e.meets (k.f 0 1) r.1 r.2) c s.nextAcc
      if outstanding s (k.f 0 1) r.1 r.2 (if k.begun then k.progress else s.nextAcc) then .wait s
      else .ok s []

/-- A host read is no longer awaited: a later completion is discarded (07 R161). -/
def readForget (s : State) (tag : Nat) : State :=
  invalDrain { s with hl := { s.hl with reads := tdel s.hl.reads tag } } tag

/-- A host access ends as a completion timeout (07 R161, 06 R119). -/
def hostAbandon (s : State) (id : Nat) (g : AccStage) : State :=
  match g with
  | .host tag => accFail (readForget s tag) id .memory
  | .ats => accFail { s with hl := { s.hl with ats := s.hl.ats.filter fun q => q.2.why != .access id } } id .memory
  | _ => s

/-- UNMAP_HOST_ABANDON (07 R161): 4 ms after acceptance the host accesses still outstanding are abandoned. -/
def execUnmapHostAbandon (c : Chan) (s : State) : Res :=
  live s fun s =>
    match (chan s c).cmd with
    | none => s
    | some k =>
      if !k.begun || !since s k.ackAt (msUp 4) then s
      else
        let r := if k.opcode.toNat = 0x0305 then some (k.f 8 8, k.f 16 8)
          else if k.opcode.toNat = 0x0306 then some (invalRange k)
          else if k.opcode.toNat = 0x0303 then some (0, 2 ^ 64) else none
        match r with
        | none => s
        | some r => s.acc.foldl (fun s a =>
            if a.1 < k.progress && a.2.ctx = k.f 0 1 && meets a.2.dva a.2.len r.1 r.2 then hostAbandon s a.1 a.2.stage
            else s) s

/-! ### OP_PREFETCH (07 R162) -/

/-- SYNC names an object: below 8,192, of this context (13 R319), allocated. -/
def syncChk (s : State) (x o off : Nat) : List (Bool × Nat) :=
  [bad (decide (8191 < o)) off, bad ((syncOf s o).any fun y => y.ctx != x) off]

/-- Entries that OP_PREFETCH accepts: with bit 0 every one, with bit 1 alone the DEEP ones (log 38). -/
def prefetchPages (s : State) (k : CmdHeld) : List MapEnt :=
  (entriesOf s (k.f 0 1) (k.f 8 8) (k.f 16 8)).filter fun e => bitAt (k.f 1 1) 0 || (bitAt (k.f 1 1) 1 && e.tier = 1)

/-- The walk of a prefetched page reads poison: the page is not prefetched, and an event says so (08 R186; 07 R167). -/
def prefetchFaults (s : State) (k : CmdHeld) (e : MapEnt) : Bool := walkPoisoned s e.ctx (max (k.f 8 8) e.dva)

def isPrefetch (i : Nat) : AccOwner → Bool
  | .prefetch j => i = j
  | _ => false

/-- The lowest unused number of a table. -/
def freshIdx {α : Type} (t : Tab α) : Nat := ((List.range (t.length + 1)).find? fun i => !thas t i).getD 0

/-- The DEEP lines of an entry within the range are read into row cache `o`. -/
def prefetchLines (s : State) (i o : Nat) (e : MapEnt) (lo hi : Nat) : State :=
  let a := max lo e.dva / 64 * 64
  let b := min hi (e.dva + e.size)
  (List.range ((b - a + 63) / 64)).foldl (fun s j =>
    let dva := a + 64 * j
    let d := e.at_ dva
    if (rcHas s o d).isSome then s
    else startPhys s (mkAccess (.prefetch i) (.engine o) o e.ctx dva 64 .read []) true d) s

/-- The work of an accepted prefetch. -/
def prefetchRun (s : State) (i : Nat) (k : CmdHeld) (pages : List MapEnt) : State :=
  (List.range 8).foldl (fun s o =>
    if !bitAt (k.f 2 1) o then s
    else pages.foldl (fun s e =>
      let s := if bitAt (k.f 1 1) 0 then l2Put s o e else s
      if bitAt (k.f 1 1) 1 && e.tier = 1 then prefetchLines s i o e (k.f 8 8) (k.f 8 8 + k.f 16 8) else s) s) s

/-- OP_PREFETCH: completes when the work is accepted (07 R162). -/
def execOpPrefetch (c : Chan) (s : State) : Res :=
  live s fun s => runOp s c 0x0307
    (fun k =>
      let h := ctxChk s (k.f 0 1)
        (k.rsv 3 4 ++ k.rsv 6 8 ++ k.rsv 32 40 ++ rangeChk k ++ syncChk s (k.f 0 1) (k.f 4 2) 4 ++
          [bad (decide (63 < k.f 0 1)) 0, bad (decide (3 < k.f 1 1)) 1,
           bad (decide (16384 < (entriesOf s (k.f 0 1) (k.f 8 8) (k.f 16 8)).length)) 8]) none
      { h with missing := h.missing || (syncOf s (k.f 4 2)).isNone })
    (fun _ _ => zeros 4) fun k s =>
      let found := prefetchPages s k
      let pages := found.filter fun e => !prefetchFaults s k e
      let s := (found.filter (prefetchFaults s k)).foldl (fun s e =>
        event s 0x0009 1 (xlateFaultData e.ctx 2 (streamCode .firmware) (max (k.f 8 8) e.dva))) s
      let i := freshIdx s.xl.prefetches
      let p : Prefetch := ⟨k.f 0 1, k.f 8 8, k.f 16 8, BitVec.ofNat 8 (k.f 1 1), BitVec.ofNat 8 (k.f 2 1), k.f 4 2,
        BitVec.ofNat 64 (k.f 24 8), pages⟩
      let s := { s with xl := { s.xl with prefetches := tput s.xl.prefetches i p } }
      .ok (prefetchRun s i k pages) (leBytes 4 found.length)

/-- PREFETCH_DONE (07 R162): the work has ended; SIG_VALUE is added. -/
def execPrefetchDone (i : Nat) (s : State) : Res :=
  live s fun s =>
    match tget s.xl.prefetches i with
    | none => s
    | some p =>
      if !allEnded (accsOf s (isPrefetch i)) then s
      else
        let s := accDrop s (isPrefetch i)
        syncAdd { s with xl := { s.xl with prefetches := tdel s.xl.prefetches i } } p.sync p.sig

/-! ### OP_MIGRATE (07 R163, R164) -/

/-- The entry of a page at its new target. -/
def movedEnt (e : MapEnt) (deep : Bool) (il addr : Nat) : MapEnt :=
  let w := e.w0.toNat - e.fld 7 6 * 64 - e.fld 9 8 * 256 + (if deep then 64 else 0) + il * 256
  { e with
    w0 := BitVec.ofNat 64 w
    addr := BitVec.ofNat 64 addr }

/-- The new target of page `e` of a range at `dva`. -/
def migTarget (dva target : Nat) (e : MapEnt) : Nat := target + (e.dva - dva)

def migTargetBad (s : State) (k : CmdHeld) (e : MapEnt) : Bool :=
  let a := migTarget (k.f 8 8) (k.f 24 8) e
  let m := movedEnt e (k.f 1 1 = 1) (k.f 2 1) a
  a % e.size != 0 || badWord0 m || !targetOk s (k.f 1 1) (k.f 2 1) a e.size || !cohOk s m a

def migrateChk (s : State) (k : CmdHeld) : Chk :=
  let l := entriesOf s (k.f 0 1) (k.f 8 8) (k.f 16 8)
  let il := k.f 2 1
  let h := ctxChk s (k.f 0 1)
    (k.rsv 3 4 ++ k.rsv 6 8 ++ k.rsv 40 48 ++ rangeChk k ++ syncChk s (k.f 0 1) (k.f 4 2) 4 ++
      [bad (decide (63 < k.f 0 1)) 0, bad (decide (1 < k.f 1 1)) 1,
       bad (if k.f 1 1 = 0 then decide (2 < il) else il != 0) 2,
       bad (decide (16384 < l.length)) 8, bad (l.any fun e => 2 ≤ e.tier || splits (k.f 8 8) (k.f 16 8) e) 8,
       bad (k.f 1 1 ≤ 1 && il ≤ 2 && l.any (migTargetBad s k)) 1]) none
  { h with missing := h.missing || (syncOf s (k.f 4 2)).isNone }

/-- OP_MIGRATE: completes when the work is accepted (07 R163). -/
def execOpMigrate (c : Chan) (s : State) : Res :=
  live s fun s => runOp s c 0x0308 (migrateChk s) (fun _ _ => zeros 4) fun k s =>
    let pages := entriesOf s (k.f 0 1) (k.f 8 8) (k.f 16 8)
    let m : Migration :=
      { ctx := k.f 0 1, dva := k.f 8 8, len := k.f 16 8, deep := k.f 1 1 = 1, interleave := BitVec.ofNat 2 (k.f 2 1),
        sync := k.f 4 2, sig := BitVec.ofNat 64 (k.f 32 8), target := k.f 24 8,
        olds := pages.map fun e => (e.tier = 1, e.addr.toNat, e.size), pages := pages, phase := 0, mark := 0 }
    .ok { s with xl := { s.xl with migrations := tput s.xl.migrations (freshIdx s.xl.migrations) m } }
      (leBytes 4 pages.length)

def isMigrate (i : Nat) : AccOwner → Bool
  | .migrate j => i = j
  | _ => false

def setMig (s : State) (i : Nat) (m : Migration) : State :=
  { s with xl := { s.xl with migrations := tput s.xl.migrations i m } }

/-- One line of a page copy; firmware's access, owned by the migration. -/
def migLine (s : State) (i : Nat) (m : Migration) (e : MapEnt) (j : Nat) (old : Option Access) : State :=
  let dva := e.dva + 64 * j
  match old with
  | none => startPhys s { mkAccess (.migrate i) .firmware 0 0xFF dva 64 .read [] with dest := j } (e.tier = 1)
      (e.at_ dva)
  | some a => startPhys s { mkAccess (.migrate i) .firmware 0 0xFF dva 64 .write a.data with
      dest := j
      poison := a.poison } m.deep (migTarget m.dva m.target e + 64 * j)

/-- An update's add has waited beyond its record's DEADLINE (07 R164). -/
def heldTooLong (s : State) (a : Access) : Bool := match a.owner with
  | .update _ _ => late s a.deadline
  | _ => false

/-- The page's writes that were held go on (07 R163 step 5). -/
def migRelease (s : State) (m : Migration) (e : MapEnt) : State :=
  s.acc.foldl (fun s a =>
    if a.2.stage = .held && e.covers m.ctx a.2.dva then
      (if heldTooLong s a.2 then accFail s a.1 .missed else issue s a.1)
    else s) s

/-- The page is finished: the next one, or the end with its signal. -/
def migNext (s : State) (i : Nat) (m : Migration) (e : MapEnt) : State :=
  let rest := m.pages.drop 1
  let s := accDrop (setMig s i { m with
    pages := rest
    phase := 0 }) (isMigrate i)
  let s := migRelease s m e
  if rest.isEmpty then
    syncAdd { s with xl := { s.xl with migrations := tdel s.xl.migrations i } } m.sync m.sig
  else s

/-- One phase of the page under copy (07 R163). A copy that a deep port fails leaves the page where it was (log 39). -/
def migPhase (s : State) (i : Nat) (m : Migration) (e : MapEnt) : State :=
  let mine := accsOf s (isMigrate i)
  match m.phase with
  | 0 =>
    if s.xl.migrations.any (fun o => o.1 < i && o.2.pages.any fun x => x.meets m.ctx e.dva e.size) then s
    else setMig s i { m with phase := 1 }
  | 1 =>
    if s.acc.any (fun a => a.2.stage.issued && !a.2.kind.isRead && a.2.ctx = m.ctx && e.covers m.ctx a.2.dva) then s
    else (List.range (e.size / 64)).foldl (fun s j => migLine s i m e j none) (setMig s i { m with phase := 2 })
  | 2 =>
    if !allEnded mine then s
    else mine.foldl (fun s a => migLine s i m e a.2.dest (some a.2))
      (accDrop (setMig s i { m with phase := 3 }) (isMigrate i))
  | 3 =>
    if !allEnded mine then s
    else if mine.any (fun a => a.2.stage != .done) then migNext s i m e
    else
      let new := movedEnt e m.deep m.interleave.toNat (migTarget m.dva m.target e)
      let s := { s with xl := { s.xl with maps := s.xl.maps.map fun x => if x = e then new else x } }
      setMig (tlbDrop s fun x => x = e) i { m with
        phase := 4
        mark := s.nextAcc }
  | _ => if outstanding s m.ctx e.dva e.size m.mark then s else migNext s i m e

/-- The page under copy goes as far as it can. -/
def migRun : Nat → State → Nat → State
  | 0, s, _ => s
  | fuel + 1, s, i =>
    match tget s.xl.migrations i with
    | none => s
    | some m => match m.pages with
      | [] => syncAdd { s with xl := { s.xl with migrations := tdel s.xl.migrations i } } m.sync m.sig
      | e0 :: _ => match findMap s m.ctx e0.dva with
        | none => migNext s i m e0
        | some e => if m.phase = 4 then migPhase s i m e0 else migRun fuel (migPhase s i m e) i

/-- MIGRATE_PAGE (07 R163): the page under copy of migration `i` goes on; the last page signals. -/
def execMigratePage (i : Nat) (s : State) : Res := live s fun s => migRun 6 s i

/-! ### OP_ADVISE (07 R158, R165) -/

/-- Advice with a range cut out of it. -/
def carve (x dva len : Nat) (kinds : List Nat) (a : Advice) : List Advice :=
  if a.ctx != x || !meets a.dva a.len dva len || !kinds.contains a.kind.toNat then [a]
  else (if a.dva < dva then [{ a with len := dva - a.dva }] else []) ++
    (if dva + len < a.dva + a.len then [{ a with
      dva := dva + len
      len := a.dva + a.len - (dva + len) }] else [])

/-- The entry is pinned, unless 1,024 are (07 R158). -/
def pinOne (l : List TlbEnt) (e : MapEnt) : List TlbEnt :=
  let l := tlbInstall l e
  if 1024 ≤ (l.filter fun x => x.pinned).length then l
  else l.map fun x => if x.ent = e then { x with pinned := true } else x

def pinRange (s : State) (mask : Nat) (l : List MapEnt) : State :=
  let l2 := Vector.ofFn fun i : Fin 8 => if bitAt mask i then l.foldl pinOne s.xl.l2[i] else s.xl.l2[i]
  { s with xl := { s.xl with l2 := l2 } }

def unpinRange (s : State) (x dva len : Nat) : State :=
  let un (t : TlbEnt) : TlbEnt := if t.ent.meets x dva len then { t with pinned := false } else t
  { s with xl := { s.xl with l2 := s.xl.l2.map fun l => l.map un } }

/-- OP_ADVISE (07 R165). -/
def execOpAdvise (c : Chan) (s : State) : Res :=
  live s fun s => plainOp s c 0x0309
    (fun k => ctxChk s (k.f 0 1)
      (k.rsv 3 8 ++ rangeChk k ++ [bad (decide (63 < k.f 0 1)) 0, bad (decide (3 < k.f 1 1)) 1,
        bad (decide (16384 < (entriesOf s (k.f 0 1) (k.f 8 8) (k.f 16 8)).length)) 8]) none)
    noResp fun k s =>
      let x := k.f 0 1
      let cut (kinds : List Nat) := s.xl.advice.flatMap (carve x (k.f 8 8) (k.f 16 8) kinds)
      match k.f 1 1 with
      | 0 => unpinRange { s with xl := { s.xl with advice := cut [2, 3] } } x (k.f 8 8) (k.f 16 8)
      | 1 => pinRange s (k.f 2 1) (entriesOf s x (k.f 8 8) (k.f 16 8))
      | a => { s with xl := { s.xl with advice := cut [2, 3] ++ [⟨x, k.f 8 8, k.f 16 8, BitVec.ofNat 8 a⟩] } }

end Sys2Proof.Machine
end

