-- ==== Sys2Proof/Machine/Sched.lean ====
section
/-! DEFINITION. Sched.lean: stage boundaries, dispatch, and the opcodes of area 0x05 (13 R305 to R311, R317, R318, R326,
R327). -/

namespace Sys2Proof.Machine

/-! ### Boundaries (13 R308 to R311, R317) -/

def planOf (s : State) (p : Nat) : Option Plan := tget s.sch.plans p

/-- The stage a slot's request runs next. -/
def nextStage (s : State) (y : Slot) : Option PlanStage := (planOf s y.desc.plan.toNat).bind fun p => p.stages[y.stage]?

/-- The core's power domain is on (16 R377). -/
def coreOn (s : State) (n : Nat) : Bool := domainOn s (14 + n / 2)

/-- An unfenced core, or pair, of the KIND exists; a held one counts, one whose domain is off does not (13 R311; 16
R378). -/
def kindExists (s : State) (pair : Bool) : Bool :=
  if pair then (List.range 16).any fun p => vget s.bridled p false && coreOn s (2 * p) && !(coreOf s (2 * p)).fenced
    && !(coreOf s (2 * p + 1)).fenced
  else (List.range 32).any fun n => !isBridled s n && coreOn s n && !(coreOf s n).fenced

/-- A request stands at a boundary with its core free: it ends, or waits for a core. `app` is APP_STATUS of the last
stage. -/
def boundary (s : State) (i : Nat) (app : Half) : State :=
  match slotOf s i with
  | none => s
  | some y =>
    if y.fin.isSome then endRequest s i 0 0 0
    else if y.cancelled then endRequest s i rqCancelled 0 0
    else if late s y.desc.deadline then endRequest s i rqMissed (BitVec.ofNat 16 y.stage) 0
    else match nextStage s y with
      | none => endRequest s i rqOk 0 app
      | some g =>
        if !kindExists s g.pair then endRequest s i rqNoCore (if g.pair then 1 else 0) 0
        else modSlot s i fun y => { y with
          state := .waiting
          core := none }

/-! ### Dispatch (13 R306, R307; 10 R220) -/

/-- Cores, or first cores of pairs, idle and free for a stage of the KIND (09 R215). -/
def idleCores (s : State) (pair : Bool) : List Nat :=
  (List.range 32).filter fun n =>
    let c := coreOf s n
    isBridled s n = pair && (!pair || n % 2 = 0) && !c.held && coreOn s n && !coreHot s n && coreIdle s n
      && (!pair || coreIdle s (n + 1))

/-- The earliest deadline first, then admission order. -/
def earlier (a b : Nat × Slot) : Bool :=
  a.2.desc.deadline.toNat < b.2.desc.deadline.toNat
    || (a.2.desc.deadline = b.2.desc.deadline && a.2.order < b.2.order)

def earliest : List (Nat × Slot) → Option (Nat × Slot)
  | [] => none
  | x :: r => match earliest r with
    | none => some x
    | some y => if earlier y x then some y else some x

/-- A thread as dispatched (10 R220). -/
def startThread (y : Slot) (i t : Nat) (g : PlanStage) (old : Thread) : Thread :=
  let pc := g.entry.getD t 0xFFFFFFFF
  if pc = 0xFFFFFFFF then { Thread.reset with fault := old.fault }
  else
    let r : Regs := { Regs.reset with pc := pc.toNat }
    let put (r : Regs) (k : Nat) (v : Dword) : Regs := { r with g := vmod r.g k fun _ => v }
    let r := put r 1 (BitVec.ofNat 64 i)
    let r := put r 2 y.desc.inDva
    let r := put r 3 y.desc.outDva
    let r := put r 4 (BitVec.ofNat 64 t)
    let r := put r 5 y.desc.deadline
    let r := put r 6 (y.desc.ctx.setWidth 64)
    let r := put r 30 (g.stackTop.setWidth 64)
    { Thread.reset with
      fault := old.fault
      state := .running
      regs := r }

/-- The stage's code is loaded unless the core holds it; bytes past its end keep what they held (13 R307). -/
def loadCode (s : State) (n : Nat) (key : Nat × Nat) (code : Bytes) : State :=
  if (coreOf s n).icode == some key then s
  else modCore s n fun c => { c with
    istore := memWrite c.istore 0 code
    icode := some key }

/-- A stage starts on core `n` (13 R307). -/
def startStage (s : State) (i n : Nat) (y : Slot) (g : PlanStage) : State :=
  let plan := y.desc.plan.toNat
  let s := loadCode s n (plan, y.stage) g.code
  let s := if g.argSpa.toNat = noSpa then s else spadWrite s n g.argSpa.toNat y.desc.args
  let off := y.desc.specOff || (ctxOf s y.ctx).any fun c => c.specOff
  let s := modCore s n fun c => { c with
    stage := some ⟨i, plan, y.stage, y.ctx, off⟩
    cops := []
    threads := Vector.ofFn fun t : Fin 4 => startThread y i t g c.threads[t] }
  modSlot s i fun y => { y with
    state := .running
    core := some n }

/-- Waiting requests for which no core is left end NO_CORE (13 R311; 15 R358). -/
def endStranded (s : State) : State :=
  s.sch.slots.foldl (fun s x =>
    if x.2.state = .waiting && (nextStage s x.2).any (fun g => !kindExists s g.pair) then boundary s x.1 0 else s) s

/-- The core taken for a stage: one of its octant where one is idle, else any; which of them is free (log 5). -/
def pickCore (s : State) (g : PlanStage) : Option (Nat × State) :=
  let l := idleCores s g.pair
  let near := l.filter fun n => octOf n = g.octant.toNat
  let l := if near.isEmpty then l else near
  if l.isEmpty then none
  else
    let (v, s) := takeFree s
    some (l.getD (v % l.length) 0, s)

/-- The request dispatched next: the earliest of those whose KIND has an idle core. -/
def dispatchNext (s : State) : Option (Nat × Slot) :=
  let one := !(idleCores s false).isEmpty
  let two := !(idleCores s true).isEmpty
  earliest (s.sch.slots.filter fun x => x.2.state = .waiting &&
    (nextStage s x.2).any fun g => if g.pair then two else one)

/-- STAGE_DISPATCH (13 R306): the deadline is compared again as the core is taken (13 R308). -/
def execStageDispatch (s : State) : Res :=
  live s fun s =>
    if s.sch.frozen || s.hlt.warmBegun then s
    else
      let s := endStranded s
      match dispatchNext s with
      | none => s
      | some (i, y) =>
        if y.cancelled || late s y.desc.deadline then boundary s i 0
        else match nextStage s y with
          | none => s
          | some g => match pickCore s g with
            | none => s
            | some (n, s) => startStage s i n y g

/-! ### OP_PLAN_LOAD and OP_PLAN_UNLOAD (13 R305, R326, R327) -/

/-- The image's field at an offset; the payload holds it from byte 16. -/
def CmdHeld.img (k : CmdHeld) (off n : Nat) : Nat := k.f (16 + off) n

/-- Bytes of scratchpad a stage of the KIND addresses (09 R194, R210). -/
def kindSpad (kind : Nat) : Nat := if kind = 1 then 2 * spadSize else spadSize

/-- A PC a thread may start at (10 R219). -/
def entryBad (t pc : Nat) : Bool := if pc = 0xFFFFFFFF then t = 0 else pc % 4 != 0 || 0x3FFFC < pc

/-- The checks of stage entry `i`. -/
def stageChk (k : CmdHeld) (i : Nat) : List (Bool × Nat) :=
  let b := 16 + 48 * i
  let len := k.f 4 4
  let top := kindSpad (k.img (b + 32) 1)
  let arg := k.img (b + 28) 4
  let oct := k.img (b + 33) 1
  [bad (k.img b 4 % 16 != 0 || k.img b 4 < 16 + 48 * k.img 4 1 || len < k.img b 4 + k.img (b + 4) 4) (16 + b),
   bad (k.img (b + 4) 4 % 4 != 0 || istoreSize < k.img (b + 4) 4) (16 + b + 4)]
  ++ (List.range 4).map (fun t => bad (entryBad t (k.img (b + 8 + 4 * t) 4)) (16 + b + 8 + 4 * t))
  ++ [bad (k.img (b + 24) 4 % 16 != 0 || top ≤ k.img (b + 24) 4) (16 + b + 24),
      bad (arg != noSpa && (arg % 16 != 0 || top < arg + 64)) (16 + b + 28), bad (1 < k.img (b + 32) 1) (16 + b + 32),
      bad (7 < oct && oct != 0xFF) (16 + b + 33)]
  ++ k.rsv (16 + b + 34) (16 + b + 48)

/-- The checks of a plan image (13 R305). -/
def imageChk (k : CmdHeld) : List (Bool × Nat) :=
  let n := k.img 4 1
  [bad (k.img 0 4 != 0x4E414C50) 16, bad (!(1 ≤ n && n ≤ 16) || k.f 4 4 < 16 + 48 * n) 20,
   bad (k.img 8 4 != k.f 4 4) 24] ++ k.rsv 21 24 ++ k.rsv 28 32
  ++ (if 1 ≤ n && n ≤ 16 && 16 + 48 * n ≤ k.f 4 4 then (List.range n).flatMap (stageChk k) else [])

/-- Stage entry `i` of an image. -/
def stageOf (k : CmdHeld) (i : Nat) : PlanStage :=
  let b := 16 + 48 * i
  { code := (k.payload.drop (16 + k.img b 4)).take (k.img (b + 4) 4)
    entry := (List.range 4).map fun t => BitVec.ofNat 32 (k.img (b + 8 + 4 * t) 4)
    stackTop := BitVec.ofNat 32 (k.img (b + 24) 4)
    argSpa := BitVec.ofNat 32 (k.img (b + 28) 4)
    pair := k.img (b + 32) 1 = 1
    octant := BitVec.ofNat 8 (k.img (b + 33) 1) }

/-- Bytes of plan images on the chip. -/
def planBytes (s : State) : Nat := (s.sch.plans.map fun p => p.2.imageLen).sum

/-- OP_PLAN_LOAD. -/
def execOpPlanLoad (c : Chan) (s : State) : Res :=
  live s fun s => plainOp s c 0x0501
    (fun k =>
      let x := k.f 2 1
      let old := planOf s (k.f 0 2)
      { (ctxChk s x ([bad (1023 < k.f 0 2) 0, bad (63 < x) 2] ++ k.rsv 3 4 ++ k.rsv 8 16 ++ imageChk k)
          (if old.isSome then some stBadState else none)).alsoNames (old.map fun p => p.ctx) with
        full := 1024 ≤ s.sch.plans.length || 2 ^ 28 < planBytes s + k.f 4 4 })
    noResp fun k s =>
      let p : Plan := ⟨k.f 2 1, k.f 4 4, (List.range (k.img 4 1)).map (stageOf k)⟩
      { s with sch := { s.sch with plans := tput s.sch.plans (k.f 0 2) p } }

/-- A request of the plan is in flight. -/
def planBusy (s : State) (p : Nat) : Bool := s.sch.slots.any fun y => y.2.desc.plan.toNat = p

/-- OP_PLAN_UNLOAD: no instruction store holds a stage of it any more. -/
def execOpPlanUnload (c : Chan) (s : State) : Res :=
  live s fun s => plainOp s c 0x0502
    (fun k =>
      let p := planOf s (k.f 0 2)
      { param := [bad (1023 < k.f 0 2) 0] ++ k.rsv 2 4
        ctxs := (p.map fun p => p.ctx).toList
        missing := p.isNone
        state := if planBusy s (k.f 0 2) then some stBadState
          else if p.any fun p => ctxDying s p.ctx then some stBadState else none })
    noResp fun k s =>
      { s with
        sch := { s.sch with plans := tdel s.sch.plans (k.f 0 2) }
        cores := s.cores.map fun x => if x.icode.any (fun i => i.1 = k.f 0 2) then { x with icode := none } else x }

/-! ### Queues (13 R303, R327) -/

def remoteObj (s : State) (o ctx : Nat) : Bool := (syncOf s o).any fun x => x.ctx = ctx && x.remoteOk

/-- The checks of OP_QUEUE_CREATE (13 R303; 06 R126; 17 R402). -/
def queueChk (s : State) (k : CmdHeld) : Chk :=
  let x := k.f 1 1
  let fab := bitAt (k.f 2 1) 0
  let old := queueOf s (k.f 0 1)
  (ctxChk s x ([bad (63 < x) 1, bad (8 ≤ k.f 2 1) 2, bad (!(4 ≤ k.f 4 1 && k.f 4 1 ≤ 12)) 4,
      bad (s.sch.queues.any fun q => q.2.source.toNat = k.f 6 2 && q.2.ctx != x) 6, bad (k.f 8 8 % 4096 != 0) 8,
      bad (k.f 16 8 % 4096 != 0) 16, bad (fab && !remoteObj s (k.f 24 2) x) 24, bad (fab && !remoteObj s (k.f 26 2) x) 26]
      ++ k.rsv 5 6 ++ k.rsv 28 32 ++ k.rsv 38 40)
    (if old.isSome || s.hl.cohMode = 0 || !s.tb.valid || s.sec.lifecycle = 3 then some stBadState else none)).alsoNames (old.map fun q => q.ctx)

def newQueue (k : CmdHeld) : Queue :=
  { ctx := k.f 1 1, source := BitVec.ofNat 16 (k.f 6 2), log2 := k.f 4 1, sqAddr := BitVec.ofNat 64 (k.f 8 8),
    cqAddr := BitVec.ofNat 64 (k.f 16 8), vector := BitVec.ofNat 8 (k.f 3 1), irq := bitAt (k.f 2 1) 2,
    fabric := bitAt (k.f 2 1) 0, pretrans := bitAt (k.f 2 1) 1, sqSync := k.f 24 2, cqSync := k.f 26 2,
    notifyChip := BitVec.ofNat 16 (k.f 32 2), notifyObj := BitVec.ofNat 16 (k.f 34 2),
    notifyInc := BitVec.ofNat 16 (k.f 36 2), sqTail := 0, sqHead := 0, cqHead := 0, cqTail := 0, reserved := 0,
    stopping := false, ptrErr := false, notifyErr := false, notes := 0 }

/-- OP_QUEUE_CREATE. -/
def execOpQueueCreate (c : Chan) (s : State) : Res :=
  live s fun s => plainOp s c 0x0503 (queueChk s) noResp fun k s =>
    { s with sch := { s.sch with queues := tput s.sch.queues (k.f 0 1) (newQueue k) } }

/-- A request is cancelled (13 R317): waiting, it ends at once; running, at its next boundary; decided, it stands. A
freeze holds the end (15 R371). -/
def cancelSlot (s : State) (i : Nat) : State :=
  match slotOf s i with
  | none => s
  | some y =>
    if y.fin.isSome then s
    else if y.state = .waiting then endRequest s i rqCancelled 0 0
    else modSlot s i fun y => { y with cancelled := true }

/-- Requests of queue `q` in flight. -/
def remaining (s : State) (q : Nat) : Nat := (s.sch.slots.filter fun y => y.2.queue = q).length

/-- The queue is gone: duplicates from it elsewhere have no record (01 R18). -/
def dropQueue (s : State) (q : Nat) : State :=
  { s with sch := { s.sch with
    queues := tdel s.sch.queues q
    slots := s.sch.slots.map fun y => (y.1, { y.2 with attached := y.2.attached.filter fun a => a.queue != q }) } }

def destroyResp (q : Nat) (s : State) : Bytes := leBytes 4 (remaining s q)

/-- REMAINING of a queue; none of one that does not exist. -/
def destroyRefused (k : CmdHeld) (s : State) : Bytes :=
  if (queueOf s (k.f 0 1)).isSome then destroyResp (k.f 0 1) s else zeros 4

/-- OP_QUEUE_DESTROY: reads stop, requests in flight are cancelled, and the queue goes once none remain. -/
def execOpQueueDestroy (c : Chan) (s : State) : Res :=
  live s fun s => runOp s c 0x0504
    (fun k =>
      let q := queueOf s (k.f 0 1)
      { param := k.rsv 1 4
        ctxs := (q.map fun q => q.ctx).toList
        missing := q.isNone
        state := if q.any fun q => ctxDying s q.ctx then some stBadState else none })
    destroyRefused fun k s =>
      let q := k.f 0 1
      let s := modQueue s q fun x => { x with stopping := true }
      let s := s.sch.slots.foldl (fun s y => if y.2.queue = q && !y.2.cancelled then cancelSlot s y.1 else s) s
      if remaining s q = 0 then .ok (dropQueue s q) (zeros 4) else .wait s

/-! ### OP_REPLAY_WINDOW and OP_REQ_CANCEL (13 R315, R317) -/

/-- OP_REPLAY_WINDOW. -/
def execOpReplayWindow (c : Chan) (s : State) : Res :=
  live s fun s => runOp s c 0x0505 (fun k => { param := [bad (!(1 ≤ k.f 0 4 && k.f 0 4 ≤ 1000)) 0] })
    (fun _ _ => zeros 4) fun k s =>
      .ok { s with sch := { s.sch with replayMs := BitVec.ofNat 10 (k.f 0 4) } } (leBytes 4 s.sch.replayMs.toNat)

/-- The request in flight with a key, its outcome undecided. -/
def inFlight (s : State) (source token : Nat) : Option (Nat × Slot) :=
  s.sch.slots.find? fun y => y.2.source.toNat = source && y.2.desc.token.toNat = token && y.2.fin.isNone

/-- OP_REQ_CANCEL; the contexts it names are those of the queues that hold the SOURCE (05 R95). -/
def execOpReqCancel (c : Chan) (s : State) : Res :=
  live s fun s => plainOp s c 0x0506
    (fun k => {
      param := k.rsv 2 8
      ctxs := (s.sch.queues.filter fun q => q.2.source.toNat = k.f 0 2).map fun q => q.2.ctx
      missing := (inFlight s (k.f 0 2) (k.f 8 8)).isNone })
    noResp fun k s => match inFlight s (k.f 0 2) (k.f 8 8) with
      | some y => cancelSlot s y.1
      | none => s

/-! ### Sync objects (13 R318) -/

/-- The first objects of free runs of `count` with home core `n`. -/
def freeRuns (s : State) (n count : Nat) : List Nat :=
  ((List.range (257 - count)).map fun i => 256 * n + i).filter fun a => (List.range count).all fun j => (syncOf s (a + j)).isNone

/-- OP_SYNC_ALLOC; which free run is given is the unit's choice (log 5). -/
def execOpSyncAlloc (c : Chan) (s : State) : Res :=
  live s fun s => runOp s c 0x0507
    (fun k =>
      let x := k.f 0 1
      { ctxChk s x ([bad (63 < x) 0, bad (31 < k.f 1 1) 1, bad (k.f 2 2 = 0 || 256 < k.f 2 2) 2, bad (1 < k.f 4 1) 4]
          ++ k.rsv 5 8) none with full := (freeRuns s (k.f 1 1) (k.f 2 2)).isEmpty })
    (fun _ _ => zeros 4) fun k s =>
      let l := freeRuns s (k.f 1 1) (k.f 2 2)
      let (v, s) := takeFree s
      let a := l.getD (v % l.length) 0
      let o : SyncObj := ⟨k.f 0 1, bitAt (k.f 4 1) 0, 0⟩
      .ok { s with sch := { s.sch with
          sync := (List.range (k.f 2 2)).foldl (fun t j => tput t (a + j) o) s.sch.sync
          kept := s.sch.kept.filter fun e => !(a ≤ e.1 && e.1 < a + k.f 2 2) } }
        (layout 4 [(0, 2, a)])

/-- A wait is armed on the object. -/
def armedOn (s : State) (o : Nat) : Bool := s.cores.any fun c => c.threads.any fun t => t.waits.any fun w => w.obj = o

/-- OP_SYNC_FREE. -/
def execOpSyncFree (c : Chan) (s : State) : Res :=
  live s fun s => plainOp s c 0x0508
    (fun k =>
      let l := span (k.f 0 2) (k.f 0 2 + k.f 2 2)
      { param := [bad (k.f 2 2 = 0) 2, bad (8192 < k.f 0 2 + k.f 2 2) 0]
        ctxs := l.filterMap fun o => (syncOf s o).map fun x => x.ctx
        missing := l.any fun o => (syncOf s o).isNone
        state := if l.any (armedOn s) then some stBadState else none })
    noResp fun k s =>
      let mine (o : Nat) : Bool := k.f 0 2 ≤ o && o < k.f 0 2 + k.f 2 2
      { s with sch := { s.sch with
        sync := s.sch.sync.filter fun e => !mine e.1
        kept := (s.sch.sync.filter fun e => mine e.1 && e.2.counter != 0).foldl (fun t e => tput t e.1 e.2.counter) s.sch.kept } }

end Sys2Proof.Machine
end

