-- ==== Sys2Proof/Machine/Fence.lean ====
section
/-! DEFINITION. Fence.lean: fencing a core or pair, and the end of a stage (09 R203 to R207, R216; 11 R260, R261; 15
R355 to R358). -/

namespace Sys2Proof.Machine

/-! ### What a fence changes in one core (09 R206) -/

/-- Every bank and port of MP (09 R198, R206). -/
def banksToMp (c : Core) : Core := { c with
  banks := Vector.ofFn fun i : Fin 34 => { bankTo ownMp c.banks[i] with ownerA := if i.val < 32 then 0 else ownMp } }

/-- Threads stop with their waits released, operations are discarded, banks go to MP, and the core is fenced. -/
def fencedCore (cause : BitVec 3) (c : Core) : Core := { banksToMp c with
  fenced := true
  cause := cause
  stage := none
  cops := []
  badCols := []
  threads := c.threads.map fun t => { quiet t .unused with stores := [] } }

/-- Accesses of operations of a core's queue. -/
def coreOwns (l : List Nat) (w : AccOwner) : Bool := match w with
  | .dma n _ _ => l.contains n
  | _ => false

/-- A lookup issued by one of these cores. -/
def lookupFrom (l : List Nat) (x : Lookup) : Bool := match x.src with
  | .core n _ => l.contains n
  | .peer _ => false

/-- Lookups that satisfy `f` are abandoned at every engine: parts, reads and outputs (15 R357, R361). -/
def dropLookups (s : State) (f : Lookup → Bool) : State :=
  (List.range 8).foldl (fun s e =>
    ((engineOf s e).intake ++ (engineOf s e).active).foldl (fun s x => if f x then dropLookup s e x.id else s) s) s

/-- The request with a stage on the core ends CORE_FENCED (09 R206). -/
def fenceSlot (s : State) (i n : Nat) : State :=
  modSlot s i fun x => { x with
    state := .completing
    core := none
    fin := some (outcome s x rqFenced (BitVec.ofNat 16 n) 0) }

/-- Its records are written by the fence, unless a flush read must come first (06 R130). -/
def fenceRecords (s : State) (i : Nat) : State :=
  match slotOf s i with
  | none => s
  | some y =>
    let flush := y.lastHost.isSome && toFabric s y && !y.flushed && !byCache s
    if flush || (y.queue :: y.attached.map fun a => a.queue).any (ringHeld s) then s else postSlot s i []

/-- DATA of a CORE_FENCED event (15 R376). -/
def fencedData (s : State) (n cause : Nat) (partner : Option Nat) (ended : Nat) : Bytes :=
  layout 16 [(0, 1, n), (1, 1, cause), (2, 1, partner.getD 0xFF), (4, 4, fencedMask s), (8, 2, ended)]

/-- The fence of core `n`, and of its partner in a pair, in the order of 09 R206. -/
def fence (s : State) (n : Nat) (cause : BitVec 3) : State :=
  if (coreOf s n).fenced then s
  else
    let pair := isBridled s n
    let lead := leadOf s n
    let other := if n % 2 = 0 then n + 1 else n - 1
    let l := if pair then [n, other] else [n]
    let slot := (coreOf s lead).stage.map fun g => g.slot
    let ended := (slot.bind (slotOf s)).elim 0 fun y => 1 + y.attached.length
    let s := dropLookups (accDiscard s (coreOwns l)) (lookupFrom l)
    let s := modCore s n (fencedCore cause)
    let s := if pair then modCore s other (fencedCore 4) else s
    let s := match slot with
      | some i => fenceRecords (fenceSlot s i lead) i
      | none => s
    let s := pumpParts (pumpStalled (pumpPorts s))
    let s := event s 0x0002 1 (fencedData s n cause.toNat (if pair then some other else none) ended)
    if pair then event s 0x0002 1 (fencedData s other 4 (some n) 0) else s

/-! ### CORE_FENCE and OP_CORE_FENCE -/

/-- A parity error is captured, the first since the core was last unfenced; one met by the MP in a fenced core says so
(09 R204, R205). -/
def capture (s : State) (n bank word : Nat) (portB : Bool) : State :=
  modCore s n fun c => if c.capValid then c else { c with
    capBank := BitVec.ofNat 6 bank
    capWord := BitVec.ofNat 18 word
    capPortB := portB && decide (32 ≤ bank)
    capByMp := c.fenced
    capValid := true }

/-- CORE_FENCE (09 R204; 15 R355, R356): firmware fences the core at the detection. -/
def execCoreFence (n : Fin 32) (cause : FenceCause) (s : State) : Res :=
  live s fun s =>
    match cause with
    | .spadParity bank word portB =>
      if 34 ≤ bank || (if bank < 32 then 196608 else 16384) ≤ word then s
      else
        let s := capture s n bank word portB
        if mpServes s then fence s n 2 else s
    | .internal => if mpServes s then fence s n 3 else s

/-- OP_CORE_FENCE (05 R108, R109). -/
def execOpCoreFence (c : Chan) (s : State) : Res :=
  live s fun s => plainOp s c 0x0403 (fun k => { param := [bad (31 < k.f 0 1) 0] ++ k.rsv 1 4 })
    (fun _ s => leBytes 4 (fencedMask s)) fun k s => fence s (k.f 0 1) 1

/-! ### Column bypass (11 R260, R261) -/

/-- The columns found bad on the cores of a stage: core, array, physical column. -/
def badOf (s : State) (l : List Nat) : List (Nat × Nat × Nat) :=
  (l.flatMap fun n => (coreOf s n).badCols.map fun b => (n, b.1, b.2)).eraseDups

/-- Some array would have more than 32 bypassed columns. -/
def bypassOver (s : State) (bad : List (Nat × Nat × Nat)) : Option Nat :=
  (bad.find? fun b => 32 < (vget (coreOf s b.1).bypass b.2.1 0).toNat
    + (bad.filter fun x => x.1 = b.1 && x.2.1 = b.2.1).length).map fun b => b.1

/-- A column leaves an array. -/
def applyBypass (s : State) (b : Nat × Nat × Nat) : State :=
  modCore s b.1 fun c => { c with
    width := vmod c.width b.2.1 (· - 1)
    bypass := vmod c.bypass b.2.1 (· + 1)
    outCols := c.outCols ++ [b.2] }

/-- One bypass: width, count, event and record change together. -/
def bypassOne (s : State) (b : Nat × Nat × Nat) : State :=
  let s := applyBypass s b
  let s := if s.sec.norOk && mpServes s then { s with sec := { s.sec with bypassRec := s.sec.bypassRec ++ [b] } } else s
  let s := fwError s 0x0200 1 (leBytes 1 b.1 ++ leBytes 1 b.2.1 ++ leBytes 2 b.2.2)
  norWrite s 4

/-! ### STAGE_END (09 R203; 13 R308, R310; 15 R368) -/

/-- Threads finished and their stores performed, operations completed, lookups that name its banks ended. -/
def stageDone (s : State) (n : Nat) (l : List Nat) : Bool :=
  !(coreOf s n).threads.any (fun t => t.state.active || !t.stores.isEmpty) && (coreOf s n).cops.isEmpty
    && !l.any fun c => lookupNames s c fun _ => true

/-- Banks held by table engines return to LOCAL. -/
def banksToLocal (c : Core) : Core := { c with
  banks := Vector.ofFn fun i : Fin 34 => { bankTo ownLocal c.banks[i] with ownerA := if i.val < 32 then 0 else ownLocal }
  badCols := [] }

/-- The request's boundary after a stage that has ended: a fault has decided it already. -/
def afterStage (s : State) (i : Nat) (app : Half) : State :=
  match slotOf s i with
  | none => s
  | some y =>
    if y.fin.isSome then endRequest s i 0 0 0
    else boundary (modSlot s i fun y => { y with
      stage := y.stage + 1
      core := none }) i app

/-- The stage of core `n` ends. -/
def endStage (s : State) (n : Nat) (g : StageRun) (l : List Nat) : State :=
  let bad := badOf s l
  let s := l.foldl (fun s c => modCore s c banksToLocal) s
  let s := bad.foldl bypassOne s
  let s := modCore s n fun c => { c with
    stage := none
    stages := c.stages + 1
    progress := c.progress + 1 }
  afterStage s g.slot (threadOf s n 0).app

/-- STAGE_END; a bypass too many fences the core instead. -/
def execStageEnd (n : Fin 32) (s : State) : Res :=
  live s fun s =>
    match (coreOf s n).stage with
    | none => s
    | some g =>
      let l : List Nat := if isBridled s n then [n.val, n.val + 1] else [n.val]
      if s.sch.frozen || s.hlt.warmBegun || !stageDone s n l then s
      else match bypassOver s (badOf s l) with
        | some c => fence s c 3
        | none => endStage s n g l

end Sys2Proof.Machine
end

