-- ==== Sys2Proof/Machine/Calib.lean ====
section
/-! DEFINITION. Calib.lean: the reference, the calibration items and their runs (03 R50 to R67). -/

namespace Sys2Proof.Machine

def calItem (s : State) (n : Nat) : CalItem := vget s.cal.items n CalItem.reset

def modItem (s : State) (n : Nat) (f : CalItem → CalItem) : State :=
  { s with cal := { s.cal with items := vmod s.cal.items n f } }

/-- An applied value differs from its target (03 R64). -/
def calSlewing (s : State) : Bool := s.cal.items.toList.any fun i => i.value != i.target

/-- CAL_STATUS (03 R65). -/
def calStatus (s : State) : Nat :=
  bitsOf [(0, b2n s.cal.running), (1, b2n s.cal.refPresent), (2, b2n s.cal.ppsUsed), (3, b2n s.cal.untraced),
    (4, b2n (calSlewing s)), (5, b2n s.cal.recFail)]

/-- CAL_ITEM_STAT_n (03 R65). -/
def calItemStat (i : CalItem) : Nat := bitsOf [(0, i.result.toNat), (3, i.inForce.toNat)]

/-- Bit n of the items of `mask` with a RESULT among `rs`. -/
def calMask (s : State) (mask : Nat) (rs : List Nat) : Nat :=
  bitsOf ((listIdx s.cal.items.toList).map fun e => (e.1, b2n (bitAt mask e.1 && rs.contains e.2.result.toNat)))

/-- Absolute and change limit of an item, in its units (03 R53). -/
def calLimits (n : Nat) : Nat × Nat :=
  if n = 0 then (25000 * 256, 2000 * 256)
  else if n = 1 then (500 * 256, 100 * 256)
  else if n = 2 then (20 * 256, 2 * 256)
  else if n = 3 then (5 * 16, 1 * 16)
  else (4 * 256, 128)

/-- Slew of an item in its units over 10 s (03 R53); OSC_TEMPCO blends over 60 s instead. -/
def calSlew10s (n : Nat) : Nat :=
  if n = 0 then 12800 else if n = 2 then 256 else if n = 3 then 16 else 128

/-- The result lies inside the absolute limit, and inside the change limit unless overridden (03 R53). -/
def calPasses (n : Nat) (i : CalItem) (r : Word) (ovr : Bool) : Bool :=
  let v := r.toInt
  v.natAbs ≤ (calLimits n).1 &&
    (ovr || i.stored.all fun st => (v - st.toInt).natAbs ≤ (calLimits n).2)

/-- The THERM offset of largest magnitude: the item's CAL_VALUE (03, Calibration items; of equals the first, log 22). -/
def thermTop (l : List Word) : Word :=
  l.foldl (fun a r => if a.toInt.natAbs < r.toInt.natAbs then r else a) 0

/-- Every sensor's THERM offset lies inside the limits, each against its own stored value (03 R53). -/
def thermPasses (rec : Option (List Word)) (l : List Word) (ovr : Bool) : Bool :=
  l.all (fun r => r.toInt.natAbs ≤ (calLimits 3).1) &&
    (ovr || rec.all fun st => (List.zip l st).all fun x => (x.1.toInt - x.2.toInt).natAbs ≤ (calLimits 3).2)

/-- CAL_FAIL event (03 R67): the masks name the items of `mask`, a run's own or all of them (log 22). -/
def calFailEvent (s : State) (run mask : Nat) : State :=
  event s 0x0003 1 (layout 16 [(0, 1, run),
    (1, 1, bitsOf [(0, b2n s.cal.recFail), (1, b2n s.cal.untraced), (2, b2n s.cal.ppsUsed)]),
    (4, 4, calMask s mask [2]), (8, 4, calMask s mask [3]), (12, 4, calStatus s)])

/-- Firmware writes target, count and time of last success of the items of `mask` to the calibration record; a failed
write sets REC_FAIL and raises CAL_FAIL when it sets (03 R55, R67). -/
def calRecord (s : State) (mask : Nat) : State :=
  if s.sec.norOk then
    let its := Vector.ofFn fun (i : Fin 28) =>
      let it := s.cal.items[i]
      if bitAt mask i.val then { it with stored := some it.target, recCount := it.count, recLast := it.last } else it
    { s with cal := { s.cal with
      items := its
      thermRec := if bitAt mask 3 then some s.cal.therm else s.cal.thermRec
      recFail := false } }
  else
    let was := s.cal.recFail
    let s := norWrite { s with cal := { s.cal with recFail := true } } 1
    if was then s else calFailEvent s 2 0xFFFFFFF

/-- Results of the power-up run, and of any run before first lock, come into force at once (03 R58, R64; log 22). -/
def calAtOnce (s : State) : Bool := !s.tb.valid

/-- The applied value of item `n` becomes `v`; a link that is up tells its peer a LINK_D that changes (03 R52). -/
def calApply (s : State) (n : Nat) (v : Word) : State :=
  let told := 4 ≤ n && (calItem s n).value != v && (linkOf s (n - 4)).state = .up
  let s := modItem s n fun i => { i with value := v }
  if told then sendCtrl s (n - 4) else s

/-- OSC_TEMPCO on its way: the linear blend over 60 s (03 R53), in whole units toward where it began. -/
def calBlend (i : CalItem) (up : Nat) : Word :=
  let el := min (up - i.slewAt) (nsUp 60000000000)
  BitVec.ofInt 32 (i.slewFrom.toInt + ((i.target.toInt - i.slewFrom.toInt) * el).tdiv (nsUp 60000000000))

/-- An applied value on its way: OSC_TEMPCO where its blend has come to; any other anywhere the slew allows between where
it stood and its target (03 R64; free, log 23). -/
def calSettle (n : Nat) (s : State) : State :=
  let i := calItem s n
  if i.value = i.target then s
  else if n = 1 then calApply s n (calBlend i s.tb.up)
  else
    let d := (i.target.toInt - i.value.toInt)
    let mv := min d.natAbs (calSlew10s n * (s.tb.up - i.slewAt) / nsUp 10000000000)
    let (f, s) := takeFree s
    let step : Int := (f % (mv + 1) : Nat)
    modItem (calApply s n (BitVec.ofInt 32 (i.value.toInt + (if d < 0 then -step else step)))) n
      fun i => { i with slewAt := s.tb.up }

/-- A passing result of item `n` (03 R55, R58, R61, R64): before first lock it is in force at once, after it the value
slews from where it stands. That CAL_LAST of an OP_CAL_RUN before first lock reads as the power-up run's is the model's choice
(log 22). -/
def calPass (s : State) (n : Nat) (r : Word) : State :=
  let s := if calAtOnce s then calApply s n r else calSettle n s
  modItem s n fun i =>
    let i := { i with
      result := 1
      inForce := 2
      count := i.count + 1
      target := r
      slewAt := s.tb.up
      slewFrom := i.value }
    if calAtOnce s then { i with bootPass := true } else { i with last := dtNs s }

/-- The value in force of an item that did not pass in the power-up run: stored, else factory (03 R54, R56). -/
def calFallback (powerUp : Bool) (i : CalItem) : CalItem :=
  if powerUp then
    match i.stored with
    | some v => { i with inForce := 1, target := v, value := v }
    | none => { i with inForce := 0, target := i.factory, value := i.factory }
  else i

/-- A measured result of item `n` has passed the checks of 03 R53, or not (03 R54, R55). -/
def calJudge (s : State) (powerUp ok : Bool) (n : Nat) (r : Word) : State :=
  if ok then
    let s := calPass s n r
    let s := if n = 0 then { s with cal := { s.cal with untraced := false } } else s
    if s.tb.valid then calRecord s (2 ^ n) else s
  else
    let s := if n = 0 && powerUp then { s with cal := { s.cal with untraced := true } } else s
    modItem s n fun i => calFallback powerUp { i with result := 2 }

/-- The run's item `n` is done. -/
def calDone (s : State) (n : Nat) : State :=
  { s with cal := { s.cal with run := s.cal.run.map fun r =>
      { r with todo := r.todo &&& ~~~ (BitVec.ofNat 28 (2 ^ n)) } } }

/-- Item `n` of the run, if still to be done, is judged with result `r`. -/
def calTake (s : State) (n : Nat) (r : Word) : State :=
  match s.cal.run with
  | some run =>
    if run.todo.getLsbD n then
      calDone (calJudge s run.chan.isNone (calPasses n (calItem s n) r run.ovr) n r) n
    else s
  | none => s

/-- THERM of the run, if still to be done, is judged sensor by sensor (03 R53); the factory offsets stand in at power-up
for a failed result that no record holds (03 R54). -/
def calTherm (s : State) (l : List Word) : State :=
  match s.cal.run with
  | some run =>
    if run.todo.getLsbD 3 then
      let ok := thermPasses s.cal.thermRec l run.ovr
      let old := if run.chan.isNone then s.cal.thermRec.getD (List.replicate 16 Config.calFactory) else s.cal.therm
      calDone (calJudge { s with cal := { s.cal with therm := if ok then l else old } } run.chan.isNone ok 3
        (thermTop l)) 3
    else s
  | none => s

/-- Item `n` of the run, if still to be done, ends with a RESULT that is no measurement. -/
def calSkip (s : State) (n : Nat) (result : BitVec 3) : State :=
  match s.cal.run with
  | some run =>
    if run.todo.getLsbD n then
      calDone (modItem s n fun i => calFallback run.chan.isNone { i with result := result }) n
    else s
  | none => s

/-- At power-up an absent reference puts the factory value in force (03 R59); in OP_CAL_RUN the item keeps its
values (03, The reference is lost during OP_CAL_RUN). -/
def calNoRef (s : State) (n : Nat) : State :=
  match s.cal.run with
  | some run =>
    if run.todo.getLsbD n then
      calDone (modItem s n fun i =>
        if run.chan.isNone then
          { i with result := 3, inForce := 0, target := i.factory, value := i.factory }
        else { i with result := 3 }) n
    else s
  | none => s

/-- Items that need REF10M_IN: all but THERM (03 R59). -/
def calRefItems : List Nat := (List.range 28).filter (· != 3)

/-- OP_CAL_RUN's response (03 R66): the results of the masked items. -/
def calRunResp (k : CmdHeld) (s : State) : Bytes :=
  let m := if k.begun then k.f 0 4 else 0
  layout 16 [(0, 4, calMask s m [1]), (4, 4, calMask s m [2]), (8, 4, calMask s m [3, 4, 5]), (12, 4, calStatus s)]

/-- The run ends once no item is left: RUNNING clears, CAL_FAIL is raised for failures, and an OP_CAL_RUN completes
(03 R62, R66, R67). -/
def calEnd (s : State) : State :=
  match s.cal.run with
  | none => s
  | some run =>
    if run.todo != 0 then s
    else
      let s := { s with cal := { s.cal with run := none, running := false } }
      let m := run.mask.toNat
      let s := if calMask s m [2, 3] = 0 then s else calFailEvent s (b2n run.chan.isSome) m
      match run.chan with
      | none => { s with sec := { s.sec with calDone := true } }
      | some c =>
        match (chan s c).cmd with
        | some k => finishCmd s c stOk 0 (calRunResp { k with begun := true } s)
        | none => s

/-- A run ended before its items are done keeps what it has (05 R100). -/
def calAbort (s : State) : State :=
  { s with cal := { s.cal with run := none, running := false } }

def modGate (s : State) (g : Gate) : State :=
  { s with cal := { s.cal with run := s.cal.run.map fun r => { r with gate := g } } }

/-! ### The steps -/

/-- The 10 ms count ends (03 R50): REF_PRESENT, and with no reference the items that need it end NO_REF. -/
def refPresence (freqPpm : Int) (s : State) : State :=
  let ok := freqPpm.natAbs ≤ 100
  let s := { s with cal := { s.cal with refPresent := ok } }
  if ok then s else calEnd (calRefItems.foldl calNoRef s)

/-- GNSS acquisition starts: in Hold with a stored position, else in Survey (04 R86, R87; 17 R396). -/
def gnStart (s : State) : State :=
  { s with gn := { s.gn with
    mirrorGen := s.gn.mirrorGen + 2
    mode := if s.gn.position.isSome then 2 else 1
    surveyAt := s.tb.up
    targetMin := BitVec.ofNat 16 (60 * s.gn.cfg.surveyH.toNat)
    holdAt := if s.gn.position.isSome then some s.tb.up else none
    holdCheck := s.gn.position.isSome && !s.gn.entered
    posSum := (0, 0, 0)
    posCnt := 0
    fix := none
    resSq := 0
    resCnt := 0 } }

/-- The power-up loopbacks complete (03 R57): THERM, GNSS_IFB and LINK_D judged; link bring-up, memory training and
acquisition may start, PHASE is TRAINING (17 R396; log 44); the gate waits for a PPS_IN edge when REF10M_IN is present. -/
def loopbacksDone (m : CalMeas) (s : State) : State :=
  match s.cal.run with
  | some ⟨none, _, _, .idle, todo⟩ =>
    if s.sec.loopDone || !s.sec.fwStarted || (!s.cal.refPresent && todo != 8) then s
    else
      let s := calTherm (calTake s 2 m.gnssIfb) m.therm
      let s := (List.range 24).foldl (fun s k => calTake s (4 + k) (m.linkD.getD k 0)) s
      let s := gnStart { s with sec := { s.sec with
        loopDone := true
        phase := if s.sec.phase = 1 then 3 else s.sec.phase } }
      if s.cal.refPresent then modGate s (.waiting s.tb.up) else calEnd s
  | _ => s

/-- The gate starts at a PPS_IN edge of this instant, or at the end of the 1 s wait; an edge within the wait has started it
already (03 R51). -/
def gateStart (s : State) : State :=
  match s.cal.run with
  | some ⟨_, _, _, .waiting t, _⟩ =>
    if s.tb.ppsAt = some s.tb.up && !since s t (nsUp 1000000001) then modGate s (.running s.tb.up true 0)
    else if since s t (nsUp 1000000000) then modGate s (.running s.tb.up false 0)
    else s
  | _ => s

def execFrequencyGateStart (s : State) : Res := live s gateStart

/-- A PPS_IN edge: within the 1 s wait it starts the gate; during the gate it comes `periods` REF10M_IN periods after the
edge before it (03 R51). -/
def gateEdge (periods : Nat) (s : State) : State :=
  match s.cal.run with
  | some ⟨_, _, _, .waiting t, _⟩ =>
    if since s t (nsUp 1000000001) then s else modGate s (.running s.tb.up true 0)
  | some ⟨_, _, _, .running t true e, _⟩ =>
    if e < 2 then
      modGate s (.running t (decide (9999998 ≤ periods ∧ periods ≤ 10000002)) (e + 1))
    else s
  | _ => s

/-- The gate's end: at its second edge, or 2 s (20,000,000 periods) after its start; an edge that stays away is outside
its tolerance (03 R51). -/
def gateOver (s : State) : Option Bool :=
  match s.cal.run with
  | some ⟨_, _, _, .running t pps e, _⟩ =>
    if pps then (if e = 2 then some true else if since s t (nsUp 2000000400) then some false else none)
    else if since s t (nsUp 2000000000) then some false else none
  | _ => none

/-- OSC_FREQ and OSC_TEMPCO are computed and judged, and the run ends (03 R51, R53 to R57). `span` is the oscillator
sensor's span in hundredths of a degree (03 R56). -/
def gateEnd (osc tempco : Word) (span : Nat) (s : State) : State :=
  match gateOver s with
  | none => s
  | some pps =>
    let s := modGate { s with cal := { s.cal with ppsUsed := pps } } .idle
    let s := calTake s 0 osc
    let s := if 150 ≤ span then calTake s 1 tempco else calSkip s 1 5
    calEnd s

/-- PD14 to PD29 are all off (03 R63). -/
def pdTopOff (s : State) : Bool := s.pwr.domains.toNat / 2 ^ 14 = 0

/-- A link on which the LINK_D loopback can run (03 R63). -/
def linkIdle (s : State) (k : Nat) : Bool :=
  match (linkOf s k).state with
  | .down => true
  | .fault => true
  | _ => false

def calRunChk (k : CmdHeld) (s : State) : Chk :=
  { param := [bad (k.f 0 4 = 0) 0, bad (k.f 0 4 / 2 ^ 28 != 0) 0, bad (1 < k.f 4 1) 4] ++ k.rsv 5 8
    state := if s.cal.run.isSome then some stBusy else none }

/-- OP_CAL_RUN (03 R62 to R64, R66): what can be measured at once is judged; OSC items wait for the gate. An item that
cannot be measured is SKIPPED before the reference is looked at, and with REF10M_IN already absent every other item but
THERM ends NO_REF at once: the model's choices (log 58). -/
def calRunEff (m : CalMeas) (c : Chan) (k : CmdHeld) (s : State) : Done :=
  if k.begun then .wait s
  else
    let mask := BitVec.ofNat 28 (k.f 0 4)
    let s := setBegun s c
    let s := { s with cal := { s.cal with
      running := true
      run := some ⟨some c, mask, k.f 4 1 = 1, .idle, mask⟩ } }
    let s := if pdTopOff s then s else calSkip s 3 4
    let s := (List.range 24).foldl (fun s j => if linkIdle s j then s else calSkip s (4 + j) 4) s
    let s := calTherm s m.therm
    let s := if s.cal.refPresent then
        (List.range 24).foldl (fun s j => calTake s (4 + j) (m.linkD.getD j 0)) (calTake s 2 m.gnssIfb)
      else calRefItems.foldl calNoRef s
    match s.cal.run with
    | some r => if r.todo = 0 then .wait s else .wait (modGate s (.waiting s.tb.up))
    | none => .wait s

def execOpCalRun (c : Chan) (m : CalMeas) (s : State) : Res :=
  live s fun s => calEnd (runOp s c 0x0104 (fun k => calRunChk k s) calRunResp (calRunEff m c))

def calReadResp (s : State) (n : Nat) : Bytes :=
  let i := calItem s n
  layout 40 [(0, 4, calStatus s), (4, 4, calItemStat i), (8, 4, i.count.toNat), (16, 8, i.last.toNat),
    (24, 4, i.value.toNat), (28, 4, i.target.toNat), (32, 4, (i.stored.getD 0x80000000).toNat),
    (36, 4, i.factory.toNat)]

def calReadRefused (_ : CmdHeld) (s : State) : Bytes := layout 40 [(0, 4, calStatus s)]

/-- OP_CAL_READ (03 R66). -/
def execOpCalRead (c : Chan) (s : State) : Res :=
  live s fun s => runOp s c 0x0105 (fun k => { param := bad (27 < k.f 0 1) 0 :: k.rsv 1 4 }) calReadRefused
    fun k s => .ok (calSettle (k.f 0 1) s) (calReadResp (calSettle (k.f 0 1) s) (k.f 0 1))

/-- Enough time has passed for item `n` to reach its target (03 R64). -/
def calCanReach (s : State) (n : Nat) : Bool :=
  let i := calItem s n
  let d := (i.target.toInt - i.value.toInt).natAbs
  let el := s.tb.up - i.slewAt
  d = 0 || (if n = 1 then nsUp 60000000000 ≤ el else d * nsUp 10000000000 ≤ calSlew10s n * el)

/-- Every applied value has reached its target: SLEWING clears, and the peers of links whose LINK_D changed are told
(03 R52, R64). -/
def calSlewEnd (s : State) : State :=
  if calSlewing s && (List.range 28).all (calCanReach s) then
    (List.range 28).foldl (fun s n =>
      if (calItem s n).value = (calItem s n).target then s else calApply s n (calItem s n).target) s
  else s

def execCalSlewingClear (s : State) : Res := live s calSlewEnd

/-- At first lock the items that passed in the power-up run take its DT as CAL_LAST, and the record is written
(03 R55, R61). -/
def calFirstLock (s : State) : State :=
  let m := bitsOf ((listIdx s.cal.items.toList).map fun e => (e.1, b2n e.2.bootPass))
  let d := dtNs s
  let s := { s with cal := { s.cal with items := s.cal.items.map fun i =>
    if i.bootPass then { i with last := d, bootPass := false } else i } }
  if m = 0 then s else calRecord s m

end Sys2Proof.Machine
end

