-- ==== Sys2Proof/Machine/Time.lean ====
section
/-! DEFINITION. Time.lean: the timebase unit: sources, first lock, discipline, holdover, TIMESYNC, PPS and the time
opcodes (02 R21 to R49). -/

namespace Sys2Proof.Machine

/-! ### Views (02 R38, R39, R42, R46) -/

/-- The followed source is traceable (02, Sources and their priority). -/
def srcTraceable (tb : Timebase) : Source → Bool
  | .gnss => true
  | .ext => true
  | .fabric => tb.upstream.traceable
  | _ => false

/-- The magnitude of TB_PHASE_ERR. -/
def phaseMag (tb : Timebase) : Nat := tb.phaseErr.toInt.natAbs

/-- TB_STATUS.TRACEABLE (02 R38). -/
def tbTraceable (tb : Timebase) : Bool :=
  tb.valid && srcTraceable tb tb.source && !tb.holdover && phaseMag tb ≤ 100

/-- TB_STATUS.SLEWING (02 R37). -/
def tbSlewing (tb : Timebase) : Bool := 100 < phaseMag tb

/-- HOPS this chip reports (02 R42). -/
def tbHops (tb : Timebase) : Nat := if tb.source = .fabric then tb.upstream.hops.toNat + 1 else 0

def srcCode : Source → Nat
  | .none => 0
  | .gnss => 1
  | .ext => 2
  | .fabric => 3
  | .host => 4

/-- TB_STATUS (02 R46). -/
def tbStatus (tb : Timebase) : Nat :=
  bitsOf [(0, b2n tb.valid), (1, b2n (tbTraceable tb)), (2, srcCode tb.source), (5, b2n tb.holdover),
    (6, b2n (tbSlewing tb)), (7, b2n tb.lock24h), (8, b2n tb.gnssQual), (9, b2n tb.extQual), (10, b2n tb.fabQual),
    (11, tbHops tb % 32)]

/-- TB_CONFIG (02 R46). -/
def tbConfig (c : TbConfig) : Nat :=
  bitsOf [(0, c.prio.toNat), (6, c.slewPpm.toNat), (14, c.upstream.toNat), (19, c.exchRate.toNat),
    (26, c.ppsWidth.toNat), (29, b2n c.ppsGate)]

/-- TB_UTC_OFFSET (02 R46). -/
def tbUtc (u : UtcOffset) : Nat :=
  bitsOf [(0, u.seconds.toNat), (16, b2n u.pending), (17, u.nextDelta.toNat), (19, b2n u.fromNav)]

/-- TB_HOLDOVER_EST (02 R39): 1 microsecond per hour is 1 ns per 3.6 s. -/
def tbHoldEst (tb : Timebase) : Nat :=
  if !tb.valid then 0xFFFFFFFF
  else match tb.source with
    | .gnss => 0
    | .ext => 0
    | .fabric => tb.upstream.unc.toNat
    | .host => 0xFFFFFFFF
    | .none =>
      if tb.holdover && tb.lock24h then
        min 0xFFFFFFFE (tb.holdEst.toNat + (tb.up - tb.holdAt) / nsUp 3600000000)
      else 0xFFFFFFFF

/-- OP_TIME_STATUS response (02 R47). -/
def timeStatusResp (s : State) : Bytes :=
  layout 40 [(0, 8, (dtNs s).toNat), (8, 2, (dtFrac s).toNat), (12, 4, tbStatus s.tb), (16, 4, tbConfig s.tb.cfg),
    (20, 4, tbUtc s.tb.utc), (24, 4, tbHoldEst s.tb), (28, 4, s.tb.phaseErr.toNat), (32, 4, calStatus s),
    (36, 2, s.tb.cfg.ppsAdv.toNat), (38, 2, s.tb.cfg.ppsInDly.toNat)]

/-! ### Events (02 R49) -/

/-- What a change of which raises TIME_STATE. -/
def timeWatch (tb : Timebase) : Nat × Half × Bool :=
  (bitsOf [(0, b2n tb.valid), (1, b2n (tbTraceable tb)), (2, srcCode tb.source), (5, b2n tb.holdover),
    (7, b2n tb.lock24h), (8, b2n tb.gnssQual), (9, b2n tb.extQual), (10, b2n tb.fabQual)],
   tb.utc.seconds, tb.utc.pending)

/-- One TIME_STATE event for all that changed between `b` and `s` (02 R49). -/
def timeEvent (b : Timebase) (s : State) : State :=
  if timeWatch b = timeWatch s.tb then s
  else
    let worse := (s.tb.holdover && !b.holdover) || (tbTraceable b && !tbTraceable s.tb)
    event s 0x0007 (if worse then 1 else 0)
      (layout 16 [(0, 4, tbStatus s.tb), (4, 4, tbStatus b), (8, 4, tbUtc s.tb.utc), (12, 4, tbHoldEst s.tb)])

/-- A step of the timebase unit, with its TIME_STATE event. -/
def timeStep (f : State → State) (s : State) : State := timeEvent s.tb (f s)

/-! ### Choosing and following a source (02 R31 to R34, R37, R39, R40) -/

def srcQual (tb : Timebase) : Source → Bool
  | .gnss => tb.gnssQual
  | .ext => tb.extQual
  | .fabric => tb.fabQual
  | _ => false

def srcSince (tb : Timebase) : Source → Option Nat
  | .gnss => tb.gnssSince
  | .ext => tb.extSince
  | .fabric => tb.fabSince
  | _ => none

def prioSource (code : Nat) : Source :=
  if code = 0 then .gnss else if code = 1 then .ext else .fabric

/-- The priority order, highest first (02 R46). -/
def prioList (c : TbConfig) : List Source :=
  [prioSource (bitsAt c.prio.toNat 1 0), prioSource (bitsAt c.prio.toNat 3 2), prioSource (bitsAt c.prio.toNat 5 4)]

/-- The source of 02 R31 among those `ok` admits: the highest, or a traceable one where that is not traceable. -/
def pickSource (tb : Timebase) (ok : Source → Bool) : Source :=
  match (prioList tb.cfg).filter ok with
  | [] => .none
  | a :: r => if srcTraceable tb a then a else ((a :: r).find? (srcTraceable tb)).getD a

/-- Place of a source in the order; those outside it come last. -/
def srcRank (tb : Timebase) (x : Source) : Nat := (prioList tb.cfg).findIdx (· == x)

/-- 2^-32 ns to whole ns, saturating at 32 bits signed (TB_PHASE_ERR). -/
def errNs (off : Int) : Word := BitVec.ofInt 32 (satInt 32 (off.tdiv (2 ^ 32 : Nat)))

def srcOff (tb : Timebase) : Source → Int
  | .gnss => tb.gnssOff
  | .ext => tb.extOff
  | .fabric => tb.fabOff
  | _ => 0

def setOff (tb : Timebase) (x : Source) (off : Int) : Timebase :=
  match x with
  | .gnss => { tb with gnssOff := off }
  | .ext => { tb with extOff := off }
  | .fabric => { tb with fabOff := off }
  | _ => tb

/-- The distance from the nearest whole second of an offset in 2^-32 ns. -/
def nearSec (x : Int) : Int :=
  let sec : Int := nsUp 1000000000
  let t := x % sec
  if t * 2 ≤ sec then t else t - sec

/-- What the in-force OSC_FREQ adds to the increment of an edge: the timing clock is that far from 1.25 GHz (02,
Corrections; 03, Calibration items). -/
def oscCorr (s : State) : Int :=
  (Config.nominalInc * 256000000000 : Nat) / (256000000000 + (calItem s 0).value.toInt) - Config.nominalInc

/-- A frequency correction against a source, any within 1,000 ppm (free, log 10). -/
def freqOf (f : Nat) : Int := ((f % (2 * (Config.nominalInc / 1000) + 1) : Nat) : Int) - (Config.nominalInc / 1000 : Nat)

/-- Source `x` has been measured: if it is followed, its offset is the phase error, and the rate it shows is the frequency
correction (02, Corrections, R37, R39). -/
def disciplined (x : Source) (s : State) : State :=
  if s.tb.source = x then
    let (f, s) := takeFree s
    { s with tb := { s.tb with
      phaseErr := errNs (srcOff s.tb x)
      errAt := s.tb.up
      freq := freqOf f
      calAt := oscCorr s } }
  else s

/-- The count of 02 R40 and LOCK_24H: lock to a traceable source runs on, or stops. -/
def updLock (tb : Timebase) : Timebase :=
  if tb.valid && !tb.holdover && srcTraceable tb tb.source then
    { tb with lockSince := some (tb.lockSince.getD tb.up) }
  else { tb with lockSince := none, lock24h := tb.holdover && tb.lock24h }

/-- The timebase unit follows `x`; following none is holdover, and leaving holdover clears LOCK_24H (02 R39, R40). -/
def follow (tb : Timebase) (x : Source) : Timebase :=
  if x = .none then
    updLock { tb with
      holdEst := BitVec.ofNat 32 (tbHoldEst tb)
      holdAt := tb.up
      source := .none
      holdover := true
      phaseErr := 0
      errAt := tb.up }
  else
    updLock { tb with
      lock24h := if tb.holdover then false else tb.lock24h
      holdover := false
      source := x
      phaseErr := errNs (srcOff tb x)
      errAt := tb.up }

/-- A deadline formed as S + T from the unlocked count, moved with DT (02 R34). -/
def shiftNs (delta : Int) (d : Dword) : Dword := BitVec.ofInt 64 (((d.toNat * 2 ^ 32 : Nat) + delta) / (2 ^ 32 : Nat))

def shiftDeadline (delta : Int) (t : Tracker) : Tracker :=
  if t.byTimeout then { t with deadline := shiftNs delta t.deadline } else t

/-- A request of this chip that has not left it carries its tracker's deadline (02 R34, 14 R347). -/
def shiftPacket (s : State) (delta : Int) (p : Packet) : Packet :=
  match tget s.fab.trackers (p.tag.toNat % 16384) with
  | some t =>
    if p.srcChip = myChip s && p.op.toNat < 0x80 && p.tag.toNat / 16384 = t.gen.toNat && t.byTimeout then
      { p with deadline := shiftNs delta p.deadline }
    else p
  | none => p

/-- The timestamps of an exchange in progress move with DT, so that its offset stays one against DT (log 55). -/
def shiftExch (delta : Int) (e : Exchange) : Exchange :=
  let mv (t : Nat) : Nat := ((((t * 2 ^ 16 : Nat) : Int) + delta) / (2 ^ 16 : Nat)).toNat
  if e.asked then { e with t2 := mv e.t2, t3 := mv e.t3 } else e

/-- First lock (02 R34): DT takes the value `now` in one step, pending timeouts keep their length, VALID sets. -/
def firstLock (s : State) (x : Source) (now : BitVec 96) : State :=
  let delta : Int := (now.toNat : Int) - s.tb.count.toNat
  let s := { s with
    fab := { s.fab with
      trackers := s.fab.trackers.map fun e => (e.1, shiftDeadline delta e.2)
      router := s.fab.router.map (shiftPacket s delta)
      intake := s.fab.intake.map (shiftPacket s delta)
      serving := s.fab.serving.map (shiftPacket s delta) }
    tb := updLock { s.tb with
      count := now
      valid := true
      source := x
      holdover := false
      tookAt := some s.tb.up
      gnssOff := s.tb.gnssOff + delta
      extOff := nearSec (s.tb.extOff + delta)
      fabOff := s.tb.fabOff + delta
      phaseErr := 0
      errAt := s.tb.up
      freq := 0
      calAt := oscCorr s
      exch := s.tb.exch.map (shiftExch delta)
      exchOld := s.tb.exchOld.map fun e => (shiftExch delta e.1, e.2) } }
  calFirstLock s

/-- The power-up calibration run is to end before DT can reach first lock (03 R57). -/
def calHolds (s : State) : Bool := s.cal.run.any fun r => r.chan.isNone

/-- The source is chosen again after a change (02 R31, R32, R34). `lost`: the followed source has just lost
traceability. Of sources that qualify at the instant at which the first of them was followed at once, 02 R31 chooses. -/
def reselect (lost : Bool) (s : State) : State :=
  let tb := s.tb
  if !tb.valid then
    if calHolds s then s
    else match pickSource tb (fun x => srcQual tb x && x != .ext) with
    | .none => s
    | x => firstLock s x (BitVec.ofInt 96 ((tb.count.toNat : Int) - srcOff tb x))
  else
    let best := pickSource tb (srcQual tb)
    let go := { s with tb := follow tb best }
    let atOnce := { s with tb := { follow tb best with tookAt := some tb.up } }
    match tb.source with
    | .none => if best = .none then s else atOnce
    | .host => if best = .none then s else atOnce
    | x =>
      if !srcQual tb x then go
      else if best = x then { s with tb := updLock tb }
      else if tb.tookAt = some tb.up then atOnce
      else if !srcTraceable tb x && srcTraceable tb best && (lost || srcRank tb x < srcRank tb best) then go
      else { s with tb := updLock tb }

/-! ### GNSS and EXT qualification (02 R30) -/

/-- The time solution has been valid for 10 s: GNSS is qualified (02 R30). -/
def gnssDue (s : State) : State :=
  if !s.tb.gnssQual && sinceOpt s s.tb.solValidSince (nsUp 10000000000) then
    { s with tb := { s.tb with gnssQual := true, gnssSince := some s.tb.up } }
  else s

/-- GNSS qualifies. -/
def gnssQualify : State → State := timeStep fun s =>
  if !s.tb.gnssQual && sinceOpt s s.tb.solValidSince (nsUp 10000000000) then reselect false (gnssDue s) else s

def execGnssQualify (s : State) : Res := live s gnssQualify

/-- The time solution has been invalid for 3 s. -/
def gnssDisqualify : State → State := timeStep fun s =>
  if s.tb.gnssQual && sinceOpt s s.tb.solInvalidSince (nsUp 3000000000) then
    reselect false { s with tb := { s.tb with gnssQual := false, gnssSince := none } }
  else s

def execGnssDisqualify (s : State) : Res := live s gnssDisqualify

/-- EXT disqualifies (02 R30). -/
def extDrop (s : State) : State :=
  if s.tb.extQual then reselect false { s with tb := { s.tb with extQual := false, extSince := none, ppsGood := 0 } }
  else { s with tb := { s.tb with ppsGood := 0 } }

/-- The signed distance of DT at the corrected edge from the nearest whole second, 2^-32 ns. -/
def edgeOff (s : State) : Int := nearSec ((s.tb.count.toNat : Int) - nsUp s.tb.cfg.ppsInDly.toNat)

/-- A waiting OP_TIME_SET is applied at the edge: the edge, less PPS_IN_DLY_NS, carries TAI_S, and is the first lock
(02 R33, R48). One overtaken by another source's first lock completes ST_BAD_STATE, and where EXT has disqualified since
the command was accepted the edge is first lock still, and holdover follows at once: the model's choices (log 24). -/
def edgeTimeSet (s : State) : State :=
  match s.tb.timeSet with
  | none => s
  | some w =>
    let s := { s with tb := { s.tb with timeSet := none } }
    if s.tb.valid then finishCmd s w.chan stBadState 0 (zeros 16)
    else
      let utc := if w.utc = 0xFFFF then s.tb.utc else { s.tb.utc with seconds := w.utc, fromNav := false }
      let s := { s with tb := { s.tb with utc := utc } }
      let now := BitVec.ofNat 96 (nsUp (w.taiNs.toNat + s.tb.cfg.ppsInDly.toNat))
      let s := reselect false (firstLock s .ext now)
      finishCmd s w.chan stOk 0 (layout 16 [(0, 8, (dtNs s).toNat), (8, 1, 2)])

/-- A PPS_IN rising edge (02 R30, R33, R43; 03 R51): `dev` ns from the instant predicted from REF10M_IN, REF10M_IN
`refPpb` ppb from 10 MHz by the calibrated oscillator, `periods` of it since the edge before. -/
def ppsEdge (dev refPpb : Int) (periods : Nat) : State → State := timeStep fun s =>
  let s := gateEdge periods s
  let ok := refPpb.natAbs ≤ 10000
  let good := if dev.natAbs ≤ 50 && ok then (if periods ≤ 15000000 then s.tb.ppsGood + 1 else 1) else 0
  let s := { s with tb := { s.tb with refOk := ok, ppsGood := good, ppsAt := some s.tb.up, extOff := edgeOff s } }
  let s :=
    if 1000 < dev.natAbs then extDrop s
    else if !s.tb.extQual && 10 ≤ good then
      reselect false { gnssDue s with tb := { (gnssDue s).tb with extQual := true, extSince := some s.tb.up } }
    else s
  edgeTimeSet (disciplined .ext s)

def execPpsInEdge (dev refPpb : Int) (periods : Nat) (s : State) : Res := live s (ppsEdge dev refPpb periods)

/-- REF10M_IN has stopped for 10 us (02 R30). -/
def refLoss : State → State := timeStep fun s => extDrop { s with tb := { s.tb with refOk := false } }

def execRef10mLoss (s : State) : Res := live s refLoss

/-- The third consecutive PPS_IN edge is missing: 3 s have passed since the last one (02 R30). -/
def ppsMissing : State → State := timeStep fun s =>
  if s.tb.extQual && (s.tb.ppsAt.isNone || sinceOpt s s.tb.ppsAt (nsUp 3000000000)) then extDrop s else s

def execPpsInMissing (s : State) : Res := live s ppsMissing

/-- A source that has stayed qualified for 60 s and outranks the followed one takes over (02 R32). -/
def takeover : State → State := timeStep fun s =>
  let tb := s.tb
  if !tb.valid || !srcQual tb tb.source then s
  else
    let best := pickSource tb fun x => x == tb.source || (srcQual tb x && sinceOpt s (srcSince tb x) (nsUp 60000000000))
    if best = tb.source || best = .none then s else { s with tb := follow tb best }

def execSourceTakeover (s : State) : Res := live s takeover

/-- 24 h of continuous lock to a traceable source (02 R40). -/
def lock24 : State → State := timeStep fun s =>
  if sinceOpt s s.tb.lockSince (nsUp 86400000000000) && !s.tb.holdover then
    { s with tb := { s.tb with lock24h := true } }
  else s

def execLock24hSet (s : State) : Res := live s lock24

/-- The announced leap second arrives (02 R22, A leap second is announced). -/
def leapNow : State → State := timeStep fun s =>
  let u := s.tb.utc
  if u.pending && u.leapAt ≤ dtNs s then
    { s with tb := { s.tb with utc := { u with
      seconds := if u.nextDelta = 1 then u.seconds + 1 else if u.nextDelta = 3 then u.seconds - 1 else u.seconds
      pending := false
      nextDelta := 0 } } }
  else s

def execLeapSecond (s : State) : Res := live s leapNow

/-- The phase error has come down to `err`, 100 ns or less, at a rate the slew limit allows (02 R37, R38). -/
def slewingClear (err : Word) : State → State := timeStep fun s =>
  let tb := s.tb
  if tbSlewing tb && err.toInt.natAbs ≤ 100 && srcQual tb tb.source &&
      (phaseMag tb - 100) * 1000000 * 2 ^ 32 ≤ tb.cfg.slewPpm.toNat * (tb.up - tb.errAt) then
    { s with tb := { setOff tb tb.source (err.toInt * (2 ^ 32 : Nat)) with phaseErr := err, errAt := tb.up } }
  else s

def execTbSlewingClear (err : Word) (s : State) : Res := live s (slewingClear err)

/-! ### Snapshots (02 R25, R26, R28) -/

/-- A read of TB_SNAP_W0_n latches DT and its flags; a 64-bit one returns W0 and W1. -/
def snapLatch (n : Fin 64) (wide : Bool) (s : State) : State :=
  let t := (dtNs s).toNat
  let w2 := bitsOf [(0, (dtFrac s).toNat), (16, b2n s.tb.valid), (17, b2n (tbTraceable s.tb)),
    (18, srcCode s.tb.source), (21, b2n s.tb.holdover), (22, b2n (tbSlewing s.tb))]
  let sn : Snap := ⟨BitVec.ofNat 32 t, BitVec.ofNat 32 (t / 2 ^ 32), BitVec.ofNat 32 w2⟩
  emit { s with tb := { s.tb with snaps := s.tb.snaps.set n sn } }
    (.readData (leBytes (if wide then 8 else 4) t) false)

def execTbSnapLatch (n : Fin 64) (wide : Bool) (s : State) : Res := barRead s (snapLatch n wide)

/-! ### PPS_OUT (02 R43) -/

def ppsWidthNs (code : Nat) : Nat := [10000, 100000, 1000000, 10000000, 100000000, 500000000].getD code 0

/-- DT passes a whole second less PPS_ADV_NS: each value of its nanosecond part is met, since it advances by less
than 1 ns at an edge. -/
def ppsDue (s : State) : Bool := ((dtNs s).toNat + s.tb.cfg.ppsAdv.toInt) % 1000000000 = 0

def ppsRise (s : State) : State :=
  if s.tb.valid && !s.tb.ppsOut && ppsDue s && (!s.tb.cfg.ppsGate || tbTraceable s.tb) then
    { s with tb := { s.tb with ppsOut := true, ppsFall := dtNs s + BitVec.ofNat 64 (ppsWidthNs s.tb.cfg.ppsWidth.toNat) } }
  else s

def execPpsOutRise (s : State) : Res := live s ppsRise

def ppsFallStep (s : State) : State :=
  if s.tb.ppsOut && s.tb.ppsFall ≤ dtNs s then { s with tb := { s.tb with ppsOut := false } } else s

def execPpsOutFall (s : State) : Res := live s ppsFallStep

/-! ### TIMESYNC (02 R41, R42; 14 R351) -/

/-- A TIMESYNC payload of this chip (02, TIMESYNC payload); `ts` in 2^-16 ns. -/
def tsFrame (s : State) (typ seq ts : Nat) : Bytes :=
  layout 32 [(0, 1, typ), (1, 1, bitsOf [(0, b2n s.tb.valid), (1, b2n (tbTraceable s.tb)), (2, b2n s.tb.holdover)]),
    (2, 1, tbHops s.tb), (4, 2, seq), (6, 2, (s.fab.chipId.getD 0).toNat), (8, 2, s.fab.inc.toNat),
    (12, 4, tbHoldEst s.tb), (16, 8, ts / 65536), (24, 2, ts % 65536)]

def sendTs (s : State) (l typ seq ts : Nat) : State := (sendFlit s l 4 0 0 (tsFrame s typ seq ts)).1

/-- Length of an exchange interval at the present rate, 2^-32 ns. -/
def exchLen (s : State) : Nat := nsUp 1000000000 / max 1 s.tb.cfg.exchRate.toNat

def upLink (s : State) : Nat := s.tb.cfg.upstream.toNat

/-- The upstream link is configured and UP. -/
def upOk (s : State) : Bool := upLink s < 24 && (linkOf s (upLink s)).state = .up

/-- FABRIC disqualifies (02 R30). -/
def fabDrop (s : State) : State :=
  let s := { s with tb := { s.tb with exchGood := 0 } }
  if s.tb.fabQual then reselect false { s with tb := { s.tb with fabQual := false, fabSince := none } } else s

/-- `n` exchange intervals have passed without a completed exchange; the eighth in a row disqualifies FABRIC (02 R30). -/
def exchMiss (n : Nat) (s : State) : State :=
  if n = 0 then s
  else
    let s := { s with tb := { s.tb with exchMissed := s.tb.exchMissed + n, exchGood := 0 } }
    if 8 ≤ s.tb.exchMissed then fabDrop s else s

/-- The interval of the present exchange has passed, at the rate in force when it began (02 R48). -/
def exchOver (s : State) : Bool := s.tb.exch.isSome && since s s.tb.exchAt s.tb.exchIv

/-- Earlier exchanges whose intervals have passed end, missed. -/
def exchExpire (s : State) : State :=
  let live := s.tb.exchOld.filter fun e => s.tb.up < e.2
  exchMiss (s.tb.exchOld.length - live.length) { s with tb := { s.tb with exchOld := live } }

/-- An exchange interval begins. The exchange of one that ended without completing is missed; one whose interval, begun at a
slower rate, still runs stays in progress (02 R30, R41, R48). -/
def exchStart : State → State := timeStep fun s =>
  if upOk s && (s.tb.exchAt = 0 || since s s.tb.exchAt (exchLen s)) then
    let s := exchExpire s
    let left := if exchOver s then [] else (s.tb.exch.map fun e => (e, s.tb.exchAt + s.tb.exchIv)).toList
    exchMiss (b2n (exchOver s)) { s with tb := { s.tb with
      exchAt := s.tb.up
      exchIv := exchLen s
      exchSeq := s.tb.exchSeq + 1
      exchOld := s.tb.exchOld ++ left
      exch := some ⟨s.tb.exchSeq + 1, 0, 0, 0, false⟩ } }
  else s

/-- The chip on the far end of link `l` starts exchange `seq`, and this chip, its upstream, sends SYNC with the transmit
time t1 (02 R41). How the start reaches the upstream the spec does not say: the model's choice (log 55). -/
def syncSend (l : Fin 24) (seq : Half) (s : State) : State :=
  if (linkOf s l).state = .up then sendTs s l 1 seq.toNat (dt80 s).toNat else s

def execTimesyncExchangeStart (peer : Option (Fin 24 × Half)) (s : State) : Res :=
  live s fun s => match peer with
    | none => exchStart s
    | some (l, seq) => syncSend l seq s

/-- The eighth consecutive interval ends without a completed exchange, at the rate in force when it began (02 R30,
R48). -/
def exchMissed8 : State → State := timeStep fun s =>
  if s.tb.fabQual && exchOver s && 7 ≤ s.tb.exchMissed then
    fabDrop { s with tb := { s.tb with exchMissed := 0, exch := none } }
  else exchExpire s

def execExchangeIntervalMissed (s : State) : Res := live s exchMissed8

/-- What the upstream reports in a frame (02 R42); VALID 0 or HOPS of 30 or more disqualifies FABRIC (02 R30). -/
def takeReport (f : Bytes) (s : State) : State :=
  let fl := fieldAt f 1 1
  let u : Upstream := ⟨bitAt fl 0, bitAt fl 1, bitAt fl 2, BitVec.ofNat 8 (fieldAt f 2 1),
    BitVec.ofNat 32 (fieldAt f 12 4)⟩
  let was := s.tb.upstream.traceable
  let s := { s with tb := { s.tb with upstream := u } }
  if !u.valid || 30 ≤ u.hops.toNat then fabDrop s
  else if s.tb.source = .fabric then reselect (was && !u.traceable) s else s

/-- The frame received on link `l`, if it is of type `typ`. -/
def takeFrame (s : State) (l : Nat) (typ : Nat) : Option (Bytes × Nat) :=
  match (linkOf s l).frame with
  | some (f, t) => if fieldAt f 0 1 = typ then some (f, t) else none
  | none => none

def dropFrame (s : State) (l : Nat) : State := modLink s l fun k => { k with frame := none }

/-- The exchange of number `seq` gets the timestamps `e`: an earlier one still in progress that bears it, else the present
one (02 R41, R48). -/
def exchSync (tb : Timebase) (e : Exchange) : Timebase :=
  if tb.exchOld.any (fun x => x.1.seq == e.seq) then
    { tb with exchOld := tb.exchOld.map fun x => if x.1.seq == e.seq then (e, x.2) else x }
  else { tb with exch := some e }

/-- SYNC from the upstream: t1 and t2 are recorded and DELAY_REQ leaves at t3 (02 R41). -/
def syncStep (l : Nat) : State → State := timeStep fun s =>
  match takeFrame s l 1 with
  | none => s
  | some (f, t2) =>
    let s := dropFrame s l
    if l != upLink s || !upOk s then s
    else
      let seq := fieldAt f 4 2
      let s := takeReport f s
      let e : Exchange := ⟨BitVec.ofNat 16 seq, fieldAt f 16 8 * 65536 + fieldAt f 24 2, t2, (dt80 s).toNat, true⟩
      let s := { s with tb := exchSync s.tb e }
      sendTs s l 2 seq 0

def execSync (l : Fin 24) (s : State) : Res := live s (syncStep l)

/-- DELAY_REQ from a downstream chip: its receive time t4 returns in DELAY_RESP (02 R41). -/
def delayReq (l : Nat) (s : State) : State :=
  match takeFrame s l 2 with
  | none => s
  | some (f, t4) => sendTs (dropFrame s l) l 3 (fieldAt f 4 2) t4

def execDelayReq (l : Fin 24) (s : State) : Res := live s (delayReq l)

/-- A of 02 R41: this chip's LINK_D less the upstream's (03 R52), in 2^-16 ns. -/
def linkAsym (s : State) (l : Nat) : Int := ((linkD s l).toInt - (linkOf s l).peerLinkD.toInt) * 256

/-- The offset of 02 R41, DT minus the upstream's, in 2^-32 ns. -/
def exchOffset (e : Exchange) (t4 : Nat) (a : Int) : Int :=
  ((((e.t2 : Int) - e.t1) - ((t4 : Int) - e.t3) - a) * (2 ^ 16 : Nat)) / 2

/-- The exchange that a DELAY_RESP of number `seq` completes, and the timebase without it (02 R41, R48). -/
def exchTake (tb : Timebase) (seq : Nat) : Option (Exchange × Timebase) :=
  let is (e : Exchange) : Bool := e.asked && seq = e.seq.toNat
  match tb.exch.filter is with
  | some e => some (e, { tb with exch := none })
  | none => (tb.exchOld.find? fun x => is x.1).map fun x => (x.1, { tb with exchOld := tb.exchOld.erase x })

/-- DELAY_RESP completes the exchange: offset, discipline and qualification (02 R30, R37, R41). -/
def delayResp (l : Nat) : State → State := timeStep fun s =>
  match takeFrame s l 3 with
  | none => s
  | some (f, _) =>
    let s := dropFrame s l
    match exchTake s.tb (fieldAt f 4 2) with
    | none => s
    | some (e, tb) =>
      if l != upLink s || !upOk s then s
      else
        let off := exchOffset e (fieldAt f 16 8 * 65536 + fieldAt f 24 2) (linkAsym s l)
        let s := { s with tb := { tb with exchMissed := 0, fabOff := off } }
        let s := takeReport f s
        let u := s.tb.upstream
        let ok := u.valid && u.hops.toNat ≤ 29
        let s := { s with tb := { s.tb with exchGood := if ok then s.tb.exchGood + 1 else 0 } }
        let s := disciplined .fabric s
        if !s.tb.fabQual && 16 ≤ s.tb.exchGood then
          reselect false { gnssDue s with tb := { (gnssDue s).tb with fabQual := true, fabSince := some s.tb.up } }
        else s

def execDelayResp (l : Fin 24) (s : State) : Res := live s (delayResp l)

/-- Link `l` went down: FABRIC disqualifies where it is the upstream link (02 R30). -/
def fabLinkDown (l : Nat) : State → State := timeStep fun s =>
  if l = upLink s then fabDrop { s with tb := { s.tb with exch := none, exchOld := [] } } else s

/-! ### The time opcodes (02 R47, R48) -/

def timeConfigResp (_ : CmdHeld) (s : State) : Bytes :=
  layout 16 [(0, 4, tbConfig s.tb.cfg), (4, 2, s.tb.cfg.ppsAdv.toNat), (6, 2, s.tb.cfg.ppsInDly.toNat)]

/-- Three different sources (02 R48). -/
def prioOk (p : Nat) : Bool :=
  let a := bitsAt p 1 0; let b := bitsAt p 3 2; let c := bitsAt p 5 4
  a < 3 && b < 3 && c < 3 && a != b && a != c && b != c

/-- Without APPLY the other fields are not examined: only reserved bits and bytes are (00 R7). -/
def timeConfigChk (k : CmdHeld) : Chk :=
  let ap := bitAt (k.f 0 1) 0
  { param := [bad (1 < k.f 0 1) 0, bad (63 < k.f 1 1) 1, bad (ap && !prioOk (k.f 1 1)) 1,
      bad (ap && !(1 ≤ k.f 2 1 && k.f 2 1 ≤ 200)) 2, bad (ap && !(k.f 3 1 ≤ 23 || k.f 3 1 = 31)) 3,
      bad (ap && !(1 ≤ k.f 4 1 && k.f 4 1 ≤ 64)) 4, bad (ap && 5 < k.f 5 1) 5, bad (ap && 1 < k.f 6 1) 6]
      ++ k.rsv 7 8 ++ k.rsv 12 16 }

def timeConfigEff (k : CmdHeld) : State → State := timeStep fun s =>
  if !bitAt (k.f 0 1) 0 then s
  else
    let newUp := BitVec.ofNat 5 (k.f 3 1)
    let changed := newUp != s.tb.cfg.upstream
    let s := { s with tb := { s.tb with cfg := { s.tb.cfg with
      prio := BitVec.ofNat 6 (k.f 1 1)
      slewPpm := BitVec.ofNat 8 (k.f 2 1)
      upstream := newUp
      exchRate := BitVec.ofNat 7 (k.f 4 1)
      ppsWidth := BitVec.ofNat 3 (k.f 5 1)
      ppsGate := k.f 6 1 = 1
      ppsAdv := BitVec.ofNat 16 (k.f 8 2)
      ppsInDly := BitVec.ofNat 16 (k.f 10 2) } } }
    let s := if changed then
        fabDrop { s with tb := { s.tb with exch := none, exchOld := [], exchMissed := 0, exchAt := 0 } } else s
    reselect false s

def execOpTimeConfig (c : Chan) (s : State) : Res :=
  live s fun s => plainOp s c 0x0101 timeConfigChk timeConfigResp timeConfigEff

def timeSetChk (k : CmdHeld) (s : State) : Chk :=
  { param := bad (18446744073 < k.f 0 8) 0 :: k.rsv 10 16
    state := if s.tb.valid then some stBadState else if s.tb.timeSet.isSome then some stBusy else none }

/-- OP_TIME_SET (02 R33 to R35, R48): HOST at once, or waiting for the next PPS_IN edge where EXT is qualified. -/
def timeSetEff (c : Chan) (k : CmdHeld) (s : State) : Done :=
  if k.begun then .wait s
  else
    let ns := k.f 0 8 * 1000000000
    if s.tb.extQual then
      let w : TimeSetWait := ⟨c, BitVec.ofNat 64 ns, BitVec.ofNat 16 (k.f 8 2), s.tb.up + nsUp 1500000000⟩
      .wait { s with tb := { s.tb with timeSet := some w } }
    else
      let f := timeStep fun s =>
        let u := BitVec.ofNat 16 (k.f 8 2)
        let utc := if u = 0xFFFF then s.tb.utc else { s.tb.utc with seconds := u, fromNav := false }
        firstLock { s with tb := { s.tb with utc := utc } } .host (BitVec.ofNat 96 (nsUp ns))
      .ok (f s) (layout 16 [(0, 8, ns), (8, 1, 4)])

def timeSetRefused (_ : CmdHeld) (_ : State) : Bytes := zeros 16

def execOpTimeSet (c : Chan) (s : State) : Res :=
  live s fun s => runOp s c 0x0102 (fun k => timeSetChk k s) timeSetRefused (timeSetEff c)

/-- No edge came within 1.5 s (02 R48). -/
def timeSetTimeout (s : State) : State :=
  match s.tb.timeSet with
  | some w =>
    if w.limit ≤ s.tb.up then finishCmd { s with tb := { s.tb with timeSet := none } } w.chan stTimeout 0 (zeros 16)
    else s
  | none => s

def execTimeSetTimeout (s : State) : Res := live s timeSetTimeout

def execOpTimeStatus (c : Chan) (s : State) : Res :=
  live s fun s => plainOp s c 0x0103 (fun _ => {}) (fun _ => timeStatusResp) fun _ s => s

/-! ### Steps of a calibration run, after which DT may lock (03 R57) -/

/-- A step that may end the power-up run: a source that has qualified meanwhile is then first lock. -/
def calThenLock (f : State → State) : State → State := timeStep fun s =>
  let t := f s
  if calHolds s && !calHolds t then reselect false t else t

def execRefPresenceDecided (freqPpm : Int) (s : State) : Res := live s (calThenLock (refPresence freqPpm))

def execCalLoopbacksDone (m : CalMeas) (s : State) : Res := live s (calThenLock (loopbacksDone m))

def execFrequencyGateEnd (osc tempco : Word) (span : Nat) (s : State) : Res :=
  live s (calThenLock (gateEnd osc tempco span))

/-! ### The timing clock (02 R23, R37, R39) -/

/-- Largest correction of one edge, 2^-32 ns: SLEW_PPM of the nominal increment. -/
def corrLimit (s : State) : Nat := Config.nominalInc * s.tb.cfg.slewPpm.toNat / 1000000

/-- What the in-force OSC_TEMPCO adds at a sensor temperature that the spec holds nowhere: any within 165 degrees of the
calibration's (free, log 10). -/
def tempCorr (s : State) (f : Nat) : Int :=
  let dT : Int := 2640 - ((f % 5281 : Nat) : Int)
  Config.nominalInc * (calItem s 1).value.toInt * dT / (4096000000000 : Nat)

/-- DT is slewed to the followed source at the slew limit, until no phase error is left (02 R37). -/
def slewTo (tb : Timebase) (lim : Nat) : Int :=
  let off := srcOff tb tb.source
  if off < 0 then min (-off) lim else -(min off lim)

/-- TB_PHASE_ERR as DT slews. Its fall to 100 ns is TB_SLEWING_CLEAR's. -/
def showErr (tb : Timebase) : Timebase :=
  let e := errNs (srcOff tb tb.source)
  if srcQual tb tb.source && e != tb.phaseErr && (100 < e.toInt.natAbs || phaseMag tb ≤ 100) then
    { tb with phaseErr := e, errAt := tb.up }
  else tb

/-- How far the rate of an edge differs from that of the followed source, or from the calibrated oscillator in holdover:
the slew and what the calibration has changed since, within SLEW_PPM once VALID is 1 (02 R23, R37, R39; 03 R64). -/
def rateDev (s : State) (f : Nat) : Int :=
  let c := oscCorr s + tempCorr s f - s.tb.calAt
  if s.tb.valid then
    let lim := corrLimit s
    max (-(lim : Int)) (min lim (c + slewTo s.tb lim))
  else c

/-- One edge of the 1.25 GHz timing clock: DT advances by the nominal increment, the oscillator's correction and the last
frequency correction, which holdover keeps, and the slew of the edge (02 R23, R37, R39; log 1, 10). -/
def tick (s : State) : State :=
  let (f, s) := takeFree s
  let dev := rateDev s f
  let inc := (max 1 ((Config.nominalInc : Int) + s.tb.calAt + s.tb.freq + dev)).toNat
  { s with tb := showErr { s.tb with
    corr := (inc : Int) - Config.nominalInc
    up := s.tb.up + inc
    count := s.tb.count + BitVec.ofNat 96 inc
    gnssOff := s.tb.gnssOff + dev
    extOff := s.tb.extOff + dev
    fabOff := s.tb.fabOff + dev } }

/-- What the block does while no command waits: an edge of the timing clock, unless it is held in cold reset (log 1). -/
def idle (s : State) : State := if s.sec.cold then s else tick s

end Sys2Proof.Machine
end

