-- ==== Sys2Proof/Machine/GnssDsp.lean ====
section
/-! DEFINITION. GnssDsp.lean: the samples, signals and numerics of the GNSS baseband: sample formats, the signal table,
rounding, the block-floating-point transform and the detection statistic (04 R68, R71 to R73, R79 to R81). -/

namespace Sys2Proof.Machine

/-! ### Samples (04 R68) -/

/-- A 2-bit sign and magnitude: magnitude 1 is 3, 0 is 1; sign 1 is negative. -/
def signMag (sign mag : Bool) : Int := (if sign then -1 else 1) * (if mag then 3 else 1)

/-- The sample of one clock in a format: real and imaginary part. -/
def decodePins (fmt : Nat) (p : Pins) : Int × Int :=
  if fmt = 0 then (signMag (p.rise.getLsbD 0) (p.rise.getLsbD 1), 0)
  else if fmt = 1 then (p.rise.toInt, 0)
  else if fmt = 2 then
    (signMag (p.rise.getLsbD 0) (p.rise.getLsbD 1), signMag (p.rise.getLsbD 2) (p.rise.getLsbD 3))
  else (p.rise.toInt, p.fall.toInt)

/-! ### The signal table (04 R72) -/

/-- A row of the table: port SPB, carrier (kHz), chip rate (kchip/s), primary code (ms), sync interval (ms), sync words
(none: the frame's CRC), bits of a sync word, data symbol (ms), data and pilot component. -/
structure Signal where
  spb : Bool
  carrierKhz : Nat
  chipKhz : Nat
  codeMs : Nat
  syncMs : Nat
  words : List Nat
  symbolMs : Nat
  pilot : Bool

/-- The signals by code. Symbol lengths are PRESUMED from the systems' interface documents (log 59). -/
def signals : List Signal :=
  [⟨false, 1575420, 1023, 1, 6000, [0x8B], 20, false⟩,
   ⟨false, 1575420, 1023, 10, 18000, [], 10, true⟩,
   ⟨true, 1176450, 10230, 1, 6000, [0x8B], 10, true⟩,
   ⟨false, 1575420, 1023, 4, 1000, [0x160], 4, true⟩,
   ⟨true, 1176450, 10230, 1, 10000, [0xB70], 20, true⟩,
   ⟨false, 1561098, 2046, 1, 6000, [0x712], 20, false⟩,
   ⟨false, 1575420, 1023, 10, 18000, [], 10, true⟩] ++
  [⟨true, 1176450, 10230, 1, 3000, [0xE24DE8], 5, true⟩,
   ⟨false, 1575420, 1023, 1, 6000, [0x8B], 20, false⟩,
   ⟨false, 1575420, 1023, 10, 18000, [], 10, true⟩,
   ⟨true, 1176450, 10230, 1, 6000, [0x8B], 10, true⟩,
   ⟨true, 1176450, 1023, 1, 12000, [0xEB90], 20, false⟩,
   ⟨false, 1575420, 1023, 1, 1000, [0x53, 0x9A, 0xC6], 2, false⟩]

/-- The row of a signal code. -/
def signalOf (sig : Nat) : Signal := signals.getD (sig - 1) ⟨false, 1575420, 1023, 1, 6000, [], 20, false⟩

/-- The signal arrives on port SPB. -/
def sigOnSpb (sig : Nat) : Bool := (signalOf sig).spb

/-- The system of a signal code, as OP_GNSS_ASSIST numbers systems (04 R91). -/
def sigSys (sig : Nat) : Nat :=
  if sig ≤ 3 then 0 else if sig ≤ 5 then 1 else if sig ≤ 8 then 2 else if sig ≤ 11 then 3 else if sig = 12 then 4 else 5

/-- The satellite sends the D2 message: BeiDou GEO (PRESUMED, log 15). -/
def isD2 (sig sv : Nat) : Bool := sig = 6 && (sv ≤ 5 || 59 ≤ sv)

/-- Interval of a signal's sync event, ms. -/
def syncMs (sig sv : Nat) : Nat := if isD2 sig sv then 600 else (signalOf sig).syncMs

/-- The sync event: all bits of the word match, or, of a frame-start event, the frame's CRC passed (04 R72, R82). -/
def syncOk (sig word : Nat) (crcOk : Bool) : Bool :=
  if (signalOf sig).words = [] then crcOk else (signalOf sig).words.contains word

/-- Length of a coherent interval, ms: 1 until bit synchronisation; then one data symbol, and on a pilot at most 20
(04 R76). -/
def cohMs (sig sv : Nat) (bitSync : Bool) : Nat :=
  if !bitSync then 1
  else
    let sym := if isD2 sig sv then 2 else (signalOf sig).symbolMs
    if (signalOf sig).pilot then min sym 20 else sym

/-- Decimated sample rate, kHz, and 4,096-point sections of a search (04, Acquisition). -/
def decKhz (g : Signal) : Nat := if g.chipKhz = 10230 then 20480 else 4096

def sections (g : Signal) : Nat := if g.chipKhz = 10230 then 5 else g.codeMs

/-- Code phases of a search at the decimated spacing. -/
def phases (g : Signal) : Nat := 4096 * sections g

/-! ### Rounding (04 R79) -/

/-- A quotient rounded to nearest, ties to even. -/
def roundDiv (v : Int) (d : Nat) : Int :=
  let q := v / d
  let r := v - q * d
  if 2 * r < d then q else if (d : Int) < 2 * r then q + 1 else if q % 2 = 0 then q else q + 1

/-- Right shift with rounding to nearest, ties to even. -/
def roundShift (v : Int) (k : Nat) : Int := roundDiv v (2 ^ k)


def maxMag (l : List Int) : Nat := l.foldl (fun m v => max m v.natAbs) 0

/-- Shift of a move into the measurement store (04 R81). -/
def storeShift (acc : List Int) : Nat := blen (maxMag acc) - 14

/-! ### The acquisition transform (04 R80) -/

/-- A block: the mantissas and the shared exponent. -/
abbrev FftBlock := List (Int × Int) × Nat

def blockMags (m : List (Int × Int)) : List Int := m.flatMap fun v => [v.1, v.2]

/-- Shift of a block before a pass. -/
def fftShift (m : List (Int × Int)) : Nat := blen (maxMag (blockMags m)) - 12

/-- Every mantissa shifted right by `k`, which is added to the exponent. -/
def blockShift (b : FftBlock) (k : Nat) : FftBlock := (b.1.map fun v => (roundShift v.1 k, roundShift v.2 k), b.2 + k)

/-- Complex product with a factor in 2^-15, rounded to 16 bits. -/
def mulRound (v w : Int × Int) (k : Nat) : Int × Int :=
  (roundShift (v.1 * w.1 - v.2 * w.2) k, roundShift (v.1 * w.2 + v.2 * w.1) k)

/-- Multiplication by a power of -i. -/
def quarter (v : Int × Int) (n : Nat) : Int × Int :=
  if n % 4 = 0 then v else if n % 4 = 1 then (v.2, -v.1) else if n % 4 = 2 then (-v.1, -v.2) else (-v.2, v.1)

/-- The twiddle factor of angle number `k`; of the inverse transform its conjugate. -/
def twiddleOf (inv : Bool) (k : Nat) : Int × Int :=
  let w := Config.twiddle (k % 4096)
  if inv then (w.1, -w.2) else w

/-- One radix-4 pass whose butterflies span 4 * `w` points, by decimation in frequency (DESIGN CHOICE, log 59). -/
def fftPass (inv : Bool) (w : Nat) (b : FftBlock) : FftBlock :=
  let b := blockShift b (fftShift b.1)
  ((List.range 4096).map fun i =>
    let g := i / (4 * w) * (4 * w)
    let r := i / w % 4
    let t := i % w
    let x := (List.range 4).foldl (fun (a : Int × Int) m =>
      let v := quarter (b.1.getD (g + t + m * w) (0, 0)) (if inv then (4 - m * r % 4) else m * r)
      (a.1 + v.1, a.2 + v.2)) (0, 0)
    mulRound x (twiddleOf inv (r * t * (1024 / w))) 15, b.2)

/-- Reversal of the six base-4 digits of an index. -/
def digitRev (i : Nat) : Nat := (List.range 6).foldl (fun a p => 4 * a + i / 4 ^ p % 4) 0

/-- The transform: six passes, and the outputs in natural order. -/
def fft (inv : Bool) (b : FftBlock) : FftBlock :=
  let b := [1024, 256, 64, 16, 4, 1].foldl (fun b w => fftPass inv w b) b
  ((List.range 4096).map fun i => b.1.getD (digitRev i) (0, 0), b.2)

/-- The product with the stored transform of the replica, its mantissas brought back to 16 bits. -/
def replicaProduct (sig sv sect : Nat) (b : FftBlock) : FftBlock :=
  let p := (listIdx b.1).map fun v => mulRound v.2 (Config.replica sig sv sect v.1) 15
  blockShift (p, b.2) (blen (maxMag (blockMags p)) - 15)

/-- One decimated block correlated with a section of the code. -/
def correlate (sig sv sect : Nat) (m : List (Int × Int)) : FftBlock :=
  fft true (replicaProduct sig sv sect (fft false ((List.range 4096).map fun i =>
    let v := m.getD i (0, 0)
    (satInt 16 v.1, satInt 16 v.2), 0)))

/-- Blocks summed non-coherently: aligned to the largest exponent, their squared magnitudes added (04 R80). -/
def sumBlocks (l : List FftBlock) : List Nat :=
  let e := l.foldl (fun e b => max e b.2) 0
  let al := l.map fun b => (blockShift b (e - b.2)).1
  (List.range 4096).map fun i => al.foldl (fun a m =>
    let v := m.getD i (0, 0)
    a + (v.1 * v.1 + v.2 * v.2).toNat) 0

/-! ### The detection statistic (04 R73) -/

/-- Distance of two code phases in decimated samples, round the code. -/
def phaseDist (g : Signal) (a b : Nat) : Nat :=
  let n := phases g
  let d := (a % n + n - b % n) % n
  min d (n - d)

/-- `d` decimated samples are at most, and are more than, `c` chips. -/
def withinChips (g : Signal) (d c : Nat) : Bool := d * g.chipKhz ≤ c * decKhz g

/-- A Doppler row: powers by code phase. -/
abbrev PowerRow := List (Nat × Nat)

/-- The phase and power of the peak of a row. -/
def rowPeak (r : PowerRow) : Nat × Nat := r.foldl (fun a v => if a.2 < v.2 then v else a) (0, 0)

/-- The ratio of power `p` at phase `at_` to the mean of the row's bins more than two chips from it reaches THRESH, in
0.25 dB; a ratio of nothing to nothing has no value: `z` (log 59). -/
def ratioReaches (g : Signal) (thresh : Nat) (z : Bool) (r : PowerRow) (at_ p : Nat) : Bool :=
  let far := r.filter fun v => !withinChips g (phaseDist g v.1 at_) 2
  let sum := far.foldl (fun a v => a + v.2) 0
  if p = 0 && sum = 0 then z else 10 ^ thresh * sum ^ 40 ≤ (p * far.length) ^ 40

/-! ### Time tags (04 R71) -/

/-- DT of the `n`-th sample after the last tag, 2^-16 ns: at the measured rate, that of the last 65,536 samples. -/
def sampleDt (x : GnPort) (n : Nat) : Int :=
  x.tagDt.toNat + roundDiv (n * ((x.tagDt.toNat : Int) - x.prevDt.toNat)) 65536

end Sys2Proof.Machine
end

