-- ==== Sys2Proof/Machine/Gnss.lean ====
section
/-! DEFINITION. Gnss.lean: the GNSS baseband, its measurement epochs, the time solution's state and the GNSS opcodes
(04 R68 to R93). Samples, correlator accumulators and what the solution's code finds are brought by the commands
(log 15). -/

namespace Sys2Proof.Machine

/-! ### Views (04 R89) -/

def gnTracked (s : State) : Nat := s.gn.chans.toList.countP fun c => c.state == .track

/-- GN_STATUS. -/
def gnStatus (s : State) : Nat :=
  bitsOf [(0, b2n s.gn.spa.fault), (1, b2n s.gn.spb.fault), (2, s.gn.mode.toNat), (4, b2n s.gn.solValid),
    (5, b2n s.gn.traim), (6, gnTracked s), (14, s.gn.usedCnt.toNat)]

/-- GN_SURVEY: minutes elapsed, and the target. With no survey running ELAPSED_MIN reads 0, where the spec states
nothing: the model's choice (log 15). -/
def gnSurvey (s : State) : Nat :=
  bitsOf [(0, if s.gn.mode = 1 then min 65535 ((s.tb.up - s.gn.surveyAt) / nsUp 60000000000) else 0),
    (16, s.gn.targetMin.toNat)]

def chanStateCode : ChanState → Nat
  | .free => 0
  | .pullIn => 1
  | .track => 2

/-- GN_CHAN_n: CN0 in 0.25 dB-Hz, saturating. The spec does not say how the 0.01 dB-Hz value is rounded to it: the model
drops the remainder, its choice (log 15). -/
def gnChanReg (c : GnChan) : Nat :=
  bitsOf [(0, c.sig.toNat), (8, c.sv.toNat), (16, chanStateCode c.state), (19, min 0x1FFF (c.cn0.toNat / 25))]

/-- GNSS_FAULT event (04 R93). -/
def gnEvent (s : State) (cause set : Nat) (sev : Byte) (residual : Nat) : State :=
  event s 0x0006 sev (layout 16 [(0, 1, cause), (1, 1, set), (4, 4, gnStatus s), (8, 4, residual),
    (12, 4, s.gn.epochSeq.toNat)])

/-! ### Ports (04 R69, R71) -/

def gnPort (s : State) : Port → GnPort
  | .spa => s.gn.spa
  | .spb => s.gn.spb

def modPort (s : State) (p : Port) (f : GnPort → GnPort) : State :=
  match p with
  | .spa => { s with gn := { s.gn with spa := f s.gn.spa } }
  | .spb => { s with gn := { s.gn with spb := f s.gn.spb } }

def portOf (sig : Nat) : Port := if sigOnSpb sig then .spb else .spa

def portCause : Port → Nat
  | .spa => 0
  | .spb => 1

/-- What the search list holds of a target: none where it is simply listed. -/
def targetState (s : State) (sig sv : Byte) : Option TargetState :=
  (s.gn.targets.find? fun t => t.sig == sig && t.sv == sv).map (·.state)

def setTarget (s : State) (sig sv : Byte) (st : Option TargetState) : State :=
  let rest := s.gn.targets.filter fun t => !(t.sig == sig && t.sv == sv)
  { s with gn := { s.gn with targets := match st with
    | none => rest
    | some x => ⟨sig, sv, x⟩ :: rest } }

/-- A Doppler in 2^-8 Hz as the nearest bin of 500 Hz (04 R73). -/
def doppBin (d : Int) : Int := roundDiv d 128000

/-- A code phase in 2^-16 chip as the nearest decimated sample. -/
def phaseSample (g : Signal) (ph : Nat) : Nat := (roundDiv (ph * decKhz g) (g.chipKhz * 65536)).toNat % phases g

/-- LOST: the channel is freed and its signal heads the list for 5 s, with its last state (04 R75). -/
def chanLost (s : State) (n : Nat) : State :=
  let c := vget s.gn.chans n GnChan.reset
  let s := setTarget s c.sig c.sv (some (.first (s.tb.up + nsUp 5000000000) (doppBin c.doppler.toInt)
    (phaseSample (signalOf c.sig.toNat) c.codePh)))
  { s with gn := { s.gn with chans := vmod s.gn.chans n fun _ => GnChan.reset } }

/-- The channels of a port in one of the states `ok` drop to LOST. -/
def dropPort (ok : ChanState → Bool) (s : State) (p : Port) : State :=
  (List.range 128).foldl (fun s n =>
    let c := vget s.gn.chans n GnChan.reset
    if ok c.state && portOf c.sig.toNat = p then chanLost s n else s) s

/-- Firmware has updated the GN block: GN_MIRROR_GEN is even again (04, Registers; log 15). -/
def gnMirror (s : State) : State := { s with gn := { s.gn with mirrorGen := s.gn.mirrorGen + 2 } }

/-- No edge for 1 us, or more than 100 ppm from the entered fs (04 R69). -/
def portFault (p : Port) (noEdge : Bool) (devPpm : Nat) (s : State) : State :=
  if !domainOn s 1 then s
  else if noEdge || (s.gn.cfg.fsHz != 0 && 100 < devPpm) then
    let was := (gnPort s p).fault
    let s := modPort s p fun x => { x with fault := true, badAt := s.tb.up }
    let s := gnMirror (dropPort (· == .track) s p)
    if was then s else gnEvent s (portCause p) 1 1 0
  else s

def execSamplePortFault (port : Port) (noEdge : Bool) (devPpm : Nat) (s : State) : Res :=
  live s (portFault port noEdge devPpm)

/-- The clock has been within limits for 100 ms (04 R69). -/
def portClear (p : Port) (s : State) : State :=
  let x := gnPort s p
  if domainOn s 1 && x.fault && s.gn.cfg.fsHz != 0 && since s x.badAt (nsUp 100000000) then
    gnEvent (gnMirror (modPort s p fun x => { x with fault := false })) (portCause p) 0 0 0
  else s

def execSamplePortFaultClear (port : Port) (s : State) : Res := live s (portClear port)

/-- The edge carrying every 65,536th sample latches DT (04 R71). -/
def timeTag (p : Port) (s : State) : State :=
  if s.gn.cfg.fsHz = 0 || !domainOn s 1 then s else modPort s p fun x => { x with
    tags := x.tags + 1
    tagDt := dt80 s
    prevDt := x.tagDt }

def execSampleTimeTag (port : Port) (s : State) : Res := live s (timeTag port)

/-! ### Satellites: navigation data, position, elevation (04 R78, R92; Acquisition) -/

/-- The newest data of `kind` for a satellite: decoded from the signals, else entered by OP_GNSS_ASSIST (04 R92). -/
def navWords (s : State) (kind : Byte) (sys : Nat) (sv : Byte) : Option Bytes :=
  match s.gn.nav.find? fun e => e.1.toNat = sys && e.2.kind == kind && e.2.sv == sv with
  | some e => some e.2.words
  | none => (s.gn.assists.reverse.find? fun a =>
      a.kind == kind && a.sys.toNat = sys && a.item.getD 0 0 == sv).map fun a => a.item.drop 4

/-- The last entered item of `kind`. -/
def lastAssist (s : State) (kind : Byte) : Option GnAssist := s.gn.assists.reverse.find? fun a => a.kind == kind

/-- The current position: stored, else solved in the survey, else entered to narrow the search. -/
def curPosition (s : State) : Option Position :=
  match s.gn.position, s.gn.fix with
  | some p, _ => some p
  | none, some p => some p
  | none, none => (lastAssist s 3).map fun a =>
      ⟨BitVec.ofNat 64 (fieldAt a.item 0 8), BitVec.ofNat 64 (fieldAt a.item 8 8), BitVec.ofNat 64 (fieldAt a.item 16 8)⟩

/-- The present time in ns: DT once valid, else from an entered TIME item. -/
def curTime (s : State) : Option Nat :=
  if s.tb.valid then some (dtNs s).toNat
  else (lastAssist s 4).map fun a => fieldAt a.item 0 8 + (s.tb.up - a.at_) / nsUp 1

/-- The elevation that navigation data give at the current position and time, in degrees (free, log 59). -/
def elevFrom (s : State) (sys : Nat) (w : Option Bytes) : Option Int :=
  match w, curPosition s, curTime s with
  | some w, some p, some t =>
    some (Config.elevation sys w p.x.toInt p.y.toInt p.z.toInt t % 181 - 90)
  | _, _, _ => none

/-- The elevation of a satellite from current ephemeris or almanac, where it can be computed (04 R78, R84). -/
def elevOf (s : State) (sig sv : Byte) : Option Int :=
  let sys := sigSys sig.toNat
  elevFrom s sys ((navWords s 2 sys sv).or (navWords s 1 sys sv))

/-- An almanac is held. -/
def almanacHeld (s : State) : Bool := s.gn.nav.any (fun e => e.2.kind == 1) || s.gn.assists.any (fun a => a.kind == 1)

/-- The search list holds the satellites that the almanac predicts above the mask; all where no position or almanac is
held, or none can be predicted yet (04, Acquisition; log 59). -/
def listed (s : State) (sig sv : Byte) : Bool :=
  if almanacHeld s && (curPosition s).isSome && (curTime s).isSome then
    (elevFrom s (sigSys sig.toNat) (navWords s 1 (sigSys sig.toNat) sv)).any fun e => (s.gn.cfg.elevMask.toNat : Int) < e
  else true

/-! ### Acquisition (04 R73 to R75, R78) -/

/-- Acquisition may use a signal: calibration's loopbacks are done, the signal enabled, its port running. -/
def sigUsable (s : State) (sig : Nat) : Bool :=
  domainOn s 1 && s.sec.loopDone && s.gn.cfg.fsHz != 0 && 1 ≤ sig && sig ≤ 13 && s.gn.cfg.sigEnable.getLsbD sig &&
    !(gnPort s (portOf sig)).fault

/-- A target that can be searched heads the list (04 R75). -/
def anyFirst (s : State) : Bool := s.gn.targets.any fun t => match t.state with
  | .first u _ _ => s.tb.up < u && sigUsable s t.sig.toNat
  | _ => false

/-- What a search covers: its Doppler bins, and where it is narrowed, a code phase (decimated samples) and the chips
round it. -/
structure Window where
  bins : List Int
  phase : Option (Nat × Nat)

/-- Bins `c - r` to `c + r`. -/
def binsAround (c : Int) (r : Nat) : List Int := (List.range (2 * r + 1)).map fun (i : Nat) => c - r + i

/-- The grid of a full search (04 R73). -/
def fullWindow (s : State) : Window := ⟨binsAround 0 (s.gn.cfg.doppRange.toNat / 500), none⟩

/-- The hand-over search of a signal from a channel that tracks another signal of the satellite: ±3 chips round the
predicted code phase, ±1 bin round the Doppler scaled by the ratio of the carriers (04 R74). -/
def handOver (s : State) (sig sv : Byte) : Option Window :=
  let b := signalOf sig.toNat
  (s.gn.chans.toList.find? fun c => c.state == .track && c.sv == sv && sigSys c.sig.toNat = sigSys sig.toNat &&
    c.sig != sig).map fun c =>
      let a := signalOf c.sig.toNat
      ⟨binsAround (doppBin (roundDiv (c.doppler.toInt * b.carrierKhz) a.carrierKhz)) 1,
        some (phaseSample b (c.codePh * b.chipKhz / a.chipKhz), 3)⟩

/-- Assistance narrows the search for a satellite: a position, a time or an ephemeris was entered (04 R92). -/
def aided (s : State) (sig sv : Byte) : Bool :=
  (lastAssist s 3).isSome || (lastAssist s 4).isSome || (navWords s 2 (sigSys sig.toNat) sv).isSome

/-- What the search of a target covers: round its last state (04 R75), by hand-over (R74), narrowed by assistance to a part
that the spec does not give (free, log 59), or the full grid (R73). -/
def searchWindow (s : State) (sig sv : Byte) : Window × State :=
  match targetState s sig sv with
  | some (.first _ b ph) => (⟨binsAround b 2, some (ph, 10)⟩, s)
  | _ =>
    match handOver s sig sv with
    | some w => (w, s)
    | none =>
      let full := fullWindow s
      if aided s sig sv then
        let (c, s) := takeFree s
        let (r, s) := takeFree s
        let (ph, s) := takeFree s
        let (ch, s) := takeFree s
        (⟨full.bins.filter fun b => (b - full.bins.getD (c % full.bins.length) 0).natAbs ≤ r, some (ph, ch)⟩, s)
      else (full, s)

/-- The Doppler row of one bin: the blocks' samples wiped off, decimated, correlated section by section with the code, and
summed over the K blocks; the phases a window covers (04 R73, R80; Acquisition). -/
def powerRow (s : State) (sig sv : Byte) (w : Window) (bin : Int) (blocks : BinSamples) : PowerRow :=
  let g := signalOf sig.toNat
  let fmt := if g.spb then s.gn.cfg.fmtSpb else s.gn.cfg.fmtSpa
  let ifHz := if g.spb then s.gn.cfg.ifSpb else s.gn.cfg.ifSpa
  let inv := s.gn.cfg.invert.getLsbD (if g.spb then 1 else 0)
  let smp := (blocks.take s.gn.cfg.k.toNat).map fun b => b.map (decodePins fmt.toNat)
  let row := (List.range (sections g)).flatMap fun q =>
    sumBlocks (smp.map fun b => correlate sig.toNat sv.toNat q
      (Config.decimate s.gn.cfg.fsHz.toNat ifHz.toInt inv (bin * 500) (decKhz g) q b))
  (listIdx row).filter fun v => match w.phase with
    | some (ph, c) => withinChips g (phaseDist g v.1 ph) c
    | none => true

/-- The candidate of a search: the peak of the first bin, from the lowest Doppler up, whose ratio reaches THRESH
(04 R73; log 59). -/
def candidate (s : State) (sig sv : Byte) (w : Window) (z : Bool) (bins : List BinSamples) : Option (Int × Nat) :=
  ((w.bins.zip bins).find? fun x =>
    let r := powerRow s sig sv w x.1 x.2
    ratioReaches (signalOf sig.toNat) s.gn.cfg.thresh.toNat z r (rowPeak r).1 (rowPeak r).2).map fun x =>
      (x.1, (rowPeak (powerRow s sig sv w x.1 x.2)).1)

/-- The search of target `i` (signal code times 256 plus satellite) ends; `bins` brings the samples taken for each bin of
its grid. A target that heads the list is searched before the others (04 R75). -/
def searchEnd (i : Nat) (bins : List BinSamples) (s : State) : State :=
  let sig := BitVec.ofNat 8 (i / 256)
  let sv := BitVec.ofNat 8 i
  let mayRun := match targetState s sig sv with
    | none => !anyFirst s
    | some (.first _ _ _) => true
    | _ => false
  if mayRun && sigUsable s sig.toNat && listed s sig sv then
    let (w, s) := searchWindow s sig sv
    let (z, s) := takeFree s
    setTarget s sig sv (some (match candidate s sig sv w (z % 2 = 1) bins with
      | some c => .verifying c.1 c.2
      | none => .excluded (s.tb.up + nsUp 10000000000)))
  else s

def execSearch (i : Nat) (bins : List BinSamples) (s : State) : Res := live s (searchEnd i bins)

/-- One re-test: the best of the 3 x 3 cells round the candidate reaches THRESH on fresh samples (04 R75). -/
def reTest (s : State) (sig sv : Byte) (bin : Int) (ph : Nat) (z : Bool) (t : List BinSamples) : Bool :=
  let g := signalOf sig.toNat
  let rows := ((binsAround bin 1).zip t).map fun x => powerRow s sig sv ⟨[], none⟩ x.1 x.2
  let cells := rows.map fun r => (r, rowPeak (r.filter fun v => phaseDist g v.1 ph ≤ 1))
  match cells.foldl (fun (a : Option (PowerRow × (Nat × Nat))) c => match a with
      | some b => if b.2.2 < c.2.2 then some c else a
      | none => some c) none with
  | some c => ratioReaches g s.gn.cfg.thresh.toNat z c.1 c.2.1 c.2.2
  | none => false

/-- The outcome of re-tests in order: true once M pass, false once more than N - M fail (04 R75). -/
def reTests (m n : Nat) : Nat → Nat → List Bool → Option Bool
  | _, _, [] => none
  | p, f, t :: r =>
    let p := if t then p + 1 else p
    let f := if t then f else f + 1
    if m ≤ p then some true else if n - m < f then some false else reTests m n p f r

/-- Eviction key (04 R78). -/
def evictKey (e : Option Int) : Int := e.getD (-91)

/-- Channel `a` yields before channel `b`: lower key, then lower latched C/N0, then higher number (04 R78). -/
def yieldsBefore (s : State) (a b : Nat × GnChan) : Bool :=
  let ka := evictKey (elevOf s a.2.sig a.2.sv); let kb := evictKey (elevOf s b.2.sig b.2.sv)
  ka < kb || (ka = kb && (a.2.cn0 < b.2.cn0 || (a.2.cn0 = b.2.cn0 && b.1 < a.1)))

def lowestChan (s : State) : List (Nat × GnChan) → Option (Nat × GnChan)
  | [] => none
  | a :: r =>
    match lowestChan s r with
    | none => some a
    | some b => some (if yieldsBefore s a b then a else b)

/-- A candidate occupies channel `n` in PULL_IN, with its Doppler and code phase. -/
def occupy (s : State) (n : Nat) (sig sv : Byte) (bin : Int) (ph : Nat) : State :=
  let g := signalOf sig.toNat
  let s := setTarget s sig sv (some .onChannel)
  gnMirror { s with gn := { s.gn with chans := vmod s.gn.chans n fun _ =>
      { GnChan.reset with
        state := .pullIn
        sig := sig
        sv := sv
        since := s.tb.up
        cohAt := s.tb.up
        doppler := BitVec.ofInt 32 (bin * 128000)
        codePh := ph * g.chipKhz * 65536 / decKhz g } } }

/-- A verified candidate takes a free channel (which one is a free value), evicts, or is declined (04 R75, R78). -/
def placeCandidate (s : State) (sig sv : Byte) (bin : Int) (ph : Nat) : State :=
  let idx := listIdx s.gn.chans.toList
  let free := idx.filter fun c => c.2.state == .free
  if free.length = 0 then
    match lowestChan s (idx.filter fun c => c.2.state == .track) with
    | some (n, c) =>
      if evictKey (elevOf s c.sig c.sv) + 2 ≤ evictKey (elevOf s sig sv) then
        let s := setTarget s c.sig c.sv none
        occupy { s with gn := { s.gn with evictCnt := s.gn.evictCnt + 1 } } n sig sv bin ph
      else setTarget s sig sv (some (.excluded (s.tb.up + nsUp 60000000000)))
    | none => setTarget s sig sv (some (.excluded (s.tb.up + nsUp 60000000000)))
  else
    let (f, s) := takeFree s
    occupy s ((free.map (·.1)).getD (f % free.length) 0) sig sv bin ph

/-- The re-tests of target `i` end; `tests` brings the fresh samples of each, by the three bins (04 R75). -/
def verifyEnd (i : Nat) (tests : List (List BinSamples)) (s : State) : State :=
  let sig := BitVec.ofNat 8 (i / 256)
  let sv := BitVec.ofNat 8 i
  match targetState s sig sv with
  | some (.verifying bin ph) =>
    if sigUsable s sig.toNat then
      let (z, s) := takeFree s
      match reTests s.gn.cfg.m.toNat s.gn.cfg.n.toNat 0 0 (tests.map (reTest s sig sv bin ph (z % 2 = 1))) with
      | some true => placeCandidate s sig sv bin ph
      | some false => setTarget s sig sv (some (.excluded (s.tb.up + nsUp 10000000000)))
      | none => s
    else s
  | _ => s

def execVerify (i : Nat) (tests : List (List BinSamples)) (s : State) : Res := live s (verifyEnd i tests)

/-- An exclusion or a place at the head of the list runs out (04 R75). -/
def listReturn (i : Nat) (s : State) : State :=
  let sig := BitVec.ofNat 8 (i / 256)
  let sv := BitVec.ofNat 8 i
  match targetState s sig sv with
  | some (.excluded t) => if t ≤ s.tb.up then setTarget s sig sv none else s
  | some (.first t _ _) => if t ≤ s.tb.up then setTarget s sig sv none else s
  | _ => s

def execSearchListReturn (i : Nat) (s : State) : Res := live s (listReturn i)

/-! ### Tracking channels (04 R75 to R77, R81, R82) -/

def gnChan (s : State) (n : Fin 128) : GnChan := s.gn.chans[n]

def modGnChan (s : State) (n : Fin 128) (f : GnChan → GnChan) : State :=
  { s with gn := { s.gn with chans := s.gn.chans.set n (f s.gn.chans[n]) } }

/-- Code lock came within 200 ms and carrier lock within 1 s: TRACK (04 R75). -/
def pullInLock (n : Fin 128) (s : State) : State :=
  let c := gnChan s n
  if c.state = .pullIn && c.codeBy && c.carrierBy then gnMirror (modGnChan s n fun c => { c with state := .track })
  else s

def execPullInLock (ch : Fin 128) (s : State) : Res := live s (pullInLock ch)

/-- No code lock in 200 ms or no carrier lock in 1 s: LOST (04 R75). -/
def pullInTimeout (n : Fin 128) (s : State) : State :=
  let c := gnChan s n
  if c.state = .pullIn && ((!c.codeBy && since s c.since (nsUp 200000000)) ||
      (!c.carrierBy && since s c.since (nsUp 1000000000))) then gnMirror (chanLost s n)
  else s

def execPullInTimeout (ch : Fin 128) (s : State) : Res := live s (pullInTimeout ch)

/-- Continuous C/N0 low for 1 s, or carrier lock lost for 2 s: LOST (04 R75). -/
def trackLoss (n : Fin 128) (s : State) : State :=
  let c := gnChan s n
  if c.state = .track && (sinceOpt s c.lowSince (nsUp 1000000000) || sinceOpt s c.unlockedSince (nsUp 2000000000)) then
    gnMirror (chanLost s n)
  else s

def execTrackLoss (ch : Fin 128) (s : State) : Res := live s (trackLoss ch)

/-- Keep the start of a condition that holds, or forget it. -/
def keepSince (s : State) (holds : Bool) (t : Option Nat) : Option Nat := if holds then some (t.getD s.tb.up) else none

/-- The sum of (I^2 - Q^2)/(I^2 + Q^2) over the points, as numerator and denominator; a point of no power has no value:
`z`, -1, 0 or 1 (log 59). -/
def pliSum (z : Int) (h : List CorrPoint) : Int × Int :=
  h.foldl (fun a p =>
    let d := p.ip * p.ip + p.qp * p.qp
    if d = 0 then (a.1 + z * a.2, a.2) else (a.1 * d + (p.ip * p.ip - p.qp * p.qp) * a.2, a.2 * d)) (0, 1)

/-- The phase-lock indicator over 100 ms is at least 0.8 (04 R77). -/
def pliLocked (z : Int) (h : List CorrPoint) : Bool :=
  let m := pliSum z h
  !h.isEmpty && 4 * (h.length : Int) * m.2 ≤ 5 * m.1

/-- Prompt and noise power over the last 20 coherent intervals (04, C/N0). -/
def corrPower (h : List CorrPoint) : Nat × Nat :=
  (h.take 20).foldl (fun a p => (a.1 + (p.ip * p.ip + p.qp * p.qp).toNat, a.2 + (p.inz * p.inz + p.qnz * p.qnz).toNat)) (0, 0)

/-- The history of a channel with the interval that ends: 100 ms, and at least 20 intervals. -/
def keepHist (s : State) (c : GnChan) (p : CorrPoint) : List CorrPoint :=
  let h := p :: c.hist
  h.take (max 20 (h.countP fun x => s.tb.up < x.at_ + nsUp 100000000))

/-- A coherent interval ends (04 R76, R77, R81): the twelve accumulators, I and Q of VE, E, P, L, VL and N, saturate and
move to the measurement store by one shift; scaled by it they give the phase-lock indicator, the continuous C/N0 and the
loops' updates, the FLL in PULL_IN until carrier lock and the PLL after it. -/
def coherentEnd (n : Fin 128) (acc : List Int) (bitSync : Bool) (s : State) : State :=
  let c := gnChan s n
  let len := cohMs c.sig.toNat c.sv.toNat c.bitSync
  if c.state = .free || !since s c.cohAt (msUp len) then s
  else
    let acc := (acc.take 12).map (satInt 32)
    let k := storeShift acc
    let store := acc.map fun v => roundShift v k
    let val (i : Nat) : Int := store.getD i 0 * (2 ^ k : Nat)
    let h := keepHist s c ⟨s.tb.up, val 4, val 5, val 10, val 11⟩
    let near := h.filter fun x => s.tb.up < x.at_ + nsUp 100000000
    let (f, s) := if near.any (fun p => p.ip == 0 && p.qp == 0) then takeFree s else (0, s)
    let cn0 := Config.cn0Est (corrPower h).1 (corrPower h).2 len
    let car := pliLocked ((f % 3 : Nat) - 1) near
    let d := Config.loopStep c.carrierLock s.gn.cfg.pllBw.toNat s.gn.cfg.dllBw.toNat s.gn.cfg.spacing.toNat
      (store.map fun v => v * (2 ^ k : Nat))
    let g := signalOf c.sig.toNat
    modGnChan s n fun c => { c with
      store := store
      scale := BitVec.ofNat 8 k
      hist := h
      cohAt := s.tb.up
      cn0Now := cn0
      codeLock := 2200 ≤ cn0
      carrierLock := car
      codeBy := c.codeBy || (2200 ≤ cn0 && s.tb.up ≤ c.since + nsUp 200000000)
      carrierBy := c.carrierBy || (car && s.tb.up ≤ c.since + nsUp 1000000000)
      bitSync := c.bitSync || bitSync
      codePh := ((c.codePh + d.1) % (g.chipKhz * g.codeMs * 65536 : Nat)).toNat
      doppler := c.doppler + BitVec.ofInt 32 d.2
      lowSince := keepSince s (cn0 < 2000) c.lowSince
      unlockedSince := keepSince s (!car) c.unlockedSince
      lockedSince := keepSince s car c.lockedSince }

def execCoherentIntervalEnd (ch : Fin 128) (acc : List Int) (bitSync : Bool) (s : State) : Res :=
  live s (coherentEnd ch acc bitSync)

/-- Data that a channel has decoded take the place of what was held of that satellite (04 R92). -/
def takeNav (sys : Byte) (s : State) (d : NavData) : State :=
  { s with gn := { s.gn with
    nav := (sys, d) :: s.gn.nav.filter fun e => !(e.1 == sys && e.2.kind == d.kind && e.2.sv == d.sv) } }

/-- A verified sync event latches the reported C/N0 (04 R72, R82); with the time of week the transmit time is known. -/
def syncVerified (n : Fin 128) (word : Nat) (crcOk tow : Bool) (nav : List NavData) (s : State) : State :=
  let c := gnChan s n
  if c.state = .track && syncOk c.sig.toNat word crcOk then
    gnMirror (modGnChan (nav.foldl (takeNav (BitVec.ofNat 8 (sigSys c.sig.toNat))) s) n fun c => { c with
      cn0 := BitVec.ofNat 16 (min 65535 c.cn0Now)
      cn0Valid := true
      lastSync := s.tb.up
      prValid := c.prValid || tow })
  else s

def execSyncEventVerified (ch : Fin 128) (word : Nat) (crcOk towKnown : Bool) (nav : List NavData) (s : State) : Res :=
  live s (syncVerified ch word crcOk towKnown nav)

/-- Three sync intervals without a verified event (04 R82). -/
def cn0Expire (n : Fin 128) (s : State) : State :=
  let c := gnChan s n
  if c.cn0Valid && since s c.lastSync (msUp (3 * syncMs c.sig.toNat c.sv.toNat)) then
    gnMirror (modGnChan s n fun c => { c with cn0Valid := false, cn0 := 0 })
  else s

def execCn0Expire (ch : Fin 128) (s : State) : Res := live s (cn0Expire ch)

/-! ### Epochs and the solution (04 R83 to R88) -/

/-- The measurement record of channel `n` (04 R84). -/
def measRecord (s : State) (n : Nat) (c : GnChan) : Bytes :=
  let flags := bitsOf [(0, b2n c.codeLock), (1, b2n c.carrierLock), (2, b2n c.prValid), (3, b2n c.halfOk),
    (4, b2n c.slip), (5, b2n c.cn0Valid), (6, b2n c.used), (7, b2n c.excluded)]
  let lock := match c.lockedSince with
    | some t => min 0xFFFFFFFF ((s.tb.up - t) / nsUp 1000000)
    | none => 0
  layout 32 [(0, 1, c.sig.toNat), (1, 1, c.sv.toNat), (2, 1, n), (3, 1, flags), (4, 2, c.cn0.toNat),
    (6, 1, ofSigned 1 ((elevOf s c.sig c.sv).getD (-128))), (7, 1, c.scale.toNat), (8, 8, c.pr.toNat), (16, 8, c.cp.toNat),
    (24, 4, c.doppler.toNat), (28, 4, lock)]

/-- The epoch message: header and one record for each channel in TRACK, in channel order (04 R83, R84). -/
def epochMsg (s : State) : Bytes :=
  let tr := (listIdx s.gn.chans.toList).filter fun c => c.2.state == .track
  let flags := bitsOf [(0, b2n s.gn.solValid), (1, s.gn.mode.toNat), (3, b2n s.gn.traim)]
  layout 32 [(0, 2, 0x4E47), (2, 1, tr.length), (3, 1, flags), (4, 4, s.gn.epochSeq.toNat), (8, 8, (dtNs s).toNat),
    (18, 2, s.gn.cfg.intervalMs.toNat), (20, 4, s.gn.solOffsetPs.toNat), (24, 4, s.gn.solUncPs.toNat)]
    ++ (tr.map fun c => measRecord s c.1 c.2).flatten

/-- SOL_VALID (04 R86). -/
def solOk (mode : Nat) (used : Nat) (sol : SolInput) : Bool :=
  if mode = 1 then 4 ≤ used && sol.pdop100 ≤ 600 && !sol.traim
  else if mode = 2 then (if sol.canExclude then 3 ≤ used else 1 ≤ used) && !sol.traim
  else false

/-- 2^-16 ns as a distance in 2^-16 m at the speed of light, times `den`. -/
def lightDist (num : Int) (den : Nat) : Int := roundDiv (num * 299792458) (1000000000 * den)

/-- The pseudorange of a channel against the epoch's DT: DT of the sample less its transmit time, carried to the epoch by
the channel's Doppler (04 R71, R83, R84). -/
def pseudorange (s : State) (c : GnChan) (r : RecInput) : Int :=
  let ts := sampleDt (gnPort s (portOf c.sig.toNat)) r.sample
  let den := 256000 * (signalOf c.sig.toNat).carrierKhz
  lightDist ((ts - r.tx) * den - ((dt80 s).toNat - ts) * c.doppler.toInt) den

/-- A channel's values of this epoch. -/
def takeRec (s : State) (r : RecInput) : State :=
  { s with gn := { s.gn with chans := vmod s.gn.chans r.chan fun c =>
    if c.state = .track then
      { c with
        pr := BitVec.ofInt 64 (pseudorange s c r)
        cp := r.cp
        halfOk := r.halfOk
        slip := r.slip
        used := false
        excluded := false }
    else c } }

/-- A pseudorange less GNSS_IFB and FE_IFB where it came by SPB (04, Time solution). -/
def prLessIfb (s : State) (c : GnChan) : Int :=
  let ifb : Int := if sigOnSpb c.sig.toNat then (calItem s 2).value.toInt + s.gn.cfg.feIfb.toInt else 0
  c.pr.toNat - lightDist (ifb * 256) 1

/-- The pseudorange the solution uses: free of the ionosphere by the dual-frequency combination where both ports track the
satellite, else by the broadcast model (04, Time solution). -/
def prSolved (s : State) (c : GnChan) (r : RecInput) : Int :=
  let a := prLessIfb s c
  match s.gn.chans.toList.find? fun o => o.state == .track && o.prValid && o.sv == c.sv &&
      sigSys o.sig.toNat = sigSys c.sig.toNat && sigOnSpb o.sig.toNat != sigOnSpb c.sig.toNat with
  | some o =>
    let f : Int := (signalOf c.sig.toNat).carrierKhz; let g : Int := (signalOf o.sig.toNat).carrierKhz
    let v := f * f * a - g * g * prLessIfb s o
    let d := f * f - g * g
    roundDiv (if d < 0 then -v else v) d.natAbs
  | none => a - r.iono

/-- T-RAIM: a pseudorange whose residual exceeds 5 sigma is excluded, another is used; the squared residuals of those used
are summed for the check of the first 60 s of Hold (04, Time solution, R87). -/
def takeResidual (s : State) (r : RecInput) : State :=
  let c := vget s.gn.chans r.chan GnChan.reset
  match r.pred with
  | some p =>
    if c.state = .track && c.prValid then
      let res := (prSolved s c r - p).natAbs
      let out : Bool := 5 * r.sigma < res
      let s := { s with gn := { s.gn with chans := vmod s.gn.chans r.chan fun c => { c with used := !out, excluded := out } } }
      if !out && s.gn.mode = 2 && s.gn.holdCheck && !sinceOpt s s.gn.holdAt (nsUp 60000000000) then
        { s with gn := { s.gn with resSq := s.gn.resSq + res * res, resCnt := s.gn.resCnt + 1 } }
      else s
    else s
  | none => s

/-- The fixed offset of the system time named by REF_SYS from TAI, seconds (04 R88). -/
def fixedOffset (s : State) : Nat := if s.gn.cfg.refSys = 2 then 33 else 19

/-- DT minus (reference system time + fixed offset), ANT_DELAY taken from the solved time, 2^-32 ns (04 R88). -/
def solOffset (s : State) (sol : SolInput) : Int :=
  (s.tb.count.toNat : Int) - ((sol.sysTime : Int) - s.gn.cfg.antDelay.toNat * (2 ^ 24 : Nat) + nsUp (fixedOffset s * 1000000000))

/-- A survey averages the positions of its valid solutions (04 R86). -/
def takePosition (sol : SolInput) (s : State) : State :=
  if s.gn.mode = 1 && s.gn.solValid then
    let p := s.gn.posSum
    { s with gn := { s.gn with
      posSum := (p.1 + sol.x, p.2.1 + sol.y, p.2.2 + sol.z)
      posCnt := s.gn.posCnt + 1
      fix := some ⟨BitVec.ofInt 64 sol.x, BitVec.ofInt 64 sol.y, BitVec.ofInt 64 sol.z⟩ } }
  else s

/-- The solution's time goes to the timebase unit (02 R30, R37; 04 R88). -/
def solToTime (sol : SolInput) (s : State) : State :=
  let tb := s.tb
  let tb := if s.gn.solValid then
      { tb with gnssOff := solOffset s sol, solValidSince := some (tb.solValidSince.getD tb.up), solInvalidSince := none }
    else { tb with solValidSince := none, solInvalidSince := some (tb.solInvalidSince.getD tb.up) }
  let utc := match sol.taiUtc with
    | some v => { tb.utc with seconds := v, fromNav := true }
    | none => tb.utc
  let utc := match sol.leap with
    | some (d, t) => if d = 1 || d = 3 then { utc with pending := true, nextDelta := d, leapAt := t } else utc
    | none => utc
  let s := { s with tb := { tb with utc := utc } }
  if s.gn.solValid then disciplined .gnss s else s

/-- The epoch's DT: a whole multiple of the interval, taken once (04 R83). -/
def epochDue (s : State) : Bool :=
  domainOn s 1 && s.gn.cfg.intervalMs != 0 && (dtNs s).toNat % (s.gn.cfg.intervalMs.toNat * 1000000) = 0 &&
    fieldAt s.gn.epoch 8 8 != (dtNs s).toNat

/-- The epoch: records, solution, TB_UTC_OFFSET, ring, mirror and events (04 R83 to R88, R93). -/
def measEpoch (sol : SolInput) (recs : List RecInput) : State → State := timeStep fun s =>
  if !epochDue s then s
  else
    let s := recs.foldl takeResidual (recs.foldl takeRec s)
    let used := s.gn.chans.toList.countP fun c => c.state == .track && c.used
    let was := s.gn.solValid
    let wasT := s.gn.traim
    let s := { s with gn := { s.gn with
      usedCnt := BitVec.ofNat 8 used
      traim := sol.traim
      solValid := solOk s.gn.mode.toNat used sol
      solOffsetPs := BitVec.ofInt 32 (satInt 32 (roundDiv (solOffset s sol * 1000) (2 ^ 32)))
      solUncPs := sol.uncPs
      epochSeq := s.gn.epochSeq + 1 } }
    let s := solToTime sol (takePosition sol s)
    let msg := epochMsg s
    let s := match s.gn.ring with
      | some r =>
        let s := hostWrite s (r.addr.toNat + 8192 * (s.gn.epochSeq.toNat % 2 ^ r.log2)) msg false 0xFF
        let s := { s with gn := { s.gn with measSeq := s.gn.epochSeq } }
        if r.irq then msix s r.vector.toNat else s
      | none => s
    let s := gnMirror { s with gn := { s.gn with epoch := msg } }
    let s := if sol.traim = wasT then s else gnEvent s 2 (b2n sol.traim) (if sol.traim then 1 else 0) 0
    if s.gn.solValid = was then s else gnEvent s 3 (b2n s.gn.solValid) (if s.gn.solValid then 0 else 1) 0

def execMeasurementEpoch (sol : SolInput) (recs : List RecInput) (s : State) : Res := live s (measEpoch sol recs)

/-- The average of the survey's positions, to the nearest mm; of a survey that solved none it has no value (free,
log 15). -/
def surveyMean (s : State) : Position × State :=
  if s.gn.posCnt = 0 then
    let (x, s) := takeFree s
    let (y, s) := takeFree s
    let (z, s) := takeFree s
    (⟨BitVec.ofNat 64 x, BitVec.ofNat 64 y, BitVec.ofNat 64 z⟩, s)
  else
    let p := s.gn.posSum
    let m (v : Int) : Dword := BitVec.ofInt 64 (roundDiv v s.gn.posCnt)
    (⟨m p.1, m p.2.1, m p.2.2⟩, s)

/-- Hold begins with the position `p`; the residuals of its first 60 s are checked where `check`. -/
def startHold (s : State) (p : Position) (entered check : Bool) : State :=
  gnMirror { s with gn := { s.gn with
    position := some p
    entered := entered
    mode := 2
    holdAt := some s.tb.up
    holdCheck := check
    fix := none
    resSq := 0
    resCnt := 0 } }

/-- The survey has run its time: the averaged position is stored and Hold entered (04 R87). That the residual check of R87,
which it states at power-up, follows here too is the model's choice (log 15). -/
def surveyComplete (s : State) : State :=
  if s.gn.mode = 1 && since s s.gn.surveyAt (nsUp (60000000000 * s.gn.targetMin.toNat)) then
    let (p, s) := surveyMean s
    gnEvent (norWrite (startHold s p false true) 2) 5 0 0 0
  else s

def execSurveyComplete (s : State) : Res := live s surveyComplete

def startSurvey (s : State) (min_ : Nat) : State :=
  gnMirror { s with gn := { s.gn with
    position := none
    entered := false
    mode := 1
    surveyAt := s.tb.up
    targetMin := BitVec.ofNat 16 min_
    holdAt := none
    holdCheck := false
    posSum := (0, 0, 0)
    posCnt := 0
    fix := none } }

/-- The RMS residual of the first 60 s in cm; with no residual it has no value (free, log 15). -/
def rmsCm (s : State) : Nat × State :=
  if s.gn.resCnt = 0 then takeFree s else (isqrt (s.gn.resSq * 10000 / (s.gn.resCnt * 2 ^ 32)), s)

/-- It exceeds 30 m. -/
def rmsOver (s : State) (cm : Nat) : Bool :=
  if s.gn.resCnt = 0 then 3000 < cm else 900 * 2 ^ 32 * s.gn.resCnt < s.gn.resSq

/-- After 60 s in Hold, an RMS residual above 30 m discards the stored position and starts a survey (04 R87). -/
def holdResidual (s : State) : State :=
  if s.gn.mode = 2 && s.gn.holdCheck && sinceOpt s s.gn.holdAt (nsUp 60000000000) then
    let (cm, s) := rmsCm s
    if rmsOver s cm then
      gnEvent (norWrite (startSurvey s (60 * s.gn.cfg.surveyH.toNat)) 2) 4 0 1 cm
    else { s with gn := { s.gn with holdCheck := false } }
  else s

def execHoldResidualCheck (s : State) : Res := live s holdResidual

/-! ### The GNSS opcodes (04 R90 to R92) -/

/-- The parameters in the request layout (04 R91). -/
def gnConfigBytes (c : GnConfig) : Bytes :=
  layout 40 [(0, 4, c.fsHz.toNat), (4, 1, c.fmtSpa.toNat), (5, 1, c.fmtSpb.toNat), (6, 1, c.invert.toNat),
    (7, 1, c.elevMask.toNat), (8, 4, c.ifSpa.toNat), (12, 4, c.ifSpb.toNat), (16, 2, c.sigEnable.toNat),
    (18, 2, c.doppRange.toNat), (20, 1, c.k.toNat), (21, 1, c.thresh.toNat), (22, 1, c.m.toNat), (23, 1, c.n.toNat),
    (24, 1, c.spacing.toNat), (25, 1, c.pllBw.toNat), (26, 1, c.dllBw.toNat), (27, 1, c.refSys.toNat),
    (28, 2, c.intervalMs.toNat), (30, 1, c.surveyH.toNat), (32, 4, c.feIfb.toNat), (36, 4, c.antDelay.toNat)]

def gnConfigResp (_ : CmdHeld) (s : State) : Bytes := gnConfigBytes s.gn.cfg

/-- The window of a port lies in the usable band: twice the distances, times 10 (04 R70). -/
def ifInBand (fs : Nat) (fmt : Nat) (ifHz : Int) (width : Nat) : Bool :=
  let lo := 20 * ifHz - 10 * (width : Int)
  let hi := 20 * ifHz + 10 * (width : Int)
  if fmt < 2 then (fs : Int) ≤ lo && hi ≤ 9 * (fs : Int) else -(9 * (fs : Int)) ≤ lo && hi ≤ 9 * (fs : Int)

/-- The ranges of 04 R90. -/
def gnConfigChk (k : CmdHeld) : Chk :=
  if k.payload = [] then {}
  else
    let fs := k.f 0 4
    let range (off n lo hi : Nat) : Bool × Nat := bad (!(lo ≤ k.f off n && k.f off n ≤ hi)) off
    { param :=
        [bad (fs != 0 && !(40000000 ≤ fs && fs ≤ 106000000)) 0, range 4 1 0 3, range 5 1 0 3, range 6 1 0 3,
         range 7 1 0 30,
         bad (fs != 0 && !ifInBand fs (k.f 4 1) (toSigned 32 (k.f 8 4)) 33000000) 0,
         bad (fs != 0 && !ifInBand fs (k.f 5 1) (toSigned 32 (k.f 12 4)) 25000000) 0,
         bad (k.f 16 2 % 2 = 1 || 0x4000 ≤ k.f 16 2) 16,
         bad (!(1000 ≤ k.f 18 2 && k.f 18 2 ≤ 10000 && k.f 18 2 % 500 = 0)) 18, range 20 1 1 64, range 21 1 32 96,
         bad (!(1 ≤ k.f 22 1 && k.f 22 1 ≤ k.f 23 1)) 22, range 23 1 1 8, range 24 1 1 20, range 25 1 2 30,
         range 26 1 1 40, range 27 1 0 2,
         bad (!([1, 2, 5, 10, 20, 50, 100, 200, 500, 1000].contains (k.f 28 2))) 28, range 30 1 1 168,
         bad (12800 < (toSigned 32 (k.f 32 4)).natAbs) 32, range 36 4 0 2560000] ++ k.rsv 31 32 }

def gnConfigEff (k : CmdHeld) (s : State) : State :=
  if k.payload = [] then s
  else
    let old := s.gn.cfg
    let b (off n w : Nat) : BitVec w := BitVec.ofNat w (k.f off n)
    let new : GnConfig :=
      { fsHz := b 0 4 32, fmtSpa := b 4 1 8, fmtSpb := b 5 1 8, invert := b 6 1 8, elevMask := b 7 1 8,
        ifSpa := b 8 4 32, ifSpb := b 12 4 32, sigEnable := b 16 2 16, doppRange := b 18 2 16, k := b 20 1 8,
        thresh := b 21 1 8, m := b 22 1 8, n := b 23 1 8, spacing := b 24 1 8, pllBw := b 25 1 8, dllBw := b 26 1 8,
        refSys := b 27 1 8, intervalMs := b 28 2 16, surveyH := b 30 1 8, feIfb := b 32 4 32, antDelay := b 36 4 32 }
    let s := { s with gn := { s.gn with
      cfg := new
      targetMin := BitVec.ofNat 16 (60 * new.surveyH.toNat) } }
    let held (c : ChanState) : Bool := c != .free
    let s := if new.fsHz != old.fsHz || new.fmtSpa != old.fmtSpa then dropPort held s .spa else s
    gnMirror (if new.fsHz != old.fsHz || new.fmtSpb != old.fmtSpb then dropPort held s .spb else s)

def execOpGnssConfig (c : Chan) (s : State) : Res :=
  live s fun s => plainOp s c 0x0201 gnConfigChk gnConfigResp gnConfigEff

/-- OP_GNSS_SURVEY (04 R91). -/
def gnSurveyEff (k : CmdHeld) (s : State) : State :=
  let h := if k.f 0 1 = 0 then s.gn.cfg.surveyH.toNat else k.f 0 1
  norWrite (startSurvey s (60 * h)) 2

def execOpGnssSurvey (c : Chan) (s : State) : Res :=
  live s fun s => plainOp s c 0x0202 (fun k => { param := bad (168 < k.f 0 1) 0 :: k.rsv 1 4 }) noResp gnSurveyEff

/-- OP_GNSS_POSITION (04 R91): stored, and Hold entered; an entered position is not checked (04 R87). -/
def gnPositionEff (k : CmdHeld) (s : State) : State :=
  let b (off : Nat) : Dword := BitVec.ofNat 64 (k.f off 8)
  norWrite (startHold s ⟨b 0, b 8, b 16⟩ true false) 2

def execOpGnssPosition (c : Chan) (s : State) : Res :=
  live s fun s => plainOp s c 0x0203 (fun _ => {}) noResp gnPositionEff

/-- OP_GNSS_STREAM (04 R85, R91); with ADDR 0 the slot count is not looked at (log 15). -/
def gnStreamChk (k : CmdHeld) : Chk :=
  { param := [bad (k.f 0 8 % 8192 != 0) 0, bad (k.f 0 8 != 0 && !(2 ≤ k.f 8 1 && k.f 8 1 ≤ 12)) 8,
      bad (1 < k.f 9 1) 9] ++ k.rsv 11 16 }

/-- EPOCH_SEQ, 'the last epoch written before the command' (04 R91): whether the last produced or the last written to a
ring the spec leaves open; the model answers the last produced (log 15). -/
def gnStreamResp (_ : CmdHeld) (s : State) : Bytes := leBytes 4 s.gn.epochSeq.toNat

def gnStreamEff (k : CmdHeld) (s : State) : State :=
  { s with gn := { s.gn with
    ring :=
      if k.f 0 8 = 0 then none
      else some ⟨BitVec.ofNat 64 (k.f 0 8), k.f 8 1, k.f 9 1 = 1, BitVec.ofNat 8 (k.f 10 1)⟩ } }

def execOpGnssStream (c : Chan) (s : State) : Res :=
  live s fun s => plainOp s c 0x0204 gnStreamChk gnStreamResp gnStreamEff

/-- Item lengths (04 R91): those of ALMANAC and EPHEMERIS follow each system's own format, which the spec does not
give, so any that holds a word passes (log 15). -/
def assistLenOk (kind len : Nat) : Bool :=
  if kind ≤ 2 then 5 ≤ len else if kind = 3 then len = 28 else if kind = 4 then len = 12 else len = 2

def gnAssistChk (k : CmdHeld) : Chk :=
  { param := [bad (!(1 ≤ k.f 0 1 && k.f 0 1 ≤ 5)) 0, bad (5 < k.f 1 1) 1,
      bad (1 ≤ k.f 0 1 && k.f 0 1 ≤ 5 && !assistLenOk (k.f 0 1) (k.f 4 2)) 0] ++ k.rsv 6 16 ++
      (if k.f 0 1 ≤ 2 then (List.range (k.f 2 2)).flatMap fun i => k.rsv (17 + i * k.f 4 2) (20 + i * k.f 4 2) else []) }

/-- One item: `ok` is the outcome of its system's parity or CRC (04 R92). -/
def assistItem (k : CmdHeld) (ok : List Bool) (a : State × Nat) (i : Nat) : State × Nat :=
  let item := (k.payload.drop (16 + i * k.f 4 2)).take (k.f 4 2)
  let kind := k.f 0 1
  if kind ≤ 2 && !(ok.getD i false) then a
  else
    let s := a.1
    let s := if kind = 5 then
        { s with tb := { s.tb with utc := { s.tb.utc with seconds := BitVec.ofNat 16 (fieldAt item 0 2), fromNav := false } } }
      else s
    ({ s with gn := { s.gn with assists := s.gn.assists ++ [⟨BitVec.ofNat 8 kind, BitVec.ofNat 8 (k.f 1 1), item, s.tb.up⟩] } },
      a.2 + 1)

def gnAssistEff (ok : List Bool) (k : CmdHeld) (s : State) : Done :=
  let (s', n) := (List.range (k.f 2 2)).foldl (assistItem k ok) (s, 0)
  .ok (timeEvent s.tb s') (layout 4 [(0, 2, n), (2, 2, k.f 2 2 - n)])

def execOpGnssAssist (c : Chan) (ok : List Bool) (s : State) : Res :=
  live s fun s => runOp s c 0x0205 gnAssistChk (fun _ _ => zeros 4) (gnAssistEff ok)

end Sys2Proof.Machine
end

