-- ==== Sys2Proof/Machine/Links.lean ====
section
/-! DEFINITION. Links.lean: received flits, link-level replay, and the bring-up and loss of Ratline links (14 R329 to
R333, R351 to R354). -/

namespace Sys2Proof.Machine

/-! ### Link states (14 R352, R353) -/

/-- The SerDes domain of link `l` (01, Blocks at the die edge). -/
def linkDomain (l : Nat) : Nat := if l < 12 then 4 else 5

def linkStateCode : LinkState → Nat
  | .down => 0
  | .training => 1
  | .up => 2
  | .fault => 3

/-- LINK_STATE; severity 0 when the link is up, 1 otherwise (14 R354; log 36). -/
def linkEvent (s : State) (l cause : Nat) : State :=
  let k := linkOf s l
  event s 0x0004 (if k.state = .up then 0 else 1)
    (layout 16 [(0, 1, l), (1, 1, linkStateCode k.state), (2, 1, cause), (4, 2, k.peerChip.toNat), (6, 2, k.peerInc.toNat)])

/-- The credits of the flits that a packet took are owed to the link it came by (14 R332). -/
def owe (s : State) (p : Packet) : State :=
  match p.link with
  | none => s
  | some l => modLink s l fun k => { k with owed := vmod k.owed p.vc (· + p.flits) }

/-- Packets of the router that satisfy `f` are lost: their buffers are free again, and so are the credits reserved for what has
not left of them (log 60). -/
def losePackets (s : State) (f : Packet → Bool) : State :=
  let s := s.fab.router.foldl (fun s p =>
    if !f p then s
    else match p.out with
      | none => owe s p
      | some e => modLink (owe s p) e.link fun k => { k with credits := vmod k.credits e.vc (· + (flitCount p - e.sent)) }) s
  { s with fab := { s.fab with router := s.fab.router.filter fun p => !f p } }

/-- The packet is on its way in or out on the link. -/
def Packet.uses (l : Nat) (p : Packet) : Bool := (p.more && p.link == some l) || p.out.any fun e => e.link = l

/-- What the link carried is discarded, a packet part of which is still to come or has left among it; packets already whole
stay in the router with no credit to return (14 R331). -/
def clearLink (s : State) (l : Nat) : State :=
  let s := modLink (losePackets s (Packet.uses l)) l fun k => { k with
    txSeq := 0
    rxSeq := 0
    replay := []
    naks := 0
    nakSeq := 0
    credits := Vector.replicate 8 64
    owed := Vector.replicate 8 0
    ctrlDue := false
    partials := Vector.replicate 8 []
    partN := Vector.replicate 8 0
    frame := none
    chan := none
    retrain := false }
  let off (p : Packet) : Packet := if p.link == some l then { p with flits := 0 } else p
  { s with fab := { s.fab with router := s.fab.router.map off } }

/-- An OP_LINK_UP that trains link `l` ends. -/
def endTraining (s : State) (l status detail : Nat) (resp : Bytes) : State :=
  match (linkOf s l).chan with
  | some c => finishCmd s c status detail resp
  | none => s

/-- Link `l` goes down for a cause of 14 R354: a link that was up counts, FABRIC loses its upstream, and firmware raises
LINK_STATE; after a loss it retrains once. -/
def linkDown (s : State) (l cause : Nat) (retrain : Bool) : State :=
  let wasUp := (linkOf s l).state == .up
  let s := endTraining s l stBadState 0 (zeros 4)
  let s := modLink (clearLink s l) l fun x => { x with
    state := .down
    cause := BitVec.ofNat 8 cause
    downCount := x.downCount + (if wasUp then 1 else 0) }
  let s := linkEvent (fabLinkDown l s) l cause
  if retrain && wasUp && mpServes s then
    modLink s l fun x => { x with
      state := .training
      retrain := true
      trainAt := s.tb.up }
  else s

/-- The link is up with this peer; identity and LINK_D have been exchanged. -/
def linkGoesUp (s : State) (l : Nat) (chip inc : Half) (d : Word) : State :=
  let s := modLink (clearLink s l) l fun x => { x with
    state := .up
    peerChip := chip
    peerInc := inc
    peerLinkD := d }
  sendCtrl s l

/-- Training has failed: FAULT, cause 5. -/
def linkFault (s : State) (l : Nat) : State :=
  linkEvent (modLink (clearLink s l) l fun x => { x with
    state := .fault
    cause := 5 }) l 5

/-- The wrong peer was found: DOWN, cause 4. -/
def linkMismatch (s : State) (l : Nat) (chip inc : Half) : State :=
  linkEvent (modLink (clearLink s l) l fun x => { x with
    state := .down
    cause := 4
    peerChip := chip
    peerInc := inc }) l 4

def lossCode : LossCause → Nat
  | .signal => 1
  | .replayExhausted => 2
  | .serdesOff => 3
  | .peerReset => 1

/-- RATLINE_LINK_LOSS (14 R350, R353). -/
def execRatlineLinkLoss (l : Fin 24) (cause : LossCause) (s : State) : Res :=
  live s fun s => if (linkOf s l).state = .up then linkDown s l (lossCode cause) (cause != .serdesOff) else s

/-- RATLINE_LINK_RETRAIN_DONE (14 R353). -/
def execRatlineLinkRetrainDone (l : Fin 24) (r : TrainResult) (s : State) : Res :=
  live s fun s =>
    let k := linkOf s l
    if k.state != .training || !k.retrain then s
    else match r with
      | .failed => linkFault s l
      | .trained chip inc d =>
        if chip = k.peerChip && domainOn s (linkDomain l) then linkEvent (linkGoesUp s l chip inc d) l 6
        else linkMismatch s l chip inc

/-! ### OP_LINK_UP and LINK_TRAINING_END (14 R335, R352) -/

/-- A coordinate one step on. -/
def step1 (c size : Nat) (minus : Bool) : Nat := if minus then (c + size - 1) % size else (c + 1) % size

/-- The peer's ID is the one the route set expects on the link (14 R335, R352). -/
def peerExpected (s : State) (l : Nat) (chip : Half) : Bool :=
  if s.fab.topo = 3 then vget s.fab.peers l 0xFFFF = chip
  else if isTorus s then
    let d := linkDim s l
    let me := coordList s (myChip s)
    inTorus s (myChip s) && inTorus s chip &&
      coordList s chip = me.set d.1 (step1 (me.getD d.1 0) ((dimSizes s).getD d.1 1) d.2)
  else true

/-- OP_LINK_UP: training begins; LINK_TRAINING_END completes the command. -/
def execOpLinkUp (c : Chan) (s : State) : Res :=
  live s fun s => runOp s c 0x0702
    (fun k =>
      let x := linkOf s (k.f 0 1)
      { param := [bad (23 < k.f 0 1) 0] ++ k.rsv 1 4
        state := if s.fab.chipId.isNone || !(x.state = .down || x.state = .fault)
          || !domainOn s (linkDomain (k.f 0 1)) then some stBadState else none })
    (fun _ _ => zeros 4) fun k s =>
      if k.begun then .wait s
      else .wait (modLink s (k.f 0 1) fun x => { x with
        state := .training
        retrain := false
        chan := some c
        trainAt := s.tb.up })

/-- Training ended without success: FAULT, and the command ST_TIMEOUT. -/
def trainTimeout (s : State) (l : Nat) : State :=
  let ch := (linkOf s l).chan
  let s := linkFault s l
  match ch with
  | some c => finishCmd s c stTimeout 0 (zeros 4)
  | none => s

/-- The training a channel's OP_LINK_UP began stops with the command: the link is DOWN. -/
def trainStop (s : State) (c : Chan) : State :=
  (List.range 24).foldl (fun s l =>
    if (linkOf s l).chan == some c then modLink (clearLink s l) l fun x => { x with state := .down } else s) s

/-- LINK_TRAINING_END (14 R352). -/
def execLinkTrainingEnd (l : Fin 24) (r : TrainResult) (s : State) : Res :=
  live s fun s =>
    let k := linkOf s l
    match k.chan with
    | none => s
    | some c =>
      if k.state != .training || k.retrain then s
      else match r with
        | .failed => if since s k.trainAt (msUp 500) then trainTimeout s l else s
        | .trained chip inc d =>
          if peerExpected s l chip then
            finishCmd (linkGoesUp s l chip inc d) c stOk 0 (layout 4 [(0, 2, chip.toNat), (2, 2, inc.toNat)])
          else finishCmd (linkMismatch s l chip inc) c stBadState chip.toNat (zeros 4)

/-- OP_LINK_DOWN (14 R353). -/
def execOpLinkDown (c : Chan) (s : State) : Res :=
  live s fun s => plainOp s c 0x0703 (fun k => { param := [bad (23 < k.f 0 1) 0] ++ k.rsv 1 4 }) noResp fun k s =>
    let l := k.f 0 1
    let st := (linkOf s l).state
    if st = .up || st = .training then linkDown s l 0 false else modLink s l fun x => { x with state := .down }

/-! ### OP_CHIP_ID_SET, OP_ROUTE_SET, OP_REMOTE_TIMEOUT, OP_FABRIC_STATUS (14 R334, R335, R347, R354) -/

def linksBusy (s : State) : Bool := s.fab.links.any fun k => k.state = .up || k.state = .training

/-- OP_CHIP_ID_SET. -/
def execOpChipIdSet (c : Chan) (s : State) : Res :=
  live s fun s => plainOp s c 0x0701
    (fun k => {
      param := [bad (4095 < k.f 0 2) 0] ++ k.rsv 2 4
      state := if linksBusy s then some stBadState else none })
    noResp fun k s => { s with fab := { s.fab with chipId := some (BitVec.ofNat 12 (k.f 0 2)) } }

def peerAt (k : CmdHeld) (i : Nat) : Nat := k.f (16 + 2 * i) 2
def detourAt (k : CmdHeld) (i : Nat) : Nat := k.f (64 + 2 * i) 2

/-- Checks of a FULL route set; 0xFFFF names no peer. -/
def fullChk (s : State) (k : CmdHeld) : List (Bool × Nat) :=
  let ps := (List.range 24).map (peerAt k)
  bad (ps.all fun p => p = 0xFFFF) 16
    :: (List.range 24).map (fun i =>
        let p := peerAt k i
        bad (p != 0xFFFF && (4095 < p || (s.fab.chipId.isSome && p = (myChip s).toNat) || 1 < ps.count p)) (16 + 2 * i))
    ++ (List.range 24).map fun i => bad (detourAt k i != 0xFFFF && 4095 < detourAt k i) (64 + 2 * i)

def outside (d hi : Nat) : Bool := d = 0 || hi < d

/-- Checks of a torus. -/
def torusChk (k : CmdHeld) : List (Bool × Nat) :=
  let t := k.f 0 1
  let hi := if t = 1 then 16 else 64
  [bad (outside (k.f 1 1) hi) 1, bad (outside (k.f 2 1) hi) 2, bad (outside (k.f 3 1) (if t = 1 then 16 else 1)) 3,
   bad (4096 < k.f 1 1 * k.f 2 1 * k.f 3 1) 1]

/-- OP_ROUTE_SET. -/
def execOpRouteSet (c : Chan) (s : State) : Res :=
  live s fun s => plainOp s c 0x0704
    (fun k =>
      let t := k.f 0 1
      { param := [bad (3 < t) 0] ++ (if t = 1 || t = 2 then torusChk k else if t = 3 then fullChk s k else [])
          ++ k.rsv 4 16 })
    noResp fun k s =>
      let t := k.f 0 1
      let none_ : Vector Half 24 := Vector.replicate 24 0xFFFF
      let named (f : Nat → Nat) : Vector Half 24 := Vector.ofFn fun i => BitVec.ofNat 16 (f i.val)
      { s with fab := { s.fab with
        topo := BitVec.ofNat 8 t
        dims := if t = 1 || t = 2 then (k.f 1 1, k.f 2 1, k.f 3 1) else (1, 1, 1)
        peers := if t = 3 then named (peerAt k) else none_
        detours := if t = 3 then named (detourAt k) else none_ } }

/-- OP_REMOTE_TIMEOUT. -/
def execOpRemoteTimeout (c : Chan) (s : State) : Res :=
  live s fun s => runOp s c 0x0705
    (fun k => { param := [bad (2 < k.f 0 1) 0, bad (!(10 ≤ k.f 4 4 && k.f 4 4 ≤ 100000)) 4] ++ k.rsv 1 4 })
    (fun _ _ => zeros 4) fun k s =>
      let t : Byte := BitVec.ofNat 8 (k.f 0 1)
      let us := k.f 4 4
      let old := remoteUs s t
      let f :=
        if t = 0 then { s.fab with toLookupUs := us, longestUs := max s.fab.longestUs us }
        else if t = 1 then { s.fab with toDataUs := us }
        else { s.fab with toSignalUs := us }
      .ok { s with fab := f } (leBytes 4 old)

def linkStatus (k : Link) : Bytes :=
  layout 32 [(0, 1, linkStateCode k.state), (1, 1, k.cause.toNat), (2, 2, k.peerChip.toNat), (4, 2, k.peerInc.toNat),
    (8, 8, k.fecCorr.toNat), (16, 4, k.replays.toNat), (20, 4, k.downCount.toNat), (24, 4, k.tsFail.toNat)]

/-- OP_FABRIC_STATUS response. -/
def fabricResp (s : State) : Bytes :=
  layout 16 [(0, 2, (myChip s).toNat), (2, 2, s.fab.inc.toNat), (4, 1, s.fab.topo.toNat),
    (5, 1, b2n s.fab.chipId.isSome), (8, 4, s.fab.routeDrop.toNat), (12, 4, s.fab.staleIn.toNat)]
  ++ (s.fab.links.toList.map linkStatus).flatten

/-- OP_FABRIC_STATUS. -/
def execOpFabricStatus (c : Chan) (s : State) : Res :=
  live s fun s => plainOp s c 0x0706 (fun _ => {}) (fun _ s => fabricResp s) fun _ s => s

/-! ### Received flits (14 R329, R330, R332, R351) -/

/-- Sequence number `a` is at or before `b`. -/
def seqLe (a b : Half) : Bool := (b - a).toNat < 32768

/-- Credits of a CRED_VC and CRED pair. -/
def takeCred (v n : Nat) (k : Link) : Link :=
  if bitAt v 3 then { k with credits := vmod k.credits (v % 8) (· + n) } else k

/-- The header of a flit that passed its CRC: acknowledgement and credits. -/
def takeHeader (s : State) (l : Nat) (f : Bytes) : State :=
  let ack : Half := BitVec.ofNat 16 (fieldAt f 4 2)
  let s := modLink s l fun k =>
    let k := takeCred (fieldAt f 6 1) (fieldAt f 7 1) (takeCred (fieldAt f 8 1) (fieldAt f 9 1) k)
    let rest := k.replay.filter fun r => !seqLe r.1 ack
    { k with
      replay := rest
      naks := if rest.length < k.replay.length then 0 else k.naks }
  if (linkOf s l).ctrlDue then sendCtrl s l else s

/-- A NAK leaves, carrying the ACK. -/
def sendNak (s : State) (l : Nat) : State := (sendFlit s l 3 0 0 []).1

/-- A flit of type `typ` arrives on a link that is up: `g` takes it; a CRC failure is answered by NAK. -/
def flitIn (s : State) (l typ : Nat) (f : Bytes) (crcOk : Bool) (g : State → State) : State :=
  if (linkOf s l).state != .up || f.length != 256 then s
  else if !crcOk then sendNak s l
  else if fieldAt f 0 1 != typ then s
  else g s

/-- A numbered flit is accepted only as the next expected, and is acknowledged; any other is discarded with the
acknowledgement and credits it carries. -/
def numbered (s : State) (l : Nat) (f : Bytes) (g : State → State) : State :=
  if fieldAt f 2 2 != (linkOf s l).rxSeq.toNat then s
  else sendIdle (g (modLink (takeHeader s l f) l fun k => { k with rxSeq := k.rxSeq + 1 })) l

def flitPayload (f : Bytes) : Bytes := (f.drop 14).take (min 234 (fieldAt f 10 1))

/-- The packet still arrives on channel `vc` of link `l`. -/
def Packet.openOn (l vc : Nat) (p : Packet) : Bool := p.more && p.link == some l && p.vc = vc

/-- What has arrived on a channel of a packet that the next one cuts short is lost (log 60). -/
def cutShort (s : State) (l vc : Nat) : State :=
  modLink (losePackets s (Packet.openOn l vc)) l fun k => { k with
    owed := vmod k.owed vc (· + vget k.partN vc 0)
    partials := vmod k.partials vc fun _ => []
    partN := vmod k.partN vc fun _ => 0 }

/-- The bytes of a DATA flit join their packet, which is in the router once its header is whole: virtual cut-through (14 R333).
A flit of no packet, the rest of one that was lost, only gives its credit back. -/
def dataIn (l : Nat) (f : Bytes) (s : State) : State :=
  let b := fieldAt f 1 1
  let vc := b % 8
  let first := bitAt b 3
  let last := bitAt b 4
  let s := if first then cutShort s l vc else s
  if s.fab.router.any (Packet.openOn l vc) then
    let grown (p : Packet) : Packet := if p.openOn l vc = true then p.grow (flitPayload f) last else p
    { s with fab := { s.fab with router := s.fab.router.map grown } }
  else
    let k := linkOf s l
    let n := vget k.partN vc 0 + 1
    let new := vget k.partials vc [] ++ flitPayload f
    if !first && n = 1 then modLink s l fun k => { k with owed := vmod k.owed vc (· + 1) }
    else if last || 40 ≤ new.length then
      let s := modLink s l fun k => { k with
        partials := vmod k.partials vc fun _ => []
        partN := vmod k.partN vc fun _ => 0 }
      toRouter s (if last then packetOf new vc l n else packetFrom new vc l n)
    else modLink s l fun k => { k with
      partials := vmod k.partials vc fun _ => new
      partN := vmod k.partN vc fun _ => n }

/-- DATA_FLIT. -/
def execDataFlit (l : Fin 24) (flit : Bytes) (crcOk : Bool) (s : State) : Res :=
  live s fun s => flitIn s l 1 flit crcOk fun s => numbered s l flit (dataIn l flit)

/-- LINK_CTRL_FLIT: the peer's identity and LINK_D (03 R52, 14 R349; log 21). -/
def execLinkCtrlFlit (l : Fin 24) (flit : Bytes) (crcOk : Bool) (s : State) : Res :=
  live s fun s => flitIn s l 2 flit crcOk fun s => numbered s l flit fun s =>
    let p := flitPayload flit
    modLink s l fun k => { k with
      peerChip := BitVec.ofNat 16 (fieldAt p 0 2)
      peerInc := BitVec.ofNat 16 (fieldAt p 2 2)
      peerLinkD := BitVec.ofNat 32 (fieldAt p 4 4) }

/-- The flits after ACK leave again, and the NAK is counted; the sixteenth in a row for one SEQ takes the link down. -/
def nakIn (l : Nat) (f : Bytes) (s : State) : State :=
  let want : Half := BitVec.ofNat 16 (fieldAt f 4 2) + 1
  let k := linkOf s l
  let n := if k.naks != 0 && k.nakSeq = want then k.naks + 1 else 1
  if 16 ≤ n then linkDown s l 2 true
  else
    let s := modLink s l fun k => { k with
      naks := n
      nakSeq := want
      replays := k.replays + 1 }
    k.replay.foldl (fun s r => emit s (.flit l r.2)) s

/-- NAK_FLIT. -/
def execNakFlit (l : Fin 24) (flit : Bytes) (crcOk : Bool) (s : State) : Res :=
  live s fun s => flitIn s l 3 flit crcOk fun s => nakIn l flit (takeHeader s l flit)

/-- IDLE_FLIT. -/
def execIdleFlit (l : Fin 24) (flit : Bytes) (crcOk : Bool) (s : State) : Res :=
  live s fun s => flitIn s l 0 flit crcOk fun s => takeHeader s l flit

/-- TIMESYNC_FLIT (14 R351): a frame with its receive time (02 R41), or a counted loss. -/
def execTimesyncFlit (l : Fin 24) (flit : Bytes) (crcOk : Bool) (s : State) : Res :=
  live s fun s =>
    if (linkOf s l).state != .up || flit.length != 256 then s
    else if !crcOk then modLink s l fun k => { k with tsFail := k.tsFail + 1 }
    else if fieldAt flit 0 1 != 4 then s
    else modLink (takeHeader s l flit) l fun k => { k with frame := some ((flit.drop 14).take 32, (dt80 s).toNat) }

end Sys2Proof.Machine
end

