-- ==== Sys2Proof/Machine/Power.lean ====
section
/-! DEFINITION. Power.lean: power domains, reef levels, and the opcodes of area 0x08 (16 R377 to R392). -/

namespace Sys2Proof.Machine

def modPwr (s : State) (f : Power → Power) : State := { s with pwr := f s.pwr }

/-! ### Reef levels (16 R383 to R388) -/

/-- THERMAL_LIMIT of a hotspot, and HOT_HOLD with it (16 R386). -/
def hotLimit (s : State) (k : Nat) : State :=
  let o := octState s k
  if !o.hotHold && decide (115 * 16 ≤ o.hotT) && o.level = 7 then
    thermalEvent (modOct s k fun o => { o with hotHold := true }) 1 k o.hotT false
  else if o.hotHold && decide (o.hotT < 110 * 16) then
    thermalEvent (modOct s k fun o => { o with hotHold := false }) 1 k o.hotT true
  else s

/-- A new reading of one of the reef inputs: octants note whether they may fall. -/
def reefInput (s : State) (f : Power → Power) : State := noteReef (modPwr s f)

/-- HOTSPOT_TEMPERATURE_CHANGE, in 1/16 degree. -/
def execHotspotTemperatureChange (k : Fin 8) (t : Int) (s : State) : Res :=
  live s fun s =>
    hotLimit (noteReef (modOct s k fun o => { o with
      hotT := t
      hotDemand := BitVec.ofNat 3 (heatDemand (105 * 16) t o.hotDemand.toNat) })) k

/-- A demand one level higher, 7 at most; one level lower. -/
def upOne (d : BitVec 3) : BitVec 3 := if d = 7 then 7 else d + 1
def downOne (d : BitVec 3) : BitVec 3 := if d = 0 then 0 else d - 1

/-- POWER_SAMPLE: the average of one more millisecond against LIMIT_W. -/
def execPowerSample (watts : Half) (s : State) : Res :=
  live s fun s => reefInput s fun p =>
    let p := { p with powerW := watts }
    if p.limitW < watts then { p with
      powerDemand := upOne p.powerDemand
      lowMs := 0 }
    else if watts.toNat * 100 < 97 * p.limitW.toNat then
      if p.lowMs + 1 < 10 then { p with lowMs := p.lowMs + 1 } else { p with
        powerDemand := downOne p.powerDemand
        lowMs := 0 }
    else { p with lowMs := 0 }

/-- PWR_CAP_N_CHANGE. -/
def execPwrCapNChange (low : Bool) (s : State) : Res :=
  live s fun s => reefInput s fun p => { p with capPin := low }

/-- OVERCURRENT: the core current as it is now; demand rises when it goes above ICC_MAX_A and each 10 us while it stays
there, and falls after 10 ms below 0.97 of it. -/
def execOvercurrent (amps : Nat) (s : State) : Res :=
  live s fun s => reefInput s fun p =>
    if p.iccMax.toNat < amps then
      if p.iccAt.any fun t => s.tb.up < t + usUp 10 then { p with iccLow := none } else { p with
        iccDemand := upOne p.iccDemand
        iccAt := some s.tb.up
        iccLow := none }
    else if amps * 100 < 97 * p.iccMax.toNat then
      if sinceOpt s p.iccLow (msUp 10) then { p with
        iccDemand := downOne p.iccDemand
        iccAt := none
        iccLow := some s.tb.up }
      else { p with
        iccAt := none
        iccLow := some (p.iccLow.getD s.tb.up) }
    else { p with
      iccAt := none
      iccLow := none }

/-- The inputs whose demand on octant k is `d`, by CAUSE code. -/
def causesAt (s : State) (k d : Nat) : List Nat :=
  let o := octState s k
  let l := [o.twrDemand.toNat, o.hotDemand.toNat, s.pwr.powerDemand.toNat, capDemand s, s.pwr.iccDemand.toNat]
  (List.range 5).filter fun i => l.getD i 8 = d

/-- A level change of octant k: counted, and reported unless a report was made within 100 ms. CAUSE is boost, or an input
that demands the present demand; which of several is free (16 R388, R392; log 5, 36). -/
def levelChange (s : State) (k src dst : Nat) (boost : Bool) : State :=
  let s := modPwr s fun p => { p with reefChanges := p.reefChanges + 1 }
  if (octState s k).eventAt.any fun t => s.tb.up < t + msUp 100 then s
  else
    let l := causesAt s k (octDemand s k)
    let (v, s) := takeFree s
    let cause := if boost then 5 else l.getD (v % l.length) 0
    let worse := dst != 0xFF && (src = 0xFF || src < dst)
    event (modOct s k fun o => { o with eventAt := some s.tb.up }) 0x0005 (if worse then 1 else 0)
      (layout 16 [(0, 1, k), (1, 1, src), (2, 1, dst), (3, 1, cause), (4, 4, s.pwr.reefChanges.toNat)])

/-- Octant k is at `level`, its time to the next fall starting now. -/
def setLevel (s : State) (k level : Nat) : State :=
  let s := modOct s k fun o => { o with
    level := BitVec.ofNat 3 level
    lowerSince := none }
  hotLimit (noteReef s) k

/-- REEF_LEVEL_STEP (16 R384, R385): boost ends first; then the level rises to the demand, or falls by one after 10 ms; at
level 0 with no demand, boost begins where it is enabled. -/
def execReefLevelStep (k : Fin 8) (s : State) : Res :=
  live s fun s =>
    let o := octState s k
    let d := octDemand s k
    let on := s.pwr.boostEn.getLsbD k
    if o.boosted then
      if d = 0 && on then s
      else levelChange (modOct s k fun o => { o with boosted := false }) k 0xFF 0 (d = 0)
    else if o.level.toNat < d then levelChange (setLevel s k d) k o.level.toNat d false
    else if d < o.level.toNat then
      if sinceOpt s o.lowerSince (msUp 10) then
        levelChange (setLevel s k (o.level.toNat - 1)) k o.level.toNat (o.level.toNat - 1) false
      else s
    else if d = 0 && on then levelChange (modOct s k fun o => { o with boosted := true }) k 0 0xFF true
    else s

/-! ### The opcodes of area 0x08 (16 R392) -/

/-- OP_POWER_LIMIT. -/
def execOpPowerLimit (c : Chan) (s : State) : Res :=
  live s fun s => runOp s c 0x0801
    (fun k => { param := [bad (k.f 0 2 < 300 || 1300 < k.f 0 2) 0, bad (7 < k.f 2 1) 2,
      bad (k.f 4 2 < 200 || 1500 < k.f 4 2) 4] ++ k.rsv 3 4 ++ k.rsv 6 8 })
    (fun _ _ => zeros 4) fun k s =>
      .ok (reefInput s fun p => { p with
        limitW := BitVec.ofNat 16 (k.f 0 2)
        capLevel := BitVec.ofNat 3 (k.f 2 1)
        iccMax := BitVec.ofNat 16 (k.f 4 2) }) (layout 4 [(0, 2, s.pwr.limitW.toNat)])

def reefResp (s : State) : Bytes :=
  ((List.range 8).map fun k => leBytes 4 (pwrOct s k)).flatten ++ leBytes 4 (pwrStatus s) ++ leBytes 4 (pwrPower s)
    ++ leBytes 4 s.pwr.reefChanges.toNat ++ zeros 4

/-- OP_REEF_STATUS. -/
def execOpReefStatus (c : Chan) (s : State) : Res :=
  live s fun s => plainOp s c 0x0802 (fun _ => {}) (fun _ s => reefResp s) fun _ s => s

/-- OP_BOOST. -/
def execOpBoost (c : Chan) (s : State) : Res :=
  live s fun s => plainOp s c 0x0804 (fun k => { param := k.rsv 1 4 }) noResp fun k s =>
    modPwr s fun p => { p with boostEn := BitVec.ofNat 8 (k.f 0 1) }

def thermalResp (s : State) (ref : Nat) : Bytes :=
  ((List.range 8).map fun k => leBytes 4 (pwrTemp s k)).flatten ++ leBytes 2 ref ++ zeros 2

/-- OP_THERMAL_READ; the reference sensor's reading comes from outside, a free value (log 5). -/
def execOpThermalRead (c : Chan) (s : State) : Res :=
  live s fun s => runOp s c 0x0805 (fun _ => {}) (fun _ s => thermalResp s 0) fun _ s =>
    let (v, s) := takeFree s
    .ok s (thermalResp s v)

/-! ### OP_DOMAIN_POWER (16 R377 to R379) -/

/-- A valid TOWER entry has cells in tower k. -/
def towerUsed (s : State) (k : Nat) : Bool :=
  s.xl.maps.any fun e => e.tier = 0 &&
    (meets e.addr.toNat e.size (octBase s k) (octBytes s k)
      || meets e.addr.toNat e.size (quadBase s (k / 4)) (quadBytes s)
      || meets e.addr.toNat e.size (fullBase s) (fullBytes s))

/-- A core idle or fenced. -/
def coreQuiet (s : State) (n : Nat) : Bool := (coreOf s n).fenced || coreIdle s n

/-- The table of R377 permits domain `d` to go off. -/
def mayOff (s : State) (d : Nat) : Bool :=
  if d = 1 then true
  else if d = 3 then !tierMapped s 1
  else if d < 6 then (List.range 24).all fun l =>
    linkDomain l != d || (linkOf s l).state = .down || (linkOf s l).state = .fault
  else if d < 14 then
    let k := d - 6
    !domainOn s (14 + 2 * k) && !domainOn s (15 + 2 * k) && !towerUsed s k && !s.te.tables.any (fun t => t.2.home = k)
      && !s.te.streams.any (fun u => u.2.engine = k) && (k != 0 || s.sch.queues.isEmpty)
  else coreQuiet s (2 * (d - 14)) && coreQuiet s (2 * (d - 14) + 1)

/-- A pair domain goes on only while its octant's is on. -/
def mayOn (s : State) (d : Nat) : Bool := d < 14 || domainOn s (6 + (d - 14) / 2)

/-- Weight registers whose contents are unspecified: the free values from number `k` on (16 R378; log 5). -/
def lostTile (k : Nat) : Tile :=
  let v (i : Nat) : Nat := Config.freeNat (k + i)
  ⟨BitVec.ofNat 8 (v 0), v 1 % 257, (List.range (v 1 % 257)).map fun c =>
    ⟨(List.range 256).map fun r => v (2 + 264 * c + r), (List.range 8).map fun j => BitVec.ofNat 8 (v (258 + 264 * c + j))⟩⟩

/-- Free values that a tile takes. -/
def tileFree : Nat := 2 + 264 * 257

/-- Core `n` loses the contents of its memories (16 R378; log 8). -/
def coreEmpty (s : State) (n : Nat) : State :=
  let k := s.freeCtr
  modCore { s with freeCtr := k + 2 * tileFree } n fun c => { c with
    spad := []
    istore := []
    icode := none
    active := lostTile k
    shadow := lostTile (k + tileFree) }

/-- The GNSS baseband stops: no channel, no target, no solution (16 R377; 02 R30); SOL_VALID that clears is an event
(04 R93). -/
def gnssOff (s : State) : State :=
  let t := { s with
    gn := { s.gn with
      targets := []
      chans := Vector.replicate 128 GnChan.reset
      mode := 0
      solValid := false
      usedCnt := 0 }
    tb := { s.tb with
      solValidSince := none
      solInvalidSince := some (s.tb.solInvalidSince.getD s.tb.up) } }
  if s.gn.solValid then gnEvent t 3 0 1 0 else t

/-- The deep ports go down; what is in flight there is lost (08 R179). -/
def deepOff (s : State) : State :=
  let s := { s with tw := { s.tw with ports := s.tw.ports.map fun x => { x with up := false } } }
  rcEmpty ((List.range 4).foldl portLose s)

/-- The ports enabled before, by number. -/
def portMask (s : State) : Nat := bitsOf ((List.range 4).map fun p => (p, b2n (dport s p).enabled))

def setDomain (s : State) (d : Nat) (on : Bool) : State :=
  modPwr s fun p => { p with
    domains := if on then p.domains ||| BitVec.ofNat 30 (2 ^ d) else p.domains &&& ~~~(BitVec.ofNat 30 (2 ^ d)) }

/-- What a domain's switching does besides. -/
def domainEff (s : State) (d : Nat) (on : Bool) (found : List DeepPortFound) : State :=
  if d = 1 then (if on then gnStart s else gnssOff s)
  else if d = 3 then (if on then enumerate s (portMask s) found else deepOff s)
  else if d < 6 then s
  else if d < 14 then { s with tw := { s.tw with rcs := vmod s.tw.rcs (d - 6) fun _ => [] } }
  else coreEmpty (coreEmpty s (2 * (d - 14))) (2 * (d - 14) + 1)

def domainResp (s : State) : Bytes := leBytes 4 s.pwr.domains.toNat

/-- OP_DOMAIN_POWER; a domain already as asked is left so. `found` is what enumeration finds when PD03 goes on. -/
def execOpDomainPower (c : Chan) (found : List DeepPortFound) (s : State) : Res :=
  live s fun s => plainOp s c 0x0803
    (fun k =>
      let d := k.f 0 1
      let on := k.f 1 1 = 1
      { param := [bad (d = 0 || d = 2 || 29 < d) 0, bad (1 < k.f 1 1) 1] ++ k.rsv 2 4
        state := if domainOn s d != on && !(if on then mayOn s d else mayOff s d) then some stBadState else none })
    (fun _ s => domainResp s) fun k s =>
      let d := k.f 0 1
      let on := k.f 1 1 = 1
      if domainOn s d = on then s else domainEff (setDomain s d on) d on found

end Sys2Proof.Machine
end

