-- ==== Sys2Proof/Machine/Boot.lean ====
section
/-! DEFINITION. Boot.lean: cold reset, boot, firmware images and their update, life cycle, keys and tamper, JTAG (17; 18 R412,
R415, R424, R426, R428). -/

namespace Sys2Proof.Machine

def modSec (s : State) (f : Security → Security) : State := { s with sec := f s.sec }

/-- Exactly `n` bytes. -/
def fit (n : Nat) (b : Bytes) : Bytes := b.take n ++ zeros (n - b.length)

/-! ### Images (17 R393, R394) -/

def slotBytes (s : State) (b : Bool) : Bytes := if b then s.sec.flashB else s.sec.flashA

def cut (b : Bytes) (off n : Nat) : Bytes := (b.drop off).take n

/-- The authorising key hash of the life-cycle state (17 R402). -/
def authHash (s : State) : Bytes :=
  if s.sec.lifecycle = 0 || s.sec.lifecycle = 3 then Config.ubtenKeyHash else s.sec.ownerHash

/-- An image passes authentication. -/
def imageOk (s : State) (b : Bytes) : Bool :=
  let n := fieldAt b 12 4
  let key := cut b 64 96
  fieldAt b 0 4 = 0x50464E59 && 1 ≤ n && n ≤ 2 ^ 24 - 4096 && Config.sha384 key = authHash s
    && Config.ecdsaVerify key (Config.sha384 (b.take 160)) (cut b 160 96)
    && Config.sha384 (cut b 4096 n) = cut b 16 48
    && (s.sec.lifecycle != 2 || s.sec.svnMin.toNat ≤ fieldAt b 8 1)

/-! ### Keys in the sealed scratch (17 R405, R406) -/

/-- A wipe. -/
def wipe (s : State) : State := modSec s fun x => { x with
  dik := []
  ak := []
  sealedValid := false }

/-- The ROM derives both key pairs, unless TAMPER_N is asserted. -/
def deriveKeys (s : State) : State :=
  if s.sec.tamperNow then s
  else modSec s fun x => { x with
    dik := Config.deriveKey [0]
    ak := Config.deriveKey (1 :: Config.sha384 x.header ++ [x.lifecycle.setWidth 8])
    sealedValid := true }

/-- The image in a slot starts: firmware runs. -/
def startFw (s : State) (b fallback : Bool) : State :=
  let s := { s with hlt := { s.hlt with beatAt := s.tb.up } }
  deriveKeys (modSec s fun x => { x with
    header := (slotBytes s b).take 4096
    slotB := b
    fallback := fallback
    fwStarted := true
    phase := if x.loopDone then 3 else 1 })

/-! ### Cold reset (15 R360, R375; 17; 18 R415, R424, R426) -/

/-- What a cold reset leaves of security: fuses, flash, pins, and the keys in the sealed scratch, which only a wipe clears
(00 R10; 17 R405). -/
def secCold (x : Security) : Security := { Security.reset with
  lifecycle := x.lifecycle
  tamperFuses := x.tamperFuses
  svnMin := x.svnMin
  lcPending := x.lcPending
  lcTarget := x.lcTarget
  lcKeyHash := x.lcKeyHash
  ownerHash := x.ownerHash
  dik := x.dik
  ak := x.ak
  flashA := x.flashA
  flashB := x.flashB
  bootSlotB := x.bootSlotB
  bypassRec := x.bypassRec
  incRec := x.incRec
  addrSel := x.addrSel
  norOk := x.norOk
  cold := true }

/-- A calibration item after cold reset: CAL_COUNT and CAL_LAST read what the record holds (03 R55, R61). -/
def calCold (i : CalItem) : CalItem := { CalItem.reset with
  stored := i.stored
  count := i.recCount
  last := i.recLast
  recCount := i.recCount
  recLast := i.recLast }

/-- The device in cold reset: all but fuses, the SPI NOR, the incarnation number in force and the level of PWR_CAP_N. Contents of memories are unspecified
afterwards (log 8). -/
def coldReset (s : State) : State :=
  { State.reset with
    cal := { Calib.reset with items := Vector.ofFn fun i : Fin 28 => calCold s.cal.items[i], thermRec := s.cal.thermRec }
    gn := { Gnss.reset with
      position := s.gn.position
      entered := s.gn.entered }
    tw := { Tower.reset with
      retPages := s.tw.retPages
      retDeep := s.tw.retDeep }
    fab := { Fabric.reset with inc := s.fab.inc }
    pwr := { Power.reset with capPin := s.pwr.capPin }
    sec := secCold s.sec
    out := s.out
    freeCtr := s.freeCtr
    pending := s.pending }

/-- COLD_RESET: COLD_RST_N low for 10 us or longer, or another trigger of R359. -/
def execColdReset (trigger : ColdTrigger) (s : State) : Res :=
  live s fun s => match trigger with
    | .pin lowUs => if 10 ≤ lowUs then coldReset s else s
    | .rail => coldReset s
    | .debug => coldReset s

/-- DBG_COLD_REQ_WRITE. -/
def execDbgColdReqWrite (val : Word) (s : State) : Res :=
  barWrite s fun s => if val = 0x0000C01D then coldReset s else s

/-- RAIL_UNDERVOLTAGE: a monitored rail more than 5% low for 1 us. -/
def execRailUndervoltage (rail : Rail) (lowNs : Nat) (s : State) : Res :=
  live s fun s => match rail with
    | .vddAon => if 1000 ≤ lowNs then coldReset s else s
    | .vddSoc => if 1000 ≤ lowNs then coldReset s else s
    | .vinCore => if 1000 ≤ lowNs then coldReset s else s
    | .vddTwr => if 1000 ≤ lowNs then coldReset s else s
    | .vddSerdes => if 1000 ≤ lowNs then coldReset s else s

/-! ### Boot (17 R396 to R399, R404) -/

/-- Steps 2 to 5 of a transition (17 R404). -/
def transit (s : State) : State :=
  modSec (wipe s) fun x => { x with
    ownerHash := if x.lcTarget = 1 then x.lcKeyHash else x.ownerHash
    lifecycle := x.lcTarget
    lcPending := false }

/-- BOOT: COLD_RST_N is released with every rail in range; straps are latched, fuses load, a pending transition is
completed. -/
def execBoot (b : BootInput) (s : State) : Res :=
  .next (if !s.sec.cold || !b.railsOk then s
    else
      let s := modSec s fun x => { x with
        cold := false
        addrSel := b.addrSel
        tamperPin := b.tamperLow
        tamperNow := b.tamperLow }
      let s := if s.sec.lcPending && b.fusesOk then transit s else s
      if b.fusesOk then s else modSec s fun x => { x with
        phase := 9
        failCode := 2 })

/-- FIRMWARE_START: the ROM checks the active slot, then the other. -/
def execFirmwareStart (s : State) : Res :=
  live s fun s =>
    if s.sec.phase != 0 || s.hlt.mpHung then s
    else
      let b := s.sec.bootSlotB
      if imageOk s (slotBytes s b) then startFw s b false
      else if imageOk s (slotBytes s (!b)) then startFw s (!b) true
      else modSec s fun x => { x with
        phase := 8
        dik := if x.tamperNow then [] else Config.deriveKey [0] }

/-- The incarnation number advances by one, 0 left out, and is recorded (14 R348; 15, Edges). -/
def advanceInc (s : State) : State :=
  let n : Half := if s.fab.inc = 0xFFFF then 1 else s.fab.inc + 1
  let s := { s with fab := { s.fab with inc := n } }
  norWrite (if s.sec.norOk then modSec s fun x => { x with incRec := n } else s) 5

/-- TOWER_TRAINING_DONE: all four deep ports are enabled at power-up (log 45). -/
def execTowerTrainingDone (ok : Bool) (found : List DeepPortFound) (s : State) : Res :=
  live s fun s =>
    if !s.sec.fwStarted || !s.sec.loopDone || s.sec.towersUp || s.sec.phase = 9 then s
    else if !ok then modSec s fun x => { x with
      phase := 9
      failCode := 1 }
    else
      let s := s.sec.bypassRec.foldl applyBypass s
      let s := enumerate s 15 found
      advanceInc (modSec s fun x => { x with towersUp := true })

/-- BOOT_READY. -/
def execBootReady (s : State) : Res :=
  live s fun s =>
    if s.sec.phase = 3 && s.sec.fwStarted && s.sec.loopDone && s.sec.calDone && s.sec.towersUp then
      modSec s fun x => { x with phase := 4 }
    else s

/-! ### Firmware update (17 R400, R401, R411) -/

/-- The open session, if it is this channel's. -/
def sessionOf (s : State) (c : Chan) : Option FwSession := s.mbx.session.filter fun x => x.chan = c

def setSession (s : State) (x : Option FwSession) : State := { s with mbx := { s.mbx with session := x } }

/-- OP_FW_UPDATE_BEGIN: the slot that is not active. -/
def execOpFwUpdateBegin (c : Chan) (s : State) : Res :=
  live s fun s => runOp s c 0x0A01
    (fun k => {
      param := bad (k.f 0 4 < 4097 || 2 ^ 24 < k.f 0 4) 0 :: k.rsv 4 8
      state := if s.mbx.session.any fun x => x.chan != c then some stBusy else none })
    (fun _ _ => zeros 4) fun k s =>
      let b := !s.sec.bootSlotB
      .ok (setSession s (some ⟨c, b, k.f 0 4, 0, s.tb.up⟩)) (layout 4 [(0, 1, b2n b)])

def received (s : State) (c : Chan) : Nat := ((sessionOf s c).map fun x => x.received).getD 0

/-- Bytes put into an image slot. -/
def putSlot (s : State) (b : Bool) (off : Nat) (d : Bytes) : State :=
  modSec s fun x => if b then { x with flashB := putAt x.flashB off d } else { x with flashA := putAt x.flashA off d }

/-- OP_FW_UPDATE_DATA. -/
def execOpFwUpdateData (c : Chan) (s : State) : Res :=
  live s fun s => plainOp s c 0x0A02
    (fun k => {
      param := [bad ((sessionOf s c).any fun x => k.f 0 4 != x.received) 0, bad (k.f 4 2 = 0 || 1000 < k.f 4 2) 4]
        ++ k.rsv 6 8
      state := match sessionOf s c with
        | none => some stBadState
        | some x => if x.imageLen < x.received + k.f 4 2 then some stBadState else none })
    (fun _ s => leBytes 4 (received s c)) fun k s =>
      match sessionOf s c with
      | none => s
      | some x =>
        let s := putSlot s x.slotB x.received (k.payload.drop 8)
        setSession s (some { x with
          received := x.received + k.f 4 2
          lastAt := s.tb.up })

/-- VERSION and SVN of the image in a slot, and the slot now active. -/
def commitResp (s : State) (image : Bytes) : Bytes :=
  layout 8 [(0, 4, fieldAt image 4 4), (4, 1, fieldAt image 8 1), (5, 1, b2n s.sec.bootSlotB)]

/-- The boot record points at a slot; in ROM recovery the image starts at once (17 R395, R401). -/
def adopt (s : State) (b : Bool) : State :=
  let s := modSec s fun x => { x with bootSlotB := b }
  if s.sec.phase = 8 then startFw s b false else s

/-- OP_FW_UPDATE_COMMIT; a boot record that cannot be written ends it ST_HW_ERROR. -/
def execOpFwUpdateCommit (c : Chan) (s : State) : Res :=
  live s fun s => runOp s c 0x0A03
    (fun k => {
      param := bad (1 < k.f 0 1) 0 :: k.rsv 1 4
      state := if (sessionOf s c).any fun x => x.received = x.imageLen then none else some stBadState })
    (fun _ s => commitResp s []) fun k s =>
      match sessionOf s c with
      | none => .fail s stBadState (commitResp s [])
      | some x =>
        let s := setSession s none
        let image := slotBytes s x.slotB
        if !imageOk s image then .fail s stAuthFail (commitResp s [])
        else
          let raise := bitAt (k.f 0 1) 0 && s.sec.lifecycle = 2
          let svn := min 63 (max s.sec.svnMin.toNat (fieldAt image 8 1))
          let s := if raise then modSec s fun y => { y with svnMin := BitVec.ofNat 6 svn } else s
          if s.sec.norOk then let s := adopt s x.slotB; .ok s (commitResp s image)
          else let s := norWrite s 0; .fail s stHwError (commitResp s [])

/-! ### Life cycle and attestation (17 R402 to R407, R411) -/

/-- NONCE, key and signature of an OP_LIFECYCLE_ADVANCE hold (17 R403). -/
def advanceOk (s : State) (k : CmdHeld) : Bool :=
  let target := k.f 0 1
  let hash := cut k.payload 16 48
  let key := cut k.payload 64 96
  let signed := Config.chipUid ++ [BitVec.ofNat 8 target] ++ cut k.payload 8 8 ++ hash
  s.sec.nonce == some (BitVec.ofNat 64 (k.f 8 8))
    && (if target = 1 then Config.sha384 key = hash else Config.sha384 key = s.sec.ownerHash && hash = zeros 48)
    && Config.ecdsaVerify key (Config.sha384 signed) (cut k.payload 160 96)

def lifecycleResp (s : State) : Bytes := layout 4 [(0, 1, s.sec.lifecycle.toNat)]

/-- OP_LIFECYCLE_ADVANCE: the pending fuse is blown first; the steps that follow complete it (17 R404). -/
def execOpLifecycleAdvance (c : Chan) (s : State) : Res :=
  live s fun s => runOp s c 0x0A04
    (fun k => { param := bad (k.f 0 1 != s.sec.lifecycle.toNat + 1 || 3 < k.f 0 1) 0 :: k.rsv 1 8 })
    (fun _ s => lifecycleResp s) fun k s =>
      if k.begun then let s := if s.sec.lcPending then transit s else s; .ok s (lifecycleResp s)
      else
        let ok := advanceOk s k
        let s := modSec s fun x => { x with nonce := none }
        if ok then .wait (modSec s fun x => { x with
          lcPending := true
          lcTarget := BitVec.ofNat 2 (k.f 0 1)
          lcKeyHash := cut k.payload 16 48 })
        else .fail s stAuthFail (lifecycleResp s)

/-- KEY_HASH in force for the owner, zero in BLANK. -/
def keyHashNow (s : State) : Bytes := if s.sec.lifecycle = 0 then zeros 48 else fit 48 s.sec.ownerHash

def statusResp (s : State) (nonce : Nat) : Bytes :=
  layout 16 [(0, 1, s.sec.lifecycle.toNat),
    (1, 1, bitsOf [(0, b2n s.sec.lcPending), (1, b2n s.sec.sealedValid), (2, b2n s.sec.tamperSeen)]),
    (2, 1, s.sec.svnMin.toNat), (3, 1, s.sec.tamperFuses.toNat), (8, 8, nonce)]
  ++ fit 16 Config.chipUid ++ keyHashNow s
  ++ (if s.sec.dik.isEmpty || s.sec.tamperNow then zeros 96 else fit 96 (Config.ecdsaPublic s.sec.dik))

/-- OP_LIFECYCLE_STATUS: the nonce is fresh, a free value (log 5). -/
def execOpLifecycleStatus (c : Chan) (s : State) : Res :=
  live s fun s => runOp s c 0x0A05 (fun _ => {}) (fun _ s => statusResp s 0) fun _ s =>
    let (v, s) := takeFree s
    let n : Dword := BitVec.ofNat 64 v
    let s := modSec s fun x => { x with nonce := some n }
    .ok s (statusResp s n.toNat)

/-- A key in the sealed scratch, which reads zero while TAMPER_N is asserted (17 R406). -/
def scratch (s : State) (key : Bytes) : Bytes := if s.sec.tamperNow then zeros key.length else key

/-- Bytes 0 to 319 of an attestation report. -/
def attestBody (s : State) (k : CmdHeld) : Bytes :=
  let fwHash := fit 48 (Config.sha384 s.sec.header)
  let akPub := fit 96 (Config.ecdsaPublic (scratch s s.sec.ak))
  let flags := bitsOf [(0, b2n s.sec.tamperSeen), (1, b2n s.tb.valid), (2, b2n (tbTraceable s.tb)), (3, b2n s.sec.fallback)]
  fit 16 Config.chipUid
    ++ layout 32 [(0, 1, s.sec.lifecycle.toNat), (1, 1, s.sec.svnMin.toNat), (2, 1, s.sec.tamperFuses.toNat),
      (3, 1, flags), (4, 2, s.fab.inc.toNat), (8, 8, (dtNs s).toNat), (16, 4, fieldAt s.sec.header 4 4),
      (20, 1, fieldAt s.sec.header 8 1)]
    ++ fwHash ++ fit 32 k.payload ++ akPub
    ++ fit 96 (Config.ecdsaSign (scratch s s.sec.dik) (Config.sha384 (akPub ++ fwHash ++ [s.sec.lifecycle.setWidth 8])))

/-- OP_ATTEST response. -/
def attestResp (k : CmdHeld) (s : State) : Bytes :=
  if !s.sec.sealedValid || s.sec.lifecycle = 3 then zeros 416
  else
    let b := attestBody s k
    b ++ fit 96 (Config.ecdsaSign (scratch s s.sec.ak) (Config.sha384 b))

/-- OP_ATTEST. -/
def execOpAttest (c : Chan) (s : State) : Res :=
  live s fun s => plainOp s c 0x0A06
    (fun _ => { state := if !s.sec.sealedValid || s.sec.lifecycle = 3 then some stBadState else none })
    attestResp fun _ s => s

/-! ### TAMPER_N and JTAG (17 R406; 18 R412, R424) -/

/-- An assertion that acts. -/
def tamperActs (s : State) : State :=
  let s := modSec (wipe s) fun x => { x with
    tamperSeen := true
    tamperFuses := if x.tamperFuses.toNat < 32 then x.tamperFuses + 1 else x.tamperFuses }
  if mpServes s then fwError s 0x0300 1 [] else s

/-- TAMPER: TAMPER_N has been low for `ns`; below 100 ns it is ignored, below 1 us it acts or not, freely (log 5). -/
def execTamper (ns : Nat) (s : State) : Res :=
  live s fun s =>
    if ns < 100 || s.sec.tamperNow then s
    else
      let s := modSec s fun x => { x with tamperNow := true }
      if 1000 ≤ ns then tamperActs s
      else
        let (v, s) := takeFree s
        if v % 2 = 1 then tamperActs s else s

/-- TAMPER_N_RELEASE. -/
def execTamperNRelease (s : State) : Res :=
  live s fun s => modSec s fun x => { x with tamperNow := false }

/-- Accepted in every life-cycle state. -/
def jtagMandatory : JtagInstr → Bool
  | .bypass => true
  | .samplePreload => true
  | .extest => true
  | .other _ => false

/-- JTAG_INSTRUCTION: in PROVISIONED and DEPLOYED only the mandatory ones are accepted. -/
def execJtagInstruction (i : JtagInstr) (s : State) : Res :=
  live s fun s =>
    if (s.sec.lifecycle = 1 || s.sec.lifecycle = 2) && !jtagMandatory i then s
    else modSec s fun x => { x with jtag := i }

end Sys2Proof.Machine
end

