-- ==== Sys2Proof/Machine/Regs.lean ====
section
/-! DEFINITION. Regs.lean: what a host read of each BAR0 register returns (00 R5, R8, R11), by block. A read has no
effect but the latching one of TB_SNAP_LATCH; an offset that no register occupies, and a WO register, read zero. -/

namespace Sys2Proof.Machine

/-- ID_ARRAY_WIDTH_n: each width minus 1 (01 R19, R20). -/
def idArrayWidth (c : Core) : Nat := bitsOf ((listIdx c.width.toList).map fun w => (8 * w.1, w.2.toNat - 1))

/-- ID_TWR_RC_LO and _HI: bytes RC_k from tower `k` (08 R191). -/
def idTowerRc (s : State) (k : Nat) : Nat := bitsOf ((List.range 4).map fun i => (8 * i, rcOf s (k + i)))

/-- ID_BOOT_STATUS (17 R410). -/
def idBootStatus (x : Security) : Nat :=
  bitsOf [(0, x.phase.toNat), (4, x.failCode.toNat), (8, b2n x.slotB), (9, b2n x.fallback), (10, b2n x.sealedValid)]

/-- ID_SECURITY (17 R410). -/
def idSecurity (x : Security) : Nat :=
  bitsOf [(0, x.lifecycle.toNat), (2, b2n x.tamperNow), (3, b2n x.tamperSeen), (4, x.tamperFuses.toNat),
    (10, x.svnMin.toNat), (16, b2n x.lcPending)]

/-- ID_STRAPS (18 R428). -/
def idStraps (x : Security) : Nat := bitsOf [(0, x.addrSel.toNat), (2, 0x4C + x.addrSel.toNat), (9, b2n x.tamperPin)]

/-- ID_DEEP_CFG (08 R191). -/
def idDeepCfg (s : State) : Nat :=
  bitsOf ((4, b2n s.tw.interleave) :: (List.range 4).map fun p => (p, b2n (portUp s p)))

/-- The ID block (01 R19, 08 R191, 17 R410, 18 R428). -/
def idReg (s : State) (off : Nat) : Nat :=
  if off = 0 then bitsOf [(0, 0x50), (8, 0x32), (16, Config.stepping.toNat)]
  else if off = 4 then bitsOf [(0, Config.towerGib), (8, 8), (12, 0x10), (18, 4), (21, 0xC), (26, 1)]
  else if off = 8 then 0xFFFFFFFF
  else if 0x100 ≤ off && off < 0x180 then idArrayWidth (coreOf s ((off - 0x100) / 4))
  else if off = 0x200 then bitsOf [(0, s.tw.fullG), (16, s.tw.quadG)]
  else if off = 0x204 then idTowerRc s 0
  else if off = 0x208 then idTowerRc s 4
  else if off = 0x20C then idDeepCfg s
  else if 0x210 ≤ off && off < 0x220 then (dport s ((off - 0x210) / 4)).capU / 4
  else if off = 0x300 then idBootStatus s.sec
  else if off = 0x304 then idSecurity s.sec
  else if off = 0x308 then idStraps s.sec
  else 0

/-- MBX_STATUS (05 R116). -/
def mbxStatus (c : MbxChan) : Nat :=
  bitsOf [(0, b2n c.busy), (1, b2n c.ack), (2, b2n c.done), (3, b2n c.replayed), (4, b2n c.overrun), (5, b2n c.seqErr),
    (16, c.lastSeq.toNat)]

/-- MBX_GRANT (05 R116). -/
def mbxGrant (c : MbxChan) : Nat :=
  bitsOf [(0, c.areas.toNat), (16, c.ctx.toNat), (22, b2n c.ctxBound), (31, b2n c.enabled)]

/-- The MBX window of a host channel (05 R116). -/
def mbxReg (s : State) (c : Chan) (off : Nat) : Nat :=
  let ch := chan s c
  if off = 4 then mbxStatus ch
  else if off = 8 then bitsOf [(0, b2n ch.irqEn), (8, ch.vector.toNat)]
  else if off = 0xC then mbxGrant ch
  else if off = 0x20 then (if c.val = 0 then s.mbx.evtSeq.toNat else 0)
  else if 0x400 ≤ off && off < 0x800 then leNat (memRead ch.req (off - 0x400) 4)
  else if 0x800 ≤ off && off < 0xC00 then leNat (memRead ch.resp (off - 0x800) 4)
  else 0

/-- The CAL registers of item `i`, by offset in its 32 bytes (03 R65). -/
def calReg (i : CalItem) (off : Nat) : Nat :=
  if off = 0 then calItemStat i
  else if off = 4 then i.count.toNat
  else if off = 8 then i.last.toNat % 2 ^ 32
  else if off = 0xC then i.last.toNat / 2 ^ 32
  else if off = 0x10 then i.value.toNat
  else if off = 0x14 then i.target.toNat
  else 0

/-- The TB and CAL registers, by offset from 0x0002_0000 (02 R46, 03 R65); the reads of TB_SNAP_W0 that latch are
TB_SNAP_LATCH. -/
def tbReg (s : State) (off : Nat) : Nat :=
  if off < 0x400 then
    let x := vget s.tb.snaps (off / 16) ⟨0, 0, 0⟩
    if off % 16 = 0 then x.w0.toNat else if off % 16 = 4 then x.w1.toNat else if off % 16 = 8 then x.w2.toNat else 0
  else if off = 0x400 then tbStatus s.tb
  else if off = 0x404 then tbConfig s.tb.cfg
  else if off = 0x408 then tbUtc s.tb.utc
  else if off = 0x40C then tbHoldEst s.tb
  else if off = 0x410 then s.tb.phaseErr.toNat
  else if off = 0x800 then calStatus s
  else if 0x900 ≤ off && off < 0x900 + 0x20 * 28 then
    calReg (vget s.cal.items ((off - 0x900) / 32) CalItem.reset) ((off - 0x900) % 32)
  else 0

/-- INT_BAD_ACCESS (06 R142). -/
def intBadAccess (h : HostLink) : Nat :=
  bitsOf [(0, h.badOff.toNat), (26, b2n h.badWrite), (27, h.badKind.toNat), (31, b2n h.badValid)]

/-- INT_LINK (06 R142). -/
def intLink (h : HostLink) : Nat :=
  bitsOf [(0, h.link.speed.toNat), (4, h.link.width.toNat), (9, b2n h.link.flit), (10, b2n h.link.cxl),
    (11, b2n h.link.cache), (12, b2n h.link.mem), (13, b2n h.link.bi), (14, h.cohMode.toNat), (16, b2n h.cfg.atsEn),
    (17, b2n h.cfg.pasidEn), (18, b2n h.cfg.roEn)]

/-- The INT block (06 R142). -/
def intReg (s : State) (off : Nat) : Nat :=
  if off = 0 then s.hl.intStatus.toNat
  else if off = 4 then s.hl.intEnable.toNat
  else if off = 8 then s.hl.intVector.toNat
  else if off = 0xC then intBadAccess s.hl
  else if off = 0x10 then intLink s.hl
  else if 0x100 ≤ off && off < 0x500 then (vget s.hl.vecs ((off - 0x100) / 4) ⟨0, false, false, none⟩).gapUs.toNat
  else 0

/-- RQ_Q_STATUS_q; ENABLED reads 1 while the queue exists (13 R325). -/
def qStatus (x : Queue) : Nat :=
  bitsOf [(0, 1), (1, b2n x.stopping), (2, b2n x.ptrErr), (3, b2n x.notifyErr), (4, b2n x.fabric)]

/-- The five registers of a queue, by offset in its 64 bytes. -/
def queueReg (x : Queue) (off : Nat) : Nat :=
  if off = 8 then x.sqHead.toNat
  else if off = 0xC then x.cqTail.toNat
  else if off = 0x10 then qStatus x
  else 0

/-- RQ_CC_USED: cache entries inside the replay window (13 R315, R325). -/
def ccUsed (s : State) : Nat := s.sch.cache.countP (inReplay s)

/-- The RQ block (12 R295, 13 R325). -/
def rqReg (s : State) (off : Nat) : Nat :=
  if off < 0x4000 then ((queueOf s (off / 64)).map fun x => queueReg x (off % 64)).getD 0
  else if 0x8000 ≤ off && off < 0xA000 then
    if off % 8 = 4 then ((tget s.te.streams ((off - 0x8000) / 8)).map fun x => x.head.toNat).getD 0 else 0
  else if 0xC000 ≤ off && off < 0xC400 then
    let x := vget s.sch.readSets ((off - 0xC000) / 16) ⟨0, 0, 0⟩
    if off % 16 = 0 then x.sel.toNat else if off % 16 = 4 then x.lo.toNat else if off % 16 = 8 then x.hi.toNat else 0
  else if off = 0xF000 then s.sch.slots.length
  else if off = 0xF004 then ccUsed s
  else if off = 0xF008 then s.sch.replayMs.toNat
  else if off = 0xF00C then s.sch.ccEvict.toNat
  else 0

/-- HLT_ALL_WAITING (13 R323). -/
def chipWaiting (s : State) : Bool :=
  s.cores.any (fun c => c.threads.any fun t => t.state.active)
    && s.cores.all fun c => c.fenced || c.threads.all fun t => !t.state.active || blocked t

/-- HLT_STATUS (15 R375). -/
def hltStatus (s : State) : Nat :=
  bitsOf [(0, b2n (chipWaiting s)), (1, b2n s.sch.frozen), (2, b2n s.hlt.warm.isSome), (16, s.fab.inc.toNat)]

/-- An aggregate HLT statistic: the sum of the per-core counters (15 R374). -/
def hltSum (s : State) (f : Core → Dword) : Nat := ((s.cores.toList.map f).foldl (· + ·) 0).toNat

/-- The half of a 64-bit register that a 32-bit offset selects (00 R5). -/
def half64 (v off : Nat) : Nat := if off % 8 = 0 then v % 2 ^ 32 else v / 2 ^ 32

/-- One word of a vector of counters. -/
def counterAt {n : Nat} (v : Vector Word n) (i : Nat) : Nat := (vget v i 0).toNat

/-- The HLT block (08 R191, 15 R375). -/
def hltReg (s : State) (off : Nat) : Nat :=
  if off = 0 then s.hlt.heartbeat.toNat
  else if off = 4 then hltStatus s
  else if off = 8 then s.hlt.hbPeriod.toNat
  else if off = 0xC then s.hlt.warmResets.toNat
  else if 0x100 ≤ off && off < 0x200 then half64 (coreOf s ((off - 0x100) / 8)).progress.toNat off
  else if 0x200 ≤ off && off < 0x208 then half64 (hltSum s fun c => c.stages) off
  else if 0x208 ≤ off && off < 0x210 then half64 (hltSum s fun c => c.copDone) off
  else if 0x210 ≤ off && off < 0x218 then half64 (hltSum s fun c => c.lookups) off
  else if 0x218 ≤ off && off < 0x220 then half64 (hltSum s fun c => c.seqFaults) off
  else if 0x220 ≤ off && off < 0x228 then half64 (hltSum s fun c => c.specSquashed) off
  else if 0x4000 ≤ off && off < 0x4020 then counterAt s.tw.ce ((off - 0x4000) / 4)
  else if 0x4020 ≤ off && off < 0x4040 then counterAt s.tw.ue ((off - 0x4020) / 4)
  else if 0x4040 ≤ off && off < 0x4060 then counterAt s.tw.rcDrop ((off - 0x4040) / 4)
  else if 0x4060 ≤ off && off < 0x4070 then counterAt s.tw.deepPoison ((off - 0x4060) / 4)
  else if 0x4070 ≤ off && off < 0x4080 then counterAt s.tw.deepTimeout ((off - 0x4070) / 4)
  else if off = 0x4080 then s.tw.scrubPass.toNat
  else 0

/-- The DBG block (15 R375). -/
def dbgReg (s : State) (off : Nat) : Nat :=
  if off = 4 then bitsOf [(0, b2n s.hlt.dbgBusy), (1, b2n s.hlt.dbgDone), (16, s.hlt.captures.toNat)]
  else if 0x100 ≤ off && off < 0x3F200 then fieldAt s.hlt.image (off - 0x100) 4
  else 0

/-- The GN block (04 R89). -/
def gnReg (s : State) (off : Nat) : Nat :=
  if off = 0 then gnStatus s
  else if off = 4 then s.gn.mirrorGen.toNat
  else if off = 8 then gnSurvey s
  else if off = 0xC then s.gn.measSeq.toNat
  else if off = 0x10 then s.gn.evictCnt.toNat
  else if 0x100 ≤ off && off < 0x300 then gnChanReg (vget s.gn.chans ((off - 0x100) / 4) GnChan.reset)
  else if 0x1000 ≤ off && off < 0x2020 then fieldAt s.gn.epoch (off - 0x1000) 4
  else 0

/-- The PWR block (16, Registers). -/
def pwrReg (s : State) (off : Nat) : Nat :=
  if off < 0x20 then pwrOct s (off / 4)
  else if off < 0x40 then pwrTemp s ((off - 0x20) / 4)
  else if off = 0x40 then pwrStatus s
  else if off = 0x44 then pwrPower s
  else if off = 0x48 then s.pwr.domains.toNat
  else if off = 0x4C then s.pwr.reefChanges.toNat
  else 0

/-- A 32-bit word of BAR2 (06 R120): MSI-X table entry n at 16 n, address, data and mask bit; from 0x1000 the pending
bits. -/
def bar2Reg (s : State) (off : Nat) : Nat :=
  if off < 0x1000 then
    let e := s.hl.cfg.msix.getD (off / 16) ⟨0, 0, true⟩
    if off % 16 = 0 then e.addr.toNat % 2 ^ 32
    else if off % 16 = 4 then e.addr.toNat / 2 ^ 32
    else if off % 16 = 8 then e.data.toNat
    else b2n e.mask
  else if off < 0x1020 then
    bitsOf ((List.range 32).map fun i => (i, b2n (vget s.hl.vecs (8 * (off - 0x1000) + i) ⟨0, false, false, none⟩).pend))
  else 0

/-- SOLP_RESP: what a block read of channel 16 returns, at most 255 bytes of the response (05 R113). -/
def solpResp (s : State) : Bytes :=
  let r := (chan s 16).resp
  memRead r 0 (min 255 (16 + leNat (memRead r 4 2)))

/-- The 32-bit register at an aligned BAR0 offset (00 R8). -/
def barReg (s : State) (off : Nat) : Nat :=
  if off < 0x10000 then idReg s off
  else if off < 0x20000 then mbxReg s ⟨(off - 0x10000) / 0x1000 % 17, Nat.mod_lt _ (by decide)⟩ (off % 0x1000)
  else if off < 0x30000 then tbReg s (off - 0x20000)
  else if off < 0x40000 then intReg s (off - 0x30000)
  else if off < 0x50000 then rqReg s (off - 0x40000)
  else if 0x80000 ≤ off && off < 0x90000 then hltReg s (off - 0x80000)
  else if 0xC0000 ≤ off && off < 0x100000 then dbgReg s (off - 0xC0000)
  else if 0x100000 ≤ off && off < 0x110000 then gnReg s (off - 0x100000)
  else if 0x200000 ≤ off && off < 0x220000 then coreReg s ((off - 0x200000) / 0x1000) (off % 0x1000)
  else if 0x300000 ≤ off && off < 0x310000 then pwrReg s (off - 0x300000)
  else 0

/-- What an aligned 64-bit read of BAR0 returns: the lower address in bits 31:0 (00 R5). -/
def barReg64 (s : State) (off : Nat) : Nat := barReg s off + 2 ^ 32 * barReg s (off + 4)

end Sys2Proof.Machine
end

