-- ==== Sys2Proof/Machine/Dump.lean ====
section
/-! DEFINITION. Dump.lean: the heartbeat, the dump image, OP_DUMP, the DBG capture and the freeze (15 R367 to R376). -/

namespace Sys2Proof.Machine

/-! ### Heartbeat (15 R367, R376) -/

def modHlt (s : State) (f : Health → Health) : State := { s with hlt := f s.hlt }

/-- HEARTBEAT: one heartbeat period of true time has gone by since the last increment. `check` is a consistency check
that firmware found failed since, by UNIT and CODE: FW_ERROR 0x0600 (05 R112; log 29). -/
def execHeartbeat (check : Option (Fin 5 × Word)) (s : State) : Res :=
  live s fun s =>
    let s := match check with
      | some x => if mpServes s then fwError s 0x0600 2 (layout 6 [(0, 1, x.1.val), (2, 4, x.2.toNat)]) else s
      | none => s
    if !s.sec.fwStarted || s.hlt.mpHung || !since s s.hlt.beatAt (msUp s.hlt.hbPeriod.toNat) then s
    else modHlt s fun h => { h with
      heartbeat := h.heartbeat + 1
      beatAt := s.tb.up }

/-- OP_HEARTBEAT_CONFIG. -/
def execOpHeartbeatConfig (c : Chan) (s : State) : Res :=
  live s fun s =>
    runOp s c 0x0903 (fun k => { param := bad (k.f 0 1 < 1 || 100 < k.f 0 1) 0 :: k.rsv 1 4 })
      (fun _ _ => zeros 4)
      fun k s => .ok (modHlt s fun h => { h with hbPeriod := BitVec.ofNat 8 (k.f 0 1) })
        (layout 4 [(0, 1, s.hlt.hbPeriod.toNat)])

/-! ### The dump image (15 R372) -/

/-- DUMP_SIZE (15 R369). -/
def dumpSize : Nat := 323840

/-- Offset and size of each section, in the order of the section table. -/
def dumpSections : List (Nat × Nat) :=
  [(0, 256), (0x100, 8192), (0x2100, 2048), (0x2900, 2048), (0x3100, 49152), (0xF100, 65536), (0x1F100, 131072),
   (0x3F100, 65536)]

def dumpHeader (s : State) (dtStart dtEnd : Dword) (fromDbg log : Bool) : Bytes :=
  let secs := (listIdx dumpSections).flatMap fun e =>
    if e.1 = 7 && !log then [] else [(32 + 8 * e.1, 4, e.2.1), (36 + 8 * e.1, 4, e.2.2)]
  layout 256 ([(0, 4, 0x44554D50), (4, 2, 1), (6, 2, bitsOf [(0, b2n fromDbg), (1, b2n s.sch.frozen), (2, b2n log)]),
    (8, 2, (myChip s).toNat), (10, 2, s.fab.inc.toNat), (12, 4, fencedMask s), (16, 8, dtStart.toNat),
    (24, 8, dtEnd.toNat)] ++ secs)

def dumpQueue (s : State) (q : Nat) : Bytes :=
  match queueOf s q with
  | none => zeros 32
  | some x => layout 32 [(0, 4, x.sqHead.toNat), (4, 4, x.sqTail.toNat), (8, 4, x.cqHead.toNat), (12, 4, x.cqTail.toNat),
      (16, 4, qStatus x), (20, 2, x.source.toNat), (22, 1, x.ctx), (23, 1, x.log2), (24, 4, x.reserved)]

/-- Slot and stage of the stage a core, or its pair, runs. -/
def dumpStage (s : State) (n : Nat) : Nat × Nat :=
  match (coreOf s (leadOf s n)).stage with
  | some g => (g.slot, g.stage)
  | none => (0xFFFF, 0)

def dumpCore (s : State) (n : Nat) : Bytes :=
  let c := coreOf s n
  layout 64 [(0, 4, coreStatus s n), (4, 4, fenceInfo c), (8, 8, arrayWidth c), (16, 4, c.squashed.toNat),
    (20, 4, parityCapture c), (24, 8, notLocal c), (32, 8, c.progress.toNat), (40, 2, (dumpStage s n).1),
    (42, 1, (dumpStage s n).2), (44, 4, arrayBypass c)]

/-- PHASE of a lookup in progress: fetching rows, waiting for owners on other chips, or writing its output. -/
def lookupPhase (l : Lookup) : Nat :=
  if l.fetch.any fun r => !r.isOver then 2 else if l.parts.any fun p => !p.isOver then 3 else 4

def dumpLookup (l : Lookup) : Bytes :=
  let issuer := match l.src with
    | .core n _ => n
    | .peer _ => 0xFF
  layout 16 [(0, 2, l.table), (2, 1, issuer), (3, 1, lookupPhase l),
    (4, 2, l.parts.countP fun p => !p.isOver), (8, 8, l.deadline.toNat)]

/-- A free lookup entry of an engine record. -/
def noLookup : Bytes := layout 16 [(3, 1, 0xFF)]

def dumpEngine (s : State) (e : Nat) : Bytes :=
  let x := engineOf s e
  layout 16 [(0, 1, x.active.length), (1, 1, min 255 x.intake.length), (2, 2, rowReads s e)]
    ++ ((x.active.map dumpLookup ++ List.replicate 15 noLookup).take 15).flatten

/-- The confirmed registers of a thread: those at its oldest unresolved branch (10 R234). -/
def confirmedRegs (t : Thread) : Regs :=
  match t.branches with
  | [] => t.regs
  | b :: _ => { b.saved with pc := b.pc }

def thStateCode : ThState → Nat
  | .unused => 0
  | .running => 1
  | .waiting => 2
  | .stalled => 3
  | .halted => 4
  | .faulted => 5

def dumpThread (t : Thread) : Bytes :=
  let r := confirmedRegs t
  (r.g.toList.map fun x => leBytes 8 x.toNat).flatten
    ++ layout 32 [(0, 8, r.lk.toNat), (8, 8, r.ph.toNat), (16, 8, r.pl.toNat), (24, 4, r.pc),
        (28, 1, thStateCode t.state), (29, 1, t.waits.length)]
    ++ ((t.waits.map fun w => leBytes 2 w.obj) ++ List.replicate 16 (leBytes 2 0xFFFF)).flatten.take 32
    ++ ((List.range 4).map fun w => leBytes 4 (seqFaultWord t.fault w)).flatten ++ zeros 48

def slotStateCode : SlotState → Nat
  | .waiting => 1
  | .running => 2
  | .completing => 3

def dumpSlot (s : State) (i : Nat) : Bytes :=
  match slotOf s i with
  | none => layout 32 [(22, 1, 0xFF)]
  | some y => layout 32 [(0, 8, y.desc.token.toNat), (8, 8, y.desc.deadline.toNat), (16, 2, y.source.toNat),
      (18, 2, y.desc.plan.toNat), (20, 1, slotStateCode y.state), (21, 1, y.stage), (22, 1, y.core.getD 0xFF),
      (23, 1, y.queue), (24, 2, y.attached.length), (26, 1, y.desc.flags.toNat), (27, 1, y.desc.ctx.toNat)]

/-- The bytes of section `i`, 1 to 7; FW_LOG is not part of the interface (log 14). -/
def dumpSection (s : State) (i : Nat) : Bytes :=
  match i with
  | 1 => (List.range 256).flatMap (dumpQueue s)
  | 2 => (List.range 32).flatMap (dumpCore s)
  | 3 => (List.range 8).flatMap (dumpEngine s)
  | 4 => (List.range 32).flatMap fun n => (coreOf s n).threads.toList.flatMap dumpThread
  | 5 => (List.range 8192).flatMap fun o => leBytes 8 (counterOf s o).toNat
  | 6 => (List.range 4096).flatMap (dumpSlot s)
  | _ => (List.range 65536).map fun n => Config.fwLogByte (s.freeCtr + n)

/-! ### OP_DUMP (05 R108, R109; 15 R369) -/

def dumpChk (k : CmdHeld) : Chk :=
  { param := bad (k.f 0 8 % 4096 != 0) 0 :: bad (k.f 8 4 < dumpSize) 8 :: k.rsv 12 16 }

/-- Host addresses and bytes can be written: the link is up, and no page of the range is known to be refused. -/
def dumpReach (s : State) (addr len : Nat) : Bool :=
  hostUp s && (List.range (len / 4096 + 2)).all fun i =>
    let a := min (addr + i * 4096) (addr + (len - 1))
    atcFind s none a true != .denied

/-- The first address of the range whose page is known to be refused (06 R141). -/
def dumpRefused (s : State) (addr len : Nat) : Nat :=
  (((List.range (len / 4096 + 2)).map fun i => min (addr + i * 4096) (addr + (len - 1))).find? fun a =>
    atcFind s none a true == .denied).getD addr

/-- How far an OP_DUMP is: the DT of its start, and the section to copy next; 0 before it starts. -/
def dumpAt (s : State) (c : Chan) : Nat × Nat :=
  let p := ((chan s c).cmd.map fun k => k.progress).getD 0
  (p / 16, p % 16)

/-- Bytes of the image written before section `i`; the header is written last. -/
def dumpWritten (i : Nat) : Nat := ((dumpSections.drop 1).take (i - 1)).foldl (fun a e => a + e.2) 0

def dumpResp (s : State) (c : Chan) : Bytes := leBytes 4 (dumpWritten (dumpAt s c).2)

/-- One section is copied and written; the header, whose DT_END is the end, follows the last (log 46). -/
def dumpStep (c : Chan) (k : CmdHeld) (s : State) : Done :=
  let i := max 1 (dumpAt s c).2
  let start : Nat := if (dumpAt s c).2 = 0 then (dtNs s).toNat else (dumpAt s c).1
  let sec := dumpSections.getD (if i = 8 then 0 else i) (0, 0)
  let addr := k.f 0 8 + sec.1
  let ok := dumpReach s addr sec.2
  if !ok then
    let s := if hostUp s then event (setInt s 3) 0x0009 1 (xlateFaultData 0xFF 5 0xA0 (dumpRefused s addr sec.2)) else s
    .fail s stDmaFault (leBytes 4 (dumpWritten i))
  else if i = 8 then
    .ok (hostWrite s addr (dumpHeader s (BitVec.ofNat 64 start) (dtNs s) false true) false 0xFF) (leBytes 4 dumpSize)
  else
    let b := dumpSection s i
    let s := if i = 7 then { s with freeCtr := s.freeCtr + 65536 } else s
    .wait (setProgress (hostWrite s addr b false 0xFF) c (start * 16 + (i + 1)))

/-- OP_DUMP: each execution copies one section, until the header has been written. -/
def execOpDump (c : Chan) (s : State) : Res :=
  live s fun s => runOp s c 0x0901 dumpChk (fun _ _ => zeros 4) (dumpStep c)

/-! ### DBG_CAPTURE (15 R370, R371) -/

/-- A write of 1 to DBG_CAPTURE.CAPTURE. -/
def execCapture (s : State) : Res :=
  barWrite s fun s =>
    if s.hlt.dbgBusy then s
    else modHlt s fun h => { h with
      dbgBusy := true
      dbgDone := false
      capAt := dtNs s }

/-- A write of 1 to DBG_CAPTURE.FREEZE. -/
def execFreeze (s : State) : Res := barWrite s fun s => { s with sch := { s.sch with frozen := true } }

/-- The image without FW_LOG. -/
def captured (s : State) : Bytes :=
  dumpHeader s s.hlt.capAt (dtNs s) true false ++ (List.range 6).flatMap fun i => dumpSection s (i + 1)

/-- CAPTURE_DONE: the window holds a complete image. -/
def execCaptureDone (s : State) : Res :=
  live s fun s =>
    if !s.hlt.dbgBusy then s
    else modHlt s fun h => { h with
      image := captured s
      dbgBusy := false
      dbgDone := true
      captures := h.captures + 1 }

end Sys2Proof.Machine
end

