-- ==== Sys2Proof/Machine/HostLink.lean ====
section
/-! DEFINITION. HostLink.lean: the host link, BAR0 plain and bad accesses, BAR4, CXL.mem, MSI-X masking, INT
registers and the coherence mode (06). -/

namespace Sys2Proof.Machine

/-! ### Training (06 R117, R126, R142) -/

/-- Parameters the link can train with (06 R117). -/
def linkValid (p : LinkParams) : Bool :=
  [4, 5, 6].contains p.speed.toNat && [4, 8, 16].contains p.width.toNat && (p.flit == (p.speed == 6))
    && (p.cxl || !(p.cache || p.mem || p.bi)) && (!p.bi || (p.mem && p.flit))

/-- Lower rate or width than the first training since cold reset. -/
def degraded (s : State) (p : LinkParams) : Bool :=
  s.hl.first.any fun f => p.speed.toNat < f.1.toNat || p.width.toNat < f.2.toNat

/-- Shared-line mode needs CXL.cache, CXL.mem and back-invalidation in 256-byte flit mode (06 R126). -/
def sharedOk (p : LinkParams) : Bool := p.cxl && p.cache && p.mem && p.bi && p.flit

/-- Every vector that can send a pending message now does (06 R136). -/
def sendPending (s : State) : State :=
  (List.range 256).foldl (fun s v =>
    if (vget s.hl.vecs v ⟨0, false, false, none⟩).pend && vecOpen s v then msixNow s v else s) s

/-- HOST_LINK_TRAIN (06 R117, R142): the link is up with these parameters and the configuration the host has
programmed; with the parameters of a link that is up it changes the configuration alone (log 16). -/
def execHostLinkTrain (p : LinkParams) (cfg : PcieConfig) (s : State) : Res :=
  live s fun s =>
    if !linkValid p then s
    else
      let again := s.hl.link.speed = 0 || p != s.hl.link
      let low := again && degraded s p
      let lost := again && s.hl.cohMode = 2 && !sharedOk p
      let s := { s with hl := { s.hl with
        link := p
        cfg := cfg
        atc := if cfg.atsEn then s.hl.atc else []
        first := some (s.hl.first.getD (p.speed, p.width)) } }
      let s := if low then setInt s 5 else s
      let s := if lost then setInt s 4 else s
      postsGo (sendPending s)

/-- HOST_LINK_DOWN (06 R432): SPEED reads 0; what waits to be sent is discarded. -/
def execHostLinkDown (s : State) : Res :=
  live s fun s =>
    let s := { s with hl := { s.hl with link := ⟨0, 0, false, false, false, false, false⟩ } }
    postsGo s

/-! ### BAR0 (00 R8, R11; 06 R142) -/

/-- KIND of INT_BAD_ACCESS. -/
def badKind : AccessSize → BitVec 2
  | .byte => 0
  | .half => 1
  | .misaligned _ => 2

def sizeOf_ : AccessSize → Nat
  | .byte => 1
  | .half => 2
  | .misaligned w => if w then 8 else 4

/-- The access breaks R5; a 64-bit read at TB_SNAP_W1_n is served (02 R26). -/
def isBad (off : Nat) (write : Bool) : AccessSize → Bool
  | .byte => true
  | .half => true
  | .misaligned false => off % 4 != 0
  | .misaligned true => off % 8 != 0 && !(!write && 0x20000 ≤ off && off < 0x20400 && off % 16 = 4)

/-- BAR0_BAD_ACCESS (00 R8, 06 R142): all-ones or dropped; the first since BAD_ACCESS was clear is captured. -/
def execBar0BadAccess (off : Nat) (write : Bool) (size : AccessSize) (s : State) : Res :=
  live s fun s =>
    if !isBad off write size || 2 ^ 26 ≤ off then s
    else if !hostDecode s then (if write then s else emit s .unsupported)
    else
      let s := if s.hl.intStatus.getLsbD 0 then s else { s with hl := { s.hl with
        badOff := BitVec.ofNat 26 off
        badWrite := write
        badKind := badKind size
        badValid := true } }
      let s := setInt s 0
      if write then s else emit s (.readData (List.replicate (sizeOf_ size) 0xFF) false)

/-- A write of one 32-bit register or word that has no behaviour of its own: MBX_CTRL, the request areas, INT_CTRL and
INT_MOD_n; anything else ignores it (00 R8, R11; 05 R116; 06 R142). -/
def writePlain (s : State) (off : Nat) (v : Word) : State :=
  if 0x10000 ≤ off && off < 0x20000 then
    let c : Chan := ⟨(off - 0x10000) / 0x1000 % 17, Nat.mod_lt _ (by decide)⟩
    let o := off % 0x1000
    if o = 8 then modChan s c fun ch => { ch with
      irqEn := v.getLsbD 0
      vector := v.extractLsb' 8 8 }
    else if 0x400 ≤ o && o < 0x800 then modChan s c fun ch => { ch with
      req := memWrite ch.req (o - 0x400) (leBytes 4 v.toNat) }
    else s
  else if off = 0x30008 then { s with hl := { s.hl with intVector := v.setWidth 8 } }
  else if 0x30100 ≤ off && off < 0x30500 then
    { s with hl := { s.hl with
      vecs := vmod s.hl.vecs ((off - 0x30100) / 4) fun x => { x with gapUs := v.setWidth 10 } } }
  else s

/-! ### BAR4 and CXL.mem (06 R121, R122, R124, R134; 08 R172, R185) -/

/-- A range cut at lines: start and length of each piece. -/
def bar4Cuts : Nat → Nat → Nat → List (Nat × Nat)
  | 0, _, _ => []
  | fuel + 1, a, len =>
    if len = 0 then []
    else (a, min len (64 - a % 64)) :: bar4Cuts fuel (a + min len (64 - a % 64)) (len - min len (64 - a % 64))

/-- A host read of tower memory: bytes, and whether any line was poisoned; POISON_READ then sets (06 R122). -/
def hostTowerRead (s : State) (a len : Nat) (errs : List (Nat × LineErr)) : State × Bytes × Bool :=
  let r := (bar4Cuts (len + 1) a len).foldl (fun (r : State × Bytes × Bool) c =>
    let (s, d, p) := towerRead r.1 c.1 c.2 (errOf errs c.1) 0
    (s, r.2.1 ++ d, r.2.2 || p)) (s, [], false)
  (if r.2.2 then setInt r.1 1 else r.1, r.2)

/-- BAR4_READ (06 R121, R122). `errs` gives what the code finds, by line number. -/
def execBar4Read (off len : Nat) (errs : List (Nat × LineErr)) (s : State) : Res :=
  barRead s fun s =>
    if s.hl.bar4 < off + len then emit s .unsupported
    else
      let (s, d, p) := hostTowerRead s off len errs
      emit s (.readData d p)

/-- The line's bytes with the enabled ones replaced. -/
def mergeBytes : Bytes → List (Option Byte) → Bytes
  | [], _ => []
  | b :: r, [] => b :: r
  | b :: r, none :: m => b :: mergeBytes r m
  | _ :: r, some v :: m => v :: mergeBytes r m

/-- A host write within one line, with byte enables (06 R122, 08 R185): with EP it stores and marks the line, counting
and raising an event if the line was not yet poisoned. A write of less than the line reads it first (08 R175, R182). -/
def hostLineWrite (s : State) (a : Nat) (m : List (Option Byte)) (ep : Bool) (err : LineErr) : State :=
  match cellOf s a with
  | none => s
  | some cell =>
    let whole := m.length = 64 && m.all (fun b => b.isSome)
    let s := if whole || m.all (fun b => b.isNone) then s else lineCheck s a cell err 0
    let st := storeCells s cell (mergeBytes (memRead s.tw.cells cell m.length) m)
    if m.all fun b => b.isNone then s
    else if ep then
      if isPoisoned s cell then st
      else
        let k := cell / chanBytes / 16
        poisonEvent (setPoison { st with tw := { st.tw with ue := vmod st.tw.ue k (· + 1) } } cell true) 2 a
    else if whole then setPoison st cell false
    else if isPoisoned s cell then s
    else st

/-- A host write of any length (06 R121). -/
def hostTowerWrite (s : State) (a : Nat) (data : List (Option Byte)) (ep : Bool) (errs : List (Nat × LineErr)) : State :=
  (bar4Cuts (data.length + 1) a data.length).foldl (fun s c =>
    hostLineWrite s c.1 ((data.drop (c.1 - a)).take c.2) ep (errOf errs c.1)) s

/-- BAR4_WRITE (06 R121, R122). `errs` gives what the code finds in the lines written in part. -/
def execBar4Write (off : Nat) (data : List (Option Byte)) (ep : Bool) (errs : List (Nat × LineErr)) (s : State) : Res :=
  barWrite s fun s => if s.hl.bar4 < off + data.length then s else hostTowerWrite s off data ep errs

/-- CXL_MEM_READ (06 R124): one line; needs CXL.mem. -/
def execCxlMemRead (dpa : Nat) (err : LineErr) (s : State) : Res :=
  live s fun s =>
    if !s.hl.link.mem then s
    else
      let a := dpa / 64 * 64
      let (s, d, p) := hostTowerRead s a 64 [(a / 64, err)]
      emit (hostTakes s a) (.readData d p)

/-- CXL_MEM_WRITE (06 R122, R134): completed once visible at the tower controller. -/
def execCxlMemWrite (dpa : Nat) (data : List (Option Byte)) (poison : Bool) (err : LineErr) (s : State) : Res :=
  live s fun s =>
    if !s.hl.link.mem then s
    else emit (hostTakes (hostTowerWrite s (dpa / 64 * 64) (data.take 64) poison [(dpa / 64, err)]) dpa) .writeDone

/-- BAR4_RESIZE (06 R120, R434): a power of two from 256 MiB to the tower capacity, with Memory Space Enable clear. -/
def execBar4Resize (size : Nat) (s : State) : Res :=
  live s fun s =>
    if s.hl.link.speed = 0 || s.hl.cfg.mse || size < 2 ^ 28 || Config.towerGib * 8 * gib < size || size != 2 ^ size.log2
    then s
    else { s with hl := { s.hl with bar4 := size } }

/-! ### MSI-X (06 R136, R137) -/

/-- MSIX_UNMASK (06 R136): a pending vector sends one message. -/
def execMsixUnmask (what : UnmaskWhat) (s : State) : Res :=
  live s fun s =>
    match what with
    | .function => sendPending { s with hl := { s.hl with cfg := { s.hl.cfg with funcMask := false } } }
    | .vector v =>
      let m := s.hl.cfg.msix
      sendPending { s with hl := { s.hl with cfg := { s.hl.cfg with
        msix := m.set v.val { m.getD v.val ⟨0, 0, true⟩ with mask := false } } } }

/-- MSIX_GAP_END (06 R137): the triggers held in the gap produce one message. -/
def execMsixGapEnd (v : Fin 256) (s : State) : Res :=
  live s fun s =>
    let x := s.hl.vecs[v]
    if !x.held || vecGap s v then s
    else msixNow { s with hl := { s.hl with vecs := s.hl.vecs.set v { x with held := false } } } v

/-! ### INT registers (06 R142) -/

/-- INT_STATUS_CLEAR: W1C; clearing BAD_ACCESS invalidates the capture. -/
def execIntStatusClear (val : Word) (s : State) : Res :=
  barWrite s fun s =>
    { s with hl := { s.hl with
      intStatus := s.hl.intStatus &&& ~~~(val.setWidth 6)
      badValid := s.hl.badValid && !val.getLsbD 0 } }

/-- INT_ENABLE_WRITE: a bit of STATUS AND ENABLE that goes from 0 to 1 triggers the vector. -/
def execIntEnableWrite (val : Word) (s : State) : Res :=
  barWrite s fun s =>
    let en : BitVec 6 := val.setWidth 6
    let rise := s.hl.intStatus &&& en &&& ~~~s.hl.intEnable
    let s := { s with hl := { s.hl with intEnable := en } }
    if rise = 0 then s else msixNow s s.hl.intVector.toNat

/-! ### OP_COHERENCE_MODE (06 R126, R127) -/

def cohChk (s : State) (k : CmdHeld) : Chk :=
  let m := k.f 0 1
  let u := k.f 4 4
  let b := k.f 8 8
  { param := k.rsv 1 4 ++ [bad (m != 1 && m != 2) 0,
      bad (m = 1 && u != 0) 4, bad (m = 1 && b != 0) 8,
      bad (m = 2 && (u = 0 || decide (256 < u))) 4, bad (m = 2 && b % 2 ^ 28 != 0) 8,
      bad (m = 2 && decide (Config.towerGib * 8 * gib < b + u * 2 ^ 28)) 4]
    state := if !s.sch.queues.isEmpty || (m = 2 && !sharedOk s.hl.link) then some stBadState else none }

/-- OP_COHERENCE_MODE (06 R126). -/
def execOpCoherenceMode (c : Chan) (s : State) : Res :=
  live s fun s => plainOp s c 0x0301 (cohChk s) noResp fun k s =>
    { s with hl := { s.hl with
      cohMode := BitVec.ofNat 2 (k.f 0 1)
      winUnits := BitVec.ofNat 32 (k.f 4 4)
      winBase := BitVec.ofNat 64 (k.f 8 8) } }

/-! ### ATS (06 R140) -/

/-- ATS_INVALIDATION (06 R140): the named translations are no longer used; completed once the reads that used them
have ended. At most 32 are accepted at a time; what becomes of a further one is not stated: it is ignored (log 54). -/
def execAtsInvalidation (addr size : Nat) (pasid : Option Nat) (s : State) : Res :=
  live s fun s =>
    if 32 ≤ s.hl.invals.length then s
    else
      let mine (p : Option (BitVec 20)) := p.map (fun x => x.toNat) == pasid
      let s := { s with hl := { s.hl with
        atc := s.hl.atc.filter fun e => !(mine e.pasid && e.page < addr + size && addr < e.page + e.size) } }
      let tags := (s.hl.reads.filter fun r => r.2.sent && mine r.2.pasid && r.2.addr < addr + size &&
        addr < r.2.addr + max 1 r.2.len).map fun r => r.1
      if tags.isEmpty then emit s .atsInvalDone
      else { s with hl := { s.hl with invals := s.hl.invals ++ [tags] } }

end Sys2Proof.Machine
end

