-- ==== Sys2Proof/Machine/MailboxOps.lean ====
section
/-! DEFINITION. MailboxOps.lean: the opcodes of area 0x00 that stop no other command (05 R108 to R111). -/

namespace Sys2Proof.Machine

/-- OP_NOP. -/
def execOpNop (c : Chan) (s : State) : Res := live s fun s => plainOp s c 0x0001 (fun _ => {}) noResp fun _ s => s

/-- FW_VERSION of the running image; 0 in ROM recovery (05 R108, 17 R395, R411). -/
def fwVersion (s : State) : Nat := if s.sec.fwStarted then fieldAt s.sec.header 4 4 else 0

/-- OP_GET_INFO response (05 R108). -/
def infoResp (s : State) : Bytes :=
  layout 32 [(0, 4, fwVersion s), (4, 2, 1), (6, 1, s.sec.lifecycle.toNat), (7, 1, s.hl.cohMode.toNat),
    (8, 2, (myChip s).toNat), (10, 2, s.fab.inc.toNat), (12, 4, fencedMask s), (16, 2, bridledMask s), (20, 4, dumpSize),
    (24, 4, retiredCount s)]

/-- OP_GET_INFO. -/
def execOpGetInfo (c : Chan) (s : State) : Res :=
  live s fun s => plainOp s c 0x0002 (fun _ => {}) (fun _ s => infoResp s) fun _ s => s

/-- The channel an opcode names by its byte 0; 1 to 15. -/
def namedChan (k : CmdHeld) : Chan := ⟨k.f 0 1 % 17, Nat.mod_lt _ (by decide)⟩

/-- CHANNEL is 1 to 15. -/
def chanChk (k : CmdHeld) : Bool × Nat := bad (k.f 0 1 < 1 || 15 < k.f 0 1) 0

/-- OP_MBX_GRANT (05 R94, R95, R108, R109). -/
def execOpMbxGrant (c : Chan) (s : State) : Res :=
  live s fun s => plainOp s c 0x0003
    (fun k => {
      param := [chanChk k, bad (3 < k.f 1 1) 1, bad (63 < k.f 2 1) 2] ++ k.rsv 3 4 ++ k.rsv 6 8
      state := if (chan s (namedChan k)).busy then some stBusy
        else if ctxDying s (k.f 2 1) then some stBadState else none })
    noResp fun k s => modChan s (namedChan k) fun ch => { ch with
      enabled := bitAt (k.f 1 1) 0
      ctxBound := bitAt (k.f 1 1) 1
      ctx := BitVec.ofNat 6 (k.f 2 1)
      areas := BitVec.ofNat 16 (k.f 4 2) }

/-- OP_EVENT_RING: ADDR 0 removes the ring (05 R108, R111). -/
def execOpEventRing (c : Chan) (s : State) : Res :=
  live s fun s => plainOp s c 0x0005
    (fun k =>
      let set := k.f 0 8 != 0
      { param := [bad (k.f 0 8 % 4096 != 0) 0, bad (set && !(6 ≤ k.f 8 1 && k.f 8 1 ≤ 16)) 8,
          bad (set && 1 < k.f 10 1) 10] ++ k.rsv 11 16 })
    (fun _ s => leBytes 4 s.mbx.evtSeq.toNat) fun k s =>
      { s with mbx := { s.mbx with
        ring := if k.f 0 8 = 0 then none
          else some ⟨BitVec.ofNat 64 (k.f 0 8), k.f 8 1, BitVec.ofNat 8 (k.f 9 1), bitAt (k.f 10 1) 0⟩ } }

/-- OP_ERROR_LOG response: HELD, and the records from INDEX (05 R110). -/
def errorLogResp (s : State) (recs : List EventRec) : Bytes :=
  layout 8 [(0, 4, s.mbx.log.length), (4, 1, recs.length)] ++ (recs.map eventBytes).flatten

/-- OP_ERROR_LOG. -/
def execOpErrorLog (c : Chan) (s : State) : Res :=
  live s fun s => runOp s c 0x0006
    (fun k => { param := bad (k.f 2 1 < 1 || 7 < k.f 2 1) 2 :: k.rsv 3 4 })
    (fun _ s => errorLogResp s []) fun k s =>
      .ok s (errorLogResp s ((s.mbx.log.drop (k.f 0 2)).take (k.f 2 1)))

/-- The highest of signed values. -/
def maxInt : List Int → Int
  | [] => 0
  | a :: r => r.foldl max a

/-- OP_HEALTH_SUMMARY response (05 R110). -/
def healthResp (s : State) : Bytes :=
  let octs := s.pwr.octs.toList
  layout 64 [(0, 1, s.sec.phase.toNat), (1, 1, s.sec.lifecycle.toNat), (2, 1, s.hl.cohMode.toNat),
    (3, 1, bitsOf [(0, b2n (chipWaiting s)), (1, b2n s.sch.frozen), (2, b2n s.hlt.warm.isSome), (3, b2n s.tb.valid),
      (4, b2n (tbTraceable s.tb)), (5, b2n s.tb.holdover), (6, b2n s.cal.untraced), (7, b2n (capUnmet s))]),
    (4, 4, fencedMask s), (8, 2, s.fab.inc.toNat), (10, 2, (myChip s).toNat), (12, 4, s.hlt.heartbeat.toNat),
    (16, 2, s.sch.slots.length), (18, 2, bridledMask s), (20, 4, retiredCount s), (24, 4, s.mbx.evtSeq.toNat),
    (28, 2, s.pwr.powerW.toNat), (30, 2, s.pwr.limitW.toNat), (32, 1, (octs.map fun o => o.level.toNat).foldl max 0),
    (33, 1, bitsOf ((listIdx octs).map fun o => (o.1, b2n o.2.hotHold))),
    (34, 2, ofSigned 2 (maxInt (octs.map fun o => o.towerT))), (36, 2, ofSigned 2 (maxInt (octs.map fun o => o.hotT))),
    (40, 4, bitsOf ((listIdx s.fab.links.toList).map fun l => (l.1, b2n (l.2.state == .up)))),
    (44, 1, gnTracked s), (45, 1, bitsOf [(0, s.gn.mode.toNat), (2, b2n s.gn.solValid), (3, b2n s.gn.traim)]),
    (48, 4, (s.tw.ue.toList.foldl (· + ·) 0).toNat), (52, 4, hltSum s (fun c => c.seqFaults) % 2 ^ 32),
    (56, 1, s.mbx.log.length)]

/-- OP_HEALTH_SUMMARY. -/
def execOpHealthSummary (c : Chan) (s : State) : Res :=
  live s fun s => plainOp s c 0x0007 (fun _ => {}) (fun _ s => healthResp s) fun _ s => s

end Sys2Proof.Machine
end

