-- ==== Sys2Proof/Machine/TableOps.lean ====
section
/-! DEFINITION. TableOps.lean: the table opcodes (12 R270 to R273, R293, R296; 07 R431). -/

namespace Sys2Proof.Machine

/-! ### OP_TABLE_CREATE (12 R270, R272) -/

/-- ELEMS fits the format. -/
def elemsOk (fmt n : Nat) : Bool :=
  if fmt = 1 then n % 2 = 0 && 2 ≤ n && n ≤ 2048
  else if fmt = 6 || fmt = 7 then n % 32 = 0 && 32 ≤ n && n ≤ 992
  else if fmt = 9 || fmt = 10 then 1 ≤ n && n ≤ 512
  else if fmt = 11 then 1 ≤ n && n ≤ 256
  else 1 ≤ n && n ≤ 1024

def tableFmts : List Nat := [1, 2, 3, 4, 6, 7, 9, 10, 11]

/-- Owner entry `i` of a request. -/
def ownerEnt (k : CmdHeld) (i : Nat) : OwnerEnt :=
  let o := 64 + 24 * i
  ⟨BitVec.ofNat 64 (k.f o 8), BitVec.ofNat 16 (k.f (o + 8) 2), BitVec.ofNat 16 (k.f (o + 10) 2),
   BitVec.ofNat 64 (k.f (o + 16) 8)⟩

def ownerEnts (k : CmdHeld) : List OwnerEnt := (List.range (k.f 12 2)).map (ownerEnt k)

/-- Checks of owner entry `i`. -/
def ownerChk (s : State) (k : CmdHeld) (i : Nat) : List (Bool × Nat) :=
  let o := 64 + 24 * i
  let e := ownerEnt k i
  let range := k.f 11 1 = 1
  let prev := (ownerEnt k (i - 1)).rowBase.toNat
  k.rsv (o + 12) (o + 16) ++
  [bad (decide (4095 < e.table.toNat)) (o + 10),
   bad (gChip e.gaddr = myChip s && s.fab.chipId.isSome &&
     ((tableOf s e.table.toNat).any (fun t => t.shard != 0) || (e.table.toNat = k.f 0 2 && k.f 11 1 != 0))) o,
   bad (range && decide (k.f 16 8 ≤ e.rowBase.toNat)) 16,
   bad (range && i = 0 && e.rowBase.toNat != 0) (o + 16),
   bad (range && i != 0 && decide (e.rowBase.toNat ≤ prev)) (o - 8)]

/-- The request without what UPDATE_OWNERS may change. -/
def createdBytes (k : CmdHeld) : Bytes :=
  let b := putAt k.payload 8 (leBytes 2 (k.f 8 2 % 16))
  (List.range (k.f 12 2)).foldl (fun b i => putAt b (64 + 24 * i + 8) (zeros 2)) b

/-- Offsets at which the fields of a request begin. -/
def createFields (n : Nat) : List Nat :=
  [0, 2, 3, 4, 6, 8, 10, 11, 12, 16, 24, 32, 40] ++
    ((List.range n).map fun i => [64 + 24 * i, 64 + 24 * i + 8, 64 + 24 * i + 10, 64 + 24 * i + 16]).flatten

/-- The field in which two requests first differ. -/
def firstDiff (a b : Bytes) (n : Nat) : Option Nat :=
  let d := (List.range (max a.length b.length)).find? fun i => a[i]? != b[i]?
  d.bind fun i => ((createFields n).filter fun f => f ≤ i).getLast?

/-- The request that would create the table as it stands: an epoch switch has changed its BASE and BALLAST_DVA (12 R291). -/
def standing (t : TableD) : Bytes :=
  if t.lastAt.isNone then t.created
  else
    let b := putAt t.created 40 (leBytes 8 t.ballast.toNat)
    if t.shard = 0 then putAt b 32 (leBytes 8 t.base.toNat) else b

/-- With UPDATE_OWNERS every other field matches the existing table. -/
def updateOwnersChk (s : State) (k : CmdHeld) : List (Bool × Nat) :=
  match tableOf s (k.f 0 2) with
  | none => []
  | some t =>
    if !(bitAt (k.f 8 2) 4) || t.dying then []
    else match firstDiff (createdBytes k) (standing t) (min (k.f 12 2) t.owners.length) with
      | none => []
      | some o => [bad true o]

def tableCreateChk (s : State) (k : CmdHeld) : Chk :=
  let fmt := k.f 3 1
  let sh := k.f 11 1
  let nown := k.f 12 2
  let upd := bitAt (k.f 8 2) 4
  { param := k.rsv 14 16 ++ k.rsv 48 64 ++
      [bad (decide (4095 < k.f 0 2)) 0, bad (decide (63 < k.f 2 1)) 2, bad (!tableFmts.contains fmt) 3,
       bad (k.f 4 2 % 32 != 0 || decide (k.f 4 2 < 32) || decide (1024 < k.f 4 2)
         || decide (k.f 4 2 < packedRow fmt (k.f 6 2))) 4,
       bad (tableFmts.contains fmt && !elemsOk fmt (k.f 6 2)) 6, bad (decide (32 ≤ k.f 8 2)) 8,
       bad (bitAt (k.f 8 2) 2 && isMx fmt) 3, bad (decide (7 < k.f 10 1)) 10, bad (decide (2 < sh)) 11,
       bad (if sh = 0 then nown != 0 else decide (sh ≤ 2) && (nown = 0 || decide (256 < nown))) 12]
      ++ ((List.range nown).map (ownerChk s k)).flatten ++ updateOwnersChk s k
    ctxs := k.f 2 1 :: ((tableOf s (k.f 0 2)).map fun t => t.ctx).toList
    missing := (ctxOf s (k.f 2 1)).isNone || (upd && (tableOf s (k.f 0 2)).isNone)
    state := if ctxDying s (k.f 2 1) || (tableOf s (k.f 0 2)).any (fun t => t.dying || !upd) then some stBadState
      else none }

/-- The new descriptor. -/
def newTable (k : CmdHeld) : TableD :=
  { ctx := k.f 2 1, fmt := BitVec.ofNat 8 (k.f 3 1), rowBytes := k.f 4 2, elems := k.f 6 2,
    flags := BitVec.ofNat 16 (k.f 8 2 % 16), home := k.f 10 1, shard := BitVec.ofNat 8 (k.f 11 1),
    rows := BitVec.ofNat 64 (k.f 16 8), missing := BitVec.ofNat 64 (k.f 24 8), base := BitVec.ofNat 64 (k.f 32 8),
    ballast := BitVec.ofNat 64 (k.f 40 8), owners := ownerEnts k, epoch := 0, pend := none, prevBase := 0,
    prevBallast := 0, lastAt := none, prevBusy := false, lookups := 0, ballasts := 0, updApplied := 0, updDup := 0,
    updStale := 0, updDropped := 0, dying := false, created := createdBytes k }

/-- OP_TABLE_CREATE; with UPDATE_OWNERS only the INC fields change. -/
def execOpTableCreate (c : Chan) (s : State) : Res :=
  live s fun s => plainOp s c 0x0601 (tableCreateChk s) noResp fun k s =>
    if bitAt (k.f 8 2) 4 then modTable s (k.f 0 2) fun t => { t with owners := ownerEnts k }
    else { s with te := { s.te with tables := tput s.te.tables (k.f 0 2) (newTable k) } }

/-! ### Other opcodes -/

/-- Steps 5 to 8 for an opcode that names a table. -/
def tableChk (s : State) (k : CmdHeld) (param : List (Bool × Nat)) (state : TableD → Option Nat) : Chk :=
  let t := tableOf s (k.f 0 2)
  { param := bad (decide (4095 < k.f 0 2)) 0 :: param
    ctxs := (t.map fun t => [t.ctx]).getD []
    missing := t.isNone
    state := t.bind state }

/-- A lookup served through a sharded table has positions that table `tbl` of this chip serves. -/
def servedHere (s : State) (tbl : Nat) (l : Lookup) : Bool :=
  match tableOf s l.table with
  | none => false
  | some t => (listIdx t.owners).any fun o => gChip o.2.gaddr = myChip s && o.2.table.toNat = tbl
      && l.pos.any fun p => p.owner == some o.1

/-- A lookup in progress names the table, or is served from it. -/
def lookupsOn (s : State) (tbl : Nat) : Bool :=
  s.te.engines.any fun e => (e.intake ++ e.active).any fun l => l.table = tbl || servedHere s tbl l

/-- OP_TABLE_DESTROY waits for the lookups in progress (12, Edges; 07 R431). -/
def execOpTableDestroy (c : Chan) (s : State) : Res :=
  live s fun s => runOp s c 0x0602 (fun k => tableChk s k (k.rsv 2 4) fun _ => none) noResp fun k s =>
    let i := k.f 0 2
    let s := modTable s i fun t => { t with
      dying := true
      pend := none }
    if lookupsOn s i then .wait s
    else .ok { s with te := { s.te with tables := tdel s.te.tables i } } []

/-- Device time, in nanoseconds, at which a command was accepted. -/
def acceptedNs (s : State) (k : CmdHeld) : Nat := (s.tb.count.toNat - (s.tb.up - k.ackAt)) / nsUp 1

/-- AT_DT is less than 1 ms after the command's acceptance (12 R293). -/
def epochSoon (s : State) (k : CmdHeld) : Bool := k.f 8 8 < acceptedNs s k + 1000000

/-- The checks of OP_TABLE_EPOCH_AT (12 R293). -/
def epochChk (s : State) (k : CmdHeld) : Chk :=
  let cancel := bitAt (k.f 2 1) 0
  tableChk s k (k.rsv 3 8 ++
      [bad (decide (2 ≤ k.f 2 1)) 2, bad (!cancel && s.tb.valid && epochSoon s k) 8])
    fun t =>
      if !s.tb.valid || t.dying then some stBadState
      else if cancel then
        (if t.pend.any (fun p => p.at_.toNat = k.f 8 8) then none
         else if t.lastAt.any (fun a => a.toNat = k.f 8 8) then some stBadState else none)
      else if t.pend.isSome then some stBadState else none

/-- The channel may name the table. -/
def mayName (s : State) (c : Chan) (t : TableD) : Bool := !(chan s c).ctxBound || (chan s c).ctx.toNat = t.ctx

/-- The response of a refusal: with CANCEL the epoch in force. -/
def epochRefused (c : Chan) (k : CmdHeld) (s : State) : Bytes :=
  match tableOf s (k.f 0 2) with
  | some t => if bitAt (k.f 2 1) 0 && mayName s c t then leBytes 4 t.epoch.toNat else zeros 4
  | none => zeros 4

/-- OP_TABLE_EPOCH_AT (12 R291, R293). -/
def execOpTableEpochAt (c : Chan) (s : State) : Res :=
  live s fun s =>
    let s := match opCmd s c 0x0603 with
      | some k => applySwitch s (k.f 0 2)
      | none => s
    runOp s c 0x0603 (epochChk s) (epochRefused c) fun k s =>
      let i := k.f 0 2
      let ep := ((tableOf s i).map fun t => t.epoch).getD 0
      if bitAt (k.f 2 1) 0 then
        .ok (modTable s i fun t => if t.pend.any (fun p => p.at_.toNat = k.f 8 8) then { t with pend := none } else t)
          (leBytes 4 ep.toNat)
      else
        let p : PendSwitch := ⟨BitVec.ofNat 64 (k.f 8 8), BitVec.ofNat 64 (k.f 16 8), BitVec.ofNat 64 (k.f 24 8)⟩
        .ok (modTable s i fun t => { t with pend := some p }) (leBytes 4 (ep + 1).toNat)

/-- The checks of OP_UPDATE_STREAM_OPEN (12 R296). -/
def streamOpenChk (s : State) (k : CmdHeld) : Chk :=
  let ring := bitAt (k.f 5 1) 0
  let old := streamOf s (BitVec.ofNat 16 (k.f 0 2)) (BitVec.ofNat 16 (k.f 2 2))
  (ctxChk s (k.f 4 1)
    (k.rsv 25 32 ++
      [bad (decide (4095 < k.f 0 2)) 0, bad (decide (63 < k.f 4 1)) 4, bad (decide (2 ≤ k.f 5 1)) 5,
       bad (decide (7 < k.f 6 1)) 6, bad (ring && (decide (k.f 7 1 < 4) || decide (16 < k.f 7 1))) 7,
       bad (ring && k.f 16 8 % 4096 != 0) 16, bad (ring && (decide (k.f 24 1 < 6) || decide (11 < k.f 24 1))) 24,
       bad (ring && !(s.fab.chipId.any fun x => x.toNat = k.f 0 2)) 0])
    (if old.isSome then some stBadState else none)).alsoNames (old.map fun x => x.2.ctx)

/-- OP_UPDATE_STREAM_OPEN: the lowest free handle. -/
def execOpUpdateStreamOpen (c : Chan) (s : State) : Res :=
  live s fun s => runOp s c 0x0604
    (fun k => { streamOpenChk s k with full := 1024 ≤ s.te.streams.length }) (fun _ _ => zeros 4) fun k s =>
      let h := freshIdx s.te.streams
      let x : UpdStream :=
        { source := BitVec.ofNat 16 (k.f 0 2), stream := BitVec.ofNat 16 (k.f 2 2), ctx := k.f 4 1, engine := k.f 6 1,
          next := k.f 8 8, window := BitVec.allOnes 1024, ring := bitAt (k.f 5 1) 0, log2 := k.f 7 1,
          ringDva := BitVec.ofNat 64 (k.f 16 8), slotLog2 := k.f 24 1, tail := 0, head := 0 }
      .ok { s with te := { s.te with streams := tput s.te.streams h x } } (leBytes 4 h)

/-- Records of ring `h` no longer move its HEAD: another stream may take its handle (12 R289, R296). -/
def closeRing (s : State) (h : Nat) : State :=
  let close (r : UpdRec) : UpdRec := if r.src = .ring h then { r with src := .closed } else r
  { s with te := { s.te with engines := s.te.engines.map fun e => { e with
      arriving := e.arriving.map close
      inflight := e.inflight.map close } } }

/-- OP_UPDATE_STREAM_CLOSE. -/
def execOpUpdateStreamClose (c : Chan) (s : State) : Res :=
  live s fun s => plainOp s c 0x0605
    (fun k =>
      let x := tget s.te.streams (k.f 0 2)
      { param := bad (decide (1023 < k.f 0 2)) 0 :: k.rsv 2 4
        ctxs := (x.map fun x => [x.ctx]).getD []
        missing := x.isNone })
    noResp fun k s =>
      let s := closeRing (accDiscard s (ringOwns (k.f 0 2))) (k.f 0 2)
      { s with te := { s.te with streams := tdel s.te.streams (k.f 0 2) } }

/-- The response of OP_TABLE_STATS. -/
def statsResp (t : TableD) : Bytes :=
  layout 64 [(0, 4, t.epoch.toNat), (4, 4, bitsOf [(0, b2n t.pend.isSome), (1, b2n t.prevBusy)]),
    (8, 8, (t.pend.map fun p => p.at_.toNat).getD 0), (16, 8, t.lookups.toNat), (24, 8, t.ballasts.toNat),
    (32, 8, t.updApplied.toNat), (40, 8, t.updDup.toNat), (48, 8, t.updStale.toNat), (56, 8, t.updDropped.toNat)]

/-- OP_TABLE_STATS response; a table the channel may not name shows nothing (05 R95). -/
def tableStatsResp (c : Chan) (k : CmdHeld) (s : State) : Bytes :=
  match tableOf s (k.f 0 2) with
  | some t => if mayName s c t then statsResp t else zeros 64
  | none => zeros 64

/-- OP_TABLE_STATS. -/
def execOpTableStats (c : Chan) (s : State) : Res :=
  live s fun s =>
    let s := match opCmd s c 0x0606 with
      | some k => applySwitch s (k.f 0 2)
      | none => s
    plainOp s c 0x0606 (fun k => tableChk s k (k.rsv 2 4) fun t => if t.dying then some stBadState else none)
      (tableStatsResp c) fun _ s => s

end Sys2Proof.Machine
end

