-- ==== Sys2Proof/Machine/Responses.lean ====
section
/-! DEFINITION. Responses.lean: the response payload of a command that ends without its result, and the ending of a
command by OP_MBX_RESET, a reset or its maximum firmware time (05 R99, R100, R105, R109, R430). -/

namespace Sys2Proof.Machine

/-- A view of what the payload names; of a payload that has not been read, `n` zero bytes. -/
def namedView (k : CmdHeld) (n : Nat) (b : Bytes) : Bytes := if k.ready then b else zeros n

/-- The response payload of command `k` on channel `c` as state stands, results not produced zero (05 R430): of a command
whose payload has not been read, nothing of any object; of an OP_ATTEST, no report. -/
def respOf (s : State) (c : Chan) (k : CmdHeld) : Bytes :=
  match k.opcode.toNat with
  | 0x0002 => infoResp s
  | 0x0005 => leBytes 4 s.mbx.evtSeq.toNat
  | 0x0006 => errorLogResp s []
  | 0x0007 => healthResp s
  | 0x0101 => timeConfigResp k s
  | 0x0102 => timeSetRefused k s
  | 0x0103 => timeStatusResp s
  | 0x0104 => calRunResp k s
  | 0x0105 => calReadRefused k s
  | 0x0201 => gnConfigResp k s
  | 0x0204 => gnStreamResp k s
  | 0x0205 => zeros 4
  | 0x0307 => zeros 4
  | 0x0308 => zeros 4
  | 0x030A => fillResp (filled s c k)
  | 0x030B => rowcacheResp s
  | 0x030C => leBytes 4 (retiredCount s)
  | 0x030D => deepConfigResp s
  | 0x0401 => bridleResp k s
  | 0x0402 => bridleResp k s
  | 0x0403 => leBytes 4 (fencedMask s)
  | 0x0404 => namedView k 32 (coreStatusAnswer k s)
  | 0x0504 => namedView k 4 (destroyRefused k s)
  | 0x0505 => zeros 4
  | 0x0507 => zeros 4
  | 0x0603 => namedView k 4 (epochRefused c k s)
  | 0x0604 => zeros 4
  | 0x0606 => namedView k 64 (tableStatsResp c k s)
  | 0x0702 => zeros 4
  | 0x0705 => zeros 4
  | 0x0706 => fabricResp s
  | 0x0801 => zeros 4
  | 0x0802 => reefResp s
  | 0x0803 => domainResp s
  | 0x0805 => thermalResp s 0
  | 0x0901 => dumpResp s c
  | 0x0902 => layout 4 [(0, 2, s.fab.inc.toNat)]
  | 0x0903 => zeros 4
  | 0x0A01 => zeros 4
  | 0x0A02 => leBytes 4 (received s c)
  | 0x0A03 => commitResp s []
  | 0x0A04 => lifecycleResp s
  | 0x0A05 => statusResp s 0
  | 0x0A06 => zeros 416
  | _ => []

/-- The reads of an indirect payload stop (05 R103). -/
def stopReads (s : State) (c : Chan) : State :=
  let mine (r : Nat × HostRead) : Bool := match r.2.why with
    | .indirect d _ => d = c
    | _ => false
  let gone := (s.hl.reads.filter mine).map fun r => r.1
  gone.foldl invalDrain { s with hl := { s.hl with reads := s.hl.reads.filter fun r => !mine r } }

/-- The steps of a command stop: what it had begun outside the mailbox ends with it (05 R100). -/
def stopCmd (s : State) (c : Chan) (k : CmdHeld) : State :=
  let waits (w : TimeSetWait) : Bool := w.chan = c
  let s := stopReads s c
  let s := if s.tb.timeSet.any waits then { s with tb := { s.tb with timeSet := none } } else s
  match k.opcode.toNat with
  | 0x030A => accDrop s (isFill c)
  | 0x0702 => trainStop s c
  | 0x0104 => if s.cal.run.any fun r => r.chan == some c then calAbort s else s
  | _ => s

/-- The command in progress on a channel ends with `status`, keeping the steps it has made; a stopped MP ends none (05
R115), and an OP_FILL ends after the deep writes it has issued (08 R188). -/
def endCmd (s : State) (c : Chan) (status : Nat) : State :=
  match (chan s c).cmd with
  | none => s
  | some k =>
    if s.hlt.mpHung then s
    else if fillFlies s c k then setEnding s c status
    else
    let fill := filled s c k
    let s := stopCmd s c k
    finishCmd s c status 0 (if k.opcode.toNat = 0x030A then fillResp fill else respOf s c k)

end Sys2Proof.Machine
end

