-- ==== Sys2Proof/Machine/HostReads.lean ====
section
/-! DEFINITION. HostReads.lean: completions of the device's non-posted requests to the host: reads and ATS translation
requests (05 R96; 06 R117, R119, R139 to R141, R432). -/

namespace Sys2Proof.Machine

/-- A piece of the payload of an indirect command has arrived; with the last one a counted length is checked (05 R96, R430
step 4). -/
def indirectDone (s : State) (c : Chan) (off : Nat) (b : Bytes) : State :=
  match (chan s c).cmd with
  | none => s
  | some k =>
    let got := tput k.pieces off b
    let all := (got.map fun x => x.2).flatten
    match opRow k.opcode.toNat with
    | none => s
    | some r =>
      if all.length < k.f 8 4 then modChan s c fun ch => { ch with cmd := some { k with pieces := got } }
      else if lenFits r.len all.length all then modChan s c fun ch => { ch with cmd := some { k with
        payload := all
        pieces := []
        ready := true } }
      else finishCmd s c stBadLen 0 []

/-- A read of the host ends: the bytes, or none when it failed (06 R432). -/
def readEnd (s : State) (r : HostRead) (data : Option Bytes) : State :=
  match r.why with
  | .indirect c off => if !mpServes s then s else match data with
    | some b => indirectDone s c off b
    | none => endCmd s c stDmaFault
  | .access id => hostReadEnd s id r.addr data
  | .go id => hostGo s id data.isSome
  | .flush i => flushEnd s i data.isSome

/-- Reads that waited for a tag are sent, oldest first (06 R117). -/
def pumpReads (s : State) : State := s.hl.reads.foldl (fun s r => if r.2.sent then s else sendRead s r.1) s

/-- Read `tag` is over. -/
def readOver (s : State) (tag : Nat) (r : HostRead) (data : Option Bytes) : State :=
  let s := { s with hl := { s.hl with reads := tdel s.hl.reads tag } }
  pumpReads (readEnd (invalDrain s tag) r data)

/-- Completion data cut or filled to the length asked for. -/
def readBytes (r : HostRead) (b : Bytes) : Bytes := fit r.len b

/-- HOST_READ_COMPLETION: data, or none for an unsuccessful completion; for a write by CXL.cache, its GO (06 R130; log 31).
One that comes after the completion timeout finds the request ended (06 R119). -/
def execHostReadCompletion (tag : Nat) (data : Option Bytes) (s : State) : Res :=
  live s fun s =>
    match tget s.hl.reads tag with
    | none => s
    | some r =>
      if r.sent && s.hl.link.speed != 0 then
        readOver s tag r (if r.limit ≤ s.tb.up then none else data.map (readBytes r))
      else s

/-- What needed a translation learns that it has none: refused by the host, or not answered (06 R141, R432). -/
def noXlate (s : State) (q : AtsReq) (denied : Bool) : State :=
  let s := if denied then setInt s 3 else s
  match q.why with
  | .access id => if (accOf s id).any fun a => a.stage == .ats
      then accFail s id (if denied then .xlate 5 else .memory) else s
  | .read tag => match tget s.hl.reads tag with
    | none => if denied then { s with hl := { s.hl with atc := ⟨q.pasid, q.page, 4096, 0, false, false⟩ :: s.hl.atc } } else s
    | some r =>
      let s' := { s with hl := { s.hl with reads := tdel s.hl.reads tag } }
      match r.why with
      | .access id => accFail s' id (if denied then .xlate 5 else .memory)
      | .go id => accFail s' id .memory
      | .indirect c _ =>
        endCmd (if denied then event s' 0x0009 1 (xlateFaultData 0xFF 5 0xA0 r.addr) else s') c stDmaFault
      | .flush i => flushEnd s' i false
  | .post => match s.hl.posts with
    | .write addr _ _ ctx :: rest =>
      let s := { s with hl := { s.hl with posts := rest } }
      if denied then postDenied s addr ctx else s
    | .event addr _ :: rest =>
      let s := { s with hl := { s.hl with posts := rest } }
      if denied then eventDenied s addr else s
    | _ => s

/-- What waited for a translation goes on with it (06 R139). -/
def withXlate (s : State) (q : AtsReq) : State :=
  match q.why with
  | .access id => match accOf s id with
    | some a => if a.stage = .ats then hostPut s id (q.page + a.dva % 4096) a else s
    | none => s
  | .read tag => match tget s.hl.reads tag with
    | some r => if atcFind s r.pasid r.addr false = .denied then noXlate s q true else sendRead s tag
    | none => s
  | .post => s

/-- A translation enters the cache of 4,096 entries; the oldest leaves. -/
def atcPut (s : State) (q : AtsReq) (r : AtsResp) : State :=
  let e : AtcEnt := ⟨q.pasid, q.page / max 1 r.size * max 1 r.size, r.size, r.addr, r.read, r.write⟩
  { s with hl := { s.hl with atc := (e :: s.hl.atc).take 4096 } }

/-- The posts that waited behind a translation leave. -/
def postsOn (s : State) : State := postsGo s

/-- ATS_TRANSLATION_COMPLETION (06 R139, R141). -/
def execAtsTranslationCompletion (id : Nat) (resp : AtsResp) (s : State) : Res :=
  live s fun s =>
    match tget s.hl.ats id with
    | none => s
    | some q =>
      let s := { s with hl := { s.hl with ats := tdel s.hl.ats id } }
      if q.limit ≤ s.tb.up then postsOn (noXlate s q false)
      else if !resp.read && !resp.write then postsOn (noXlate s q true)
      else postsOn (withXlate (atcPut s q resp) q)

/-- COMPLETION_TIMEOUT (06 R119) of a read or of a translation request. -/
def execCompletionTimeout (tag : Nat) (s : State) : Res :=
  live s fun s =>
    match tget s.hl.reads tag with
    | some r => if r.sent && r.limit ≤ s.tb.up then readOver s tag r none else s
    | none => match tget s.hl.ats tag with
      | some q =>
        if q.limit ≤ s.tb.up then postsOn (noXlate { s with hl := { s.hl with ats := tdel s.hl.ats tag } } q false) else s
      | none => s

end Sys2Proof.Machine
end

