-- ==== Sys2Proof/Machine/MailboxFlow.lean ====
section
/-! DEFINITION. MailboxFlow.lean: doorbells, acknowledgement with the checks 1 to 4 of 05 R430, channel 16, and the
endings of a command that other commands bring (05 R94 to R104, R109, R113 to R116). -/

namespace Sys2Proof.Machine

/-! ### Doorbells (05 R97, R101) -/

/-- The sequence number of the next new command. -/
def nextSeq (last : Half) : Half := if last = 0 || last = 0xFFFF then 1 else last + 1

/-- Firmware refuses a doorbell: SEQ_ERR, BUSY clear (05 R101, R102). -/
def seqRefuse (s : State) (c : Chan) : State :=
  modChan s c fun ch => { ch with
    seqErr := true
    busy := false }

/-- Firmware re-presents the last response (05 R101). -/
def replay (s : State) (c : Chan) : State :=
  let s := modChan s c fun ch => { ch with
    ack := true
    replayed := true
    done := true
    busy := false }
  if (chan s c).irqEn then msix s (chan s c).vector.toNat else s

/-- Firmware acts on a doorbell's SEQ: replay, refusal, or a new command, which stays BUSY (05 R101). -/
def bellDecide (s : State) (c : Chan) : State :=
  let ch := chan s c
  if ch.bell = ch.lastSeq && ch.lastSeq != 0 then replay s c
  else if ch.bell != nextSeq ch.lastSeq then seqRefuse s c
  else s

/-- A doorbell reaches a channel; doorbells are numbered in the order in which they do (05 R104). -/
def ringBell (s : State) (c : Chan) (seq : Half) : State :=
  let ch := chan s c
  if !ch.enabled then s
  else if ch.busy then (if seq = ch.bell then s else modChan s c fun ch => { ch with overrun := true })
  else
    let s := { modChan s c fun ch => { ch with
      busy := true
      ack := false
      done := false
      replayed := false
      bell := seq
      bellNo := s.mbx.bells } with mbx.bells := s.mbx.bells + 1 }
    if mpServes s then bellDecide s c else s

/-- A host channel. -/
def hostChan (c : Fin 16) : Chan := ⟨c.val, Nat.lt_succ_of_lt c.isLt⟩

/-- MBX_DOORBELL. -/
def execMbxDoorbell (c : Fin 16) (val : Word) (s : State) : Res :=
  barWrite s fun s => ringBell s (hostChan c) (val.setWidth 16)

/-- MBX_STATUS_CLEAR: write-one-to-clear of OVERRUN and SEQ_ERR (05 R116). -/
def execMbxStatusClear (c : Fin 16) (val : Word) (s : State) : Res :=
  barWrite s fun s => modChan s (hostChan c) fun ch => { ch with
    overrun := ch.overrun && !val.getLsbD 4
    seqErr := ch.seqErr && !val.getLsbD 5 }

/-! ### MBX_ACK (05 R95 to R99, R430 steps 1 to 4) -/

/-- Step 2: the channel may carry the opcode (05 R95, R113). -/
def mayCarry (s : State) (c : Chan) (r : OpRow) : Bool :=
  if c.val = 16 then r.bmc
  else if c.val = 0 then true
  else !r.c0 && (chan s c).areas.getLsbD (r.op / 256) && !((chan s c).ctxBound && (r.op = 0x030A || r.op = 0x030C))

/-- Opcodes served in ROM recovery, before READY and in FAIL (17 R395, R398, R399). -/
def bootOps : List Nat := [0x0001, 0x0002, 0x0A01, 0x0A02, 0x0A03, 0x0A05]

/-- Step 3: what the device's phase answers, if it refuses (15 R362; 17 R395, R398, R399). -/
def phaseRefuses (s : State) (op : Nat) : Option Nat :=
  if s.sec.phase = 8 then (if bootOps.contains op then none else some stBadState)
  else if s.sec.phase != 4 then (if bootOps.contains op then none else some stBusy)
  else if s.hlt.warm.isSome && !([0x0001, 0x0002, 0x0007].contains op) then some stBusy
  else none

/-- The read requests for `len` bytes at host address `addr`, from offset `off` of an indirect payload, cut at 4 KiB
pages and to the Max Read Request Size (06 R117); the address that cannot be read, if there is one. -/
def indirectReads (c : Chan) : Nat → State → Nat → Nat → Nat → State × Option Nat
  | 0, s, _, _, _ => (s, none)
  | fuel + 1, s, addr, off, len =>
    if len = 0 then (s, none)
    else
      let n := min len (min (4096 - addr % 4096) (maxRead s.hl.cfg))
      match hostRead s (.indirect c off) addr n 0xFF with
      | (some _, s) => indirectReads c fuel s (addr + n) (off + n) (len - n)
      | (none, s) => (s, some addr)

/-- The payload of an indirect command is asked for, once its own fields pass (05 R96). -/
def indirectStart (s : State) (c : Chan) (k : CmdHeld) : State :=
  match lowestBad (bad (k.f 0 8 % 64 != 0) 0 :: k.rsv 12 16) with
  | some o => finishCmd s c stBadParam o (respOf s c k)
  | none => match indirectReads c (k.f 8 4) s (k.f 0 8) 0 (k.f 8 4) with
    | (s, none) => s
    | (s, some a) =>
      let s := if hostUp s then event s 0x0009 1 (xlateFaultData 0xFF 5 0xA0 a) else s
      finishCmd (stopReads s c) c stDmaFault 0 (respOf s c k)

/-- Step 4 for a direct and an indirect request (05 R96, R103). -/
def lenCheck (s : State) (c : Chan) (k : CmdHeld) (len : Nat) (indirect : Bool) (r : OpRow) : State :=
  if indirect then
    let n := k.f 8 4
    if len != 16 || n = 0 || 2 ^ 24 < n || !lenPossible r.len n then finishCmd s c stBadLen 0 []
    else indirectStart s c k
  else if 1008 < len || !lenFits r.len len k.payload then finishCmd s c stBadLen 0 []
  else modChan s c fun ch => { ch with cmd := some { k with ready := true } }

/-- Firmware takes the command whose header is good: ACK, then the checks of steps 1 to 4. -/
def accept (s : State) (c : Chan) (h : Bytes) : State :=
  let op := fieldAt h 0 2
  let len := fieldAt h 4 2
  let k : CmdHeld :=
    { opcode := BitVec.ofNat 16 op, seq := (chan s c).bell, payload := (h.drop 16).take len, ready := false,
      begun := false, pieces := [], ackAt := s.tb.up, progress := 0, ending := none }
  let s := modChan s c fun ch => { ch with
    ack := true
    cmd := some k }
  match opRow op with
  | none => finishCmd s c stBadOpcode 0 []
  | some r =>
    if !mayCarry s c r then finishCmd s c stNotPermitted 0 []
    else match phaseRefuses s op with
      | some st => finishCmd s c st 0 []
      | none => lenCheck s c k len (bitAt (fieldAt h 6 1) 0) r

/-- A doorbell of another channel that reached the block earlier is still to be taken up. -/
def earlierBell (s : State) (c : Chan) : Bool :=
  (listIdx s.mbx.chans.toList).any fun e =>
    e.1 != c.val && e.2.busy && e.2.cmd.isNone && e.2.bellNo < (chan s c).bellNo

/-- MBX_ACK: firmware takes up a doorbell, in the order in which they came (05 R104), copies the request area and sets
ACK; a header whose SEQ or VERSION is wrong is refused (05 R97, R102). -/
def execMbxAck (c : Chan) (s : State) : Res :=
  live s fun s =>
    if !mpServes s || !(chan s c).busy || (chan s c).cmd.isSome || earlierBell s c then s
    else
      let s := bellDecide s c
      if !(chan s c).busy then s
      else
        let h := memRead (chan s c).req 0 1024
        if fieldAt h 2 2 != (chan s c).bell.toNat || fieldAt h 7 1 != 1 then seqRefuse s c else accept s c h

/-! ### Channel 16 (05 R113) -/

def bmcChan : Chan := ⟨16, by decide⟩

/-- SOLP_REQ: a block write of at most 255 bytes; its end is the doorbell (05 R113). What follows from a block shorter than
its header and the header's LEN is not stated: the bytes that it lacks are taken as zero (log 30). -/
def execSolpReq (msg : Bytes) (pecOk : Bool) (s : State) : Res :=
  live s fun s =>
    if !pecOk || 255 < msg.length then s
    else
      let s := if (chan s bmcChan).busy then s
        else modChan s bmcChan fun ch => { ch with req := memWrite [] 0 msg }
      ringBell s bmcChan (BitVec.ofNat 16 (fieldAt msg 2 2))

/-- SOLP_STAT: the status byte; reading clears SEQ_ERR and OVERRUN. -/
def execSolpStat (s : State) : Res :=
  live s fun s =>
    let ch := chan s bmcChan
    let b := bitsOf [(0, b2n ch.busy), (1, b2n ch.ack), (2, b2n ch.done), (3, b2n ch.replayed), (4, b2n ch.seqErr),
      (5, b2n ch.overrun)]
    modChan (emit s (.smbus [BitVec.ofNat 8 b])) bmcChan fun ch => { ch with
      overrun := false
      seqErr := false }

/-! ### Endings -/

/-- A channel's LAST_SEQ and status bits clear (05 R109). -/
def clearChan (s : State) (c : Chan) : State :=
  modChan s c fun ch => { ch with
    lastSeq := 0
    busy := false
    ack := false
    done := false
    replayed := false
    overrun := false
    seqErr := false }

/-- OP_MBX_RESET: the named channel's command ends ST_ABORTED, an OP_FILL after the writes it has issued (08 R188); its
LAST_SEQ and status bits clear (05 R109). -/
def execOpMbxReset (c : Chan) (s : State) : Res :=
  live s fun s => runOp s c 0x0004 (fun k => { param := chanChk k :: k.rsv 1 4 }) (fun _ _ => []) fun k s =>
    let n := namedChan k
    let t := endCmd s n stAborted
    if (chan s n).cmd.any (fillFlies s n) then .wait t else .ok (clearChan t n) []

/-- A context whose destruction timed out stays taken (07 R431). -/
def ctxStays (s : State) (x : Nat) : State :=
  { s with xl := { s.xl with ctxs := tmod s.xl.ctxs x fun y => { y with dying := true } } }

/-- The link an OP_LINK_UP on channel `c` trains. -/
def trainedBy (s : State) (c : Chan) : Option Nat := (List.range 24).find? fun l => (linkOf s l).chan == some c

/-- Command `k` runs out of its maximum firmware time (05 R99; 07 R431; 14 R352). -/
def timeOut (s : State) (c : Chan) (k : CmdHeld) : State :=
  if k.opcode.toNat = 0x0303 && k.begun then endCmd (ctxStays s (k.f 0 1)) c stTimeout
  else if k.opcode.toNat = 0x0702 then
    (match trainedBy s c with
     | some l => trainTimeout s l
     | none => endCmd s c stTimeout)
  else endCmd s c stTimeout

/-- Another channel holds a command that has begun or was accepted earlier, for which one of this channel may be waiting
(05 R104). -/
def othersFirst (s : State) (c : Chan) : Bool :=
  (listIdx s.mbx.chans.toList).any fun e => e.1 != c.val && e.2.cmd.any fun q =>
    q.begun || e.2.bellNo < (chan s c).bellNo

/-- MAX_FIRMWARE_TIME_EXPIRY: a command that still waits ends ST_TIMEOUT; a warm reset completes within its time (15
R361). -/
def execMaxFirmwareTimeExpiry (c : Chan) (s : State) : Res :=
  live s fun s =>
    match (chan s c).cmd with
    | none => s
    | some k =>
      if !mpServes s || (k.ready && !k.begun && !othersFirst s c) || k.opcode = 0x0902
          || !since s k.ackAt (nsUp (maxFwNs k.opcode.toNat k.payload)) then s
      else timeOut s c k

/-- FW_UPDATE_SESSION_TIMEOUT: 60 s without an OP_FW_UPDATE_DATA (05 R114). -/
def execFwUpdateSessionTimeout (s : State) : Res :=
  live s fun s =>
    if mpServes s && s.mbx.session.any fun x => since s x.lastAt (msUp 60000) then setSession s none else s

end Sys2Proof.Machine
end

