-- ==== Sys2Proof/Machine/Bar0.lean ====
section
/-! DEFINITION. Bar0.lean: aligned writes of BAR0, the wide ones over registers that have a behaviour of their own among
them (00 R5, R11). -/

namespace Sys2Proof.Machine

/-- The state after a register's own command. -/
def resState (s : State) : Res → State
  | .next t => t
  | _ => s

/-- What a write of one MBX register does (05 R116). -/
def writeMbx (s : State) (off : Nat) (v : Word) : State :=
  let c : Fin 16 := ⟨(off - 0x10000) / 0x1000 % 16, Nat.mod_lt _ (by decide)⟩
  if off % 0x1000 = 0 then resState s (execMbxDoorbell c v s)
  else if off % 0x1000 = 4 then resState s (execMbxStatusClear c v s)
  else writePlain s off v

/-- What a write of one RQ register does (12 R295, 13 R325). -/
def writeRq (s : State) (o : Nat) (v : Word) : State :=
  let q : Fin 256 := ⟨o / 64 % 256, Nat.mod_lt _ (by decide)⟩
  if o < 0x4000 then
    (if o % 64 = 0 then resState s (execRqSqTailWrite q v s)
     else if o % 64 = 4 then resState s (execRqCqHeadWrite q v s)
     else if o % 64 = 0x10 then resState s (execRqQStatusClear q v s)
     else s)
  else if 0x8000 ≤ o && o < 0xA000 && o % 8 = 0 then
    resState s (execRqUpdTailWrite ⟨(o - 0x8000) / 8 % 1024, Nat.mod_lt _ (by decide)⟩ v s)
  else if 0xC000 ≤ o && o < 0xC400 && o % 16 = 0 then
    resState s (execRqSyncSelWrite ⟨(o - 0xC000) / 16 % 64, Nat.mod_lt _ (by decide)⟩ v s)
  else s

/-- What a write of one DBG register does (15 R370, R371, R375). -/
def writeDbg (s : State) (o : Nat) (v : Word) : State :=
  if o = 0 then
    let s := if v.getLsbD 0 then resState s (execCapture s) else s
    if v.getLsbD 1 then resState s (execFreeze s) else s
  else if o = 8 then resState s (execDbgColdReqWrite v s)
  else s

/-- A write of one 32-bit register. -/
def writeReg (s : State) (off : Nat) (v : Word) : State :=
  if 0x10000 ≤ off && off < 0x20000 then writeMbx s off v
  else if off = 0x30000 then resState s (execIntStatusClear v s)
  else if off = 0x30004 then resState s (execIntEnableWrite v s)
  else if 0x40000 ≤ off && off < 0x50000 then writeRq s (off - 0x40000) v
  else if 0xC0000 ≤ off && off < 0x100000 then writeDbg s (off - 0xC0000) v
  else writePlain s off v

/-- BAR0_WRITE_PLAIN (00 R5, R11): aligned, 32 or 64 bits. A 32-bit write of a register that has a row of its own is that
row; a 64-bit write writes two registers, the lower address first. -/
def execBar0WritePlain (off : Nat) (wide : Bool) (val : Dword) (s : State) : Res :=
  barWrite s fun s =>
    if off % (if wide then 8 else 4) != 0 then s
    else if wide then writeReg (writeReg s off (val.setWidth 32)) (off + 4) (val.extractLsb' 32 32)
    else writePlain s off (val.setWidth 32)

end Sys2Proof.Machine
end

