-- ==== Sys2Proof/Machine/Matrix.lean ====
section
/-! DEFINITION. Matrix.lean: weight loads and runs of the matrix arrays (11 R243 to R261). -/

namespace Sys2Proof.Machine

/-! ### Weight loads (11 R244, R252, R256) -/

/-- Element `i` of packed bytes. -/
def elemOf (fmt : Nat) (b : Bytes) (i : Nat) : Nat :=
  if elemBits fmt = 4 then (b.getD (i / 2) 0).toNat / (if i % 2 = 0 then 1 else 16) % 16
  else fieldAt b (i * (elemBits fmt / 8)) (elemBits fmt / 8)

/-- One column of the tile a descriptor names: rows from K up, and the scales of blocks from K up, load as zero. -/
def tileCol (s : State) (n : Nat) (d : Bytes) (c : Nat) : TileCol :=
  let f := fieldAt d
  let fmt := f 48 1
  let k := f 44 2
  let code (r : Nat) : Nat :=
    if f 49 1 = 0 then elemOf fmt (spadRead s n (f 32 4 + r * f 36 4) (fmtBytes fmt (f 46 2))) c
    else elemOf fmt (spadRead s n (f 32 4 + c * f 36 4) (fmtBytes fmt k)) r
  let sc := if isMx fmt then (spadRead s n (f 40 4 + 8 * c) 8).take (k / 32) else []
  ⟨(List.range 256).map fun r => if r < k then code r else 0, sc ++ zeros (8 - sc.length)⟩

def tileFrom (s : State) (n : Nat) (d : Bytes) : Tile :=
  ⟨BitVec.ofNat 8 (fieldAt d 48 1), fieldAt d 46 2, (List.range (fieldAt d 46 2)).map (tileCol s n d)⟩

/-- Both cores of a bridled pair, or the core alone. -/
def modPair (s : State) (n : Nat) (f : Core → Core) : State :=
  let s := modCore s n f
  if isBridled s n then modCore s (n + 1) f else s

/-- Earlier loads are complete. -/
def loadsDone (s : State) (n id : Nat) : Bool :=
  !(coreOf s n).cops.any fun o => o.id < id && o.unit = 0 && dKind o.desc = kindMmLoad

/-- MM_LOAD: the tile into every shadow register, once confirmed, after every earlier load is complete (11 R256). -/
def execMmLoad (n : Fin 32) (op : Nat) (s : State) : Res :=
  live s fun s => opRun s n op kindMmLoad mmLoadRanges (fun _ => []) fun o s =>
    if o.depth != 0 || !loadsDone s n op then s
    else opOut (modPair s n fun c => { c with shadow := tileFrom s n o.desc }) n o [] 0 0

/-! ### Column values (11 R249, R250) -/

/-- Exact sum of products of integer formats. -/
def intDot (fmt : Nat) (w a : List Nat) : Int :=
  (List.zipWith (fun x y => toSigned (elemBits fmt) x * toSigned (elemBits fmt) y) w a).foldl (· + ·) 0

/-- Exact sum of 32 products, each times both block scales. -/
def groupDot (wf af : Nat) (w a : List Nat) (sc : Num) : Num :=
  (List.zipWith (fun x y => numMul (numMul (elemNum wf x) (elemNum af y)) sc) w a).foldl numAdd numZero

/-- The product of the scales of block `j`; 1 where the formats have none. -/
def scaleProd (wf : Nat) (ws as_ : Bytes) (j : Nat) : Num :=
  if isMx wf then numMul (scaleNum (ws.getD j 0).toNat) (scaleNum (as_.getD j 0).toNat) else .fin false 1 0

/-- The FP32 column value: eight group sums added in order to `old`, each addition rounded. -/
def floatCol (wf af : Nat) (col : TileCol) (a : List Nat) (as_ : Bytes) (old : Nat) : Nat :=
  (List.range 8).foldl (fun acc j =>
    let g := groupDot wf af ((col.codes.drop (32 * j)).take 32) ((a.drop (32 * j)).take 32) (scaleProd wf col.scales as_ j)
    encodeF fp32 false (numAdd (decodeF fp32 acc) g)) old

/-- Formats that may meet (11 R248). -/
def fmtsMeet (w a : Nat) : Bool :=
  w = a || (w = 3 && a = 4) || (w = 4 && a = 3) || (w = 6 && a = 7) || (w = 7 && a = 6)

/-! ### Runs (11 R253, R254) -/

/-- What one token gives: bytes to write, and how many elements saturated. -/
structure TokenOut where
  writes : List (Nat × Bytes)
  sat : Nat

/-- Steps 1 and 2 of R254 for one column: an INT32 value with OFMT 0, else an FP32 code. -/
inductive ColVal where
  | int (v : Int) (sat : Bool)
  | f32 (c : Nat)

/-- The value of a column before ALPHA. -/
def colValue (tile : Tile) (d : Bytes) (a : List Nat) (as_ : Bytes) (c : Nat) (old : Nat) : ColVal :=
  let f := fieldAt d
  let acc := bitAt (f 75 1) 2
  let col := tile.cols.getD c ⟨[], []⟩
  if f 72 1 ≤ 2 then
    let v := intDot (f 72 1) col.codes a
    if f 73 1 = 0 then
      let t := if acc then toSigned 32 old + v else v
      .int (satInt 32 t) (satInt 32 t != t)
    else .f32 (encodeF fp32 false (numOfInt v))
  else .f32 (floatCol tile.fmt.toNat (f 72 1) col a as_ (if acc then old else 0))

/-- Step 3, and RELU of step 4. -/
def colEpi (d : Bytes) (v : ColVal) : ColVal :=
  let f := fieldAt d
  match v with
  | .int x b => .int (if f 74 1 = 1 then max x 0 else x) b
  | .f32 c =>
    let r := f32mul (f 68 4) c
    .f32 (if f 74 1 = 1 then f32relu r else r)

def colCode : ColVal → Nat
  | .int v _ => intCode 32 v
  | .f32 c => c

def colSat : ColVal → Bool
  | .int _ b => b
  | .f32 _ => false

/-- The old output of a token's columns; without an output the spec states none, and each is free, a function of the descriptor
(11 R251; log 43). -/
def oldOut (s : State) (n : Nat) (d : Bytes) (t c : Nat) : Nat :=
  let o := fieldAt d 48 4
  if o = noSpa then Config.accumNone d t c % 2 ^ 32 else leNat (spadRead s n (o + t * fieldAt d 52 4 + 4 * c) 4)

/-- The element of a faulty column replaced. -/
def spoil (bad : Option (Nat × Nat)) (l : List Nat) : List Nat := (listIdx l).map fun x =>
  match bad with
  | some (c, v) => if x.1 = c then v else x.2
  | none => x.2

/-- Step 5: the token's output bytes. The output of a faulty column is the free value beside it, and every other output, block
scales among them, is correct (11 R259; log 5). -/
def tokenBytes (d : Bytes) (t : Nat) (cs : List Nat) (bad : Option (Nat × Nat)) : List (Nat × Bytes) :=
  let f := fieldAt d
  let at_ := f 48 4 + t * f 52 4
  if f 48 4 = noSpa then []
  else if f 73 1 = 0 then [(at_, pack 11 (spoil bad cs))]
  else if f 73 1 = 1 then [(at_, pack 9 (spoil bad (cs.map fun c => encodeF bf16 false (decodeF fp32 c))))]
  else
    let q := mxQuant 6 (cs.map (decodeF fp32))
    [(at_, pack 6 (spoil bad q.2)), (f 56 4 + 8 * t, q.1)]

/-- The columns of token `t` before the epilogue's sums. -/
def tokenCols (s : State) (n : Nat) (tile : Tile) (d : Bytes) (t : Nat) : List ColVal :=
  let f := fieldAt d
  let fmt := f 72 1
  let a := (unpack fmt (spadRead s n (f 32 4 + t * f 36 4) (fmtBytes fmt 256))).take 256
  let as_ := if isMx fmt then spadRead s n (f 40 4 + 8 * t) 8 else []
  (List.range tile.n).map fun c => colEpi d (colValue tile d a as_ c (if bitAt (f 75 1) 2 then oldOut s n d t c else 0))

/-- One unmasked token (11 R254). -/
def token (s : State) (n : Nat) (tile : Tile) (d : Bytes) (t : Nat) (bad : Option (Nat × Nat)) : TokenOut :=
  let f := fieldAt d
  let vs := tokenCols s n tile d t
  let cs := vs.map colCode
  let aux := f 64 4 + 4 * t
  let a0 := leNat (spadRead s n aux 4)
  let sat := (vs.filter colSat).length
  if f 74 1 = 2 then ⟨(aux, leBytes 4 (cs.foldl f32max a0)) :: tokenBytes d t cs bad, sat⟩
  else if f 74 1 = 3 then
    let ys := cs.map (expRow a0)
    let aux2 := f 76 4 + 4 * t
    ⟨(aux2, leBytes 4 (ys.foldl f32add (leNat (spadRead s n aux2 4)))) :: tokenBytes d t ys bad, sat⟩
  else ⟨tokenBytes d t cs bad, sat⟩

/-- The core whose arrays take token `t`, and the array among that core's four (11 R244). -/
def arrayOf (s : State) (n t : Nat) : Nat × Nat :=
  if isBridled s n then (if t % 8 < 4 then (n, t % 8) else (n + 1, t % 8 - 4)) else (n, t % 4)

/-- Columns bypassed in an array. -/
def bypassed (s : State) (n a : Nat) : List Nat :=
  ((coreOf s n).outCols.filter fun b => b.1 = a).map fun b => b.2

/-- The logical column a physical one holds: bypassed columns below it do not count (11 R260). -/
def logicalCol (s : State) (n a phys : Nat) : Nat := phys - ((bypassed s n a).filter fun p => p < phys).length

/-- The faulty column an MM_RUN met, if it is one in use: core, array, physical column (11 R259). -/
def faultCol (s : State) (n : Nat) (bad : Option (Nat × Nat)) : Option (Nat × Nat × Nat) :=
  bad.bind fun b =>
    let arrays := if isBridled s n then 8 else 4
    let c := if b.1 < 4 then n else n + 1
    let a := b.1 % 4
    if b.1 < arrays && b.2 < 260 && !(bypassed s c a).contains b.2 then some (c, a, b.2) else none

/-- The tokens of a run that are not masked, each computed with its array's tile. -/
def runTokens (s : State) (n : Nat) (d : Bytes) (bad : Option (Nat × Nat × Nat)) : List TokenOut :=
  (liveTokens s n d).map fun t =>
    let (c, a) := arrayOf s n t
    let bad := bad.bind fun b =>
      if b.1 = c && b.2.1 = a then some (logicalCol s c a b.2.2, freeAt s t) else none
    token s n (coreOf s c).active d t bad

/-- Every scratchpad range an MM_RUN reads, the old output among them. -/
def mmReads (s : State) (n : Nat) (d : Bytes) : List (Nat × Nat) :=
  mmRunReads s n d ++ (if bitAt (fieldAt d 75 1) 2 then mmRunWrites s n d 1 else [])

/-- A faulty column of a run that has formed its results is known to firmware once the operation is confirmed (10 R238, 11
R260). -/
def noteColumn (s : State) (n : Nat) (o : CopOp) (fc : Nat × Nat × Nat) : State :=
  if !(opOf s n o.id).any (fun x => x.phase == .ready) then s
  else if o.depth = 0 then modCore s fc.1 fun x => { x with badCols := x.badCols ++ [(fc.2.1, fc.2.2)] }
  else modOp s n o.id fun o => { o with badCols := [(fc.2.1, fc.2.2, fc.1)] }

/-- The run itself, on the active tile (11 R248, R254, R259). -/
def mmRunOn (s : State) (n : Nat) (o : CopOp) (bad : Option (Nat × Nat)) : State :=
  let d := o.desc
  let tile := (coreOf s n).active
  let af := fieldAt d 72 1
  if !fmtsMeet tile.fmt.toNat af || (isBridled s n && !fmtsMeet (coreOf s (n + 1)).active.fmt.toNat af) then
    opOut s n o [] osFormat tile.fmt.toNat
  else
    let l := if o.depth = 0 then mmRunWrites s n d tile.n else []
    match rangesFault s n o.id l with
    | some (k, a) => opFault s n o k (BitVec.ofNat 8 o.unit) a
    | none =>
      let fc := faultCol s n bad
      let outs := runTokens s n d fc
      let sat := (outs.map fun x => x.sat).foldl (· + ·) 0
      let ws := (outs.map fun x => x.writes).flatten
      match fc with
      | some (c, a, p) =>
        let arr := a + (if c = n then 0 else 4)
        noteColumn (opOut (skipFree s (fieldAt d 44 4)) n o ws osColumn (arr + 65536 * p)) n o (c, a, p)
      | none => opOut s n o ws (if sat = 0 then 0 else osSaturated) (clampU32 sat)

/-- An earlier run has begun and is paused: the arrays run one at a time (11 R256). -/
def runBusy (s : State) (n id : Nat) : Bool :=
  (coreOf s n).cops.any fun o => o.id < id && o.unit = 0 && dKind o.desc = kindMmRun && o.phase = .running

/-- A swap exchanges active and shadow registers everywhere (11 R244). -/
def swapTiles (s : State) (n : Nat) : State :=
  modPair s n fun c => { c with
    active := c.shadow
    shadow := c.active }

/-- A run waits: the arrays are busy, or its swap waits for its confirmation and for every earlier load (11 R256, 10 R237). -/
def mmWaits (s : State) (n : Nat) (o : CopOp) : Bool :=
  runBusy s n o.id || (mmSwaps o && (o.depth != 0 || !loadsDone s n o.id))

/-- MM_RUN. Its body is held to the active tile's N once more before anything of it is done (11 R255). -/
def execMmRun (n : Fin 32) (op : Nat) (bad : Option (Nat × Nat)) (s : State) : Res :=
  live s fun s =>
    match opReady s n op kindMmRun with
    | none => s
    | some o =>
      let now := ((coreOf s n).active.n, (coreOf s n).shadow.n)
      if mmWaits s n o then s
      else if !groupsFit now o.desc then opFault s n o fkCopDesc (BitVec.ofNat 8 o.unit) (descSpa s n o)
      else opRun s n op kindMmRun (mmReads s n) (fun _ => []) fun o s =>
        if o.depth = 0 && rangesHeld s n op (mmRunWrites s n o.desc (widthMet now o.desc)) then s
        else mmRunOn (if mmSwaps o then swapTiles s n else s) n o bad

end Sys2Proof.Machine
end

