-- ==== Sys2Proof/Machine/Router.lean ====
section
/-! DEFINITION. Router.lean: forwarding of packets from chip to chip, and their arrival at this one (14 R333, R335 to R338,
R343, R349). -/

namespace Sys2Proof.Machine

/-- Where a packet goes next. -/
inductive Hop where
  | here
  | drop
  /-- on one of these links, with the upper channel of its class or the lower, and with this ROUTE byte -/
  | on (links : List Nat) (upper : Bool) (route : Byte)
deriving DecidableEq, Repr

def linkUp (s : State) (l : Nat) : Bool := (linkOf s l).state = .up

/-- The up links of a direction of a dimension. -/
def upLinks (s : State) (d : Nat) (minus : Bool) : List Nat :=
  (List.range 24).filter fun l => linkUp s l && linkDim s l == (d, minus)

/-- The hop crosses the dateline (14 R336). -/
def dateline (c size : Nat) (minus : Bool) : Bool := if minus then c = 0 else c + 1 = size

/-- The link it came in on belongs to dimension `d`: it is already travelling there. -/
def travelling (s : State) (p : Packet) (d : Nat) : Option Nat := p.link.filter fun l => (linkDim s l).1 = d

/-- The direction of a packet in a dimension: the shorter way, or, once reversed, the way it goes (14 R336, R337). -/
def wayOf (s : State) (p : Packet) (d c t size : Nat) : Bool :=
  let plus := (t + size - c) % size
  match travelling s p d with
  | some l => if p.route.getLsbD d then !(linkDim s l).2 else size - plus < plus
  | none => size - plus < plus

/-- The next hop in a torus, in the first dimension still to correct (14 R336, R337). -/
def torusHop (s : State) (p : Packet) : Hop :=
  let here := coordList s (myChip s)
  let goal := coordList s p.destChip
  let sizes := dimSizes s
  match (List.range sizes.length).find? fun d => here.getD d 0 != goal.getD d 0 with
  | none => .drop
  | some d =>
    let c := here.getD d 0
    let size := sizes.getD d 1
    let m := wayOf s p d c (goal.getD d 0) size
    let upper := (travelling s p d).isSome && p.vc % 2 = 1
    if !(upLinks s d m).isEmpty then .on (upLinks s d m) (upper || dateline c size m) p.route
    else if p.route.getLsbD d || (upLinks s d (!m)).isEmpty then .drop
    else .on (upLinks s d (!m)) (dateline c size (!m)) (p.route ||| BitVec.ofNat 8 (2 ^ d))

/-- The link FULL names for a peer. -/
def fullLink (s : State) (chip : Half) : Option Nat := (List.range 24).find? fun l => vget s.fab.peers l 0xFFFF = chip

/-- The next hop in FULL (14 R337). -/
def fullHop (s : State) (p : Packet) : Hop :=
  match fullLink s p.destChip with
  | none => .drop
  | some l =>
    let detoured := p.route.getLsbD 3
    if linkUp s l then .on [l] detoured p.route
    else if detoured then .drop
    else
      let x := vget s.fab.detours l 0xFFFF
      match (if x = 0xFFFF then none else fullLink s x) with
      | none => .drop
      | some m => if linkUp s m then .on [m] false (p.route ||| 8) else .drop

def nextHop (s : State) (p : Packet) : Hop :=
  if s.fab.chipId.isSome && p.destChip = myChip s then .here
  else if !routed s p.destChip then .drop
  else if isTorus s then torusHop s p
  else fullHop s p

/-- Of several links the one with the most free credits on a channel, ties to the lowest (14 R336). -/
def bestLink (s : State) (vc : Nat) : List Nat → Option Nat
  | [] => none
  | l :: r => match bestLink s vc r with
    | none => some l
    | some m => if vget (linkOf s m).credits vc 0 ≤ vget (linkOf s l).credits vc 0 then some l else some m

/-- The packet leaves the receive buffers of the link it came by: its credits go back (14 R332). -/
def returnCredits (s : State) (p : Packet) : State :=
  match p.link with
  | none => s
  | some l => if p.flits = 0 || !linkUp s l then s else sendIdle (owe s p) l

/-- A packet is being forwarded on the channel: its flits are contiguous there (14 R333). -/
def channelBusy (s : State) (l vc : Nat) : Bool := s.fab.router.any fun p => p.out.any fun e => e.link = l && e.vc = vc

/-- The packet's next flit has arrived, and the replay buffer has room for it (14 R330). -/
def mayLeave (s : State) (p : Packet) (e : Egress) : Bool :=
  (!p.more || 234 * (e.sent + 1) ≤ 40 + p.payload.length) && (linkOf s e.link).replay.length < 512

/-- A packet's next flit leaves; after the last one the packet is gone (14 R329, R333). -/
def sendPiece (s : State) (i : Nat) (p : Packet) (e : Egress) : State :=
  let n := flitCount p
  let last := n ≤ e.sent + 1
  let d := ((packetBytes { p with route := e.route }).drop (234 * e.sent)).take 234
  let s := sendNumbered s e.link 1 (bitsOf [(0, e.vc), (3, b2n (e.sent = 0)), (4, b2n last)]) d
  if last then returnCredits { s with fab := { s.fab with router := s.fab.router.eraseIdx i } } p
  else { s with fab := { s.fab with router := s.fab.router.set i { p with out := some { e with sent := e.sent + 1 } } } }

/-- Opcodes of R340. -/
def knownOps : List Byte := [opRead, opWrite, opAdd, opSignal, opLookup, opAck, opReadData, opPooled, opRefused]

/-- A request refused for its incarnation number is counted (14 R348, R354). -/
def refuseStale (s : State) (p : Packet) : State :=
  let s := { s with fab := { s.fab with staleIn := s.fab.staleIn + 1 } }
  refuse s p rsStale

/-- A packet reaches its destination: sunk during a warm reset (14 R349), refused or dropped where R340 has no such
operation, else taken into the intake. -/
def deliver (s : State) (p : Packet) : State :=
  if s.hlt.warmBegun then s
  else if knownOps.contains p.op then
    { s with fab := { s.fab with
      intake := s.fab.intake ++ [{ p with num := s.fab.nextNum }]
      nextNum := s.fab.nextNum + 1 } }
  else if 0x80 ≤ p.op.toNat || late s p.deadline then s
  else if p.destInc != s.fab.inc then refuseStale s p
  else refuse s p rsDenied

/-- A packet that has not begun to leave goes on: credits for the whole of it are taken, and its first flit leaves. -/
def startOn (s : State) (i : Nat) (p : Packet) (l vc : Nat) (route : Byte) : State :=
  let e : Egress := ⟨l, vc, route, 0⟩
  if vget (linkOf s l).credits vc 0 < flitCount p || channelBusy s l vc || !mayLeave s p e then s
  else sendPiece (modLink s l fun k => { k with credits := vmod k.credits vc (· - flitCount p) }) i p e

/-- PACKET_FORWARD (14 R333, R336, R337): a packet of the router arrives, is dropped, waits for credits, or goes on by one flit,
so that flits of different channels interleave on a link. -/
def execPacketForward (i : Nat) (s : State) : Res :=
  live s fun s =>
    match s.fab.router[i]? with
    | none => s
    | some p => match p.out with
      | some e => if mayLeave s p e then sendPiece s i p e else s
      | none =>
        let rest : State := { s with fab := { s.fab with router := s.fab.router.eraseIdx i } }
        match nextHop s p with
        | .here => if p.more then s else deliver (returnCredits rest p) p
        | .drop =>
          if p.more then s
          else returnCredits { rest with fab := { rest.fab with routeDrop := rest.fab.routeDrop + 1 } } p
        | .on ls upper route =>
          let vc := 2 * packetClass p.op p.flags + b2n upper
          match bestLink s vc ls with
          | none => s
          | some l => startOn s i p l vc route

end Sys2Proof.Machine
end

