-- ==== Sys2Proof/Machine/Remote.lean ====
section
/-! DEFINITION. Remote.lean: requests of other chips performed here, and the responses and timeouts that end this chip's own
requests (14 R339 to R349; 12 R280, R287; 13 R319). -/

namespace Sys2Proof.Machine

/-! ### Requests at their destination (14 R343, R344) -/

def intakeOf (s : State) (i : Nat) : Option Packet := s.fab.intake.find? fun p => p.num = i

def dropIntake (s : State) (f : Packet → Bool) : State :=
  { s with fab := { s.fab with intake := s.fab.intake.filter fun p => !f p } }

/-- A packet whose operation is being performed. -/
def toServing (s : State) (p : Packet) : State :=
  let s := dropIntake s fun q => q.num = p.num
  { s with fab := { s.fab with serving := s.fab.serving ++ [p] } }

/-- Incoming packet `i`, if it carries operation `op` (and satisfies `form`), through the checks of DEADLINE and DEST_INC,
steps 1 and 2 of R343; `gone` says what else a late one does. -/
def incoming (s : State) (i : Nat) (op : Byte) (form : Packet → Bool) (gone : Packet → State → State)
    (f : Packet → State → State) : State :=
  match intakeOf s i with
  | none => s
  | some p =>
    if s.hlt.warmBegun || p.op != op || !form p then s
    else if late s p.deadline then gone p (dropIntake s fun q => q.num = i)
    else if p.destInc != s.fab.inc then refuseStale (dropIntake s fun q => q.num = i) p
    else f p s

def notLate : Packet → State → State := fun _ s => s

/-- The packet is answered REFUSED. -/
def refuseIn (s : State) (p : Packet) (status : Nat) : State := refuse (dropIntake s fun q => q.num = p.num) p status

/-- The octant whose remote intake translates a packet (14 R343). -/
def intakeOct (p : Packet) : Nat := p.gaddr.toNat / 2 ^ 21 % 8

/-- The address within the context that a packet names. -/
def gDva (p : Packet) : Nat := p.gaddr.toNat % 2 ^ 46

/-- Translation of a range under R155: READ is bit 1 of an entry, WRITE bit 2, REMOTE_OK bit 5. -/
def remoteMay (s : State) (ctx dva len bit : Nat) : Bool :=
  [dva, dva + (len - 1)].all fun a => (findMap s ctx a).any fun e => e.bit bit && e.bit 5

def peerOwns (i : Nat) (w : AccOwner) : Bool := match w with
  | .remote x => x = i
  | _ => false

/-- A READ, WRITE or plain ADD is translated and its line accesses issue. -/
def peerIssue (s : State) (p : Packet) (len : Nat) (kind : AccKind) (data : Bytes) : State :=
  let k := intakeOct p
  if !domainOn s (6 + k) || !remoteMay s (gCtx p.gaddr) (gDva p) len (if kind.isRead then 1 else 2) then
    refuseIn s p rsDenied
  else
    let a := mkAccess (.remote p.num) (.remote k) k (gCtx p.gaddr) (gDva p) len kind data
    startAccess (toServing s p) { a with
      peer := true
      poison := p.flags.getLsbD 0 }

/-- A refused access, or a failed one. -/
def peerRank : AccFail → Nat
  | .xlate _ => 0
  | _ => 1

/-- Once every line has ended, the operation that serves packet `i` is answered (14 R344). -/
def peerEnd (s : State) (i : Nat) (op : Byte) (answer : Packet → List (Nat × Access) → State → State) : State :=
  match servingOf s i with
  | none => s
  | some p =>
    let l := accsOf s (peerOwns i)
    if p.op != op || packetClass p.op p.flags = 1 || l.isEmpty || !allEnded l then s
    else
      let s := accDrop (dropServing s i) (peerOwns i)
      match firstBad peerRank l with
      | some (.xlate _) => refuse s p rsDenied
      | some _ => if op = opRead then refuse s p rsMemory else respond s p opAck rsMemory false []
      | none => answer p l s

/-- RATLINE_READ (14 R340, R343). -/
def execRatlineRead (i : Nat) (s : State) : Res :=
  live s fun s =>
    let s := incoming s i opRead (fun _ => true) notLate fun p s =>
      let n := leNat p.payload
      if p.payload.length != 4 || n = 0 || 2048 < n then refuseIn s p rsDenied
      else peerIssue s p n .read []
    peerEnd s i opRead fun p l s =>
      respond s p opReadData rsOk (l.any fun a => a.2.poison) (rowBytesOf (leNat p.payload) l)

/-- RATLINE_WRITE (14 R340, R344). -/
def execRatlineWrite (i : Nat) (s : State) : Res :=
  live s fun s =>
    let s := incoming s i opWrite (fun _ => true) notLate fun p s =>
      let n := p.payload.length
      if n = 0 || 2048 < n then refuseIn s p rsDenied else peerIssue s p n .write p.payload
    peerEnd s i opWrite fun p _ s => respond s p opAck rsOk false []

/-- Bytes of an element of a format a plain ADD may carry (14 R340). -/
def addSize (fmt : Nat) : Option Nat :=
  if fmt = 0x0B || fmt = 0x0C then some 4 else if fmt = 0x09 || fmt = 0x0A then some 2 else none

/-- RATLINE_ADD (14 R340): whole elements within one line. -/
def execRatlineAdd (i : Nat) (s : State) : Res :=
  live s fun s =>
    let s := incoming s i opAdd (fun p => !p.flags.getLsbD 1) notLate fun p s =>
      let n := p.payload.length
      let fmt := p.flags.toNat / 16
      match addSize fmt with
      | none => refuseIn s p rsDenied
      | some z =>
        if n = 0 || n % z != 0 || 64 < gDva p % 64 + n then refuseIn s p rsDenied
        else peerIssue s p n (.add (BitVec.ofNat 8 fmt)) p.payload
    peerEnd s i opAdd fun p _ s => respond s p opAck rsOk false []

/-- RATLINE_ADD_UPDATE_FORM (14 R340; 12 R286, R287): the record joins those arriving at the table's home engine; a late
one is counted where its table exists. -/
def execRatlineAddUpdateForm (i : Nat) (s : State) : Res :=
  live s fun s =>
    incoming s i opAdd (fun p => p.flags.getLsbD 1)
      (fun p s => countUpd s (fieldAt p.payload 0 2) false true) fun p s =>
        match tableOf s (fieldAt p.payload 0 2) with
        | none => refuseIn s p rsDenied
        | some t =>
          if p.payload.length < 32 + rowLen t || 32 + t.rowBytes < p.payload.length || !domainOn s (6 + t.home)
              || !domainOn s (6 + intakeOct p) then
            refuseIn s p rsDenied
          else arrive (toServing s p) t.home (recOf 0 (.peer p.num) p.srcChip (gCtx p.gaddr) p.payload)

/-- RATLINE_SIGNAL (14 R340, R344; 13 R319). -/
def execRatlineSignal (i : Nat) (s : State) : Res :=
  live s fun s =>
    incoming s i opSignal (fun _ => true) notLate fun p s =>
      let o := p.gaddr.toNat % 8192
      let ok := (syncOf s o).any fun x => x.remoteOk && x.ctx = gCtx p.gaddr
      if p.payload.length != 8 || !ok then refuseIn s p rsDenied
      else
        let s := dropIntake s fun q => q.num = i
        respond (syncAdd s o (BitVec.ofNat 64 (leNat p.payload))) p opAck rsOk false []

/-! ### An incoming LOOKUP (12 R279, R280; 14 R341) -/

/-- Packets of one operation. -/
def sameOp (p q : Packet) : Bool :=
  q.op = p.op && q.srcChip = p.srcChip && q.srcInc = p.srcInc && q.tag = p.tag

/-- The payloads of an operation's packets in order, once all are in the intake. -/
def wholeOp (s : State) (p : Packet) : Option Bytes :=
  let ps := s.fab.intake.filter (sameOp p)
  let at_ (k : Nat) := ps.find? fun q => q.part.toNat = k
  if (List.range p.nparts.toNat).all fun k => (at_ k).isSome then
    some ((List.range p.nparts.toNat).map fun k => ((at_ k).map fun q => q.payload).getD []).flatten
  else none

/-- Entry `i` of a LOOKUP payload. -/
def peerPos (b : Bytes) (i : Nat) : LkPos :=
  ⟨fieldAt b (24 + 16 * i) 4, i, some 0, fieldAt b (16 + 16 * i) 8, BitVec.ofNat 32 (fieldAt b (28 + 16 * i) 4)⟩

/-- The lookup of another chip as it waits at its table's home engine. -/
def peerLookup (s : State) (p : Packet) (b : Bytes) : Lookup :=
  { id := s.te.nextId, src := .peer p.num, table := fieldAt b 0 2, pool := BitVec.ofNat 8 (fieldAt b 2 1), ofmt := 0,
    retBank := false, nBags := 0, outSpa := 0, outStride := 0, banks := [],
    deadline := p.deadline, epoch := BitVec.ofNat 32 (fieldAt b 4 4), base := 0, ballast := 0,
    pos := (List.range (fieldAt b 8 4)).map (peerPos b), fetch := [], parts := [], status := 0, metAt := 0, isOver := false,
    poison := false, subst := 0 }

/-- The owner's checks of R280 on the table, and the payload's own form. -/
def peerLookupOk (s : State) (p : Packet) (b : Bytes) : Option TableD :=
  (tableOf s (fieldAt b 0 2)).filter fun t =>
    16 ≤ b.length && b.length = 16 + 16 * fieldAt b 8 4 && fieldAt b 2 1 ≤ 4 && t.shard = 0 && t.flag 3 && !t.dying
      && t.ctx = gCtx p.gaddr && domainOn s (6 + t.home)
      && (List.range (fieldAt b 8 4)).all fun i => fieldAt b (16 + 16 * i) 8 < t.rows.toNat

/-- RATLINE_LOOKUP: the owner takes it up once every part has arrived. -/
def execRatlineLookup (i : Nat) (s : State) : Res :=
  live s fun s =>
    incoming s i opLookup (fun _ => true) notLate fun p s =>
      match wholeOp s p with
      | none => s
      | some b =>
        let rest := dropIntake s (sameOp p)
        match peerLookupOk s p b with
        | none => refuse rest p rsDenied
        | some t =>
          let l := peerLookup s p b
          let s := toServing rest p
          modEngine { s with te := { s.te with nextId := s.te.nextId + 1 } } t.home fun x => { x with
            intake := x.intake ++ [l] }

/-! ### Responses and timeouts at the origin (14 R346, R347) -/

/-- A tracker's request ends: it frees, and what it served goes on; issuers that waited try again. -/
def trackEnd (s : State) (i : Nat) (t : Tracker) (r : RemEnd) : State :=
  let s := freeTrack s i
  let s := match t.why, r with
    | .access a, r => accRemoteEnd s a r
    | .lookup e lk, r => partEnd s e lk i r
    | .update e rec, r => recRemoteEnd s e rec r
    | .notify _, .ok _ _ => s
    | .notify q, _ => notifyErr s q
  pumpNotes (pumpParts (pumpStalled s))

/-- How a response ends its request. -/
def respSays (p : Packet) (b : Bytes) : RemEnd :=
  if p.op = opRefused || p.status != 0 then .status p.status.toNat else .ok b (p.flags.getLsbD 0)

/-- A response of operation `op`: one that names no live tracker is discarded; one in several packets waits for all. -/
def response (s : State) (i : Nat) (op : Byte) : State :=
  match intakeOf s i with
  | none => s
  | some p =>
    if s.hlt.warmBegun || p.op != op then s
    else match trackerOf s p with
      | none => dropIntake s fun q => q.num = i
      | some (k, t) => match wholeOp s p with
        | none => s
        | some b =>
          let poison := (s.fab.intake.filter (sameOp p)).any fun q => q.flags.getLsbD 0
          let p := { p with flags := if poison then 1 else 0 }
          trackEnd (dropIntake s (sameOp p)) k t (respSays p b)

/-- ACK. -/
def execAck (i : Nat) (s : State) : Res := live s fun s => response s i opAck

/-- READ_DATA. -/
def execReadData (i : Nat) (s : State) : Res := live s fun s => response s i opReadData

/-- POOLED. -/
def execPooled (i : Nat) (s : State) : Res := live s fun s => response s i opPooled

/-- REFUSED. -/
def execRefused (i : Nat) (s : State) : Res := live s fun s => response s i opRefused

/-- REMOTE_TIMEOUT_FIRE (14 R347): the tracker's deadline has passed. -/
def execRemoteTimeoutFire (tag : Nat) (s : State) : Res :=
  live s fun s =>
    match tget s.fab.trackers tag with
    | none => s
    | some t =>
      if s.hlt.warmBegun || !passed s t.deadline then s
      else trackEnd s tag t (if t.byTimeout then .timeout else .missed)

end Sys2Proof.Machine
end

