-- ==== Sys2Proof/Machine/Reset.lean ====
section
/-! DEFINITION. Reset.lean: the warm reset and its triggers (05 R105, R106; 14 R348, R349; 15 R359 to R363; 17 R397). -/

namespace Sys2Proof.Machine

/-! ### The host link (15 R363; 06 R434) -/

/-- Every read and translation request still outstanding ends failed. -/
def failReads (s : State) : State :=
  let reads := s.hl.reads
  let ats := s.hl.ats
  let s := { s with hl := { s.hl with
    reads := []
    ats := []
    posts := []
    atc := []
    invals := [] } }
  let s := reads.foldl (fun s r => readEnd s r.2 none) s
  ats.foldl (fun s q => match q.2.why with
    | .access id => if (accOf s id).any fun a => a.stage == .ats then accFail s id .memory else s
    | _ => s) s

/-- The function's configuration returns to its reset values, with BAR4 at 256 MiB; INT_MOD is kept (15 R360). -/
def configReset (s : State) : State :=
  { s with hl := { s.hl with
    cfg := PcieConfig.reset
    bar4 := 0x10000000
    invals := []
    vecs := s.hl.vecs.map fun v => { v with
      pend := false
      held := false } } }

/-! ### Acceptance (15 R361, first three rows) -/

/-- Commands in progress on channels 0 to 15 end ST_ABORTED, but the OP_CHIP_RESET itself; on channel 16 only one that
needs the host link (05 R105). -/
def abortAll (s : State) (skip : Option Chan) : State :=
  (List.finRange 17).foldl (fun s c =>
    if skip == some c then s
    else if c.val < 16 || (chan s c).cmd.any fun k => !k.ready then endCmd s c stAborted else s) s

/-- Accesses that go on through a warm reset: those of prefetches, migrations and adds already accepted, and the writes
that an OP_FILL has issued (08 R188). -/
def warmKeeps (w : AccOwner) : Bool := match w with
  | .prefetch _ => true
  | .migrate _ => true
  | .update _ _ => true
  | .fill _ => true
  | .gone => true
  | _ => false

/-- An access that goes on but waits for another chip or the host fails: its tracker is freed. -/
def warmFail (s : State) : State :=
  s.acc.foldl (fun s x => match x.2.stage with
    | .remote _ => accFail s x.1 .timeout
    | .stalled _ _ _ => accFail s x.1 .timeout
    | .host _ => accFail s x.1 .memory
    | .ats => accFail s x.1 .memory
    | _ => s) s

/-- Table engines: lookups and records not accepted are discarded; records whose adds are under way stand. -/
def warmEngine (x : Engine) : Engine :=
  { intake := [], active := [], arriving := [], inflight := x.inflight.filter fun r => r.applied && r.tag.isNone }

/-- Threads stop, coprocessor operations are discarded. -/
def warmCore (c : Core) : Core := { c with
  stage := none
  cops := []
  badCols := []
  threads := c.threads.map fun t => { quiet t .unused with stores := [] } }

/-- Threads, operations and lookups end, trackers are freed, what was addressed to the chip is sunk. -/
def warmQuiet (s : State) : State :=
  let s := failReads (s.hl.invals.foldl (fun s _ => emit s .atsInvalDone) s)
  let s := accDiscard s fun w => !warmKeeps w
  let s := s.fab.trackers.foldl (fun s t => freeTrack s t.1) s
  let s := warmFail s
  let s := { s with
    cores := s.cores.map warmCore
    te := { s.te with engines := s.te.engines.map warmEngine }
    fab := { s.fab with
      intake := []
      serving := [] } }
  pumpPorts s

/-- A warm reset is accepted; one in progress is joined (15 R361, R362). A stopped MP leaves WARM_RESET at 1 and the rest
of the chip, intake and scheduler too, as it is (15 R363). -/
def warmAccept (s : State) (t : WarmTrigger) (skip : Option Chan) : State :=
  if s.hlt.warm.isSome then s
  else
    let s := modHlt s fun h => { h with
      warm := some t
      warmBegun := mpServes s }
    if mpServes s then warmQuiet (abortAll s skip) else s

/-- PHASE is READY. -/
def isReady (s : State) : Bool := s.sec.phase = 4

/-- FLR: the host link is reset at once, and a warm reset begins (05 R105; 15 R359, R363), unless the ROM has not started
firmware yet: then nothing runs that could be reset (log 17). -/
def execFlr (s : State) : Res :=
  live s fun s =>
    if s.hl.link.speed = 0 then s
    else
      let s := configReset s
      failReads (if isReady s || mpServes s then warmAccept s .flr none else s)

/-- PERST_N_ASSERT: the host link goes down and is reset at once; once READY a warm reset begins (15 R359; 17 R397). -/
def execPerstNAssert (s : State) : Res :=
  live s fun s =>
    let s := configReset { s with hl := { s.hl with link := ⟨0, 0, false, false, false, false, false⟩ } }
    failReads (if isReady s then warmAccept s .perst none else s)

/-- OP_CHIP_RESET: it is answered after the warm reset (05 R109). -/
def execOpChipReset (c : Chan) (s : State) : Res :=
  live s fun s => runOp s c 0x0902 (fun k => { param := bad (k.f 0 1 != 0) 0 :: k.rsv 1 4 })
    (fun _ s => layout 4 [(0, 2, s.fab.inc.toNat)]) fun k s =>
      if k.begun then .wait s else .wait (warmAccept s (.command c) (some c))

/-! ### WARM_RESET (15 R361, the later rows) -/

/-- Banks of an unfenced core are LOCAL, holds end, instruction stores are invalid (09 R208, R213). -/
def warmCoreEnd (c : Core) : Core :=
  let c := { c with
    held := false
    icode := none }
  if c.fenced then c else banksToLocal c

/-- Slots, queues and sync objects are cleared, the event ring and the coherence mode removed, TLBs emptied, boost
disabled (06 R139; 13 R324; 15 R360; 16 R385). -/
def warmClear (s : State) : State :=
  { s with
    sch := { s.sch with
      queues := []
      slots := []
      sync := []
      kept := []
      ccEvict := 0
      readSets := Vector.replicate 64 ⟨0, 0, 0⟩
      frozen := false
      rr := 0 }
    mbx := { s.mbx with ring := none }
    hl := { s.hl with
      cohMode := 0
      winUnits := 0
      winBase := 0
      held := []
      atc := [] }
    xl := { s.xl with
      l1 := []
      l2 := Vector.replicate 8 [] }
    pwr := { s.pwr with boostEn := 0 }
    cores := s.cores.map warmCoreEnd }

/-- Epoch switches that fell due take effect (12 R291). -/
def dueSwitches (s : State) : State := s.te.tables.foldl (fun s t => applySwitch s t.1) s

/-- An OP_FILL that a warm reset aborted waits for its writes (08 R188). -/
def fillsEnding (s : State) : Bool := s.mbx.chans.any fun ch => ch.cmd.any fun k => k.ending.isSome

/-- WARM_RESET: the MP carries the warm reset to its end, once the commands it aborted have ended. -/
def execWarmReset (s : State) : Res :=
  live s fun s =>
    match s.hlt.warm with
    | none => s
    | some t =>
      if !mpServes s || !s.hlt.warmBegun || fillsEnding s then s
      else
        let s := dueSwitches (advanceInc (warmClear s))
        let s := modHlt (sendCtrlAll s) fun h => { h with
          warm := none
          warmBegun := false
          warmResets := h.warmResets + 1 }
        match t with
        | .command c => finishWith false s c stOk 0 (layout 4 [(0, 2, s.fab.inc.toNat)])
        | _ => s

end Sys2Proof.Machine
end

