-- ==== Sys2Proof/Machine/SeqAlu.lean ====
section
/-! DEFINITION. SeqAlu.lean: the sequencer instructions of registers alone (10 R222, R225). -/

namespace Sys2Proof.Machine

/-- Shifts use RB bits 5:0. -/
def shamt (r : Regs) (w : Nat) : Nat := (r.get (wRb w)).toNat % 64

/-- SLT and SLTU write 1 or 0. -/
def boolD (b : Bool) : Dword := if b then 1 else 0

/-- RD takes a value computed from the registers before it. -/
def seqPut (s : State) (n t key : Nat) (f : Nat → Regs → Dword) : State :=
  seqAlu s n t key fun w r => r.put (wRd w) (f w r)

/-- PH:PL of the product, readable four instructions later (10 R222, R223). -/
def mulInto (p : Nat) (r : Regs) : Regs :=
  { r with prods := r.prods ++ [⟨r.num + 4, BitVec.ofNat 64 (p / 2 ^ 64), BitVec.ofNat 64 p⟩] }

/-- ADD. -/
def execSeqAdd (n : Fin 32) (t : Fin 4) (s : State) : Res :=
  live s fun s => seqPut s n t 0x0 fun w r => r.get (wRa w) + r.get (wRb w)

/-- SUB. -/
def execSeqSub (n : Fin 32) (t : Fin 4) (s : State) : Res :=
  live s fun s => seqPut s n t 0x1 fun w r => r.get (wRa w) - r.get (wRb w)

/-- AND. -/
def execSeqAnd (n : Fin 32) (t : Fin 4) (s : State) : Res :=
  live s fun s => seqPut s n t 0x2 fun w r => r.get (wRa w) &&& r.get (wRb w)

/-- OR. -/
def execSeqOr (n : Fin 32) (t : Fin 4) (s : State) : Res :=
  live s fun s => seqPut s n t 0x3 fun w r => r.get (wRa w) ||| r.get (wRb w)

/-- XOR. -/
def execSeqXor (n : Fin 32) (t : Fin 4) (s : State) : Res :=
  live s fun s => seqPut s n t 0x4 fun w r => r.get (wRa w) ^^^ r.get (wRb w)

/-- SLL. -/
def execSeqSll (n : Fin 32) (t : Fin 4) (s : State) : Res :=
  live s fun s => seqPut s n t 0x5 fun w r => r.get (wRa w) <<< shamt r w

/-- SRL. -/
def execSeqSrl (n : Fin 32) (t : Fin 4) (s : State) : Res :=
  live s fun s => seqPut s n t 0x6 fun w r => r.get (wRa w) >>> shamt r w

/-- SRA. -/
def execSeqSra (n : Fin 32) (t : Fin 4) (s : State) : Res :=
  live s fun s => seqPut s n t 0x7 fun w r => (r.get (wRa w)).sshiftRight (shamt r w)

/-- SLT. -/
def execSeqSlt (n : Fin 32) (t : Fin 4) (s : State) : Res :=
  live s fun s => seqPut s n t 0x8 fun w r => boolD ((r.get (wRa w)).toInt < (r.get (wRb w)).toInt)

/-- SLTU. -/
def execSeqSltu (n : Fin 32) (t : Fin 4) (s : State) : Res :=
  live s fun s => seqPut s n t 0x9 fun w r => boolD ((r.get (wRa w)).toNat < (r.get (wRb w)).toNat)

/-- MIN. -/
def execSeqMin (n : Fin 32) (t : Fin 4) (s : State) : Res :=
  live s fun s => seqPut s n t 0xa fun w r => if (r.get (wRa w)).toInt ≤ (r.get (wRb w)).toInt then r.get (wRa w) else r.get (wRb w)

/-- MAX. -/
def execSeqMax (n : Fin 32) (t : Fin 4) (s : State) : Res :=
  live s fun s => seqPut s n t 0xb fun w r => if (r.get (wRb w)).toInt ≤ (r.get (wRa w)).toInt then r.get (wRa w) else r.get (wRb w)

/-- MINU. -/
def execSeqMinu (n : Fin 32) (t : Fin 4) (s : State) : Res :=
  live s fun s => seqPut s n t 0xc fun w r => if (r.get (wRa w)).toNat ≤ (r.get (wRb w)).toNat then r.get (wRa w) else r.get (wRb w)

/-- MAXU. -/
def execSeqMaxu (n : Fin 32) (t : Fin 4) (s : State) : Res :=
  live s fun s => seqPut s n t 0xd fun w r => if (r.get (wRb w)).toNat ≤ (r.get (wRa w)).toNat then r.get (wRa w) else r.get (wRb w)

/-- ADDI. -/
def execSeqAddi (n : Fin 32) (t : Fin 4) (s : State) : Res :=
  live s fun s => seqPut s n t 0x40 fun w r => r.get (wRa w) + dword (wSimm w)

/-- ANDI. -/
def execSeqAndi (n : Fin 32) (t : Fin 4) (s : State) : Res :=
  live s fun s => seqPut s n t 0x80 fun w r => r.get (wRa w) &&& BitVec.ofNat 64 (wImm w)

/-- ORI. -/
def execSeqOri (n : Fin 32) (t : Fin 4) (s : State) : Res :=
  live s fun s => seqPut s n t 0xc0 fun w r => r.get (wRa w) ||| BitVec.ofNat 64 (wImm w)

/-- XORI. -/
def execSeqXori (n : Fin 32) (t : Fin 4) (s : State) : Res :=
  live s fun s => seqPut s n t 0x100 fun w r => r.get (wRa w) ^^^ BitVec.ofNat 64 (wImm w)

/-- SLLI. -/
def execSeqSlli (n : Fin 32) (t : Fin 4) (s : State) : Res :=
  live s fun s => seqPut s n t 0x140 fun w r => r.get (wRa w) <<< (wImm w % 64)

/-- SRLI. -/
def execSeqSrli (n : Fin 32) (t : Fin 4) (s : State) : Res :=
  live s fun s => seqPut s n t 0x180 fun w r => r.get (wRa w) >>> (wImm w % 64)

/-- SRAI. -/
def execSeqSrai (n : Fin 32) (t : Fin 4) (s : State) : Res :=
  live s fun s => seqPut s n t 0x1c0 fun w r => (r.get (wRa w)).sshiftRight (wImm w % 64)

/-- MFPL. -/
def execSeqMfpl (n : Fin 32) (t : Fin 4) (s : State) : Res :=
  live s fun s => seqPut s n t 0x240 fun _ r => r.pl

/-- MFPH. -/
def execSeqMfph (n : Fin 32) (t : Fin 4) (s : State) : Res :=
  live s fun s => seqPut s n t 0x241 fun _ r => r.ph

/-- MFLK. -/
def execSeqMflk (n : Fin 32) (t : Fin 4) (s : State) : Res :=
  live s fun s => seqPut s n t 0x242 fun _ r => r.lk

/-- LUI. -/
def execSeqLui (n : Fin 32) (t : Fin 4) (s : State) : Res :=
  live s fun s => seqPut s n t 0x280 fun w _ => dword (toSigned 32 (wImm w * 65536))

/-- MUL, signed. -/
def execSeqMul (n : Fin 32) (t : Fin 4) (s : State) : Res :=
  live s fun s => seqAlu s n t 0x200 fun w r =>
    mulInto ((r.get (wRa w)).toInt * (r.get (wRb w)).toInt % (2 ^ 128 : Nat)).toNat r

/-- MULU, unsigned. -/
def execSeqMulu (n : Fin 32) (t : Fin 4) (s : State) : Res :=
  live s fun s => seqAlu s n t 0x201 fun w r => mulInto ((r.get (wRa w)).toNat * (r.get (wRb w)).toNat) r

/-- PRODUCT_LAND: a product due by the thread's next instruction overwrites PH and PL (10 R222, R223). -/
def execProductLand (n : Fin 32) (t : Fin 4) (s : State) : Res :=
  live s fun s => modThread s n t fun x => { x with regs := landDue x.regs }

/-- MTLK. -/
def execSeqMtlk (n : Fin 32) (t : Fin 4) (s : State) : Res :=
  live s fun s => seqAlu s n t 0x243 fun w r => { r with lk := r.get (wRa w) }

/-- RDTIME: nanoseconds and fraction of one instant (02 R29); with RD and RB the same register the fraction is
written last (log 41). -/
def execSeqRdtime (n : Fin 32) (t : Fin 4) (s : State) : Res :=
  live s fun s => seqAlu s n t 0x247 fun w r => (r.put (wRd w) (dtNs s)).put (wRb w) ((dtFrac s).setWidth 64)

end Sys2Proof.Machine
end

