-- ==== Sys2Proof/Machine/SeqFlow.lean ====
section
/-! DEFINITION. SeqFlow.lean: jumps, branches, and the instructions that end or hold a thread (10 R225, R234, R239). -/

namespace Sys2Proof.Machine

/-- J. -/
def execSeqJ (n : Fin 32) (t : Fin 4) (s : State) : Res :=
  live s fun s => seqDo s n t 0x780 fun w r s => .goto s r (relTarget r.pc (toSigned 26 (bitsAt w 25 0)))

/-- CALL. -/
def execSeqCall (n : Fin 32) (t : Fin 4) (s : State) : Res :=
  live s fun s => seqDo s n t 0x7C0 fun w r s =>
    .goto s { r with lk := BitVec.ofNat 64 (r.pc + 4) } (relTarget r.pc (toSigned 26 (bitsAt w 25 0)))

/-- JR: never predicted. -/
def execSeqJr (n : Fin 32) (t : Fin 4) (s : State) : Res :=
  live s fun s => seqDo s n t 0x244 fun w r s => .goto s r (r.get (wRa w)).toNat

/-- CALLR: never predicted. -/
def execSeqCallr (n : Fin 32) (t : Fin 4) (s : State) : Res :=
  live s fun s => seqDo s n t 0x245 fun w r s =>
    .goto s { r with lk := BitVec.ofNat 64 (r.pc + 4) } (r.get (wRa w)).toNat

/-- RET: predicted by the return-address predictor, whose guess is free (log 40). -/
def execSeqRet (n : Fin 32) (t : Fin 4) (s : State) : Res :=
  live s fun s => seqDo s n t 0x246 fun _ r s =>
    let (v, s') := takeFree s
    if specOff s n then .goto s r r.lk.toNat else .branch s' r r.lk.toNat (v % 65536 * 4)

/-- A conditional branch on RA and RB (10 R224, R234). -/
def seqBranch (s : State) (n t key : Nat) (cond : Dword → Dword → Bool) : State :=
  seqDo s n t key fun w r s =>
    let dst := relTarget r.pc (wSimm w)
    if cond (r.get (wRa w)) (r.get (wRd w)) then .branch s r dst (r.pc + 4) else .branch s r (r.pc + 4) dst

/-- BEQ. -/
def execSeqBeq (n : Fin 32) (t : Fin 4) (s : State) : Res := live s fun s => seqBranch s n t 0x600 fun a b => a == b

/-- BNE. -/
def execSeqBne (n : Fin 32) (t : Fin 4) (s : State) : Res := live s fun s => seqBranch s n t 0x640 fun a b => a != b

/-- BLT. -/
def execSeqBlt (n : Fin 32) (t : Fin 4) (s : State) : Res :=
  live s fun s => seqBranch s n t 0x680 fun a b => a.toInt < b.toInt

/-- BGE. -/
def execSeqBge (n : Fin 32) (t : Fin 4) (s : State) : Res :=
  live s fun s => seqBranch s n t 0x6C0 fun a b => b.toInt ≤ a.toInt

/-- BLTU. -/
def execSeqBltu (n : Fin 32) (t : Fin 4) (s : State) : Res :=
  live s fun s => seqBranch s n t 0x700 fun a b => a.toNat < b.toNat

/-- BGEU. -/
def execSeqBgeu (n : Fin 32) (t : Fin 4) (s : State) : Res :=
  live s fun s => seqBranch s n t 0x740 fun a b => b.toNat ≤ a.toNat

/-- SPB: nothing younger executes before it is confirmed (10 R239). -/
def execSeqSpb (n : Fin 32) (t : Fin 4) (s : State) : Res :=
  live s fun s => seqHeld s n t 0x24A fun _ r s => .next s r

/-- CDRAIN: waits until every operation the thread issued earlier has completed. -/
def execSeqCdrain (n : Fin 32) (t : Fin 4) (s : State) : Res :=
  live s fun s => seqHeld s n t 0x249 fun _ r s =>
    if (opsOf s n t).isEmpty then .next s r else .wait (modThread s n t fun x => { x with state := .stalled })

/-- HALT ends the thread; APP_STATUS may come from its G1 (10 R225; 13 R310). -/
def execSeqHalt (n : Fin 32) (t : Fin 4) (s : State) : Res :=
  live s fun s => seqHeld s n t 0x24B fun _ r s =>
    .wait (account (modThread s n t fun x => { quiet x .halted with
      regs := { r with num := r.num + 1 }
      app := (r.get 1).setWidth 16 }) n t)

/-- BRK faults with BREAK. -/
def execSeqBrk (n : Fin 32) (t : Fin 4) (s : State) : Res :=
  live s fun s => seqHeld s n t 0x24C fun _ _ _ => .fault fkBreak 0 0

end Sys2Proof.Machine
end

