-- ==== Sys2Proof/Machine/SeqMem.lean ====
section
/-! DEFINITION. SeqMem.lean: loads, stores, core registers, sync objects and coprocessor issue (10 R225 to R233). -/

namespace Sys2Proof.Machine

/-- LD. -/
def execSeqLd (n : Fin 32) (t : Fin 4) (s : State) : Res := live s fun s => seqLoad s n t 0x400 8

/-- LW. -/
def execSeqLw (n : Fin 32) (t : Fin 4) (s : State) : Res := live s fun s => seqLoad s n t 0x440 4

/-- LBU. -/
def execSeqLbu (n : Fin 32) (t : Fin 4) (s : State) : Res := live s fun s => seqLoad s n t 0x480 1

/-- ST. -/
def execSeqSt (n : Fin 32) (t : Fin 4) (s : State) : Res := live s fun s => seqStore s n t 0x500 8

/-- SW. -/
def execSeqSw (n : Fin 32) (t : Fin 4) (s : State) : Res := live s fun s => seqStore s n t 0x540 4

/-- SB. -/
def execSeqSb (n : Fin 32) (t : Fin 4) (s : State) : Res := live s fun s => seqStore s n t 0x580 1

/-- CRR: a core register of the thread's own core, or of the odd core (10 R228). -/
def execSeqCrr (n : Fin 32) (t : Fin 4) (s : State) : Res :=
  live s fun s => seqDo s n t 0xA00 fun w r s =>
    match crWindow s n w with
    | none => .fault fkIllegal 0 0
    | some c => .next s (r.put (wRd w) (BitVec.ofNat 64 (coreReg s c (wImm w % 1024 * 4))))

/-- CRW: the owner code of a bank (09 R199 to R202; 10 R228). -/
def execSeqCrw (n : Fin 32) (t : Fin 4) (s : State) : Res :=
  live s fun s => seqHeld s n t 0xA40 fun w r s => crWrite s n t w r

/-- COP (10 R229). -/
def execSeqCop (n : Fin 32) (t : Fin 4) (s : State) : Res :=
  live s fun s => seqDo s n t 0xE00 fun w r s => copIssue s n t w r

/-- SRD: the counter of a sync object. -/
def execSeqSrd (n : Fin 32) (t : Fin 4) (s : State) : Res :=
  live s fun s => seqHeld s n t 0x248 fun w r s =>
    withObj s n (r.get (wRa w)) fun o => .next s (r.put (wRd w) (((syncOf s o).map fun x => x.counter).getD 0))

/-- SIG: SIGNAL on a sync object (13 R320). -/
def execSeqSig (n : Fin 32) (t : Fin 4) (s : State) : Res :=
  live s fun s => seqHeld s n t 0x300 fun w r s =>
    withObj s n (r.get (wRa w)) fun o => .next (syncAdd s o (r.get (wRb w))) r

/-- SSET: SET on a sync object (13 R320). -/
def execSeqSset (n : Fin 32) (t : Fin 4) (s : State) : Res :=
  live s fun s => seqHeld s n t 0x301 fun w r s =>
    withObj s n (r.get (wRa w)) fun o => .next (syncSet s o (r.get (wRb w))) r

/-- WARM arms a wait (10 R231). -/
def execSeqWarm (n : Fin 32) (t : Fin 4) (s : State) : Res :=
  live s fun s => seqHeld s n t 0x302 fun w r s =>
    arm s n t (r.get (wRa w)) (r.get (wRb w)) (r.get (wRc w)) fun s => .next s r

/-- WBLK blocks on the armed waits; RC bit 0 selects ALL (10 R232). -/
def execSeqWblk (n : Fin 32) (t : Fin 4) (s : State) : Res :=
  live s fun s => seqHeld s n t 0x303 fun w r s =>
    let x := threadOf s n t
    wblkOn s n t w r (x.block.getD ⟨(r.get (wRc w)).getLsbD 0, wRd w, false, x.waits.length⟩)

/-- WAIT arms one wait and blocks on it alone (10 R231, R232). -/
def execSeqWait (n : Fin 32) (t : Fin 4) (s : State) : Res :=
  live s fun s => seqHeld s n t 0x304 fun w r s =>
    match (threadOf s n t).block with
    | some b => wblkOn s n t w r b
    | none => arm s n t (r.get (wRa w)) (r.get (wRb w)) (r.get (wRc w)) fun s =>
        wblkOn s n t w r ⟨false, wRd w, true, (threadOf s n t).waits.length⟩

end Sys2Proof.Machine
end

