-- ==== Sys2Proof/Machine/Dispatch.lean ====
section
/-! DEFINITION. Dispatch.lean: exec, one arm for each command. -/
namespace Sys2Proof.Machine

/-- The effect of one command on everything but the queue. -/
def exec (i : Instr) (s : State) : Host.Outcome State Fault Refusal :=
  match i with
  | .bar0WritePlain off wide val => Sys2Proof.Machine.execBar0WritePlain off wide val s
  | .bar0BadAccess off write size => Sys2Proof.Machine.execBar0BadAccess off write size s
  | .tbSnapLatch n wide => Sys2Proof.Machine.execTbSnapLatch n wide s
  | .gnssQualify => Sys2Proof.Machine.execGnssQualify s
  | .gnssDisqualify => Sys2Proof.Machine.execGnssDisqualify s
  | .ppsInEdge dev refPpb periods => Sys2Proof.Machine.execPpsInEdge dev refPpb periods s
  | .ref10mLoss => Sys2Proof.Machine.execRef10mLoss s
  | .exchangeIntervalMissed => Sys2Proof.Machine.execExchangeIntervalMissed s
  | .sourceTakeover => Sys2Proof.Machine.execSourceTakeover s
  | .lock24hSet => Sys2Proof.Machine.execLock24hSet s
  | .leapSecond => Sys2Proof.Machine.execLeapSecond s
  | .timesyncExchangeStart peer => Sys2Proof.Machine.execTimesyncExchangeStart peer s
  | .sync l => Sys2Proof.Machine.execSync l s
  | .delayReq l => Sys2Proof.Machine.execDelayReq l s
  | .delayResp l => Sys2Proof.Machine.execDelayResp l s
  | .ppsOutRise => Sys2Proof.Machine.execPpsOutRise s
  | .ppsOutFall => Sys2Proof.Machine.execPpsOutFall s
  | .opTimeConfig c => Sys2Proof.Machine.execOpTimeConfig c s
  | .opTimeSet c => Sys2Proof.Machine.execOpTimeSet c s
  | .timeSetTimeout => Sys2Proof.Machine.execTimeSetTimeout s
  | .opTimeStatus c => Sys2Proof.Machine.execOpTimeStatus c s
  | .refPresenceDecided freqPpm => Sys2Proof.Machine.execRefPresenceDecided freqPpm s
  | .calLoopbacksDone m => Sys2Proof.Machine.execCalLoopbacksDone m s
  | .frequencyGateStart => Sys2Proof.Machine.execFrequencyGateStart s
  | .frequencyGateEnd osc tempco span => Sys2Proof.Machine.execFrequencyGateEnd osc tempco span s
  | .opCalRun c m => Sys2Proof.Machine.execOpCalRun c m s
  | .opCalRead c => Sys2Proof.Machine.execOpCalRead c s
  | .samplePortFault port noEdge devPpm => Sys2Proof.Machine.execSamplePortFault port noEdge devPpm s
  | .samplePortFaultClear port => Sys2Proof.Machine.execSamplePortFaultClear port s
  | .sampleTimeTag port => Sys2Proof.Machine.execSampleTimeTag port s
  | .search j bins => Sys2Proof.Machine.execSearch j bins s
  | .verify j tests => Sys2Proof.Machine.execVerify j tests s
  | .pullInLock ch => Sys2Proof.Machine.execPullInLock ch s
  | .pullInTimeout ch => Sys2Proof.Machine.execPullInTimeout ch s
  | .trackLoss ch => Sys2Proof.Machine.execTrackLoss ch s
  | .searchListReturn j => Sys2Proof.Machine.execSearchListReturn j s
  | .coherentIntervalEnd ch acc bitSync => Sys2Proof.Machine.execCoherentIntervalEnd ch acc bitSync s
  | .syncEventVerified ch word crcOk towKnown nav => Sys2Proof.Machine.execSyncEventVerified ch word crcOk towKnown nav s
  | .cn0Expire ch => Sys2Proof.Machine.execCn0Expire ch s
  | .measurementEpoch sol recs => Sys2Proof.Machine.execMeasurementEpoch sol recs s
  | .surveyComplete => Sys2Proof.Machine.execSurveyComplete s
  | .holdResidualCheck => Sys2Proof.Machine.execHoldResidualCheck s
  | .opGnssConfig c => Sys2Proof.Machine.execOpGnssConfig c s
  | .opGnssSurvey c => Sys2Proof.Machine.execOpGnssSurvey c s
  | .opGnssPosition c => Sys2Proof.Machine.execOpGnssPosition c s
  | .opGnssStream c => Sys2Proof.Machine.execOpGnssStream c s
  | .opGnssAssist c ok => Sys2Proof.Machine.execOpGnssAssist c ok s
  | .mbxDoorbell c val => Sys2Proof.Machine.execMbxDoorbell c val s
  | .mbxAck c => Sys2Proof.Machine.execMbxAck c s
  | .mbxStatusClear c val => Sys2Proof.Machine.execMbxStatusClear c val s
  | .solpReq msg pecOk => Sys2Proof.Machine.execSolpReq msg pecOk s
  | .solpStat => Sys2Proof.Machine.execSolpStat s
  | .opNop c => Sys2Proof.Machine.execOpNop c s
  | .opGetInfo c => Sys2Proof.Machine.execOpGetInfo c s
  | .opMbxGrant c => Sys2Proof.Machine.execOpMbxGrant c s
  | .opMbxReset c => Sys2Proof.Machine.execOpMbxReset c s
  | .opEventRing c => Sys2Proof.Machine.execOpEventRing c s
  | .opErrorLog c => Sys2Proof.Machine.execOpErrorLog c s
  | .opHealthSummary c => Sys2Proof.Machine.execOpHealthSummary c s
  | .fwUpdateSessionTimeout => Sys2Proof.Machine.execFwUpdateSessionTimeout s
  | .hostLinkTrain p cfg => Sys2Proof.Machine.execHostLinkTrain p cfg s
  | .bar4Read off len errs => Sys2Proof.Machine.execBar4Read off len errs s
  | .bar4Write off data ep errs => Sys2Proof.Machine.execBar4Write off data ep errs s
  | .cxlMemRead dpa err => Sys2Proof.Machine.execCxlMemRead dpa err s
  | .cxlMemWrite dpa data poison err => Sys2Proof.Machine.execCxlMemWrite dpa data poison err s
  | .bar4Resize size => Sys2Proof.Machine.execBar4Resize size s
  | .completionTimeout tag => Sys2Proof.Machine.execCompletionTimeout tag s
  | .hostReadCompletion tag data => Sys2Proof.Machine.execHostReadCompletion tag data s
  | .atsTranslationCompletion id resp => Sys2Proof.Machine.execAtsTranslationCompletion id resp s
  | .atsInvalidation addr size pasid => Sys2Proof.Machine.execAtsInvalidation addr size pasid s
  | .msixUnmask what => Sys2Proof.Machine.execMsixUnmask what s
  | .msixGapEnd v => Sys2Proof.Machine.execMsixGapEnd v s
  | .intStatusClear val => Sys2Proof.Machine.execIntStatusClear val s
  | .intEnableWrite val => Sys2Proof.Machine.execIntEnableWrite val s
  | .opCoherenceMode c => Sys2Proof.Machine.execOpCoherenceMode c s
  | .opCtxCreate c => Sys2Proof.Machine.execOpCtxCreate c s
  | .opCtxDestroy c => Sys2Proof.Machine.execOpCtxDestroy c s
  | .opMap c => Sys2Proof.Machine.execOpMap c s
  | .opUnmap c => Sys2Proof.Machine.execOpUnmap c s
  | .opTlbInval c => Sys2Proof.Machine.execOpTlbInval c s
  | .unmapHostAbandon c => Sys2Proof.Machine.execUnmapHostAbandon c s
  | .opPrefetch c => Sys2Proof.Machine.execOpPrefetch c s
  | .prefetchDone j => Sys2Proof.Machine.execPrefetchDone j s
  | .opMigrate c => Sys2Proof.Machine.execOpMigrate c s
  | .migratePage j => Sys2Proof.Machine.execMigratePage j s
  | .opAdvise c => Sys2Proof.Machine.execOpAdvise c s
  | .translationWalkDone acc => Sys2Proof.Machine.execTranslationWalkDone acc s
  | .towerLineAccess acc err => Sys2Proof.Machine.execTowerLineAccess acc err s
  | .deepPortResponse p acc r => Sys2Proof.Machine.execDeepPortResponse p acc r s
  | .deepRequestTimeout p acc => Sys2Proof.Machine.execDeepRequestTimeout p acc s
  | .deepPortLinkDown p => Sys2Proof.Machine.execDeepPortLinkDown p s
  | .patrolScrub k err => Sys2Proof.Machine.execPatrolScrub k err s
  | .towerTemperatureChange k t => Sys2Proof.Machine.execTowerTemperatureChange k t s
  | .opRowcacheConfig c => Sys2Proof.Machine.execOpRowcacheConfig c s
  | .opDeepPortConfig c found => Sys2Proof.Machine.execOpDeepPortConfig c found s
  | .opFill c lines => Sys2Proof.Machine.execOpFill c lines s
  | .opPageRetire c => Sys2Proof.Machine.execOpPageRetire c s
  | .handoverComplete core bank => Sys2Proof.Machine.execHandoverComplete core bank s
  | .reclaimComplete core bank => Sys2Proof.Machine.execReclaimComplete core bank s
  | .coreFence core cause => Sys2Proof.Machine.execCoreFence core cause s
  | .opCoreFence c => Sys2Proof.Machine.execOpCoreFence c s
  | .opCoreBridle c => Sys2Proof.Machine.execOpCoreBridle c s
  | .opCoreUnbridle c => Sys2Proof.Machine.execOpCoreUnbridle c s
  | .opCoreStatus c => Sys2Proof.Machine.execOpCoreStatus c s
  | .seqAdd core t => Sys2Proof.Machine.execSeqAdd core t s
  | .seqSub core t => Sys2Proof.Machine.execSeqSub core t s
  | .seqAnd core t => Sys2Proof.Machine.execSeqAnd core t s
  | .seqOr core t => Sys2Proof.Machine.execSeqOr core t s
  | .seqXor core t => Sys2Proof.Machine.execSeqXor core t s
  | .seqSll core t => Sys2Proof.Machine.execSeqSll core t s
  | .seqSrl core t => Sys2Proof.Machine.execSeqSrl core t s
  | .seqSra core t => Sys2Proof.Machine.execSeqSra core t s
  | .seqSlt core t => Sys2Proof.Machine.execSeqSlt core t s
  | .seqSltu core t => Sys2Proof.Machine.execSeqSltu core t s
  | .seqMin core t => Sys2Proof.Machine.execSeqMin core t s
  | .seqMax core t => Sys2Proof.Machine.execSeqMax core t s
  | .seqMinu core t => Sys2Proof.Machine.execSeqMinu core t s
  | .seqMaxu core t => Sys2Proof.Machine.execSeqMaxu core t s
  | .seqAddi core t => Sys2Proof.Machine.execSeqAddi core t s
  | .seqAndi core t => Sys2Proof.Machine.execSeqAndi core t s
  | .seqOri core t => Sys2Proof.Machine.execSeqOri core t s
  | .seqXori core t => Sys2Proof.Machine.execSeqXori core t s
  | .seqSlli core t => Sys2Proof.Machine.execSeqSlli core t s
  | .seqSrli core t => Sys2Proof.Machine.execSeqSrli core t s
  | .seqSrai core t => Sys2Proof.Machine.execSeqSrai core t s
  | .seqMul core t => Sys2Proof.Machine.execSeqMul core t s
  | .seqMulu core t => Sys2Proof.Machine.execSeqMulu core t s
  | .productLand core t => Sys2Proof.Machine.execProductLand core t s
  | .seqMfpl core t => Sys2Proof.Machine.execSeqMfpl core t s
  | .seqMfph core t => Sys2Proof.Machine.execSeqMfph core t s
  | .seqMflk core t => Sys2Proof.Machine.execSeqMflk core t s
  | .seqMtlk core t => Sys2Proof.Machine.execSeqMtlk core t s
  | .seqJr core t => Sys2Proof.Machine.execSeqJr core t s
  | .seqCallr core t => Sys2Proof.Machine.execSeqCallr core t s
  | .seqRet core t => Sys2Proof.Machine.execSeqRet core t s
  | .seqRdtime core t => Sys2Proof.Machine.execSeqRdtime core t s
  | .seqSrd core t => Sys2Proof.Machine.execSeqSrd core t s
  | .seqCdrain core t => Sys2Proof.Machine.execSeqCdrain core t s
  | .seqSpb core t => Sys2Proof.Machine.execSeqSpb core t s
  | .seqHalt core t => Sys2Proof.Machine.execSeqHalt core t s
  | .seqBrk core t => Sys2Proof.Machine.execSeqBrk core t s
  | .seqLui core t => Sys2Proof.Machine.execSeqLui core t s
  | .seqSig core t => Sys2Proof.Machine.execSeqSig core t s
  | .seqSset core t => Sys2Proof.Machine.execSeqSset core t s
  | .seqWarm core t => Sys2Proof.Machine.execSeqWarm core t s
  | .seqWblk core t => Sys2Proof.Machine.execSeqWblk core t s
  | .seqWait core t => Sys2Proof.Machine.execSeqWait core t s
  | .syncWaitTimeout core t w => Sys2Proof.Machine.execSyncWaitTimeout core t w s
  | .seqLd core t => Sys2Proof.Machine.execSeqLd core t s
  | .seqLw core t => Sys2Proof.Machine.execSeqLw core t s
  | .seqLbu core t => Sys2Proof.Machine.execSeqLbu core t s
  | .seqSt core t => Sys2Proof.Machine.execSeqSt core t s
  | .seqSw core t => Sys2Proof.Machine.execSeqSw core t s
  | .seqSb core t => Sys2Proof.Machine.execSeqSb core t s
  | .seqBeq core t => Sys2Proof.Machine.execSeqBeq core t s
  | .seqBne core t => Sys2Proof.Machine.execSeqBne core t s
  | .seqBlt core t => Sys2Proof.Machine.execSeqBlt core t s
  | .seqBge core t => Sys2Proof.Machine.execSeqBge core t s
  | .seqBltu core t => Sys2Proof.Machine.execSeqBltu core t s
  | .seqBgeu core t => Sys2Proof.Machine.execSeqBgeu core t s
  | .seqJ core t => Sys2Proof.Machine.execSeqJ core t s
  | .seqCall core t => Sys2Proof.Machine.execSeqCall core t s
  | .seqCrr core t => Sys2Proof.Machine.execSeqCrr core t s
  | .seqCrw core t => Sys2Proof.Machine.execSeqCrw core t s
  | .seqCop core t => Sys2Proof.Machine.execSeqCop core t s
  | .branchResolve core t => Sys2Proof.Machine.execBranchResolve core t s
  | .squashedOperationBoundary core op => Sys2Proof.Machine.execSquashedOperationBoundary core op s
  | .mmLoad core op => Sys2Proof.Machine.execMmLoad core op s
  | .mmRun core op bad => Sys2Proof.Machine.execMmRun core op bad s
  | .vecAdd core op => Sys2Proof.Machine.execVecAdd core op s
  | .vecSub core op => Sys2Proof.Machine.execVecSub core op s
  | .vecMul core op => Sys2Proof.Machine.execVecMul core op s
  | .vecFma core op => Sys2Proof.Machine.execVecFma core op s
  | .vecMin core op => Sys2Proof.Machine.execVecMin core op s
  | .vecMax core op => Sys2Proof.Machine.execVecMax core op s
  | .vecDiv core op => Sys2Proof.Machine.execVecDiv core op s
  | .vecSqrt core op => Sys2Proof.Machine.execVecSqrt core op s
  | .vecRsqrt core op => Sys2Proof.Machine.execVecRsqrt core op s
  | .vecExp core op => Sys2Proof.Machine.execVecExp core op s
  | .vecLog core op => Sys2Proof.Machine.execVecLog core op s
  | .vecTanh core op => Sys2Proof.Machine.execVecTanh core op s
  | .vecSigmoid core op => Sys2Proof.Machine.execVecSigmoid core op s
  | .vecGelu core op => Sys2Proof.Machine.execVecGelu core op s
  | .vecRelu core op => Sys2Proof.Machine.execVecRelu core op s
  | .vecRsum core op => Sys2Proof.Machine.execVecRsum core op s
  | .vecRmax core op => Sys2Proof.Machine.execVecRmax core op s
  | .vecConvert core op => Sys2Proof.Machine.execVecConvert core op s
  | .vecQuant core op => Sys2Proof.Machine.execVecQuant core op s
  | .vecRequant core op => Sys2Proof.Machine.execVecRequant core op s
  | .vecMxquant core op => Sys2Proof.Machine.execVecMxquant core op s
  | .vecDequant core op => Sys2Proof.Machine.execVecDequant core op s
  | .dmaCopy core op => Sys2Proof.Machine.execDmaCopy core op s
  | .copOperationComplete core op => Sys2Proof.Machine.execCopOperationComplete core op s
  | .lookup core op => Sys2Proof.Machine.execLookup core op s
  | .lookupAccept e => Sys2Proof.Machine.execLookupAccept e s
  | .lookupRowReturn e lk acc => Sys2Proof.Machine.execLookupRowReturn e lk acc s
  | .lookupDeadline e lk => Sys2Proof.Machine.execLookupDeadline e lk s
  | .lookupComplete e lk => Sys2Proof.Machine.execLookupComplete e lk s
  | .teUpdate core op => Sys2Proof.Machine.execTeUpdate core op s
  | .updateRecordArrival e => Sys2Proof.Machine.execUpdateRecordArrival e s
  | .rqUpdTailWrite h val => Sys2Proof.Machine.execRqUpdTailWrite h val s
  | .updateRingRecord h => Sys2Proof.Machine.execUpdateRingRecord h s
  | .epochSwitch tbl => Sys2Proof.Machine.execEpochSwitch tbl s
  | .prevBusyClear tbl => Sys2Proof.Machine.execPrevBusyClear tbl s
  | .opTableCreate c => Sys2Proof.Machine.execOpTableCreate c s
  | .opTableDestroy c => Sys2Proof.Machine.execOpTableDestroy c s
  | .opTableEpochAt c => Sys2Proof.Machine.execOpTableEpochAt c s
  | .opUpdateStreamOpen c => Sys2Proof.Machine.execOpUpdateStreamOpen c s
  | .opUpdateStreamClose c => Sys2Proof.Machine.execOpUpdateStreamClose c s
  | .opTableStats c => Sys2Proof.Machine.execOpTableStats c s
  | .rqSqTailWrite q val => Sys2Proof.Machine.execRqSqTailWrite q val s
  | .rqCqHeadWrite q val => Sys2Proof.Machine.execRqCqHeadWrite q val s
  | .rqQStatusClear q val => Sys2Proof.Machine.execRqQStatusClear q val s
  | .rqSyncSelWrite n val => Sys2Proof.Machine.execRqSyncSelWrite n val s
  | .descriptorRead data errs => Sys2Proof.Machine.execDescriptorRead data errs s
  | .stageDispatch => Sys2Proof.Machine.execStageDispatch s
  | .stageEnd core => Sys2Proof.Machine.execStageEnd core s
  | .completionRecordPost slot errs => Sys2Proof.Machine.execCompletionRecordPost slot errs s
  | .opPlanLoad c => Sys2Proof.Machine.execOpPlanLoad c s
  | .opPlanUnload c => Sys2Proof.Machine.execOpPlanUnload c s
  | .opQueueCreate c => Sys2Proof.Machine.execOpQueueCreate c s
  | .opQueueDestroy c => Sys2Proof.Machine.execOpQueueDestroy c s
  | .opReplayWindow c => Sys2Proof.Machine.execOpReplayWindow c s
  | .opReqCancel c => Sys2Proof.Machine.execOpReqCancel c s
  | .opSyncAlloc c => Sys2Proof.Machine.execOpSyncAlloc c s
  | .opSyncFree c => Sys2Proof.Machine.execOpSyncFree c s
  | .dataFlit l flit crcOk => Sys2Proof.Machine.execDataFlit l flit crcOk s
  | .linkCtrlFlit l flit crcOk => Sys2Proof.Machine.execLinkCtrlFlit l flit crcOk s
  | .nakFlit l flit crcOk => Sys2Proof.Machine.execNakFlit l flit crcOk s
  | .idleFlit l flit crcOk => Sys2Proof.Machine.execIdleFlit l flit crcOk s
  | .timesyncFlit l flit crcOk => Sys2Proof.Machine.execTimesyncFlit l flit crcOk s
  | .packetForward j => Sys2Proof.Machine.execPacketForward j s
  | .ratlineRead j => Sys2Proof.Machine.execRatlineRead j s
  | .ratlineWrite j => Sys2Proof.Machine.execRatlineWrite j s
  | .ratlineAdd j => Sys2Proof.Machine.execRatlineAdd j s
  | .ratlineAddUpdateForm j => Sys2Proof.Machine.execRatlineAddUpdateForm j s
  | .ratlineSignal j => Sys2Proof.Machine.execRatlineSignal j s
  | .ratlineLookup j => Sys2Proof.Machine.execRatlineLookup j s
  | .ack j => Sys2Proof.Machine.execAck j s
  | .readData j => Sys2Proof.Machine.execReadData j s
  | .pooled j => Sys2Proof.Machine.execPooled j s
  | .refused j => Sys2Proof.Machine.execRefused j s
  | .remoteTimeoutFire tag => Sys2Proof.Machine.execRemoteTimeoutFire tag s
  | .ratlineLinkLoss l cause => Sys2Proof.Machine.execRatlineLinkLoss l cause s
  | .ratlineLinkRetrainDone l r => Sys2Proof.Machine.execRatlineLinkRetrainDone l r s
  | .opChipIdSet c => Sys2Proof.Machine.execOpChipIdSet c s
  | .opLinkUp c => Sys2Proof.Machine.execOpLinkUp c s
  | .opLinkDown c => Sys2Proof.Machine.execOpLinkDown c s
  | .opRouteSet c => Sys2Proof.Machine.execOpRouteSet c s
  | .opRemoteTimeout c => Sys2Proof.Machine.execOpRemoteTimeout c s
  | .opFabricStatus c => Sys2Proof.Machine.execOpFabricStatus c s
  | .flr => Sys2Proof.Machine.execFlr s
  | .perstNAssert => Sys2Proof.Machine.execPerstNAssert s
  | .warmReset => Sys2Proof.Machine.execWarmReset s
  | .coldReset trigger => Sys2Proof.Machine.execColdReset trigger s
  | .dbgColdReqWrite val => Sys2Proof.Machine.execDbgColdReqWrite val s
  | .opChipReset c => Sys2Proof.Machine.execOpChipReset c s
  | .opDump c => Sys2Proof.Machine.execOpDump c s
  | .opHeartbeatConfig c => Sys2Proof.Machine.execOpHeartbeatConfig c s
  | .heartbeat check => Sys2Proof.Machine.execHeartbeat check s
  | .capture => Sys2Proof.Machine.execCapture s
  | .freeze => Sys2Proof.Machine.execFreeze s
  | .captureDone => Sys2Proof.Machine.execCaptureDone s
  | .opPowerLimit c => Sys2Proof.Machine.execOpPowerLimit c s
  | .opReefStatus c => Sys2Proof.Machine.execOpReefStatus c s
  | .opDomainPower c found => Sys2Proof.Machine.execOpDomainPower c found s
  | .opBoost c => Sys2Proof.Machine.execOpBoost c s
  | .opThermalRead c => Sys2Proof.Machine.execOpThermalRead c s
  | .hotspotTemperatureChange k t => Sys2Proof.Machine.execHotspotTemperatureChange k t s
  | .powerSample watts => Sys2Proof.Machine.execPowerSample watts s
  | .pwrCapNChange low => Sys2Proof.Machine.execPwrCapNChange low s
  | .overcurrent amps => Sys2Proof.Machine.execOvercurrent amps s
  | .reefLevelStep k => Sys2Proof.Machine.execReefLevelStep k s
  | .boot b => Sys2Proof.Machine.execBoot b s
  | .firmwareStart => Sys2Proof.Machine.execFirmwareStart s
  | .bootReady => Sys2Proof.Machine.execBootReady s
  | .opFwUpdateBegin c => Sys2Proof.Machine.execOpFwUpdateBegin c s
  | .opFwUpdateData c => Sys2Proof.Machine.execOpFwUpdateData c s
  | .opFwUpdateCommit c => Sys2Proof.Machine.execOpFwUpdateCommit c s
  | .opLifecycleAdvance c => Sys2Proof.Machine.execOpLifecycleAdvance c s
  | .opLifecycleStatus c => Sys2Proof.Machine.execOpLifecycleStatus c s
  | .opAttest c => Sys2Proof.Machine.execOpAttest c s
  | .tamper ns => Sys2Proof.Machine.execTamper ns s
  | .railUndervoltage rail lowNs => Sys2Proof.Machine.execRailUndervoltage rail lowNs s
  | .jtagInstruction j => Sys2Proof.Machine.execJtagInstruction j s
  | .ppsInMissing => Sys2Proof.Machine.execPpsInMissing s
  | .tbSlewingClear err => Sys2Proof.Machine.execTbSlewingClear err s
  | .calSlewingClear => Sys2Proof.Machine.execCalSlewingClear s
  | .linkTrainingEnd l r => Sys2Proof.Machine.execLinkTrainingEnd l r s
  | .hostLinkDown => Sys2Proof.Machine.execHostLinkDown s
  | .deepPortLinkReturn p => Sys2Proof.Machine.execDeepPortLinkReturn p s
  | .towerTrainingDone ok found => Sys2Proof.Machine.execTowerTrainingDone ok found s
  | .tamperNRelease => Sys2Proof.Machine.execTamperNRelease s
  | .maxFirmwareTimeExpiry c => Sys2Proof.Machine.execMaxFirmwareTimeExpiry c s

end Sys2Proof.Machine
end

