-- ==== Sys2Proof/Safety.lean ====
section
/-! DEFINITION. Safety.lean: the terms the claims use: a command that executes, a command a channel holds, an
answered command, and the invariant of every step. -/

namespace Sys2Proof.Machine

/-- Command `i` executes at `s`, neither faulting nor refused, and the state after it has `P`. -/
def Runs (i : Instr) (s : State) (P : State → Prop) : Prop := ∃ t, exec i s = .next t ∧ P t

/-- The device is not held in cold reset. -/
abbrev Awake (s : State) : Prop := s.sec.cold = false

/-- No command that another channel carries has begun its effect or was accepted before channel `c`'s; one that has, on the
same object, would go first (05 R104). -/
abbrev OthersIdle (s : State) (c : Chan) : Prop :=
  ∀ d : Fin 17, d ≠ c → ((chan s d).cmd.all fun q => !q.begun && (chan s c).bellNo ≤ (chan s d).bellNo) = true

/-- Firmware holds on channel `c` a command `k` of opcode `op`, complete and not begun (05 R97); the response area is
in its canonical form. -/
abbrev HasCmd (s : State) (c : Chan) (op : Nat) (k : CmdHeld) : Prop :=
  Awake s ∧ mpServes s = true ∧ (chan s c).cmd = some k ∧ k.opcode.toNat = op ∧ k.ready = true ∧ k.begun = false ∧
    Memory.wf (chan s c).resp = true

/-- The bytes of the request payload at the offsets of `l` are zero (00 R7). -/
abbrev Reserved (k : CmdHeld) (l : List Nat) : Prop := ∀ o ∈ l, k.payload.getD o 0 = 0

/-- The channel may name context `x` (05 R95). -/
abbrev MayName (s : State) (c : Chan) (x : Nat) : Prop := (chan s c).ctxBound = true → x = (chan s c).ctx.toNat

/-- The command is over (05 R97): DONE reads 1 and BUSY 0, LAST_SEQ is its SEQ, and the response area holds the 16-byte
header with its OPCODE, its SEQ, `status` and DETAIL 0, then `payload`. -/
abbrev Answered (t : State) (c : Chan) (k : CmdHeld) (status : Nat) (payload : Bytes) : Prop :=
  (chan t c).done = true ∧ (chan t c).busy = false ∧ (chan t c).cmd = none ∧ (chan t c).lastSeq = k.seq ∧
    memRead (chan t c).resp 0 (16 + payload.length) =
      layout 16 [(0, 2, k.opcode.toNat), (2, 2, k.seq.toNat), (4, 2, payload.length), (7, 1, 1), (8, 2, status)] ++ payload

/-- As `Answered`, with a payload of `n` bytes that this claim leaves open. -/
def AnsweredLen (t : State) (c : Chan) (k : CmdHeld) (status n : Nat) : Prop :=
  ∃ r : Bytes, r.length = n ∧ Answered t c k status r

/-- Context `x` exists and is not being destroyed, and the channel may name it (05 R95; 07 R143, R431). -/
abbrev CtxOk (s : State) (c : Chan) (x : Nat) : Prop :=
  x ≤ 63 ∧ MayName s c x ∧ ((ctxOf s x).any fun y => !y.dying) = true

/-- DVA and LEN, at the payload's offsets 8 and 16, name a range: LEN a positive multiple of 4 KiB, its end at most 2^46 (07
R168). -/
abbrev RangeOk (k : CmdHeld) : Prop := k.f 16 8 % 4096 = 0 ∧ k.f 16 8 ≠ 0 ∧ k.f 8 8 + k.f 16 8 ≤ 2 ^ 46

/-- Accesses in flight have different numbers, all below the next one. -/
abbrev AccDistinct (s : State) : Prop := (s.acc.map Prod.fst).Nodup ∧ ∀ e ∈ s.acc, e.1 < s.nextAcc

/-- The owner is an update stream's ring. -/
def AccOwner.isRing : AccOwner → Bool
  | .ring _ => true
  | _ => false

/-- Access `id` is `a`, which has an owner that is not an update stream's ring. -/
abbrev Owned (s : State) (id : Nat) (a : Access) : Prop :=
  accOf s id = some a ∧ a.owner ≠ .gone ∧ a.owner.isRing = false

/-- No OP_FILL has deep writes in flight, which would hold its end (08 R188). -/
abbrev NoFills (s : State) : Prop := ∀ d : Fin 17, ((chan s d).cmd.all fun k => !fillFlies s d k) = true

/-! ### Sequencers (10) -/

/-- Thread `t` of core `n` may issue (10 R234, R241), its due products have landed in `r` (10 R222), and at its PC stands the
legal word `w` of the instruction `key`, with another word after it. -/
abbrev Stands (s : State) (n : Fin 32) (t : Fin 4) (key w : Nat) (r : Regs) : Prop :=
  Awake s ∧ canIssue s n t = true ∧ landDue (threadOf s n t).regs = r ∧ r.pc % 4 = 0 ∧ r.pc + 4 < istoreSize ∧
    instrAt s n r.pc = w ∧ legalWord w = true ∧ wKey w = key

/-- No branch of the thread is unresolved: what it executes is confirmed (10 R234). -/
abbrev Confirmed (s : State) (n : Fin 32) (t : Fin 4) : Prop := (threadOf s n t).branches = []

/-- The registers once the instruction has retired and the thread goes on at `pc`. -/
def Regs.at_ (r : Regs) (pc : Nat) : Regs := ⟨r.g, r.lk, r.ph, r.pl, pc, r.num + 1, r.prods⟩

/-- Of the cores, only thread `t` of core `n` differs, and the progress counts of its core (15 R368). -/
def OnlyThread (s u : State) (n : Fin 32) (t : Fin 4) : Prop :=
  (∀ m : Fin 32, m ≠ n → u.cores[m] = s.cores[m]) ∧
    (∃ p i x, u.cores[n] = { s.cores[n] with progress := p, instrs := i, threads := x }) ∧
    ∀ k : Fin 4, k ≠ t → (u.cores[n]).threads[k] = (s.cores[n]).threads[k]

/-- Thread `t` of core `n` runs, with registers `r`, and its stores, waits, branches and fault registers are as before. -/
def ThreadNow (s u : State) (n : Fin 32) (t : Fin 4) (r : Regs) : Prop :=
  (threadOf u n t).regs = r ∧ (threadOf u n t).state = .running ∧ (threadOf u n t).block = none ∧
    (threadOf u n t).branches = (threadOf s n t).branches ∧ (threadOf u n t).stores = (threadOf s n t).stores ∧
    (threadOf u n t).waits = (threadOf s n t).waits ∧ (threadOf u n t).fault = (threadOf s n t).fault

/-- The thread has executed an instruction, which leaves it the registers `r`; nothing else in the device has changed. -/
def Executed (s u : State) (n : Fin 32) (t : Fin 4) (r : Regs) : Prop :=
  ThreadNow s u n t r ∧ OnlyThread s u n t ∧ u = { s with cores := u.cores }

/-- Instruction `i` of the thread writes `v` to the general register `rd`, G0 discarding it (10 R221), and goes on to the
next word; nothing else changes. -/
def Writes (i : Instr) (s : State) (n : Fin 32) (t : Fin 4) (r : Regs) (rd : Nat) (v : Dword) : Prop :=
  Runs i s fun u => Executed s u n t ((r.put rd v).at_ (r.pc + 4))

/-- The thread has faulted: the companions of CORE_SEQ_FAULT_t hold kind, PC and address (10 R240 to R242). -/
def Faulted (u : State) (n : Fin 32) (t : Fin 4) (kind : Byte) (pc addr : Nat) : Prop :=
  (threadOf u n t).state = .faulted ∧ (threadOf u n t).fault.valid = true ∧ (threadOf u n t).fault.kind = kind ∧
    (threadOf u n t).fault.pc = BitVec.ofNat 18 pc ∧ (threadOf u n t).fault.addr = BitVec.ofNat 64 addr

/-! ### Coprocessor operations (10 R229 to R238) -/

/-- Operation `o` of core `n` has KIND `kind` and its turn (10 R230), and serves the scratchpad ranges `l` (09 R197). -/
abbrev OpGo (s : State) (n : Fin 32) (id kind : Nat) (o : CopOp) (l : List (Nat × Nat)) : Prop :=
  Awake s ∧ opReady s n id kind = some o ∧ rangesFault s n id l = none ∧ rangesHeld s n id l = false

/-- The scratchpads are as before but for the byte strings of `ws`, written from the SPAs given as core `n` sees them. -/
def Wrote (s u : State) (n : Fin 32) (ws : List (Nat × Bytes)) : Prop :=
  ∀ m : Fin 32, (coreOf u m).spad = (coreOf (putAll s n (spread ws)) m).spad

/-- Operation `o`, confirmed, has formed its results `ws` in the scratchpad, with a status and a DETAIL; its completion may
follow. -/
def OpDone (s u : State) (n : Fin 32) (o : CopOp) (ws : List (Nat × Bytes)) (status detail : Nat) : Prop :=
  Wrote s u n ws ∧ opOf u n o.id = some { o with
    phase := .ready, status := BitVec.ofNat 16 status, detail := BitVec.ofNat 32 detail }

/-- Operation `o`, not confirmed, has staged its results: the scratchpad is as it was (10 R237). -/
def OpStaged (s u : State) (n : Fin 32) (o : CopOp) (ws : List (Nat × Bytes)) (status detail : Nat) : Prop :=
  (∀ m : Fin 32, (coreOf u m).spad = (coreOf s m).spad) ∧ opOf u n o.id = some { o with
    phase := .ready, staging := spread ws, status := BitVec.ofNat 16 status, detail := BitVec.ofNat 32 detail }

/-- Operation `o`, not confirmed, has more results than its staging buffer holds: it has begun and waits (10 R237). -/
def OpPaused (s u : State) (n : Fin 32) (o : CopOp) : Prop :=
  (∀ m : Fin 32, (coreOf u m).spad = (coreOf s m).spad) ∧ opOf u n o.id = some { o with phase := .running }

/-- How command `i` of vector operation `o` ends: confirmed, with its results `ws`, status and DETAIL; before, with its results
staged, or waiting with more than 64 KiB of them (10 R237; 11 R263). -/
def VecEnds (i : Instr) (s : State) (n : Fin 32) (o : CopOp) (kind : Nat) (ws : List (Nat × Bytes)) (status detail : Nat) :
    Prop :=
  (o.depth = 0 → OpGo s n o.id kind o (vecReads o.desc ++ vecWrites o.desc) →
    Runs i s fun u => OpDone s u n o ws status detail) ∧
  (o.depth ≠ 0 → OpGo s n o.id kind o (vecReads o.desc) →
    ((spread ws).length ≤ 65536 → Runs i s fun u => OpStaged s u n o ws status detail) ∧
    (65536 < (spread ws).length → Runs i s fun u => OpPaused s u n o))

/-- MM_RUN `o` has its turn, with or without a swap of the tiles: no earlier run is paused, its OFMT fits N of the tile it
meets (11 R255, R256), and its output's banks are not held. -/
abbrev RunGo (s : State) (n : Fin 32) (o : CopOp) (swap : Bool) : Prop :=
  OpGo s n o.id 0x0002 o (mmReads s n o.desc) ∧ runBusy s n o.id = false ∧ mmSwaps o = swap ∧
    groupsFit ((coreOf s n).active.n, (coreOf s n).shadow.n) o.desc = true ∧
    rangesHeld s n o.id (mmRunWrites s n o.desc (if swap then (coreOf s n).shadow.n else (coreOf s n).active.n)) = false

/-- The output of a vector operation: its FP32 results in OFMT from D_SPA (11 R263). -/
def vecOutput (o : CopOp) (cs : List Nat) : List (Nat × Bytes) :=
  [(fieldAt o.desc 44 4, pack (fieldAt o.desc 53 1) ((listIdx cs).map fun x => vecOut o.desc (fieldAt o.desc 53 1) x.1 x.2))]

/-- No engine holds an update record whose adds are in flight. -/
abbrev NoUpdates (s : State) : Prop := ∀ e : Fin 8, (s.te.engines[e]).inflight = []

/-! ### Invariants of every step -/

/-- The incarnation number, running and recorded, is not 0 (14 R348); COH_MODE is 0, 1 or 2, with a window of 1 to 256 units in mode
2 only (06 R126, R127); a pending life-cycle transition goes to the next state (17 R403). -/
abbrev Inv (s : State) : Prop :=
  s.fab.inc ≠ 0 ∧ s.sec.incRec ≠ 0 ∧ s.hl.cohMode.toNat ≤ 2 ∧
    (s.hl.cohMode = 2 → 1 ≤ s.hl.winUnits.toNat ∧ s.hl.winUnits.toNat ≤ 256) ∧
    (s.hl.cohMode ≠ 2 → s.hl.winUnits = 0) ∧
    (s.sec.lcPending = true → s.sec.lcTarget.toNat = s.sec.lifecycle.toNat + 1)

/-- Every memory is in its canonical form, and the accesses in flight have different numbers. -/
abbrev MemoriesOk (s : State) : Prop :=
  Memory.wf s.tw.cells = true ∧
    (∀ n : Fin 32, Memory.wf (s.cores[n]).spad = true ∧ Memory.wf (s.cores[n]).istore = true) ∧
    (∀ c : Fin 17, Memory.wf (chan s c).req = true ∧ Memory.wf (chan s c).resp = true) ∧ AccDistinct s

end Sys2Proof.Machine
end

