-- ==== Sys2Proof/Frame.lean ====
section
/-! DEFINITION. Frame.lean: for each kind of state, the commands that may change it; and the channel of an opcode that
touches no other channel. -/

namespace Sys2Proof

/-! ### What a command may change: every command not named leaves that state as it was. A 64-bit BAR0 write over
DBG_COLD_REQ (offset 0xC0008) can be a cold reset, which changes all of it -/

/-- The commands that may change the timebase: DT, its lock, sources, snapshots and outputs (02). -/
def Instr.changesTime : Instr → Bool
  | .tbSnapLatch _ _ | .gnssQualify | .gnssDisqualify | .ppsInEdge _ _ _ | .ref10mLoss | .exchangeIntervalMissed
    | .sourceTakeover | .lock24hSet | .leapSecond | .timesyncExchangeStart _ | .sync _ | .delayResp _ | .ppsOutRise
    | .ppsOutFall | .opTimeConfig _ | .opTimeSet _ | .timeSetTimeout | .measurementEpoch _ _ | .opGnssAssist _ _
    | .opMbxReset _ | .completionTimeout _ | .hostReadCompletion _ _ | .atsTranslationCompletion _ _ | .nakFlit _ _ _
    | .ratlineLinkLoss _ _ | .opLinkDown _ | .flr | .perstNAssert | .coldReset _ | .dbgColdReqWrite _ | .opChipReset _
    | .opDomainPower _ _ | .railUndervoltage _ _ | .ppsInMissing | .tbSlewingClear _ | .maxFirmwareTimeExpiry _
    | .refPresenceDecided _ | .calLoopbacksDone _ | .frequencyGateEnd _ _ _ => true
  | .bar0WritePlain off wide _ => wide && off == 0xC0008
  | _ => false

/-- The commands that may change calibration items and runs (03). -/
def Instr.changesCal : Instr → Bool
  | .gnssQualify | .gnssDisqualify | .ppsInEdge _ _ _ | .ref10mLoss | .exchangeIntervalMissed | .sync _ | .delayResp _
    | .opTimeConfig _ | .opTimeSet _ | .refPresenceDecided _ | .calLoopbacksDone _ | .frequencyGateStart
    | .frequencyGateEnd _ _ _ | .opCalRun _ _ | .opCalRead _ | .opMbxReset _ | .completionTimeout _
    | .hostReadCompletion _ _ | .atsTranslationCompletion _ _ | .nakFlit _ _ _ | .ratlineLinkLoss _ _ | .opLinkDown _ | .flr
    | .perstNAssert | .coldReset _ | .dbgColdReqWrite _ | .opChipReset _ | .railUndervoltage _ _ | .ppsInMissing
    | .calSlewingClear | .maxFirmwareTimeExpiry _ | .timesyncExchangeStart _ => true
  | .bar0WritePlain off wide _ => wide && off == 0xC0008
  | _ => false

/-- The commands that may change the GNSS baseband (04). -/
def Instr.changesGnss : Instr → Bool
  | .calLoopbacksDone _ | .samplePortFault _ _ _ | .samplePortFaultClear _ | .sampleTimeTag _ | .search _ _ | .verify _ _
    | .pullInLock _ | .pullInTimeout _ | .trackLoss _ | .searchListReturn _ | .coherentIntervalEnd _ _ _
    | .syncEventVerified _ _ _ _ _ | .cn0Expire _ | .measurementEpoch _ _ | .surveyComplete | .holdResidualCheck
    | .opGnssConfig _ | .opGnssSurvey _ | .opGnssPosition _ | .opGnssStream _ | .opGnssAssist _ _ | .coldReset _
    | .dbgColdReqWrite _ | .opDomainPower _ _ | .railUndervoltage _ _ => true
  | .bar0WritePlain off wide _ => wide && off == 0xC0008
  | _ => false

/-- The commands that may change boot, life cycle, keys, flash and fuses (17). -/
def Instr.changesSecurity : Instr → Bool
  | .refPresenceDecided _ | .calLoopbacksDone _ | .frequencyGateEnd _ _ _ | .opCalRun _ _ | .stageEnd _ | .warmReset
    | .coldReset _ | .dbgColdReqWrite _ | .boot _ | .firmwareStart | .bootReady | .opFwUpdateData _ | .opFwUpdateCommit _
    | .opLifecycleAdvance _ | .opLifecycleStatus _ | .tamper _ | .railUndervoltage _ _ | .jtagInstruction _
    | .towerTrainingDone _ _ | .tamperNRelease => true
  | .bar0WritePlain off wide _ => wide && off == 0xC0008
  | _ => false

/-- The commands that may change heartbeat, dump and reset counters (15). -/
def Instr.changesHealth : Instr → Bool
  | .flr | .perstNAssert | .warmReset | .coldReset _ | .dbgColdReqWrite _ | .opChipReset _ | .opHeartbeatConfig _
    | .heartbeat _ | .capture | .captureDone | .firmwareStart | .opFwUpdateCommit _ | .railUndervoltage _ _ => true
  | .bar0WritePlain off wide _ => wide && (off == 0xC0000 || off == 0xC0008)
  | _ => false

/-- The commands that may change limits, levels and domains (16). -/
def Instr.changesPower : Instr → Bool
  | .towerTemperatureChange _ _ | .warmReset | .coldReset _ | .dbgColdReqWrite _ | .opPowerLimit _ | .opDomainPower _ _
    | .opBoost _ | .hotspotTemperatureChange _ _ | .powerSample _ | .pwrCapNChange _ | .overcurrent _ | .reefLevelStep _
    | .railUndervoltage _ _ => true
  | .bar0WritePlain off wide _ => wide && off == 0xC0008
  | _ => false

/-- The commands that may change the bridle bits (09 R212). -/
def Instr.changesBridles : Instr → Bool
  | .opCoreBridle _ | .opCoreUnbridle _ | .coldReset _ | .dbgColdReqWrite _ | .railUndervoltage _ _ => true
  | .bar0WritePlain off wide _ => wide && off == 0xC0008
  | _ => false

/-- The commands that may change the bytes of tower memory: they store there, or lose a line to an uncorrectable error
(08; log 5). -/
def Instr.storesTower : Instr → Bool
  | .bar4Read _ _ _ | .bar4Write _ _ _ _ | .cxlMemRead _ _ | .cxlMemWrite _ _ _ _ | .patrolScrub _ _ | .towerLineAccess _ _
    | .opFill _ _ | .coreFence _ _ | .opCoreFence _ | .descriptorRead _ _ | .stageEnd _ | .completionRecordPost _ _
    | .coldReset _ | .dbgColdReqWrite _ | .railUndervoltage _ _ | .deepPortResponse _ _ _ => true
  | .bar0WritePlain off wide _ => wide && off == 0xC0008
  | _ => false

/-- The commands that may change the layout of the memory tiers (08). -/
def Instr.changesLayout : Instr → Bool
  | .deepPortLinkDown _ | .opRowcacheConfig _ | .opDeepPortConfig _ _ | .opPageRetire _ | .coldReset _ | .dbgColdReqWrite _
    | .opDomainPower _ _ | .railUndervoltage _ _ | .deepPortLinkReturn _ | .towerTrainingDone _ _ => true
  | .bar0WritePlain off wide _ => wide && off == 0xC0008
  | _ => false

/-- The commands that may change contexts and mappings (07). -/
def Instr.changesMaps : Instr → Bool
  | .opCtxCreate _ | .opCtxDestroy _ | .opMap _ | .opUnmap _ | .migratePage _ | .coldReset _ | .dbgColdReqWrite _
    | .railUndervoltage _ _ | .maxFirmwareTimeExpiry _ => true
  | .bar0WritePlain off wide _ => wide && off == 0xC0008
  | _ => false

/-- The commands that may change cores and their banks (09 to 11). -/
def Instr.changesCores : Instr → Bool
  | .prefetchDone _ | .migratePage _ | .handoverComplete _ _ | .reclaimComplete _ _ | .coreFence _ _ | .opCoreFence _
    | .opCoreBridle _ | .opCoreUnbridle _ | .seqAdd _ _ | .seqSub _ _ | .seqAnd _ _ | .seqOr _ _ | .seqXor _ _ | .seqSll _ _
    | .seqSrl _ _ | .seqSra _ _ | .seqSlt _ _ | .seqSltu _ _ | .seqMin _ _ | .seqMax _ _ | .seqMinu _ _ | .seqMaxu _ _
    | .seqAddi _ _ | .seqAndi _ _ | .seqOri _ _ | .seqXori _ _ | .seqSlli _ _ | .seqSrli _ _ | .seqSrai _ _ | .seqMul _ _
    | .seqMulu _ _ | .productLand _ _ | .seqMfpl _ _ | .seqMfph _ _ | .seqMflk _ _ | .seqMtlk _ _ | .seqJr _ _
    | .seqCallr _ _ | .seqRet _ _ | .seqRdtime _ _ | .seqSrd _ _ | .seqCdrain _ _ | .seqSpb _ _ | .seqHalt _ _ | .seqBrk _ _
    | .seqLui _ _ | .seqSig _ _ | .seqSset _ _ | .seqWarm _ _ | .seqWblk _ _ | .seqWait _ _ | .syncWaitTimeout _ _ _
    | .seqLd _ _ | .seqLw _ _ | .seqLbu _ _ | .seqSt _ _ | .seqSw _ _ | .seqSb _ _ | .seqBeq _ _ | .seqBne _ _ | .seqBlt _ _
    | .seqBge _ _ | .seqBltu _ _ | .seqBgeu _ _ | .seqJ _ _ | .seqCall _ _ | .seqCrr _ _ | .seqCrw _ _ | .seqCop _ _
    | .branchResolve _ _ | .squashedOperationBoundary _ _ | .mmLoad _ _ | .mmRun _ _ _ | .vecAdd _ _ | .vecSub _ _
    | .vecMul _ _ | .vecFma _ _ | .vecMin _ _ | .vecMax _ _ | .vecDiv _ _ | .vecSqrt _ _ | .vecRsqrt _ _ | .vecExp _ _
    | .vecLog _ _ | .vecTanh _ _ | .vecSigmoid _ _ | .vecGelu _ _ | .vecRelu _ _ | .vecRsum _ _ | .vecRmax _ _
    | .vecConvert _ _ | .vecQuant _ _ | .vecRequant _ _ | .vecMxquant _ _ | .vecDequant _ _ | .dmaCopy _ _
    | .copOperationComplete _ _ | .lookup _ _ | .lookupRowReturn _ _ _ | .lookupComplete _ _ | .teUpdate _ _
    | .updateRecordArrival _ | .updateRingRecord _ | .stageDispatch | .stageEnd _ | .opPlanUnload _ | .ratlineSignal _
    | .ack _ | .readData _ | .pooled _ | .refused _ | .remoteTimeoutFire _ | .flr | .perstNAssert | .warmReset
    | .coldReset _ | .dbgColdReqWrite _ | .opChipReset _ | .opDomainPower _ _ | .railUndervoltage _ _
    | .towerTrainingDone _ _ => true
  | .bar0WritePlain off wide _ => wide && off == 0xC0008
  | _ => false

/-- The commands that may change table descriptors and statistics (12). -/
def Instr.changesTables : Instr → Bool
  | .copOperationComplete _ _ | .lookupAccept _ | .teUpdate _ _ | .updateRecordArrival _ | .updateRingRecord _
    | .epochSwitch _ | .prevBusyClear _ | .opTableCreate _ | .opTableDestroy _ | .opTableEpochAt _ | .opTableStats _
    | .ratlineAddUpdateForm _ | .warmReset | .coldReset _ | .dbgColdReqWrite _ | .railUndervoltage _ _ | .ack _
    | .readData _ | .pooled _ | .refused _ | .remoteTimeoutFire _ => true
  | .bar0WritePlain off wide _ => wide && off == 0xC0008
  | _ => false

/-- The commands that may change update streams (12 R286). -/
def Instr.changesStreams : Instr → Bool
  | .copOperationComplete _ _ | .teUpdate _ _ | .updateRecordArrival _ | .rqUpdTailWrite _ _ | .updateRingRecord _
    | .opUpdateStreamOpen _ | .opUpdateStreamClose _ | .ack _ | .readData _ | .pooled _ | .refused _ | .remoteTimeoutFire _
    | .coldReset _ | .dbgColdReqWrite _ | .railUndervoltage _ _ => true
  | .bar0WritePlain off wide _ => wide && (off == 0xC0008 || (0x48000 ≤ off && off < 0x4A000))
  | _ => false

/-- The commands that may change stage plans (13 R303). -/
def Instr.changesPlans : Instr → Bool
  | .opPlanLoad _ | .opPlanUnload _ | .coldReset _ | .dbgColdReqWrite _ | .railUndervoltage _ _ => true
  | .bar0WritePlain off wide _ => wide && off == 0xC0008
  | _ => false

/-- The commands that may change request queues (13 R297). -/
def Instr.changesQueues : Instr → Bool
  | .prefetchDone _ | .migratePage _ | .coreFence _ _ | .opCoreFence _ | .seqSig _ _ | .seqSset _ _
    | .copOperationComplete _ _ | .lookupComplete _ _ | .rqSqTailWrite _ _ | .rqCqHeadWrite _ _ | .rqQStatusClear _ _
    | .descriptorRead _ _ | .stageEnd _ | .completionRecordPost _ _ | .opQueueCreate _ | .opQueueDestroy _
    | .ratlineSignal _ | .ack _ | .readData _ | .pooled _ | .refused _ | .remoteTimeoutFire _ | .warmReset | .coldReset _
    | .dbgColdReqWrite _ | .railUndervoltage _ _ | .lookupDeadline _ _ => true
  | .bar0WritePlain off wide _ => wide && (off == 0xC0008 || (0x40000 ≤ off && off < 0x44000))
  | _ => false

/-- The commands that may change sync objects (13 R318). -/
def Instr.changesSync : Instr → Bool
  | .prefetchDone _ | .migratePage _ | .seqSig _ _ | .seqSset _ _ | .copOperationComplete _ _ | .lookupComplete _ _
    | .opSyncAlloc _ | .opSyncFree _ | .ratlineSignal _ | .warmReset | .coldReset _ | .dbgColdReqWrite _
    | .railUndervoltage _ _ => true
  | .bar0WritePlain off wide _ => wide && off == 0xC0008
  | _ => false

/-- The commands that may change chip ID, incarnation, routes and remote timeouts (14). -/
def Instr.changesRoutes : Instr → Bool
  | .opChipIdSet _ | .opRouteSet _ | .opRemoteTimeout _ | .warmReset | .coldReset _ | .dbgColdReqWrite _
    | .railUndervoltage _ _ | .towerTrainingDone _ _ => true
  | .bar0WritePlain off wide _ => wide && off == 0xC0008
  | _ => false

/-- The commands that may change the Ratline links (14). -/
def Instr.changesLinks : Instr → Bool
  | .sync _ | .delayReq _ | .delayResp _ | .opMbxReset _ | .completionTimeout _ | .hostReadCompletion _ _
    | .atsTranslationCompletion _ _ | .dataFlit _ _ _ | .linkCtrlFlit _ _ _ | .nakFlit _ _ _ | .idleFlit _ _ _
    | .timesyncFlit _ _ _ | .packetForward _ | .ratlineLinkLoss _ _ | .ratlineLinkRetrainDone _ _ | .opLinkUp _
    | .opLinkDown _ | .flr | .perstNAssert | .warmReset | .coldReset _ | .dbgColdReqWrite _ | .opChipReset _
    | .railUndervoltage _ _ | .calSlewingClear | .linkTrainingEnd _ _ | .maxFirmwareTimeExpiry _ | .timesyncExchangeStart _
    | .calLoopbacksDone _ | .frequencyGateEnd _ _ _ | .opCalRun _ _ | .opCalRead _ => true
  | .bar0WritePlain off wide _ => wide && off == 0xC0008
  | _ => false

/-- The commands that may change PCIe configuration, coherence mode and interrupt enables (06). -/
def Instr.changesHostConfig : Instr → Bool
  | .bar0WritePlain _ _ _ | .hostLinkTrain _ _ | .bar4Resize _ | .msixUnmask _ | .intEnableWrite _ | .opCoherenceMode _
    | .flr | .perstNAssert | .warmReset | .coldReset _ | .dbgColdReqWrite _ | .railUndervoltage _ _ | .hostLinkDown => true
  | _ => false

/-- The commands that may change the event ring and the update session (05 R110, 17 R400). -/
def Instr.changesRings : Instr → Bool
  | .opEventRing _ | .fwUpdateSessionTimeout | .warmReset | .coldReset _ | .dbgColdReqWrite _ | .opFwUpdateBegin _
    | .opFwUpdateData _ | .opFwUpdateCommit _ | .railUndervoltage _ _ => true
  | .bar0WritePlain off wide _ => wide && off == 0xC0008
  | _ => false

/-- The channel of an opcode that touches no other channel: all but OP_CAL_RUN, OP_MBX_GRANT, OP_MBX_RESET, OP_LINK_DOWN
and OP_CHIP_RESET. -/
def Instr.ownChan : Instr → Option Chan
  | .opTimeConfig c | .opTimeSet c | .opTimeStatus c | .opCalRead c | .opGnssConfig c | .opGnssSurvey c
    | .opGnssPosition c | .opGnssStream c | .opNop c | .opGetInfo c | .opEventRing c | .opErrorLog c
    | .opHealthSummary c | .opCoherenceMode c | .opCtxCreate c | .opCtxDestroy c | .opMap c | .opUnmap c
    | .opTlbInval c | .opPrefetch c | .opMigrate c | .opAdvise c | .opRowcacheConfig c | .opPageRetire c
    | .opCoreFence c | .opCoreBridle c | .opCoreUnbridle c | .opCoreStatus c | .opTableCreate c | .opTableDestroy c
    | .opTableEpochAt c | .opUpdateStreamOpen c | .opUpdateStreamClose c | .opTableStats c | .opPlanLoad c
    | .opPlanUnload c | .opQueueCreate c | .opQueueDestroy c | .opReplayWindow c | .opReqCancel c | .opSyncAlloc c
    | .opSyncFree c | .opChipIdSet c | .opLinkUp c | .opRouteSet c | .opRemoteTimeout c | .opFabricStatus c
    | .opDump c | .opHeartbeatConfig c | .opPowerLimit c | .opReefStatus c | .opBoost c | .opThermalRead c
    | .opFwUpdateBegin c | .opFwUpdateData c | .opFwUpdateCommit c | .opLifecycleAdvance c | .opLifecycleStatus c
    | .opAttest c => some c
  | .opGnssAssist c _ | .opDeepPortConfig c _ | .opFill c _ | .opDomainPower c _ => some c
  | _ => none

end Sys2Proof
end

