-- ==== Sys2Proof/Certificates/Slice0/Obligations.lean ====
section
/-! DEFINITION. Obligations.lean: the statements. Each says that commands of one chapter execute from every state that
meets its hypotheses, and what the state after them holds; then frames, privilege and ordering rules, and invariants. -/

open Sys2Proof Sys2Proof.Machine

/-! ### The queue -/

/-- A step takes the command at the front of the queue and executes it with the queue's rest; on an empty queue the
timing clock runs (the model's choice, log 1). -/
def Obligations.StepRunsFrontCommand : Prop :=
  (∀ (c : Instr) (r : List Instr) (s : State), s.pending = c :: r → step s = exec c { s with pending := r }) ∧
  ∀ s : State, s.pending = [] → step s = .next (idle s)

/-! ### 02: device time -/

/-- GNSS_QUALIFY, GNSS_DISQUALIFY, PPS_IN_EDGE, REF10M_LOSS, PPS_IN_MISSING, EXCHANGE_INTERVAL_MISSED: the sources qualify
and disqualify by the times and counts of 02 R30. SOURCE_TAKEOVER, LOCK_24H_SET, LEAP_SECOND, TB_SLEWING_CLEAR: a source
qualified for 60 s takes over, 24 h of lock set LOCK_24H, a leap second moves TB_UTC_OFFSET, a phase error slewed to 100
ns or less clears SLEWING. -/
def Obligations.TimeSourcesAndLock : Prop :=
  (
    ∀ s : State, Awake s →
      (∀ x, s.tb.gnssQual = false → s.tb.solValidSince = some x → x + nsUp 10000000000 ≤ s.tb.up →
        Runs .gnssQualify s fun t => t.tb.gnssQual = true ∧ t.tb.gnssSince = some s.tb.up) ∧
      (∀ x, s.tb.gnssQual = true → s.tb.solInvalidSince = some x → x + nsUp 3000000000 ≤ s.tb.up →
        Runs .gnssDisqualify s fun t => t.tb.gnssQual = false) ∧
      (∀ (dev ppb : Int) (n : Nat), dev.natAbs ≤ 50 → ppb.natAbs ≤ 10000 → n ≤ 15000000 →
        Runs (.ppsInEdge dev ppb n) s fun t =>
          t.tb.ppsGood = s.tb.ppsGood + 1 ∧ t.tb.ppsAt = some s.tb.up ∧ (10 ≤ s.tb.ppsGood + 1 → t.tb.extQual = true)) ∧
      (∀ (dev ppb : Int) (n : Nat), 1000 < dev.natAbs →
        Runs (.ppsInEdge dev ppb n) s fun t => t.tb.extQual = false ∧ t.tb.ppsAt = some s.tb.up) ∧
      (Runs .ref10mLoss s fun t => t.tb.refOk = false ∧ t.tb.extQual = false ∧ t.tb.ppsGood = 0) ∧
      (∀ x, s.tb.extQual = true → s.tb.ppsAt = some x → x + nsUp 3000000000 ≤ s.tb.up →
        Runs .ppsInMissing s fun t => t.tb.extQual = false) ∧
      (s.tb.fabQual = true → s.tb.exch.isSome = true → 7 ≤ s.tb.exchMissed →
        s.tb.exchAt + s.tb.exchIv ≤ s.tb.up →
        Runs .exchangeIntervalMissed s fun t => t.tb.fabQual = false ∧ t.tb.exch = none)) ∧
  (
    ∀ s : State, Awake s →
      (∀ b, s.tb.valid = true → srcQual s.tb s.tb.source = true →
        pickSource s.tb (fun x => x == s.tb.source ||
          (srcQual s.tb x && sinceOpt s (srcSince s.tb x) (nsUp 60000000000))) = b →
        b ≠ s.tb.source → b ≠ .none →
        Runs .sourceTakeover s fun t => t.tb.source = b ∧ t.tb.holdover = false) ∧
      (∀ x, s.tb.lockSince = some x → x + nsUp 86400000000000 ≤ s.tb.up → s.tb.holdover = false →
        Runs .lock24hSet s fun t => t.tb.lock24h = true) ∧
      (s.tb.utc.pending = true → s.tb.utc.leapAt ≤ dtNs s →
        Runs .leapSecond s fun t =>
          t.tb.utc.pending = false ∧ t.tb.utc.nextDelta = 0 ∧
            (s.tb.utc.nextDelta = 1 → t.tb.utc.seconds = s.tb.utc.seconds + 1) ∧
            (s.tb.utc.nextDelta = 3 → t.tb.utc.seconds = s.tb.utc.seconds - 1)) ∧
      (∀ e : Word, tbSlewing s.tb = true → e.toInt.natAbs ≤ 100 → srcQual s.tb s.tb.source = true →
        (phaseMag s.tb - 100) * 1000000 * 2 ^ 32 ≤ s.tb.cfg.slewPpm.toNat * (s.tb.up - s.tb.errAt) →
        Runs (.tbSlewingClear e) s fun t => t.tb.phaseErr = e ∧ tbSlewing t.tb = false))

/-- TB_SNAP_LATCH, PPS_OUT_RISE, PPS_OUT_FALL (02 R25, R26, R43). TIMESYNC_EXCHANGE_START, SYNC, DELAY_REQ, DELAY_RESP: an
exchange is numbered, the upstream sends SYNC with t1 (how it learns of the start is the model's choice, log 55), SYNC
records t1 and t2 and is answered at t3, DELAY_REQ is answered, and DELAY_RESP completes the exchange with the offset of 02
R41. -/
def Obligations.SnapshotsAndTimesync : Prop :=
  (
    ∀ s : State, Awake s →
      (∀ (n : Fin 64) (wide : Bool), hostDecode s = true →
        Runs (.tbSnapLatch n wide) s fun t =>
          (t.tb.snaps[n]).w0 = (dtNs s).extractLsb' 0 32 ∧ (t.tb.snaps[n]).w1 = (dtNs s).extractLsb' 32 32 ∧
            (t.tb.snaps[n]).w2.extractLsb' 0 16 = dtFrac s ∧ (t.tb.snaps[n]).w2.getLsbD 16 = s.tb.valid ∧
            t.out = s.out ++ [.readData (leBytes (if wide then 8 else 4) (dtNs s).toNat) false] ∧
            ∀ m : Fin 64, m ≠ n → t.tb.snaps[m] = s.tb.snaps[m]) ∧
      (∀ (n : Fin 64) (wide : Bool), hostDecode s = false →
        Runs (.tbSnapLatch n wide) s fun t => t.tb = s.tb ∧ t.out = s.out ++ [.unsupported]) ∧
      (s.tb.valid = true → s.tb.ppsOut = false → ((dtNs s).toNat + s.tb.cfg.ppsAdv.toInt) % 1000000000 = 0 →
        (s.tb.cfg.ppsGate = true → tbTraceable s.tb = true) →
        Runs .ppsOutRise s fun t =>
          t.tb.ppsOut = true ∧ t.tb.ppsFall = dtNs s + BitVec.ofNat 64 (ppsWidthNs s.tb.cfg.ppsWidth.toNat)) ∧
      (s.tb.ppsOut = true → s.tb.ppsFall ≤ dtNs s → Runs .ppsOutFall s fun t => t.tb.ppsOut = false)) ∧
  (
    ∀ s : State, Awake s →
      (upOk s = true → (s.tb.exchAt = 0 ∨ s.tb.exchAt + exchLen s ≤ s.tb.up) →
        Runs (.timesyncExchangeStart none) s fun t =>
          t.tb.exchAt = s.tb.up ∧ t.tb.exch = some ⟨s.tb.exchSeq + 1, 0, 0, 0, false⟩) ∧
      (∀ (l : Fin 24) (seq : Half), (linkOf s l).state = .up →
        Runs (.timesyncExchangeStart (some (l, seq))) s fun t => ∃ b, t.out = s.out ++ [.flit l b] ∧
          fieldAt b 0 1 = 4 ∧ fieldAt b 14 1 = 1 ∧ fieldAt b 18 2 = seq.toNat ∧
            fieldAt b 30 8 = (dt80 s).toNat / 65536 ∧ fieldAt b 38 2 = (dt80 s).toNat % 65536) ∧
      (∀ (l : Fin 24) (f : Bytes) (t2 : Nat), (linkOf s l).frame = some (f, t2) → fieldAt f 0 1 = 1 → l.val = upLink s →
        upOk s = true → (∀ x ∈ s.tb.exchOld, x.1.seq ≠ BitVec.ofNat 16 (fieldAt f 4 2)) →
        Runs (.sync l) s fun t =>
          (linkOf t l).frame = none ∧ (∃ b, .flit l b ∈ t.out.drop s.out.length) ∧
            t.tb.exch = some ⟨BitVec.ofNat 16 (fieldAt f 4 2), fieldAt f 16 8 * 65536 + fieldAt f 24 2, t2,
              (dt80 t).toNat, true⟩) ∧
      (∀ (l : Fin 24) (f : Bytes) (t2 : Nat), (linkOf s l).frame = some (f, t2) → fieldAt f 0 1 = 1 → l.val = upLink s →
        upOk s = true → ∀ x ∈ s.tb.exchOld, x.1.seq = BitVec.ofNat 16 (fieldAt f 4 2) → s.tb.valid = true →
        Runs (.sync l) s fun t =>
          (linkOf t l).frame = none ∧ t.tb.exch = s.tb.exch ∧
            (⟨x.1.seq, fieldAt f 16 8 * 65536 + fieldAt f 24 2, t2, (dt80 t).toNat, true⟩, x.2) ∈ t.tb.exchOld) ∧
      (∀ (l : Fin 24) (f : Bytes) (t4 : Nat), (linkOf s l).frame = some (f, t4) → fieldAt f 0 1 = 2 →
        Runs (.delayReq l) s fun t => (linkOf t l).frame = none ∧ ∃ b, t.out = s.out ++ [.flit l b]) ∧
      (∀ (l : Fin 24) (f : Bytes) (x : Nat) (e : Exchange), (linkOf s l).frame = some (f, x) → fieldAt f 0 1 = 3 →
        s.tb.exch = some e → e.asked = true → fieldAt f 4 2 = e.seq.toNat → l.val = upLink s → upOk s = true →
        s.tb.valid = true →
        Runs (.delayResp l) s fun t =>
          t.tb.exch = none ∧ t.tb.exchMissed = 0 ∧
            t.tb.fabOff = ((((e.t2 : Int) - e.t1) - (((fieldAt f 16 8 * 65536 + fieldAt f 24 2 : Nat) : Int) - e.t3)
              - linkAsym s l) * (2 ^ 16 : Nat)) / 2) ∧
      (∀ (l : Fin 24) (f : Bytes) (x n : Nat) (e : Exchange), (linkOf s l).frame = some (f, x) → fieldAt f 0 1 = 3 →
        s.tb.exch = none → s.tb.exchOld = [(e, n)] → e.asked = true → fieldAt f 4 2 = e.seq.toNat → l.val = upLink s →
        upOk s = true → s.tb.valid = true →
        Runs (.delayResp l) s fun t =>
          t.tb.exchOld = [] ∧ t.tb.exchMissed = 0 ∧
            t.tb.fabOff = exchOffset e (fieldAt f 16 8 * 65536 + fieldAt f 24 2) (linkAsym s l)))

/-- OP_TIME_CONFIG, OP_TIME_SET, TIME_SET_TIMEOUT, OP_TIME_STATUS (02 R47, R48). REF_PRESENCE_DECIDED, CAL_LOOPBACKS_DONE,
FREQUENCY_GATE_START, FREQUENCY_GATE_END, CAL_SLEWING_CLEAR, OP_CAL_RUN, OP_CAL_READ: the steps of a calibration run (03
R50, R51, R57, R59, R62, R64, R66). -/
def Obligations.TimeOpcodesAndCalibration : Prop :=
  (
    ∀ (s : State) (c : Chan) (k : CmdHeld),
      (HasCmd s c 0x0101 k → k.f 0 1 = 1 → k.f 1 1 ≤ 63 → prioOk (k.f 1 1) = true → 1 ≤ k.f 2 1 → k.f 2 1 ≤ 200 →
        (k.f 3 1 ≤ 23 ∨ k.f 3 1 = 31) → 1 ≤ k.f 4 1 → k.f 4 1 ≤ 64 → k.f 5 1 ≤ 5 → k.f 6 1 ≤ 1 →
        Reserved k [7, 12, 13, 14, 15] →
        Runs (.opTimeConfig c) s fun t =>
          AnsweredLen t c k 0 16 ∧ t.tb.cfg.prio.toNat = k.f 1 1 ∧ t.tb.cfg.slewPpm.toNat = k.f 2 1 ∧
            t.tb.cfg.upstream.toNat = k.f 3 1 ∧ t.tb.cfg.exchRate.toNat = k.f 4 1 ∧ t.tb.cfg.ppsWidth.toNat = k.f 5 1 ∧
            t.tb.cfg.ppsAdv.toNat = k.f 8 2 ∧ t.tb.cfg.ppsInDly.toNat = k.f 10 2) ∧
      (HasCmd s c 0x0101 k → k.f 0 1 = 0 → k.f 1 1 ≤ 63 → Reserved k [7, 12, 13, 14, 15] →
        Runs (.opTimeConfig c) s fun t => AnsweredLen t c k 0 16 ∧ t.tb = s.tb) ∧
      (HasCmd s c 0x0102 k → k.f 0 8 ≤ 18446744073 → Reserved k [10, 11, 12, 13, 14, 15] → s.tb.valid = false →
        s.tb.timeSet = none → s.tb.extQual = false →
        Runs (.opTimeSet c) s fun t =>
          Answered t c k 0 (layout 16 [(0, 8, k.f 0 8 * 1000000000), (8, 1, 4)]) ∧ t.tb.valid = true ∧
            t.tb.source = .host ∧ dtNs t = BitVec.ofNat 64 (k.f 0 8 * 1000000000)) ∧
      (HasCmd s c 0x0102 k → k.f 0 8 ≤ 18446744073 → Reserved k [10, 11, 12, 13, 14, 15] → s.tb.valid = false →
        s.tb.timeSet = none → s.tb.extQual = true →
        Runs (.opTimeSet c) s fun t =>
          (∃ w, t.tb.timeSet = some w ∧ w.chan = c ∧ w.taiNs = BitVec.ofNat 64 (k.f 0 8 * 1000000000)) ∧
            (chan t c).busy = (chan s c).busy ∧ (chan t c).cmd = some { k with begun := true }) ∧
      (∀ w, Awake s → s.hlt.mpHung = false → s.tb.timeSet = some w → w.chan = c → w.limit ≤ s.tb.up → (chan s c).cmd = some k →
        Memory.wf (chan s c).resp = true →
        Runs .timeSetTimeout s fun t => Answered t c k 0x000B (zeros 16) ∧ t.tb.timeSet = none) ∧
      (HasCmd s c 0x0103 k →
        Runs (.opTimeStatus c) s fun t =>
          Answered t c k 0 (layout 40 [(0, 8, (dtNs s).toNat), (8, 2, (dtFrac s).toNat), (12, 4, tbStatus s.tb),
            (16, 4, tbConfig s.tb.cfg), (20, 4, tbUtc s.tb.utc), (24, 4, tbHoldEst s.tb), (28, 4, s.tb.phaseErr.toNat),
            (32, 4, calStatus s), (36, 2, s.tb.cfg.ppsAdv.toNat), (38, 2, s.tb.cfg.ppsInDly.toNat)]))) ∧
  (
    ∀ s : State, Awake s →
      (∀ d : Int, d.natAbs ≤ 100 → Runs (.refPresenceDecided d) s fun t => t.cal.refPresent = true) ∧
      (∀ (d : Int) (r : CalRun) (n : Fin 28), 100 < d.natAbs → s.cal.run = some r → r.chan = none →
        r.todo.getLsbD n.val = true → n.val ≠ 3 →
        Runs (.refPresenceDecided d) s fun t =>
          t.cal.refPresent = false ∧ (t.cal.items[n]).result = 3 ∧ (t.cal.items[n]).value = (s.cal.items[n]).factory) ∧
      (∀ (m : CalMeas) (r : CalRun), s.cal.run = some r → r.chan = none → r.gate = .idle → s.sec.loopDone = false →
        s.sec.fwStarted = true → s.cal.refPresent = true →
        Runs (.calLoopbacksDone m) s fun t =>
          t.sec.loopDone = true ∧ (s.sec.phase = 1 → t.sec.phase = 3) ∧
            t.gn.mode = (if s.gn.position.isSome then 2 else 1) ∧
            ∃ q, t.cal.run = some q ∧ q.gate = .waiting s.tb.up) ∧
      (∀ (r : CalRun) (x : Nat), s.cal.run = some r → r.gate = .waiting x → s.tb.ppsAt = some s.tb.up →
        s.tb.up < x + nsUp 1000000001 →
        Runs .frequencyGateStart s fun t => t.cal.run = some { r with gate := .running s.tb.up true 0 }) ∧
      (∀ (r : CalRun) (x : Nat), s.cal.run = some r → r.gate = .waiting x → s.tb.ppsAt ≠ some s.tb.up →
        x + nsUp 1000000000 ≤ s.tb.up →
        Runs .frequencyGateStart s fun t => t.cal.run = some { r with gate := .running s.tb.up false 0 }) ∧
      (∀ (r : CalRun) (osc tc : Word) (span x e : Nat) (p : Bool), s.cal.run = some r → r.gate = .running x p e →
        (p = true → e = 2) → (p = false → x + nsUp 2000000000 ≤ s.tb.up) →
        Runs (.frequencyGateEnd osc tc span) s fun t =>
          t.cal.ppsUsed = p ∧
            (r.todo.getLsbD 0 = true → calPasses 0 s.cal.items[0] osc r.ovr = true →
              (t.cal.items[0]).result = 1 ∧ (t.cal.items[0]).target = osc)) ∧
      (∀ n : Fin 28, calSlewing s = true → (List.range 28).all (calCanReach s) = true →
        Runs .calSlewingClear s fun t => (t.cal.items[n]).value = (s.cal.items[n]).target) ∧
      (∀ (c : Chan) (k : CmdHeld) (m : CalMeas), HasCmd s c 0x0104 k → k.f 0 4 ≠ 0 → k.f 0 4 < 2 ^ 28 → k.f 4 1 ≤ 1 →
        Reserved k [5, 6, 7] → s.cal.run = none →
        Runs (.opCalRun c m) s fun t =>
          (AnsweredLen t c k 0 16 ∧ t.cal.run = none ∧ t.cal.running = false) ∨
            (t.cal.running = true ∧ (∃ r, t.cal.run = some r ∧ r.chan = some c ∧ r.gate = .waiting s.tb.up) ∧
              (chan t c).cmd = some { k with begun := true })) ∧
      (∀ (c : Chan) (k : CmdHeld) (m : CalMeas), HasCmd s c 0x0104 k → k.f 0 4 = 8 → k.f 4 1 ≤ 1 → Reserved k [5, 6, 7] →
        s.cal.run = none → s.pwr.domains.toNat < 2 ^ 14 →
        thermPasses s.cal.thermRec m.therm (k.f 4 1 == 1) = true →
        Runs (.opCalRun c m) s fun t =>
          AnsweredLen t c k 0 16 ∧ t.cal.therm = m.therm ∧ (t.cal.items[3]).result = 1 ∧
            (t.cal.items[3]).target = thermTop m.therm) ∧
      (∀ (c : Chan) (k : CmdHeld) (n : Fin 28), HasCmd s c 0x0105 k → k.f 0 1 = n.val → Reserved k [1, 2, 3] →
        Runs (.opCalRead c) s fun t =>
          AnsweredLen t c k 0 40 ∧
            ((s.cal.items[n]).value = (s.cal.items[n]).target →
              Answered t c k 0 (layout 40 [(0, 4, calStatus s), (4, 4, calItemStat s.cal.items[n]),
                (8, 4, (s.cal.items[n]).count.toNat), (16, 8, (s.cal.items[n]).last.toNat),
                (24, 4, (s.cal.items[n]).value.toNat), (28, 4, (s.cal.items[n]).target.toNat),
                (32, 4, ((s.cal.items[n]).stored.getD 0x80000000).toNat), (36, 4, (s.cal.items[n]).factory.toNat)]))))

/-! ### 03: calibration -/

/-! ### 04: the GNSS baseband -/

/-- SAMPLE_PORT_FAULT, SAMPLE_PORT_FAULT_CLEAR, SAMPLE_TIME_TAG, SEARCH, VERIFY, SEARCH_LIST_RETURN: ports and the search
list (04 R69, R71, R73, R75, R78). -/
def Obligations.GnssPortsAndSearch : Prop :=
  ∀ s : State, Awake s →
    (∀ (p : Port) (d : Nat), domainOn s 1 = true →
      Runs (.samplePortFault p true d) s fun t => (gnPort t p).fault = true ∧ (gnPort t p).badAt = s.tb.up) ∧
    (∀ (p : Port) (d : Nat), domainOn s 1 = true → s.gn.cfg.fsHz ≠ 0 → 100 < d →
      Runs (.samplePortFault p false d) s fun t => (gnPort t p).fault = true ∧ (gnPort t p).badAt = s.tb.up) ∧
    (∀ p : Port, domainOn s 1 = true → (gnPort s p).fault = true → s.gn.cfg.fsHz ≠ 0 →
      (gnPort s p).badAt + nsUp 100000000 ≤ s.tb.up →
      Runs (.samplePortFaultClear p) s fun t => (gnPort t p).fault = false) ∧
    (∀ p : Port, domainOn s 1 = true → s.gn.cfg.fsHz ≠ 0 →
      Runs (.sampleTimeTag p) s fun t =>
        (gnPort t p).tags = (gnPort s p).tags + 1 ∧ (gnPort t p).tagDt = dt80 s ∧ (gnPort t p).prevDt = (gnPort s p).tagDt) ∧
    (∀ (sig sv : Byte) (bins : List BinSamples),
      (targetState s sig sv = none ∧ anyFirst s = false ∨ ∃ x b ph, targetState s sig sv = some (.first x b ph)) →
      sigUsable s sig.toNat = true → listed s sig sv = true →
      Runs (.search (256 * sig.toNat + sv.toNat) bins) s fun t => ∃ z : Bool,
        targetState t sig sv = some (match candidate s sig sv (searchWindow s sig sv).1 z bins with
          | some c => .verifying c.1 c.2
          | none => .excluded (s.tb.up + nsUp 10000000000))) ∧
    (∀ (sig sv : Byte) (bin : Int) (ph : Nat) (tests : List (List BinSamples)),
      targetState s sig sv = some (.verifying bin ph) → sigUsable s sig.toNat = true →
      (∀ z, reTests s.gn.cfg.m.toNat s.gn.cfg.n.toNat 0 0 (tests.map (reTest s sig sv bin ph z)) = some false) →
      Runs (.verify (256 * sig.toNat + sv.toNat) tests) s fun t =>
        targetState t sig sv = some (.excluded (s.tb.up + nsUp 10000000000))) ∧
    (∀ (sig sv : Byte) (bin : Int) (ph : Nat) (tests : List (List BinSamples)),
      targetState s sig sv = some (.verifying bin ph) → sigUsable s sig.toNat = true →
      (∀ z, reTests s.gn.cfg.m.toNat s.gn.cfg.n.toNat 0 0 (tests.map (reTest s sig sv bin ph z)) = some true) →
      ((∃ n : Fin 128, (gnChan s n).state = .free) →
        Runs (.verify (256 * sig.toNat + sv.toNat) tests) s fun t =>
          targetState t sig sv = some .onChannel ∧ ∃ n : Fin 128, (gnChan s n).state = .free ∧
            (gnChan t n).state = .pullIn ∧ (gnChan t n).sig = sig ∧ (gnChan t n).sv = sv ∧
              (gnChan t n).since = s.tb.up ∧ (gnChan t n).doppler = BitVec.ofInt 32 (bin * 128000)) ∧
      (∀ (n : Nat) (v : GnChan), (∀ m : Fin 128, (gnChan s m).state ≠ .free) →
        lowestChan s ((listIdx s.gn.chans.toList).filter fun x => x.2.state == .track) = some (n, v) →
        Runs (.verify (256 * sig.toNat + sv.toNat) tests) s fun t =>
          if evictKey (elevOf s v.sig v.sv) + 2 ≤ evictKey (elevOf s sig sv) then
            targetState t sig sv = some .onChannel ∧ t.gn.evictCnt = s.gn.evictCnt + 1
          else
            targetState t sig sv = some (.excluded (s.tb.up + nsUp 60000000000)) ∧ t.gn.evictCnt = s.gn.evictCnt)) ∧
    (∀ (sig sv : Byte) (x : Nat),
      (targetState s sig sv = some (.excluded x) ∨ ∃ b ph, targetState s sig sv = some (.first x b ph)) →
      x ≤ s.tb.up → Runs (.searchListReturn (256 * sig.toNat + sv.toNat)) s fun t => targetState t sig sv = none)

/-- PULL_IN_LOCK, PULL_IN_TIMEOUT, TRACK_LOSS, COHERENT_INTERVAL_END, SYNC_EVENT_VERIFIED, CN0_EXPIRE: a tracking channel
(04 R75 to R77, R81, R82). MEASUREMENT_EPOCH, SURVEY_COMPLETE, HOLD_RESIDUAL_CHECK: epochs, and Survey and Hold (04 R83,
R86, R87). -/
def Obligations.GnssChannelsAndEpochs : Prop :=
  (
    ∀ (s : State) (n : Fin 128), Awake s →
      ((gnChan s n).state = .pullIn → (gnChan s n).codeBy = true → (gnChan s n).carrierBy = true →
        Runs (.pullInLock n) s fun t => gnChan t n = { gnChan s n with state := .track }) ∧
      ((gnChan s n).state = .pullIn →
        ((gnChan s n).codeBy = false ∧ (gnChan s n).since + nsUp 200000000 ≤ s.tb.up ∨
          (gnChan s n).carrierBy = false ∧ (gnChan s n).since + nsUp 1000000000 ≤ s.tb.up) →
        Runs (.pullInTimeout n) s fun t =>
          (gnChan t n).state = .free ∧ ∃ b ph,
            targetState t (gnChan s n).sig (gnChan s n).sv = some (.first (s.tb.up + nsUp 5000000000) b ph)) ∧
      (∀ x, (gnChan s n).state = .track →
        ((gnChan s n).lowSince = some x ∧ x + nsUp 1000000000 ≤ s.tb.up ∨
          (gnChan s n).unlockedSince = some x ∧ x + nsUp 2000000000 ≤ s.tb.up) →
        Runs (.trackLoss n) s fun t =>
          (gnChan t n).state = .free ∧
            targetState t (gnChan s n).sig (gnChan s n).sv = some (.first (s.tb.up + nsUp 5000000000)
              (doppBin (gnChan s n).doppler.toInt)
              (phaseSample (signalOf (gnChan s n).sig.toNat) (gnChan s n).codePh))) ∧
      (∀ (acc : List Int) (b : Bool), (gnChan s n).state ≠ .free → acc.length = 12 →
        (gnChan s n).cohAt + msUp (cohMs (gnChan s n).sig.toNat (gnChan s n).sv.toNat (gnChan s n).bitSync) ≤ s.tb.up →
        Runs (.coherentIntervalEnd n acc b) s fun t =>
          (gnChan t n).store = (acc.map (satInt 32)).map (fun v => roundShift v (storeShift (acc.map (satInt 32)))) ∧
            (gnChan t n).scale = BitVec.ofNat 8 (storeShift (acc.map (satInt 32))) ∧
            (gnChan t n).codeLock = decide (2200 ≤ (gnChan t n).cn0Now) ∧
            ((∀ p ∈ (gnChan t n).hist, p.ip ≠ 0 ∨ p.qp ≠ 0) → (gnChan t n).carrierLock =
              pliLocked 0 ((gnChan t n).hist.filter fun x => s.tb.up < x.at_ + nsUp 100000000)) ∧
            (gnChan t n).state = (gnChan s n).state ∧ (gnChan t n).cohAt = s.tb.up ∧
            (gnChan t n).bitSync = ((gnChan s n).bitSync || b)) ∧
      (∀ (word : Nat) (crc tow : Bool) (nav : List NavData), (gnChan s n).state = .track →
        syncOk (gnChan s n).sig.toNat word crc = true →
        Runs (.syncEventVerified n word crc tow nav) s fun t =>
          (gnChan t n).cn0Valid = true ∧ (gnChan t n).lastSync = s.tb.up ∧
            (gnChan t n).cn0.toNat = min 65535 (gnChan s n).cn0Now ∧
            (gnChan t n).prValid = ((gnChan s n).prValid || tow)) ∧
      ((gnChan s n).cn0Valid = true →
        (gnChan s n).lastSync + msUp (3 * syncMs (gnChan s n).sig.toNat (gnChan s n).sv.toNat) ≤ s.tb.up →
        Runs (.cn0Expire n) s fun t => (gnChan t n).cn0Valid = false ∧ (gnChan t n).cn0 = 0)) ∧
  (
    ∀ s : State, Awake s →
      (∀ (sol : SolInput) (recs : List RecInput), epochDue s = true →
        Runs (.measurementEpoch sol recs) s fun t =>
          t.gn.epochSeq = s.gn.epochSeq + 1 ∧ t.gn.mirrorGen = s.gn.mirrorGen + 2 ∧ t.gn.traim = sol.traim ∧
            t.gn.solUncPs = sol.uncPs ∧ (s.gn.mode = 0 → t.gn.solValid = false) ∧ (sol.traim = true → t.gn.solValid = false)) ∧
      (s.gn.mode = 1 → s.gn.surveyAt + nsUp (60000000000 * s.gn.targetMin.toNat) ≤ s.tb.up →
        Runs .surveyComplete s fun t =>
          t.gn.position.isSome = true ∧ t.gn.mode = 2 ∧ t.gn.holdAt = some s.tb.up ∧
            (s.gn.posCnt ≠ 0 → t.gn.position = some ⟨BitVec.ofInt 64 (roundDiv s.gn.posSum.1 s.gn.posCnt),
              BitVec.ofInt 64 (roundDiv s.gn.posSum.2.1 s.gn.posCnt),
              BitVec.ofInt 64 (roundDiv s.gn.posSum.2.2 s.gn.posCnt)⟩)) ∧
      (∀ x : Nat, s.gn.mode = 2 → s.gn.holdCheck = true → s.gn.holdAt = some x → x + nsUp 60000000000 ≤ s.tb.up →
        s.gn.resCnt ≠ 0 → 900 * 2 ^ 32 * s.gn.resCnt < s.gn.resSq →
        Runs .holdResidualCheck s fun t => t.gn.position = none ∧ t.gn.mode = 1 ∧ t.gn.surveyAt = s.tb.up) ∧
      (∀ x : Nat, s.gn.mode = 2 → s.gn.holdCheck = true → s.gn.holdAt = some x → x + nsUp 60000000000 ≤ s.tb.up →
        s.gn.resCnt ≠ 0 → s.gn.resSq ≤ 900 * 2 ^ 32 * s.gn.resCnt →
        Runs .holdResidualCheck s fun t => t.gn.position = s.gn.position ∧ t.gn.mode = 2 ∧ t.gn.holdCheck = false))

/-- OP_GNSS_CONFIG, OP_GNSS_SURVEY, OP_GNSS_POSITION, OP_GNSS_STREAM, OP_GNSS_ASSIST (04 R85, R87, R90 to R92). -/
def Obligations.GnssOpcodesComplete : Prop :=
  ∀ (s : State) (c : Chan) (k : CmdHeld),
    (HasCmd s c 0x0201 k → k.payload = [] →
      Runs (.opGnssConfig c) s fun t => Answered t c k 0 (gnConfigBytes s.gn.cfg) ∧ t.gn = s.gn) ∧
    (HasCmd s c 0x0201 k → k.payload ≠ [] → firstFail (chan s c) (gnConfigChk k) = none →
      Runs (.opGnssConfig c) s fun t =>
        AnsweredLen t c k 0 40 ∧ t.gn.cfg.fsHz.toNat = k.f 0 4 ∧ t.gn.cfg.fmtSpa.toNat = k.f 4 1 ∧
          t.gn.cfg.fmtSpb.toNat = k.f 5 1 ∧ t.gn.cfg.elevMask.toNat = k.f 7 1 ∧ t.gn.cfg.sigEnable.toNat = k.f 16 2 ∧
          t.gn.cfg.thresh.toNat = k.f 21 1 ∧ t.gn.cfg.intervalMs.toNat = k.f 28 2 ∧ t.gn.cfg.surveyH.toNat = k.f 30 1) ∧
    (HasCmd s c 0x0202 k → k.f 0 1 ≤ 168 → Reserved k [1, 2, 3] →
      Runs (.opGnssSurvey c) s fun t =>
        Answered t c k 0 [] ∧ t.gn.mode = 1 ∧ t.gn.position = none ∧ t.gn.surveyAt = s.tb.up ∧
          (k.f 0 1 ≠ 0 → t.gn.targetMin.toNat = 60 * k.f 0 1)) ∧
    (HasCmd s c 0x0203 k →
      Runs (.opGnssPosition c) s fun t =>
        Answered t c k 0 [] ∧ t.gn.mode = 2 ∧ t.gn.position =
          some ⟨BitVec.ofNat 64 (k.f 0 8), BitVec.ofNat 64 (k.f 8 8), BitVec.ofNat 64 (k.f 16 8)⟩) ∧
    (HasCmd s c 0x0204 k → k.f 0 8 % 8192 = 0 → k.f 0 8 ≠ 0 → 2 ≤ k.f 8 1 → k.f 8 1 ≤ 12 → k.f 9 1 ≤ 1 →
      Reserved k [11, 12, 13, 14, 15] →
      Runs (.opGnssStream c) s fun t =>
        Answered t c k 0 (leBytes 4 s.gn.epochSeq.toNat) ∧
          ∃ r, t.gn.ring = some r ∧ r.addr.toNat = k.f 0 8 ∧ r.log2 = k.f 8 1 ∧ r.vector.toNat = k.f 10 1) ∧
    (HasCmd s c 0x0204 k → k.f 0 8 = 0 → k.f 9 1 ≤ 1 → Reserved k [11, 12, 13, 14, 15] →
      Runs (.opGnssStream c) s fun t =>
        Answered t c k 0 (leBytes 4 s.gn.epochSeq.toNat) ∧ t.gn.ring = none) ∧
    (∀ ok : List Bool, HasCmd s c 0x0205 k → 1 ≤ k.f 0 1 → k.f 0 1 ≤ 5 → k.f 1 1 ≤ 5 →
      assistLenOk (k.f 0 1) (k.f 4 2) = true → Reserved k (span 6 16) →
      (k.f 0 1 ≤ 2 → ∀ i : Nat, i < k.f 2 2 → Reserved k (span (17 + i * k.f 4 2) (20 + i * k.f 4 2))) →
      Runs (.opGnssAssist c ok) s fun t =>
        ∃ n, n ≤ k.f 2 2 ∧ Answered t c k 0 (layout 4 [(0, 2, n), (2, 2, k.f 2 2 - n)]) ∧
          t.gn.assists.length = s.gn.assists.length + n)

/-! ### 05: the mailboxes -/

/-- MBX_DOORBELL and MBX_STATUS_CLEAR: firmware acts on a doorbell by its SEQ and the channel's state, as the table of 05 R101 says;
LAST_SEQ is that of the last command completed, zero after cold reset and after OP_MBX_RESET. -/
def Obligations.DoorbellDecided : Prop :=
  (∀ (s : State) (c : Fin 16) (v : Word), Awake s → hostDecode s = true →
    (let ch := chan s (hostChan c)
     let n : Half := v.setWidth 16
     (ch.enabled = true → ch.busy = false → mpServes s = true →
       n = (if ch.lastSeq = 0 ∨ ch.lastSeq = 0xFFFF then 1 else ch.lastSeq + 1) →
       Runs (.mbxDoorbell c v) s fun t =>
         chan t (hostChan c) = { ch with
           busy := true, ack := false, done := false, replayed := false, bell := n, bellNo := s.mbx.bells }) ∧
     (ch.enabled = true → ch.busy = false → mpServes s = true → n = ch.lastSeq → n ≠ 0 →
       Runs (.mbxDoorbell c v) s fun t =>
         chan t (hostChan c) = { ch with
             busy := false, ack := true, done := true, replayed := true, bell := n, bellNo := s.mbx.bells } ∧
           (ch.irqEn = true → s.hl.posts = [] → vecOpen s ch.vector.toNat = true → vecGap s ch.vector.toNat = false →
             hostUp s = true → ∃ a d, t.out = s.out ++ [.msix ch.vector.toNat a d])) ∧
     (ch.enabled = true → ch.busy = false → mpServes s = true →
       n ≠ (if ch.lastSeq = 0 ∨ ch.lastSeq = 0xFFFF then 1 else ch.lastSeq + 1) → (n ≠ ch.lastSeq ∨ n = 0) →
       Runs (.mbxDoorbell c v) s fun t =>
         chan t (hostChan c) = { ch with
           busy := false, ack := false, done := false, replayed := false, seqErr := true, bell := n
           bellNo := s.mbx.bells }) ∧
     (ch.enabled = true → ch.busy = true → n = ch.bell → Runs (.mbxDoorbell c v) s fun t => t = s) ∧
     (ch.enabled = true → ch.busy = true → n ≠ ch.bell →
       Runs (.mbxDoorbell c v) s fun t => chan t (hostChan c) = { ch with overrun := true }) ∧
     (ch.enabled = false → Runs (.mbxDoorbell c v) s fun t => t = s) ∧
     Runs (.mbxStatusClear c v) s fun t =>
       chan t (hostChan c) =
         { ch with overrun := ch.overrun && !v.getLsbD 4, seqErr := ch.seqErr && !v.getLsbD 5 })) ∧
  (∀ c : Chan, (chan State.reset c).lastSeq = 0) ∧
  (∀ (s : State) (c : Chan), Awake s → Runs (.coldReset .rail) s fun t => (chan t c).lastSeq = 0) ∧
  (∀ (s : State) (c : Chan) (k : CmdHeld) (d : Fin 16), HasCmd s c 0x0004 k → k.f 0 1 = d.val → 1 ≤ d.val →
    hostChan d ≠ c → Reserved k [1, 2, 3] → ((chan s (hostChan d)).cmd.any (fillFlies s (hostChan d))) = false →
    Runs (.opMbxReset c) s fun t => (chan t (hostChan d)).lastSeq = 0) ∧
  ∀ (s : State) (c : Chan) (k : CmdHeld) (st : Nat), (chan s c).cmd = some k → s.hlt.mpHung = false →
    (chan (finishCmd s c st 0 []) c).lastSeq = k.seq

/-- MBX_ACK: firmware takes the doorbells in the order in which they came, copies the request and sets ACK; a direct command that passes the checks 1 to 4 of R430 is held
ready, an indirect one waits for its buffer; a bad header is SEQ_ERR, an unknown opcode ST_BAD_OPCODE. -/
def Obligations.AckTakesTheRequest : Prop :=
  ∀ (s : State) (c : Chan), Awake s → mpServes s = true → (chan s c).busy = true → (chan s c).cmd = none →
    (chan s c).bell = nextSeq (chan s c).lastSeq → earlierBell s c = false → Memory.wf (chan s c).resp = true →
    (let h := memRead (chan s c).req 0 1024
     let op := fieldAt h 0 2
     let len := fieldAt h 4 2
     (∀ r : OpRow, fieldAt h 2 2 = (chan s c).bell.toNat → fieldAt h 7 1 = 1 → opRow op = some r →
       mayCarry s c r = true → phaseRefuses s op = none → fieldAt h 6 1 % 2 = 0 → len ≤ 1008 →
       lenFits r.len len ((h.drop 16).take len) = true →
       Runs (.mbxAck c) s fun t =>
         (chan t c).ack = true ∧ (chan t c).busy = true ∧
           (chan t c).cmd =
             some ⟨BitVec.ofNat 16 op, (chan s c).bell, (h.drop 16).take len, true, false, [], s.tb.up, 0, none⟩) ∧
     (∀ r : OpRow, fieldAt h 2 2 = (chan s c).bell.toNat → fieldAt h 7 1 = 1 → opRow op = some r →
       mayCarry s c r = true → phaseRefuses s op = none → fieldAt h 6 1 % 2 = 1 → len = 16 →
       fieldAt h 16 8 % 64 = 0 → 0 < fieldAt h 24 4 → fieldAt h 24 4 ≤ 2 ^ 24 → fieldAt h 28 4 = 0 →
       lenPossible r.len (fieldAt h 24 4) = true → hostUp s = true → s.hl.cfg.atsEn = false →
       Runs (.mbxAck c) s fun t =>
         (chan t c).ack = true ∧ ((chan t c).cmd.any fun q => !q.ready) = true ∧
           ∃ r, tget t.hl.reads s.hl.nextTag = some r ∧ r.why = .indirect c 0 ∧ r.addr = fieldAt h 16 8 ∧
             r.len = min (fieldAt h 24 4) (min (4096 - fieldAt h 16 8 % 4096) (maxRead s.hl.cfg))) ∧
     ((fieldAt h 2 2 ≠ (chan s c).bell.toNat ∨ fieldAt h 7 1 ≠ 1) →
       Runs (.mbxAck c) s fun t => (chan t c).seqErr = true ∧ (chan t c).busy = false ∧ (chan t c).cmd = none) ∧
     (∀ k : CmdHeld, fieldAt h 2 2 = (chan s c).bell.toNat → fieldAt h 7 1 = 1 → opRow op = none →
       k.opcode = BitVec.ofNat 16 op → k.seq = (chan s c).bell →
       Runs (.mbxAck c) s fun t => (chan t c).ack = true ∧ Answered t c k 0x0002 []))

/-- OP_NOP, OP_GET_INFO, OP_MBX_GRANT, OP_MBX_RESET, OP_EVENT_RING, OP_ERROR_LOG, OP_HEALTH_SUMMARY (05 R107 to R111).
SOLP_REQ, SOLP_STAT, FW_UPDATE_SESSION_TIMEOUT, MAX_FIRMWARE_TIME_EXPIRY (05 R99, R113, R114). -/
def Obligations.MailboxOpcodesComplete : Prop :=
  (
    ∀ (s : State) (c : Chan) (k : CmdHeld),
      (HasCmd s c 0x0001 k → Runs (.opNop c) s fun t => Answered t c k 0 [] ∧ t.tb = s.tb ∧ t.cores = s.cores) ∧
      (HasCmd s c 0x0002 k →
        Runs (.opGetInfo c) s fun t =>
          Answered t c k 0 (layout 32 [(0, 4, fwVersion s), (4, 2, 1), (6, 1, s.sec.lifecycle.toNat),
            (7, 1, s.hl.cohMode.toNat), (8, 2, (myChip s).toNat), (10, 2, s.fab.inc.toNat), (12, 4, fencedMask s),
            (16, 2, bridledMask s), (20, 4, dumpSize), (24, 4, retiredCount s)])) ∧
      (∀ d : Fin 16, HasCmd s c 0x0003 k → k.f 0 1 = d.val → 1 ≤ d.val → (chan s (hostChan d)).busy = false →
        hostChan d ≠ c → k.f 1 1 ≤ 3 → k.f 2 1 ≤ 63 → ctxDying s (k.f 2 1) = false → Reserved k [3, 6, 7] →
        Runs (.opMbxGrant c) s fun t =>
          Answered t c k 0 [] ∧ (chan t (hostChan d)).enabled = (k.f 1 1 % 2 == 1) ∧
            (chan t (hostChan d)).ctxBound = (k.f 1 1 / 2 == 1) ∧ (chan t (hostChan d)).ctx.toNat = k.f 2 1 ∧
            (chan t (hostChan d)).areas.toNat = k.f 4 2) ∧
      (∀ d : Fin 16, HasCmd s c 0x0004 k → k.f 0 1 = d.val → 1 ≤ d.val → hostChan d ≠ c → Reserved k [1, 2, 3] →
        ((chan s (hostChan d)).cmd.any (fillFlies s (hostChan d))) = false →
        Runs (.opMbxReset c) s fun t =>
          Answered t c k 0 [] ∧ (chan t (hostChan d)).cmd = none ∧ (chan t (hostChan d)).lastSeq = 0 ∧
            (chan t (hostChan d)).busy = false ∧ (chan t (hostChan d)).done = false ∧
            (chan t (hostChan d)).seqErr = false ∧ (chan t (hostChan d)).overrun = false) ∧
      (∀ (d : Fin 16) (q : CmdHeld), HasCmd s c 0x0004 k → k.f 0 1 = d.val → 1 ≤ d.val → hostChan d ≠ c →
        Reserved k [1, 2, 3] → (chan s (hostChan d)).cmd = some q → fillFlies s (hostChan d) q = true →
        Runs (.opMbxReset c) s fun t =>
          (chan t c).cmd = some { k with begun := true } ∧
            (chan t (hostChan d)).cmd.any (fun x => x.ending == some (q.ending.getD stAborted)) = true) ∧
      (HasCmd s c 0x0005 k → k.f 0 8 % 4096 = 0 → k.f 0 8 ≠ 0 → 6 ≤ k.f 8 1 → k.f 8 1 ≤ 16 → k.f 10 1 ≤ 1 →
        Reserved k [11, 12, 13, 14, 15] →
        Runs (.opEventRing c) s fun t =>
          Answered t c k 0 (leBytes 4 s.mbx.evtSeq.toNat) ∧
            ∃ r, t.mbx.ring = some r ∧ r.addr.toNat = k.f 0 8 ∧ r.log2 = k.f 8 1 ∧ r.vector.toNat = k.f 9 1) ∧
      (HasCmd s c 0x0005 k → k.f 0 8 = 0 → Reserved k [11, 12, 13, 14, 15] →
        Runs (.opEventRing c) s fun t => Answered t c k 0 (leBytes 4 s.mbx.evtSeq.toNat) ∧ t.mbx.ring = none) ∧
      (HasCmd s c 0x0006 k → 1 ≤ k.f 2 1 → k.f 2 1 ≤ 7 → Reserved k [3] →
        Runs (.opErrorLog c) s fun t =>
          let l := (s.mbx.log.drop (k.f 0 2)).take (k.f 2 1)
          Answered t c k 0 (layout 8 [(0, 4, s.mbx.log.length), (4, 1, l.length)] ++ (l.map eventBytes).flatten) ∧
            (s.hl.posts = [] → t.mbx.log = s.mbx.log)) ∧
      (HasCmd s c 0x0007 k →
        Runs (.opHealthSummary c) s fun t =>
          ∃ r : Bytes, r.length = 64 ∧ Answered t c k 0 r ∧ fieldAt r 0 1 = s.sec.phase.toNat ∧
            fieldAt r 4 4 = fencedMask s ∧ fieldAt r 8 2 = s.fab.inc.toNat ∧ fieldAt r 12 4 = s.hlt.heartbeat.toNat)) ∧
  (
    ∀ s : State, Awake s →
      (∀ msg : Bytes, msg.length ≤ 255 → (chan s bmcChan).enabled = true → (chan s bmcChan).busy = false →
        mpServes s = true → BitVec.ofNat 16 (fieldAt msg 2 2) = nextSeq (chan s bmcChan).lastSeq →
        Runs (.solpReq msg true) s fun t =>
          memRead (chan t bmcChan).req 0 msg.length = msg ∧ (chan t bmcChan).busy = true ∧
            (chan t bmcChan).bell = BitVec.ofNat 16 (fieldAt msg 2 2)) ∧
      (∀ msg : Bytes, Runs (.solpReq msg false) s fun t => t = s) ∧
      (Runs .solpStat s fun t =>
        t.out = s.out ++ [.smbus [BitVec.ofNat 8 (b2n (chan s bmcChan).busy + 2 * b2n (chan s bmcChan).ack +
            4 * b2n (chan s bmcChan).done + 8 * b2n (chan s bmcChan).replayed + 16 * b2n (chan s bmcChan).seqErr +
            32 * b2n (chan s bmcChan).overrun)]] ∧
          (chan t bmcChan).seqErr = false ∧ (chan t bmcChan).overrun = false) ∧
      (∀ x : FwSession, mpServes s = true → s.mbx.session = some x → x.lastAt + msUp 60000 ≤ s.tb.up →
        Runs .fwUpdateSessionTimeout s fun t => t.mbx.session = none) ∧
      (∀ (c : Chan) (k : CmdHeld), mpServes s = true → (chan s c).cmd = some k → (k.ready = false ∨ k.begun = true) →
        k.opcode.toNat ≠ 0x0902 → k.opcode.toNat ≠ 0x0702 → fillFlies s c k = false → Memory.wf (chan s c).resp = true →
        k.ackAt + nsUp (maxFwNs k.opcode.toNat k.payload) ≤ s.tb.up →
        Runs (.maxFirmwareTimeExpiry c) s fun t => ∃ r, Answered t c k 0x000B r))

/-! ### 00, 06: the host link -/

/-- BAR0_WRITE_PLAIN, BAR0_BAD_ACCESS, INT_STATUS_CLEAR, INT_ENABLE_WRITE (00 R8, R11; 05 R116; 06 R142). 06 R434: with
decode off a host read of BAR0 or BAR4 completes as Unsupported Request, and a write has no effect. -/
def Obligations.RegisterWrites : Prop :=
  (
    ∀ s : State, Awake s → hostDecode s = true →
      (∀ (c : Fin 16) (o : Nat) (v : Dword), o % 4 = 0 → o < 0x400 → Memory.wf (chan s (hostChan c)).req = true →
        Runs (.bar0WritePlain (0x10000 + 0x1000 * c.val + 0x400 + o) false v) s fun t =>
          memRead (chan t (hostChan c)).req o 4 = leBytes 4 (v.toNat % 2 ^ 32) ∧
            ∀ a, (a < o ∨ o + 4 ≤ a) → memGet (chan t (hostChan c)).req a = memGet (chan s (hostChan c)).req a) ∧
      (∀ (c : Fin 16) (v : Dword),
        Runs (.bar0WritePlain (0x10000 + 0x1000 * c.val + 8) false v) s fun t =>
          chan t (hostChan c) = { chan s (hostChan c) with irqEn := v.getLsbD 0, vector := v.extractLsb' 8 8 }) ∧
      (∀ v : Dword, Runs (.bar0WritePlain 0x30008 false v) s fun t => t.hl.intVector = v.setWidth 8) ∧
      (∀ (n : Fin 256) (v : Dword),
        Runs (.bar0WritePlain (0x30100 + 4 * n.val) false v) s fun t =>
          t.hl.vecs[n] = { s.hl.vecs[n] with gapUs := v.setWidth 10 }) ∧
      (∀ (off : Nat) (v : Dword), (off + 8 ≤ 0x10000 ∨ 0x30500 ≤ off) →
        Runs (.bar0WritePlain off false v) s fun t => t = s) ∧
      (∀ (off : Nat) (v : Dword), (off + 8 ≤ 0x10000 ∨ 0x30500 ≤ off ∧ off + 8 ≤ 0x40000 ∨
          0x50000 ≤ off ∧ off + 8 ≤ 0xC0000 ∨ 0x100000 ≤ off ∨ off % 8 ≠ 0) →
        Runs (.bar0WritePlain off true v) s fun t => t = s) ∧
      (∀ (c : Fin 16) (o : Nat) (v : Dword), o % 8 = 0 → o < 0x400 → Memory.wf (chan s (hostChan c)).req = true →
        Runs (.bar0WritePlain (0x10000 + 0x1000 * c.val + 0x400 + o) true v) s fun t =>
          memRead (chan t (hostChan c)).req o 8 = leBytes 8 v.toNat ∧
            ∀ a, (a < o ∨ o + 8 ≤ a) → memGet (chan t (hostChan c)).req a = memGet (chan s (hostChan c)).req a) ∧
      (∀ (c : Fin 16) (v : Dword),
        Runs (.bar0WritePlain (0x10000 + 0x1000 * c.val) true v) s fun t => ∃ u,
          exec (.mbxDoorbell c (v.setWidth 32)) s = .next u ∧
            exec (.mbxStatusClear c (v.extractLsb' 32 32)) u = .next t) ∧
      (∀ (off : Nat) (w : Bool) (z : AccessSize), off < 2 ^ 26 → isBad off w z = true → s.hl.intStatus.getLsbD 0 = false →
        Runs (.bar0BadAccess off w z) s fun t =>
          t.hl.intStatus.getLsbD 0 = true ∧ t.hl.badValid = true ∧ t.hl.badOff.toNat = off ∧ t.hl.badWrite = w ∧
            t.hl.badKind = badKind z ∧
            (w = false → t.out.getLast? = some (.readData (List.replicate (sizeOf_ z) 0xFF) false))) ∧
      (∀ v : Word, Runs (.intStatusClear v) s fun t =>
        t = { s with hl := { s.hl with
          intStatus := s.hl.intStatus &&& ~~~(v.setWidth 6), badValid := s.hl.badValid && !v.getLsbD 0 } }) ∧
      (∀ v : Word, Runs (.intEnableWrite v) s fun t =>
        t.hl.intEnable = v.setWidth 6 ∧ t.hl.intStatus = s.hl.intStatus ∧
          (s.hl.intStatus &&& v.setWidth 6 &&& ~~~s.hl.intEnable = 0 → t.out = s.out))) ∧
  (
    ∀ s : State, Awake s → hostDecode s = false →
      (∀ i : Instr, (∃ n w, i = .tbSnapLatch n w) ∨ (∃ o n l, i = .bar4Read o n l) ∨
          (∃ (o : Nat) (z : AccessSize), o < 2 ^ 26 ∧ isBad o false z = true ∧ i = .bar0BadAccess o false z) →
        Runs i s fun t => t = { s with out := s.out ++ [.unsupported] }) ∧
      ∀ i : Instr, (∃ o w v, i = .bar0WritePlain o w v) ∨ (∃ o z, i = .bar0BadAccess o true z) ∨
          (∃ c v, i = .mbxDoorbell c v) ∨ (∃ c v, i = .mbxStatusClear c v) ∨ (∃ o d p e, i = .bar4Write o d p e) ∨
          (∃ v, i = .intStatusClear v) ∨ (∃ v, i = .intEnableWrite v) ∨ (∃ q v, i = .rqSqTailWrite q v) ∨
          (∃ q v, i = .rqCqHeadWrite q v) ∨ (∃ q v, i = .rqQStatusClear q v) ∨ (∃ n v, i = .rqSyncSelWrite n v) ∨ (∃ h v, i = .rqUpdTailWrite h v) ∨
          i = .capture ∨ i = .freeze ∨ (∃ v, i = .dbgColdReqWrite v) → Runs i s fun t => t = s)

/-- HOST_LINK_TRAIN, HOST_LINK_DOWN, BAR4_RESIZE, MSIX_UNMASK, MSIX_GAP_END (06 R117, R120, R136, R137, R432, R434). -/
def Obligations.HostLinkAndVectors : Prop :=
  ∀ s : State, Awake s →
    (∀ (p : LinkParams) (g : PcieConfig), linkValid p = true →
      Runs (.hostLinkTrain p g) s fun t =>
        t.hl.link = p ∧ t.hl.cfg = g ∧ t.hl.first = some (s.hl.first.getD (p.speed, p.width)) ∧
          ((s.hl.link.speed = 0 ∨ p ≠ s.hl.link) → degraded s p = true → t.hl.intStatus.getLsbD 5 = true) ∧
          ((s.hl.link.speed = 0 ∨ p ≠ s.hl.link) → s.hl.cohMode = 2 → sharedOk p = false →
            t.hl.intStatus.getLsbD 4 = true)) ∧
    (Runs .hostLinkDown s fun t => t.hl.link.speed = 0 ∧ t.hl.posts = []) ∧
    (∀ n : Nat, 28 ≤ n → 2 ^ n ≤ Config.towerGib * 8 * gib → s.hl.link.speed ≠ 0 → s.hl.cfg.mse = false →
      Runs (.bar4Resize (2 ^ n)) s fun t => t.hl.bar4 = 2 ^ n) ∧
    (Runs (.msixUnmask .function) s fun t => t.hl.cfg.funcMask = false) ∧
    (∀ v : Fin 256, s.hl.cfg.msix.length = 256 →
      Runs (.msixUnmask (.vector v)) s fun t =>
        t.hl.cfg.msix[v.val]? = (s.hl.cfg.msix[v.val]?).map fun e => { e with mask := false }) ∧
    (∀ v : Fin 256, (s.hl.vecs[v]).pend = true → (s.hl.vecs[v]).gapUs = 0 → s.hl.cfg.msix.length = 256 →
      s.hl.cfg.msixEn = true → s.hl.cfg.funcMask = false → hostUp s = true →
      Runs (.msixUnmask (.vector v)) s fun t =>
        (t.hl.vecs[v]).pend = false ∧ .msix v (s.hl.cfg.msix.getD v.val ⟨0, 0, true⟩).addr
          (s.hl.cfg.msix.getD v.val ⟨0, 0, true⟩).data ∈ t.out) ∧
    (∀ v : Fin 256, (s.hl.vecs[v]).held = true → vecGap s v = false → vecOpen s v = true → hostUp s = true →
      Runs (.msixGapEnd v) s fun t =>
        (t.hl.vecs[v]).held = false ∧ (t.hl.vecs[v]).lastAt = some s.tb.up ∧
          t.out = s.out ++ [.msix v (s.hl.cfg.msix.getD v.val ⟨0, 0, true⟩).addr
            (s.hl.cfg.msix.getD v.val ⟨0, 0, true⟩).data])

/-- BAR4_READ, BAR4_WRITE, CXL_MEM_READ, CXL_MEM_WRITE within one line: bytes, poison, and memory outside unchanged (06
R121, R122, R124, R134). -/
def Obligations.HostMemoryAccess : Prop :=
  ∀ (s : State) (cell : Nat), Awake s → Memory.wf s.tw.cells = true →
    (∀ off n : Nat, hostDecode s = true → off + n ≤ s.hl.bar4 → 0 < n → off % 64 + n ≤ 64 → cellOf s off = some cell →
      isPoisoned s cell = false →
      Runs (.bar4Read off n []) s fun t => t = { s with out := s.out ++ [.readData (memRead s.tw.cells cell n) false] }) ∧
    (∀ off n : Nat, ∀ errs : List (Nat × LineErr), hostDecode s = true → off + n ≤ s.hl.bar4 →
      (∀ e ∈ errs, e.2 ≠ .uncorrectable) →
      Runs (.bar4Read off n errs) s fun t =>
        t.tw.cells = s.tw.cells ∧ ∃ d p, d.length = n ∧ t.out.getLast? = some (.readData d p)) ∧
    (∀ off n : Nat, ∀ errs : List (Nat × LineErr), hostDecode s = true → s.hl.bar4 < off + n →
      Runs (.bar4Read off n errs) s fun t => t = { s with out := s.out ++ [.unsupported] }) ∧
    (∀ (off : Nat) (d : Bytes) (errs : List (Nat × LineErr)), hostDecode s = true → off + d.length ≤ s.hl.bar4 →
      0 < d.length → off % 64 + d.length ≤ 64 → cellOf s off = some cell → (isPoisoned s cell = false ∨ d.length = 64) →
      (∀ e ∈ errs, e.2 ≠ .uncorrectable) →
      Runs (.bar4Write off (d.map some) false errs) s fun t =>
        memRead t.tw.cells cell d.length = d ∧
          (∀ a, (a < cell ∨ cell + d.length ≤ a) → memGet t.tw.cells a = memGet s.tw.cells a) ∧
          (d.length = 64 → isPoisoned t cell = false)) ∧
    (∀ (off : Nat) (d : List (Option Byte)) (ep : Bool) (errs : List (Nat × LineErr)), hostDecode s = true →
      s.hl.bar4 < off + d.length → Runs (.bar4Write off d ep errs) s fun t => t = s) ∧
    (∀ dpa : Nat, s.hl.link.mem = true → dpa % 64 = 0 → cellOf s dpa = some cell → isPoisoned s cell = false →
      Runs (.cxlMemRead dpa .none) s fun t =>
        t.tw = s.tw ∧ t.out = s.out ++ [.readData (memRead s.tw.cells cell 64) false] ∧
          (inWindow s dpa = true → dpa / 64 ∈ t.hl.held) ∧ (inWindow s dpa = false → t.hl = s.hl)) ∧
    (∀ (dpa : Nat) (d : Bytes) (e : LineErr), s.hl.link.mem = true → dpa % 64 = 0 → d.length = 64 →
      cellOf s dpa = some cell →
      Runs (.cxlMemWrite dpa (d.map some) false e) s fun t =>
        memRead t.tw.cells cell 64 = d ∧ t.out = s.out ++ [.writeDone] ∧ (inWindow s dpa = true → dpa / 64 ∈ t.hl.held) ∧
          ∀ a, (a < cell ∨ cell + 64 ≤ a) → memGet t.tw.cells a = memGet s.tw.cells a)

/-- HOST_READ_COMPLETION, COMPLETION_TIMEOUT, ATS_TRANSLATION_COMPLETION, ATS_INVALIDATION: non-posted requests end (06
R119, R139 to R141, R432). -/
def Obligations.HostReadsEnd : Prop :=
  ∀ s : State, Awake s →
    (∀ (tag id : Nat) (r : HostRead) (a : Access) (d : Bytes), tget s.hl.reads tag = some r → r.sent = true →
      s.hl.link.speed ≠ 0 → s.tb.up < r.limit → r.why = .access id → Owned s id a → a.kind = .read → a.len = r.len →
      d.length = r.len →
      Runs (.hostReadCompletion tag (some d)) s fun t =>
        ∃ b, accOf t id = some b ∧ b.stage = .done ∧ b.data = d) ∧
    (∀ (tag id : Nat) (r : HostRead) (a : Access) (d : Bytes), tget s.hl.reads tag = some r → r.sent = true →
      s.hl.link.speed ≠ 0 → s.tb.up < r.limit → r.why = .go id → Owned s id a →
      Runs (.hostReadCompletion tag (some d)) s fun t =>
        ∃ b, accOf t id = some b ∧ b.stage = .done) ∧
    (∀ (tag off : Nat) (r : HostRead) (c : Chan) (k : CmdHeld) (w : OpRow) (d : Bytes), tget s.hl.reads tag = some r →
      r.sent = true → s.hl.link.speed ≠ 0 → s.tb.up < r.limit → r.why = .indirect c off → mpServes s = true →
      (chan s c).cmd = some k → opRow k.opcode.toNat = some w → d.length = r.len →
      (let got := ((tput k.pieces off d).map fun x => x.2).flatten
       (k.f 8 4 ≤ got.length → lenFits w.len got.length got = true →
         Runs (.hostReadCompletion tag (some d)) s fun t =>
           (chan t c).cmd = some { k with payload := got, pieces := [], ready := true }) ∧
       (got.length < k.f 8 4 →
         Runs (.hostReadCompletion tag (some d)) s fun t =>
           (chan t c).cmd = some { k with pieces := tput k.pieces off d }) ∧
       (k.f 8 4 ≤ got.length → lenFits w.len got.length got = false → Memory.wf (chan s c).resp = true →
         Runs (.hostReadCompletion tag (some d)) s fun t => Answered t c k 0x0003 []))) ∧
    (∀ (tag id : Nat) (r : HostRead) (a : Access), tget s.hl.reads tag = some r → r.sent = true → r.limit ≤ s.tb.up →
      r.why = .access id → Owned s id a →
      Runs (.completionTimeout tag) s fun t =>
        tget t.hl.reads tag = none ∧ ∃ b, accOf t id = some b ∧ b.stage = .failed .memory) ∧
    (∀ (tag : Nat) (q : AtsReq), tget s.hl.reads tag = none → tget s.hl.ats tag = some q → q.limit ≤ s.tb.up →
      tag < s.hl.nextTag → Runs (.completionTimeout tag) s fun t => tget t.hl.ats tag = none) ∧
    (∀ (id : Nat) (q : AtsReq) (x : AtsResp), tget s.hl.ats id = some q → (x.read = true ∨ x.write = true) →
      id < s.hl.nextTag → s.tb.up < q.limit →
      Runs (.atsTranslationCompletion id x) s fun t =>
        tget t.hl.ats id = none ∧ ∃ e ∈ t.hl.atc, e.pasid = q.pasid ∧ e.target = x.addr ∧ e.read = x.read ∧
          e.write = x.write ∧ e.size = x.size) ∧
    (∀ (id : Nat) (q : AtsReq) (x : AtsResp), tget s.hl.ats id = some q → x.read = false → x.write = false →
      s.tb.up < q.limit →
      Runs (.atsTranslationCompletion id x) s fun t => t.hl.intStatus.getLsbD 3 = true) ∧
    (∀ (addr size : Nat) (p : Option (BitVec 20)), s.hl.invals.length < 32 →
      Runs (.atsInvalidation addr size (p.map fun x => x.toNat)) s fun t =>
        (∀ e ∈ t.hl.atc, e.pasid = p → addr + size ≤ e.page ∨ e.page + e.size ≤ addr) ∧
          (s.hl.reads = [] → t.out = s.out ++ [.atsInvalDone]))

/-! ### 06, 07: coherence, contexts and translation -/

/-- OP_COHERENCE_MODE, OP_CTX_CREATE, OP_CTX_DESTROY, OP_MAP, OP_UNMAP, OP_TLB_INVAL (06 R126; 07 R143, R144, R150, R161). -/
def Obligations.ContextsAndMappings : Prop :=
  ∀ (s : State) (c : Chan) (k : CmdHeld), OthersIdle s c →
    (HasCmd s c 0x0301 k → k.f 0 1 = 1 → k.f 4 4 = 0 → k.f 8 8 = 0 → Reserved k [1, 2, 3] → s.sch.queues = [] →
      Runs (.opCoherenceMode c) s fun t => Answered t c k 0 [] ∧ t.hl.cohMode = 1 ∧ t.hl.winUnits = 0) ∧
    (HasCmd s c 0x0301 k → k.f 0 1 = 2 → 1 ≤ k.f 4 4 → k.f 4 4 ≤ 256 → k.f 8 8 % 2 ^ 28 = 0 →
      k.f 8 8 + k.f 4 4 * 2 ^ 28 ≤ Config.towerGib * 8 * gib → Reserved k [1, 2, 3] → s.sch.queues = [] →
      sharedOk s.hl.link = true →
      Runs (.opCoherenceMode c) s fun t =>
        Answered t c k 0 [] ∧ t.hl.cohMode = 2 ∧ t.hl.winUnits.toNat = k.f 4 4 ∧ t.hl.winBase.toNat = k.f 8 8) ∧
    (HasCmd s c 0x0302 k → k.f 0 1 ≤ 63 → k.f 1 1 ≤ 3 → k.f 4 4 < 2 ^ 20 → Reserved k [2, 3] → MayName s c (k.f 0 1) →
      ctxOf s (k.f 0 1) = none → (k.f 1 1 % 2 = 1 → s.hl.cfg.pasidEn = true) →
      Runs (.opCtxCreate c) s fun t =>
        Answered t c k 0 [] ∧ t.xl.maps = s.xl.maps ∧
          ctxOf t (k.f 0 1) = some ⟨if k.f 1 1 % 2 = 1 then some (BitVec.ofNat 20 (k.f 4 4)) else none,
            decide (2 ≤ k.f 1 1), false⟩) ∧
    (HasCmd s c 0x0303 k → k.f 0 1 ≤ 63 → Reserved k [1, 2, 3] → MayName s c (k.f 0 1) →
      (ctxOf s (k.f 0 1)).isSome = true → ctxInUse s (k.f 0 1) = false →
      outstanding s (k.f 0 1) 0 (2 ^ 64) s.nextAcc = false →
      Runs (.opCtxDestroy c) s fun t =>
        Answered t c k 0 [] ∧ ctxOf t (k.f 0 1) = none ∧ t.xl.maps = s.xl.maps.filter fun e => e.ctx != k.f 0 1) ∧
    (HasCmd s c 0x0304 k → firstFail (chan s c) (mapChk s k) = none →
      Runs (.opMap c) s fun t => Answered t c k 0 [] ∧ t.xl.maps = s.xl.maps ++ mapPages k) ∧
    (HasCmd s c 0x0305 k → Reserved k [1, 2, 3, 4, 5, 6, 7] → RangeOk k → CtxOk s c (k.f 0 1) →
      (entriesOf s (k.f 0 1) (k.f 8 8) (k.f 16 8)).length ≤ 16384 →
      (entriesOf s (k.f 0 1) (k.f 8 8) (k.f 16 8)).any (splits (k.f 8 8) (k.f 16 8)) = false →
      migrating s (k.f 0 1) (k.f 8 8) (k.f 16 8) = false →
      outstanding s (k.f 0 1) (k.f 8 8) (k.f 16 8) s.nextAcc = false →
      Runs (.opUnmap c) s fun t =>
        Answered t c k 0 [] ∧
          t.xl.maps = s.xl.maps.filter fun e => !e.meets (k.f 0 1) (k.f 8 8) (k.f 16 8)) ∧
    (HasCmd s c 0x0306 k → k.f 1 1 = 0 → Reserved k [2, 3, 4, 5, 6, 7] → RangeOk k → CtxOk s c (k.f 0 1) →
      (entriesOf s (k.f 0 1) (k.f 8 8) (k.f 16 8)).length ≤ 16384 →
      outstanding s (k.f 0 1) (k.f 8 8) (k.f 16 8) s.nextAcc = false →
      Runs (.opTlbInval c) s fun t =>
        Answered t c k 0 [] ∧ t.xl.maps = s.xl.maps ∧
          ∀ i : Fin 8, ∀ e ∈ t.xl.l2[i], e.ent.meets (k.f 0 1) (k.f 8 8) (k.f 16 8) = false) ∧
    (HasCmd s c 0x0306 k → k.f 1 1 = 1 → Reserved k [2, 3, 4, 5, 6, 7] → CtxOk s c (k.f 0 1) →
      outstanding s (k.f 0 1) 0 (2 ^ 64) s.nextAcc = false →
      Runs (.opTlbInval c) s fun t =>
        Answered t c k 0 [] ∧ ∀ i : Fin 8, ∀ e ∈ t.xl.l2[i], e.ent.meets (k.f 0 1) 0 (2 ^ 64) = false)

/-- OP_PREFETCH, PREFETCH_DONE, OP_MIGRATE, MIGRATE_PAGE, OP_ADVISE, UNMAP_HOST_ABANDON (07 R161 to R165). -/
def Obligations.RangeWork : Prop :=
  ∀ s : State, Awake s →
    (∀ (c : Chan) (k : CmdHeld) (y : SyncObj), OthersIdle s c → HasCmd s c 0x0307 k → k.f 1 1 ≤ 3 →
      Reserved k ([3, 6, 7] ++ span 32 40) → RangeOk k → CtxOk s c (k.f 0 1) → k.f 4 2 ≤ 8191 →
      syncOf s (k.f 4 2) = some y → y.ctx = k.f 0 1 →
      (entriesOf s (k.f 0 1) (k.f 8 8) (k.f 16 8)).length ≤ 16384 →
      Runs (.opPrefetch c) s fun t =>
        Answered t c k 0 (leBytes 4 (prefetchPages s k).length) ∧ ∃ i p, tget s.xl.prefetches i = none ∧
          tget t.xl.prefetches i = some p ∧ p.ctx = k.f 0 1 ∧ p.sync = k.f 4 2 ∧ p.sig.toNat = k.f 24 8) ∧
    (∀ (i : Nat) (p : Prefetch) (y : SyncObj), tget s.xl.prefetches i = some p →
      allEnded (accsOf s (isPrefetch i)) = true → syncOf s p.sync = some y →
      Runs (.prefetchDone i) s fun t =>
        tget t.xl.prefetches i = none ∧ syncOf t p.sync = some { y with counter := y.counter + p.sig }) ∧
    (∀ (c : Chan) (k : CmdHeld), OthersIdle s c → HasCmd s c 0x0308 k → firstFail (chan s c) (migrateChk s k) = none →
      Runs (.opMigrate c) s fun t =>
        Answered t c k 0 (leBytes 4 (entriesOf s (k.f 0 1) (k.f 8 8) (k.f 16 8)).length) ∧ t.xl.maps = s.xl.maps ∧
          ∃ i m, tget s.xl.migrations i = none ∧ tget t.xl.migrations i = some m ∧
            m.pages = entriesOf s (k.f 0 1) (k.f 8 8) (k.f 16 8) ∧ m.target = k.f 24 8 ∧ m.phase = 0) ∧
    (∀ (i : Nat) (m : Migration) (e x : MapEnt) (y : SyncObj), tget s.xl.migrations i = some m → m.pages = [e] →
      findMap s m.ctx e.dva = some x → m.phase = 4 → outstanding s m.ctx e.dva e.size m.mark = false →
      syncOf s m.sync = some y →
      Runs (.migratePage i) s fun t =>
        tget t.xl.migrations i = none ∧ syncOf t m.sync = some { y with counter := y.counter + m.sig }) ∧
    (∀ (i : Nat) (m : Migration) (e x : MapEnt) (r : List MapEnt), tget s.xl.migrations i = some m → m.pages = e :: r →
      findMap s m.ctx e.dva = some x → m.phase = 3 →
      (accsOf s (isMigrate i)).all (fun a => a.2.stage == .done) = true →
      Runs (.migratePage i) s fun t =>
        t.xl.maps = s.xl.maps.map fun z =>
          if z = x then movedEnt x m.deep m.interleave.toNat (migTarget m.dva m.target x) else z) ∧
    (∀ (c : Chan) (k : CmdHeld), OthersIdle s c → HasCmd s c 0x0309 k → k.f 1 1 ≤ 3 → Reserved k [3, 4, 5, 6, 7] →
      RangeOk k → CtxOk s c (k.f 0 1) → (entriesOf s (k.f 0 1) (k.f 8 8) (k.f 16 8)).length ≤ 16384 →
      Runs (.opAdvise c) s fun t =>
        Answered t c k 0 [] ∧
          (2 ≤ k.f 1 1 → ⟨k.f 0 1, k.f 8 8, k.f 16 8, BitVec.ofNat 8 (k.f 1 1)⟩ ∈ t.xl.advice) ∧
          (k.f 1 1 = 1 → t.xl.advice = s.xl.advice) ∧
          (k.f 1 1 = 0 → ∀ i : Fin 8, ∀ e ∈ t.xl.l2[i], e.ent.meets (k.f 0 1) (k.f 8 8) (k.f 16 8) = true →
            e.pinned = false)) ∧
    (∀ (c : Chan) (k : CmdHeld) (id tag : Nat) (a : Access), (chan s c).cmd = some k → k.begun = true →
      k.opcode.toNat = 0x0305 → k.ackAt + msUp 4 ≤ s.tb.up → (id, a) ∈ s.acc → id < k.progress → a.ctx = k.f 0 1 →
      meets a.dva a.len (k.f 8 8) (k.f 16 8) = true → a.stage = .host tag →
      Runs (.unmapHostAbandon c) s fun t => tget t.hl.reads tag = none)

/-! ### 07, 08: accesses and memory -/

/-- TRANSLATION_WALK_DONE and TOWER_LINE_ACCESS: a walk finds the entry or faults NOT_MAPPED; a tower controller or a row cache
serves a line and writes nothing else, and a line the host holds is snooped first (06 R125; 07 R157; 08 R175, R180, R182,
R185, R186). -/
def Obligations.LineAccesses : Prop :=
  ∀ (s : State) (id : Nat) (a : Access), Awake s → Owned s id a →
    (a.stage = .walk → walkTurn s id a = true → findMap s a.ctx a.dva = none →
      Runs (.translationWalkDone id) s fun t => ∃ b, accOf t id = some b ∧ b.stage = .failed (.xlate 2)) ∧
    (∀ e : MapEnt, a.stage = .walk → walkTurn s id a = true → findMap s a.ctx a.dva = some e →
      xlate (tlbUse s a.stream a.oct e) a = .go e → e.tier = 0 →
      Runs (.translationWalkDone id) s fun t => ∃ b, accOf t id = some b ∧
        b.stage = if walkPoisoned s a.ctx a.dva then .failed (.xlate 2) else .tower (e.at_ a.dva)) ∧
    (∀ e : MapEnt, a.stage = .walk → walkTurn s id a = true → findMap s a.ctx a.dva = some e →
      walkPoisoned s a.ctx a.dva = false →
      xlate (tlbUse s a.stream a.oct e) a = .go e → e.tier = 0 →
      Runs (.translationWalkDone id) s fun t => accOf t id = some { a with stage := .tower (e.at_ a.dva) }) ∧
    (∀ dpa : Nat, a.stage = .tower dpa → hostHolds s dpa = true →
      Runs (.towerLineAccess id .none) s fun t =>
        t.tw = s.tw ∧ accOf t id = some a ∧ hostHolds t dpa = false ∧ t.out = s.out ++ [.backInval (dpa / 64 * 64)]) ∧
    (∀ (d : Nat) (x : RcSector), a.stage = .rowCache d → rcHas s a.oct d = some x →
      Runs (.towerLineAccess id .none) s fun t =>
        t.tw.cells = s.tw.cells ∧
          ∃ b, accOf t id = some b ∧ b.stage = .done ∧ b.data = (x.data.drop (d % 64)).take a.len) ∧
    (∀ dpa cell : Nat, a.stage = .tower dpa → hostHolds s dpa = false → a.kind = .read → cellOf s dpa = some cell →
      Runs (.towerLineAccess id .none) s fun t =>
        t.tw = s.tw ∧ ∃ b, accOf t id = some b ∧ b.stage = .done ∧ b.data = memRead s.tw.cells cell a.len ∧
          b.poison = isPoisoned s cell) ∧
    (∀ dpa cell : Nat, a.stage = .tower dpa → hostHolds s dpa = false → a.kind = .write → a.poison = false →
      cellOf s dpa = some cell → (isPoisoned s cell = false ∨ a.data.length = 64) → Memory.wf s.tw.cells = true →
      Runs (.towerLineAccess id .none) s fun t =>
        memRead t.tw.cells cell a.data.length = a.data ∧
          (∀ x, (x < cell ∨ cell + a.data.length ≤ x) → memGet t.tw.cells x = memGet s.tw.cells x) ∧
          ∃ b, accOf t id = some b ∧ b.stage = .done) ∧
    (∀ dpa cell : Nat, a.stage = .tower dpa → hostHolds s dpa = false → a.kind = .write → cellOf s dpa = some cell →
      isPoisoned s cell = true → a.data.length ≠ 64 →
      Runs (.towerLineAccess id .none) s fun t =>
        t.tw.cells = s.tw.cells ∧ ∃ b, accOf t id = some b ∧ b.stage = .failed .memory)

/-- DEEP_PORT_RESPONSE, DEEP_REQUEST_TIMEOUT, DEEP_PORT_LINK_DOWN, DEEP_PORT_LINK_RETURN, PATROL_SCRUB,
TOWER_TEMPERATURE_CHANGE (08 R179, R183, R184, R190). -/
def Obligations.DeepPortsAndTowers : Prop :=
  ∀ s : State, Awake s →
    (∀ (p : Fin 4) (id d lim off : Nat) (a : Access) (line : Bytes), AccDistinct s → Owned s id a → portUp s p = true →
      a.stage = .deep d true lim → deepPort s d = some (p.val, off) → a.kind = .read →
      Runs (.deepPortResponse p id (.data line)) s fun t =>
        ∃ b, accOf t id = some b ∧ b.stage = .done ∧ b.data = (line.drop (d % 64)).take a.len) ∧
    (∀ (p : Fin 4) (id d lim off : Nat) (a : Access), portUp s p = true → Owned s id a →
      a.stage = .deep d true lim → deepPort s d = some (p.val, off) → lim ≤ s.tb.up →
      Runs (.deepRequestTimeout p id) s fun t => t.tw.deepTimeout[p] = s.tw.deepTimeout[p] + 1) ∧
    (∀ p : Fin 4, (dport s p).up = true → Runs (.deepPortLinkDown p) s fun t => (dport t p).up = false) ∧
    (∀ p : Fin 4, (dport s p).up = false → (dport s p).enabled = true → (dport s p).trained = true →
      domainOn s 3 = true → Runs (.deepPortLinkReturn p) s fun t => (dport t p).up = true) ∧
    (∀ (k : Fin 8) (err : LineErr), domainOn s (6 + k) = true → s.tw.scrubDone[k] = false → s.tw.retPages = [] →
      s.tw.scrubPos[k] + 1 < towerLines →
      Runs (.patrolScrub k err) s fun t => t.tw.scrubPos[k] = s.tw.scrubPos[k] + 1 ∧
        ∀ x, (err ≠ .uncorrectable ∨ x / 64 ≠ scrubCell k s.tw.scrubPos[k] / 64) →
          memGet t.tw.cells x = memGet s.tw.cells x) ∧
    (∀ (k : Fin 8) (x : Int),
      Runs (.towerTemperatureChange k x) s fun t =>
        (octState t k).towerT = x ∧ t.tw.refresh2[k] = decide (85 * 16 ≤ x) ∧
          (95 * 16 ≤ x → t.tw.limited[k] = true) ∧ (x < 93 * 16 → t.tw.limited[k] = false))

/-- OP_ROWCACHE_CONFIG, OP_DEEP_PORT_CONFIG, OP_FILL, OP_PAGE_RETIRE (08 R171, R178, R187, R188). -/
def Obligations.MemoryOpcodesComplete : Prop :=
  ∀ (s : State) (c : Chan) (k : CmdHeld),
    (HasCmd s c 0x030B k → firstFail (chan s c) (rowcacheChk s k) = none →
      Runs (.opRowcacheConfig c) s fun t =>
        AnsweredLen t c k 0 16 ∧ t.tw.fullG = k.f 0 2 ∧ t.tw.quadG = k.f 2 2 ∧
          (∀ i : Fin 8, t.tw.rc[i] = k.f (4 + i) 1) ∧ t.tw.cells = s.tw.cells) ∧
    (∀ found : List DeepPortFound, HasCmd s c 0x030D k → k.f 0 1 ≤ 15 → k.f 1 1 ≤ 1 → (k.f 1 1 = 1 → k.f 0 1 = 15) →
      Reserved k [2, 3] → tierMapped s 1 = false →
      Runs (.opDeepPortConfig c found) s fun t =>
        AnsweredLen t c k 0 32 ∧ t.tw.interleave = (k.f 1 1 == 1) ∧
          ∀ p : Fin 4, (t.tw.ports[p]).enabled = bitAt (k.f 0 1) p) ∧
    (∀ lines : Nat, OthersIdle s c → HasCmd s c 0x030A k → firstFail (chan s c) (fillChk s k) = none → k.f 0 1 = 0 → k.progress = 0 →
      k.f 16 8 / 64 ≤ lines →
      Runs (.opFill c lines) s fun t => Answered t c k 0 (leBytes 8 (k.f 16 8))) ∧
    (∀ lines cell : Nat, OthersIdle s c → HasCmd s c 0x030A k → firstFail (chan s c) (fillChk s k) = none → k.f 0 1 = 0 →
      k.progress = 0 → 1 ≤ lines → k.f 16 8 = 64 → cellOf s (k.f 8 8) = some cell → k.payload.length = 32 →
      Memory.wf s.tw.cells = true →
      Runs (.opFill c lines) s fun t =>
        memRead t.tw.cells cell 64 = (List.replicate 8 ((k.payload.drop 24).take 8)).flatten ∧
          ∀ a, (a < cell ∨ cell + 64 ≤ a) → memGet t.tw.cells a = memGet s.tw.cells a) ∧
    (∀ lines : Nat, OthersIdle s c → HasCmd s c 0x030A k → firstFail (chan s c) (fillChk s k) = none → k.f 0 1 = 0 → k.progress = 0 →
      lines < k.f 16 8 / 64 →
      Runs (.opFill c lines) s fun t => (chan t c).cmd = some { k with begun := true, progress := lines }) ∧
    (∀ lines : Nat, Awake s → mpServes s = true → (chan s c).cmd = some k → k.opcode.toNat = 0x030A → k.ready = true →
      k.begun = true → Memory.wf (chan s c).resp = true → k.f 0 1 = 1 → k.ending = none → k.f 16 8 % 64 = 0 →
      k.progress = k.f 16 8 / 64 → allEnded (accsOf s (isFill c)) = true → fillBad (accsOf s (isFill c)) = none →
      Runs (.opFill c lines) s fun t => Answered t c k 0 (leBytes 8 (k.f 16 8))) ∧
    (∀ lines j : Nat, Awake s → mpServes s = true → (chan s c).cmd = some k → k.opcode.toNat = 0x030A → k.ready = true →
      k.begun = true → Memory.wf (chan s c).resp = true → k.f 0 1 = 1 → k.ending = none →
      allEnded (accsOf s (isFill c)) = true → fillBad (accsOf s (isFill c)) = some j →
      Runs (.opFill c lines) s fun t => Answered t c k 0x000D (leBytes 8 (64 * j))) ∧
    (OthersIdle s c → HasCmd s c 0x030C k → firstFail (chan s c) (retireChk s k) = none → k.f 0 1 = 0 → pageListed s false (k.f 8 8) = false →
      Runs (.opPageRetire c) s fun t =>
        Answered t c k 0 (leBytes 4 (retiredCount s + 1)) ∧
          t.tw.retPages = s.tw.retPages ++ [pageBlocks s (k.f 8 8)]) ∧
    (∀ p off : Nat, OthersIdle s c → HasCmd s c 0x030C k → firstFail (chan s c) (retireChk s k) = none → k.f 0 1 = 1 →
      pageListed s true (k.f 8 8) = false → deepPort s (k.f 8 8) = some (p, off) →
      Runs (.opPageRetire c) s fun t =>
        Answered t c k 0 (leBytes 4 (retiredCount s + 1)) ∧ t.tw.retDeep = s.tw.retDeep ++ [(p, off / 4096 * 4096)]) ∧
    (OthersIdle s c → HasCmd s c 0x030C k → firstFail (chan s c) (retireChk s k) = none → pageListed s (k.f 0 1 == 1) (k.f 8 8) = true →
      Runs (.opPageRetire c) s fun t => Answered t c k 0 (leBytes 4 (retiredCount s)) ∧ t.tw = s.tw)

/-! ### 09: cores and banks -/

/-- CORE_FENCE, OP_CORE_FENCE: the fence of a core and of its partner (09 R204 to R206). -/
def Obligations.CoresAreFenced : Prop :=
  ∀ s : State,
    (∀ n : Fin 32, Awake s → mpServes s = true → (coreOf s n).fenced = false →
      Runs (.coreFence n .internal) s fun t =>
        (coreOf t n).fenced = true ∧ (coreOf t n).cause = 3 ∧ (coreOf t n).stage = none ∧ (coreOf t n).cops = [] ∧
          (∀ b : Fin 34, ((coreOf t n).banks[b]).ownerB = 0x02 ∧ ((coreOf t n).banks[b]).pend = none) ∧
          (∀ k : Fin 4, (threadOf t n k).state = .unused)) ∧
    (∀ n m : Fin 32, Awake s → mpServes s = true → (coreOf s n).fenced = false → isBridled s n = true → m ≠ n →
      m.val / 2 = n.val / 2 →
      Runs (.coreFence n .internal) s fun t => (coreOf t m).fenced = true ∧ (coreOf t m).cause = 4) ∧
    (∀ (n : Fin 32) (bank word : Nat) (b : Bool), Awake s → mpServes s = true → (coreOf s n).fenced = false → bank < 34 →
      word < (if bank < 32 then 196608 else 16384) → (coreOf s n).capValid = false →
      Runs (.coreFence n (.spadParity bank word b)) s fun t =>
        (coreOf t n).fenced = true ∧ (coreOf t n).cause = 2 ∧ (coreOf t n).capValid = true ∧
          (coreOf t n).capBank.toNat = bank ∧ (coreOf t n).capWord.toNat = word ∧ (coreOf t n).capPortB = (b && decide (32 ≤ bank))) ∧
    (∀ (n : Fin 32) (cause : FenceCause), Awake s → (coreOf s n).fenced = true → cause = .internal →
      Runs (.coreFence n cause) s fun t => t = s) ∧
    (∀ (c : Chan) (k : CmdHeld) (n : Fin 32), OthersIdle s c → HasCmd s c 0x0403 k → k.f 0 1 = n.val → Reserved k [1, 2, 3] →
      (coreOf s n).fenced = false →
      Runs (.opCoreFence c) s fun t =>
        Answered t c k 0 (leBytes 4 (fencedMask t)) ∧ (coreOf t n).fenced = true ∧ (coreOf t n).cause = 1)

/-- HANDOVER_COMPLETE, RECLAIM_COMPLETE, OP_CORE_BRIDLE, OP_CORE_UNBRIDLE, OP_CORE_STATUS (09 R200, R202, R212, R213, R218). -/
def Obligations.BanksAndBridling : Prop :=
  ∀ s : State,
    (∀ (n : Fin 32) (b : Fin 34) (code : Byte), Awake s → (bankOf s n b).pend = some code →
      (bankOf s n b).reclaim = false → handoverWaits s n b = false →
      Runs (.handoverComplete n b) s fun t =>
        bankOf t n b = ⟨code, (bankOf s n b).ownerA, none, false, none, (bankOf s n b).mark⟩ ∧
          ∀ d : Fin 34, d ≠ b → bankOf t n d = bankOf s n d) ∧
    (∀ (n : Fin 32) (b : Fin 34) (code : Byte), Awake s → (bankOf s n b).pend = some code →
      (bankOf s n b).reclaim = false → handoverWaits s n b = false →
      (∀ k : Fin 4, sureStores (threadOf s (leadOf s n) k) = []) →
      Runs (.handoverComplete n b) s fun t =>
        bankOf t n b = ⟨code, (bankOf s n b).ownerA, none, false, none, (bankOf s n b).mark⟩ ∧
          t = { s with cores := t.cores } ∧ (∀ m : Fin 32, m ≠ n → t.cores[m] = s.cores[m]) ∧
          ∀ d : Fin 34, d ≠ b → bankOf t n d = bankOf s n d) ∧
    (∀ (n : Fin 32) (b : Fin 34), Awake s → (bankOf s n b).pend = some 0x01 → (bankOf s n b).reclaim = true →
      reclaimFree s n b = true →
      Runs (.reclaimComplete n b) s fun t => bankOf t n b = ⟨0x01, (bankOf s n b).ownerA, none, false, none,
        (bankOf s n b).mark⟩) ∧
    (∀ (c : Chan) (k : CmdHeld) (p : Fin 16), OthersIdle s c → HasCmd s c 0x0401 k → k.f 0 1 = p.val → k.f 1 1 ≤ 1 → Reserved k [2, 3] →
      s.bridled[p] = false → coreIdle s (2 * p) = true → coreIdle s (2 * p + 1) = true → domainOn s (14 + p) = true →
      Runs (.opCoreBridle c) s fun t =>
        Answered t c k 0 (layout 4 [(0, 2, bridledMask t)]) ∧ t.bridled = s.bridled.set p true ∧
          (coreOf t (2 * p)).held = false ∧ (coreOf t (2 * p + 1)).held = false) ∧
    (∀ (c : Chan) (k : CmdHeld) (p : Fin 16), OthersIdle s c → HasCmd s c 0x0402 k → k.f 0 1 = p.val → k.f 1 1 ≤ 1 → Reserved k [2, 3] →
      s.bridled[p] = true → coreIdle s (2 * p) = true → coreIdle s (2 * p + 1) = true →
      Runs (.opCoreUnbridle c) s fun t =>
        Answered t c k 0 (layout 4 [(0, 2, bridledMask t)]) ∧ t.bridled = s.bridled.set p false) ∧
    (∀ (c : Chan) (k : CmdHeld) (p : Fin 16), OthersIdle s c → HasCmd s c 0x0401 k → k.f 0 1 = p.val → k.f 1 1 = 1 → Reserved k [2, 3] →
      s.bridled[p] = false → coreIdle s (2 * p) = false →
      Runs (.opCoreBridle c) s fun t =>
        Answered t c k 5 (layout 4 [(0, 2, bridledMask s)]) ∧ t.bridled = s.bridled ∧ (coreOf t (2 * p)).held = true ∧
          (coreOf t (2 * p + 1)).held = true) ∧
    (∀ (c : Chan) (k : CmdHeld) (p : Fin 16), OthersIdle s c → HasCmd s c 0x0401 k → k.f 0 1 = p.val → k.f 1 1 = 2 → Reserved k [2, 3] →
      Runs (.opCoreBridle c) s fun t =>
        Answered t c k 0 (layout 4 [(0, 2, bridledMask s)]) ∧ t.bridled = s.bridled ∧ (coreOf t (2 * p)).held = false) ∧
    (∀ (c : Chan) (k : CmdHeld) (n : Fin 32), OthersIdle s c → HasCmd s c 0x0404 k → k.f 0 1 = n.val → Reserved k [1, 2, 3] →
      Runs (.opCoreStatus c) s fun t =>
        Answered t c k 0 (layout 32 [(0, 4, coreStatus s n), (4, 4, fenceInfo (coreOf s n)),
          (8, 8, arrayWidth (coreOf s n)), (16, 4, (coreOf s n).squashed.toNat), (20, 4, parityCapture (coreOf s n)),
          (24, 8, notLocal (coreOf s n))]) ∧ t.cores = s.cores)

/-! ### 10: sequencers -/

/-- ADD to MAXU, ADDI to SRAI and LUI: RD takes the result, G0 discards it, and nothing else changes but the thread's PC
(10 R221, R224, R225). MUL, MULU, PRODUCT_LAND, MFPL, MFPH, MFLK, MTLK, RDTIME: a product is readable from the fourth
instruction after its own, and RDTIME reads one instant (02 R29; 10 R222, R223, R225). -/
def Obligations.RegisterArithmetic : Prop :=
  (
    ∀ (s : State) (n : Fin 32) (t : Fin 4) (w : Nat) (r : Regs) (a b : Dword), r.get (wRa w) = a → r.get (wRb w) = b →
      (Stands s n t 0x00 w r → Writes (.seqAdd n t) s n t r (wRd w) (a + b)) ∧
      (Stands s n t 0x01 w r → Writes (.seqSub n t) s n t r (wRd w) (a - b)) ∧
      (Stands s n t 0x02 w r → Writes (.seqAnd n t) s n t r (wRd w) (a &&& b)) ∧
      (Stands s n t 0x03 w r → Writes (.seqOr n t) s n t r (wRd w) (a ||| b)) ∧
      (Stands s n t 0x04 w r → Writes (.seqXor n t) s n t r (wRd w) (a ^^^ b)) ∧
      (Stands s n t 0x05 w r → Writes (.seqSll n t) s n t r (wRd w) (a <<< (b.toNat % 64))) ∧
      (Stands s n t 0x06 w r → Writes (.seqSrl n t) s n t r (wRd w) (a >>> (b.toNat % 64))) ∧
      (Stands s n t 0x07 w r → Writes (.seqSra n t) s n t r (wRd w) (a.sshiftRight (b.toNat % 64))) ∧
      (Stands s n t 0x08 w r → Writes (.seqSlt n t) s n t r (wRd w) (if a.slt b then 1 else 0)) ∧
      (Stands s n t 0x09 w r → Writes (.seqSltu n t) s n t r (wRd w) (if a < b then 1 else 0)) ∧
      (Stands s n t 0x0A w r → Writes (.seqMin n t) s n t r (wRd w) (if a.slt b then a else b)) ∧
      (Stands s n t 0x0B w r → Writes (.seqMax n t) s n t r (wRd w) (if a.slt b then b else a)) ∧
      (Stands s n t 0x0C w r → Writes (.seqMinu n t) s n t r (wRd w) (if a < b then a else b)) ∧
      (Stands s n t 0x0D w r → Writes (.seqMaxu n t) s n t r (wRd w) (if a < b then b else a)) ∧
      (Stands s n t 0x40 w r → Writes (.seqAddi n t) s n t r (wRd w) (a + (BitVec.ofNat 16 w).signExtend 64)) ∧
      (Stands s n t 0x80 w r → Writes (.seqAndi n t) s n t r (wRd w) (a &&& (BitVec.ofNat 16 w).setWidth 64)) ∧
      (Stands s n t 0xC0 w r → Writes (.seqOri n t) s n t r (wRd w) (a ||| (BitVec.ofNat 16 w).setWidth 64)) ∧
      (Stands s n t 0x100 w r → Writes (.seqXori n t) s n t r (wRd w) (a ^^^ (BitVec.ofNat 16 w).setWidth 64)) ∧
      (Stands s n t 0x140 w r → Writes (.seqSlli n t) s n t r (wRd w) (a <<< (w % 64))) ∧
      (Stands s n t 0x180 w r → Writes (.seqSrli n t) s n t r (wRd w) (a >>> (w % 64))) ∧
      (Stands s n t 0x1C0 w r → Writes (.seqSrai n t) s n t r (wRd w) (a.sshiftRight (w % 64))) ∧
      (Stands s n t 0x280 w r →
        Writes (.seqLui n t) s n t r (wRd w) ((BitVec.ofNat 16 w ++ (0 : BitVec 16)).signExtend 64)) ∧
      (∀ v : Dword, r.put 0 v = r ∧ (r.put (wRd w) v).get 0 = 0)) ∧
  (
    ∀ (s : State) (n : Fin 32) (t : Fin 4) (w : Nat) (r : Regs) (a b : Dword), r.get (wRa w) = a → r.get (wRb w) = b →
      (Stands s n t 0x200 w r →
        Runs (.seqMul n t) s fun u => Executed s u n t (Regs.at_ ⟨r.g, r.lk, r.ph, r.pl, r.pc, r.num, r.prods ++
          [⟨r.num + 4, (a.signExtend 128 * b.signExtend 128).extractLsb' 64 64,
            (a.signExtend 128 * b.signExtend 128).extractLsb' 0 64⟩]⟩ (r.pc + 4))) ∧
      (Stands s n t 0x201 w r →
        Runs (.seqMulu n t) s fun u => Executed s u n t (Regs.at_ ⟨r.g, r.lk, r.ph, r.pl, r.pc, r.num, r.prods ++
          [⟨r.num + 4, (a.setWidth 128 * b.setWidth 128).extractLsb' 64 64,
            (a.setWidth 128 * b.setWidth 128).extractLsb' 0 64⟩]⟩ (r.pc + 4))) ∧
      (∀ p : Product, Awake s → (threadOf s n t).regs = r → r.prods = [p] → p.landAt ≤ r.num →
        Runs (.productLand n t) s fun u =>
          (threadOf u n t).regs = ⟨r.g, r.lk, p.ph, p.pl, r.pc, r.num, []⟩ ∧ OnlyThread s u n t) ∧
      (∀ p : Product, Awake s → (threadOf s n t).regs = r → r.prods = [p] → r.num < p.landAt →
        Runs (.productLand n t) s fun u => (threadOf u n t).regs = r) ∧
      (Stands s n t 0x240 w r → Writes (.seqMfpl n t) s n t r (wRd w) r.pl) ∧
      (Stands s n t 0x241 w r → Writes (.seqMfph n t) s n t r (wRd w) r.ph) ∧
      (Stands s n t 0x242 w r → Writes (.seqMflk n t) s n t r (wRd w) r.lk) ∧
      (Stands s n t 0x243 w r →
        Runs (.seqMtlk n t) s fun u =>
          Executed s u n t (Regs.at_ ⟨r.g, a, r.ph, r.pl, r.pc, r.num, r.prods⟩ (r.pc + 4))) ∧
      (Stands s n t 0x247 w r → wRd w ≠ wRb w →
        Runs (.seqRdtime n t) s fun u => ∃ q : Regs, Executed s u n t (q.at_ (r.pc + 4)) ∧
          (wRd w ≠ 0 → q.get (wRd w) = dtNs s) ∧ (wRb w ≠ 0 → q.get (wRb w) = (dtFrac s).setWidth 64) ∧
            ∀ i : Nat, i ≠ wRd w → i ≠ wRb w → q.get i = r.get i))

/-- LD, LW, LBU, ST, SW, SB: a load reads its bytes, zero-extended; a confirmed store writes exactly its bytes; a store behind
an unresolved branch is held; the checks come in the order of 10 R226 (10 R225 to R227, R236). -/
def Obligations.LoadsAndStores : Prop :=
  ∀ (s : State) (n : Fin 32) (t : Fin 4) (w spa : Nat) (r : Regs),
    ((r.get (wRa w) + (BitVec.ofNat 16 w).signExtend 64).toNat = spa) →
    (∀ (i : Instr) (key len : Nat),
      (i, key, len) ∈ [(Instr.seqLd n t, 0x400, 8), (.seqLw n t, 0x440, 4), (.seqLbu n t, 0x480, 1)] →
      Stands s n t key w r →
      (spa % len = 0 → inSpad s n spa len = true → rangeSays s n spa len none = none → (threadOf s n t).stores = [] →
        Writes i s n t r (wRd w) (BitVec.ofNat 64 (leNat (spadRead s n spa len)))) ∧
      (∀ st : HeldStore, spa % len = 0 → inSpad s n spa len = true → rangeSays s n spa len none = none →
        (threadOf s n t).stores = [st] → st.spa = spa → st.data.length = len →
        Writes i s n t r (wRd w) (BitVec.ofNat 64 (leNat st.data))) ∧
      (spa % len ≠ 0 → Confirmed s n t → Runs i s fun u => Faulted u n t 0x03 r.pc spa) ∧
      (spa % len = 0 → inSpad s n spa len = false → Confirmed s n t → Runs i s fun u => Faulted u n t 0x04 r.pc spa) ∧
      (∀ a : Nat, spa % len = 0 → inSpad s n spa len = true → rangeSays s n spa len none = some (a, .notOwner) →
        Confirmed s n t → Runs i s fun u => Faulted u n t 0x05 r.pc spa) ∧
      (∀ a : Nat, spa % len = 0 → inSpad s n spa len = true → rangeSays s n spa len none = some (a, .held) →
        Runs i s fun u => u = s)) ∧
    (∀ (i : Instr) (key len : Nat),
      (i, key, len) ∈ [(Instr.seqSt n t, 0x500, 8), (.seqSw n t, 0x540, 4), (.seqSb n t, 0x580, 1)] →
      Stands s n t key w r → spa % len = 0 → inSpad s n spa len = true → rangeSays s n spa len none = none →
      (∀ (m : Fin 32) (loc : Nat), Confirmed s n t → spaAt s n spa = some (m.val, loc) → Memory.wf (coreOf s m).spad = true →
        Runs i s fun u =>
          ThreadNow s u n t (r.at_ (r.pc + 4)) ∧ u = { s with cores := u.cores } ∧
            memRead (coreOf u m).spad loc len = leBytes len (r.get (wRd w)).toNat ∧
            ∀ (k : Fin 32) (a : Nat), (k ≠ m ∨ a < loc ∨ loc + len ≤ a) →
              memGet (coreOf u k).spad a = memGet (coreOf s k).spad a) ∧
      ((threadOf s n t).branches ≠ [] →
        Runs i s fun u =>
          (threadOf u n t).regs = r.at_ (r.pc + 4) ∧ OnlyThread s u n t ∧ u = { s with cores := u.cores } ∧
            (threadOf u n t).stores = (threadOf s n t).stores ++ [⟨r, spa,
              leBytes len (r.get (wRd w)).toNat, (threadOf s n t).branches.length⟩])) ∧
    (∀ (i : Instr) (key len : Nat),
      (i, key, len) ∈ [(Instr.seqSt n t, 0x500, 8), (.seqSw n t, 0x540, 4), (.seqSb n t, 0x580, 1)] →
      Stands s n t key w r → spa % len ≠ 0 → Confirmed s n t → Runs i s fun u => Faulted u n t 0x03 r.pc spa)

/-- BEQ to BGEU, J, CALL, JR, CALLR, RET: the thread goes on at the target or the next word; a conditional branch or RET may
be run past as predicted, and saves the registers it comes back to (10 R224, R225, R234). -/
def Obligations.JumpsAndBranches : Prop :=
  ∀ (s : State) (n : Fin 32) (t : Fin 4) (w dst : Nat) (r : Regs) (a b : Dword), r.get (wRa w) = a →
    r.get (wRd w) = b → dst < istoreSize →
    (∀ (i : Instr) (key : Nat) (taken : Bool), (i, key, taken) ∈ [(Instr.seqBeq n t, 0x600, decide (a = b)),
        (.seqBne n t, 0x640, decide (a ≠ b)), (.seqBlt n t, 0x680, a.slt b), (.seqBge n t, 0x6C0, !a.slt b),
        (.seqBltu n t, 0x700, decide (a < b)), (.seqBgeu n t, 0x740, decide (b ≤ a))] →
      Stands s n t key w r → (dst : Int) = r.pc + 4 * (BitVec.ofNat 16 w).toInt →
      (specOff s n = true → Runs i s fun u => Executed s u n t (r.at_ (if taken then dst else r.pc + 4))) ∧
      (specOff s n = false → Runs i s fun u => ∃ p : Nat, (p = dst ∨ p = r.pc + 4) ∧ OnlyThread s u n t ∧
        (threadOf u n t).regs = r.at_ p ∧ (threadOf u n t).branches = (threadOf s n t).branches ++
          [⟨r.pc, p, if taken then dst else r.pc + 4, r.at_ (if taken then dst else r.pc + 4)⟩])) ∧
    (Stands s n t 0x780 w r → (dst : Int) = r.pc + 4 * (BitVec.ofNat 26 w).toInt →
      Runs (.seqJ n t) s fun u => Executed s u n t (r.at_ dst)) ∧
    (Stands s n t 0x7C0 w r → (dst : Int) = r.pc + 4 * (BitVec.ofNat 26 w).toInt →
      Runs (.seqCall n t) s fun u => Executed s u n t
        (Regs.at_ ⟨r.g, BitVec.ofNat 64 (r.pc + 4), r.ph, r.pl, r.pc, r.num, r.prods⟩ dst)) ∧
    (Stands s n t 0x244 w r → a.toNat = dst → Runs (.seqJr n t) s fun u => Executed s u n t (r.at_ dst)) ∧
    (Stands s n t 0x245 w r → a.toNat = dst →
      Runs (.seqCallr n t) s fun u => Executed s u n t
        (Regs.at_ ⟨r.g, BitVec.ofNat 64 (r.pc + 4), r.ph, r.pl, r.pc, r.num, r.prods⟩ dst)) ∧
    (Stands s n t 0x246 w r → r.lk.toNat = dst → specOff s n = true →
      Runs (.seqRet n t) s fun u => Executed s u n t (r.at_ dst)) ∧
    (Stands s n t 0x246 w r → r.lk.toNat = dst → specOff s n = false →
      Runs (.seqRet n t) s fun u => ∃ p : Nat, OnlyThread s u n t ∧ (threadOf u n t).regs = r.at_ p ∧
        (threadOf u n t).branches = (threadOf s n t).branches ++ [⟨r.pc, p, dst, r.at_ dst⟩])

/-- BRANCH_RESOLVE, SQUASHED_OPERATION_BOUNDARY: a misprediction restores the registers and drops what is younger; a right
prediction lets the oldest held stores take effect; a squashed operation is counted (10 R227, R234, R235, R238). -/
def Obligations.SpeculationResolves : Prop :=
  ∀ (s : State) (n : Fin 32) (t : Fin 4), Awake s →
    (∀ (b : Branch) (l : List Branch), (threadOf s n t).branches = b :: l → b.predicted ≠ b.actual →
      b.actual < istoreSize →
      Runs (.branchResolve n t) s fun u =>
        (threadOf u n t).regs = b.saved ∧ (threadOf u n t).branches = [] ∧
          (threadOf u n t).stores = sureStores (threadOf s n t) ∧
          (∀ m : Fin 32, (coreOf u m).spad = (coreOf s m).spad) ∧
          ∀ o ∈ (coreOf u n).cops, o.thread = t.val → 1 ≤ o.depth → o.phase = .squashed ∧ o.staging = []) ∧
    (∀ (b : Branch) (l : List Branch), (threadOf s n t).branches = b :: l → b.predicted = b.actual →
      (threadOf s n t).stores = [] → (coreOf s n).cops = [] →
      Runs (.branchResolve n t) s fun u =>
        (threadOf u n t).regs = (threadOf s n t).regs ∧ (threadOf u n t).branches = l ∧ OnlyThread s u n t) ∧
    (∀ (b : Branch) (l : List Branch) (st : HeldStore) (m : Fin 32) (loc : Nat), (threadOf s n t).branches = b :: l →
      b.predicted = b.actual → (threadOf s n t).stores = [st] → st.depth = 1 → (coreOf s n).cops = [] →
      rangeSays s n st.spa st.data.length none = none → spaAt s n st.spa = some (m.val, loc) →
      st.spa % 8 + st.data.length ≤ 8 → Memory.wf (coreOf s m).spad = true →
      Runs (.branchResolve n t) s fun u =>
        memRead (coreOf u m).spad loc st.data.length = st.data ∧ (threadOf u n t).stores = []) ∧
    (∀ (id : Nat) (o : CopOp), opOf s n id = some o → o.phase = .squashed → readsBack s n id = true →
      Runs (.squashedOperationBoundary n id) s fun u =>
        opOf u n id = none ∧ (coreOf u n).squashed = (coreOf s n).squashed + 1)

/-- SPB, CDRAIN, HALT, BRK, and every word that is not legal: what ends or holds a thread, and faults (10 R219, R224, R225,
R239 to R241; 13 R310). -/
def Obligations.ThreadsEndAndFault : Prop :=
  ∀ (s : State) (n : Fin 32) (t : Fin 4) (w : Nat) (r : Regs),
    (Stands s n t 0x24A w r → Confirmed s n t → Runs (.seqSpb n t) s fun u => Executed s u n t (r.at_ (r.pc + 4))) ∧
    (Stands s n t 0x24A w r → ¬ Confirmed s n t → Runs (.seqSpb n t) s fun u => u = s) ∧
    (Stands s n t 0x249 w r → Confirmed s n t → opsOf s n t = [] →
      Runs (.seqCdrain n t) s fun u => Executed s u n t (r.at_ (r.pc + 4))) ∧
    (Stands s n t 0x249 w r → Confirmed s n t → opsOf s n t ≠ [] →
      Runs (.seqCdrain n t) s fun u =>
        (threadOf u n t).state = .stalled ∧ (threadOf u n t).regs = (threadOf s n t).regs ∧ OnlyThread s u n t) ∧
    (Stands s n t 0x24B w r → Confirmed s n t →
      Runs (.seqHalt n t) s fun u =>
        (threadOf u n t).state = .halted ∧ (threadOf u n t).app = (r.get 1).setWidth 16 ∧ OnlyThread s u n t ∧
          u = { s with cores := u.cores }) ∧
    (Stands s n t 0x24C w r → Confirmed s n t →
      Runs (.seqBrk n t) s fun u =>
        Faulted u n t 0x0C r.pc 0 ∧ ∀ k : Fin 4, k ≠ t → (threadOf s n k).state.active = true →
          (threadOf u n k).state = .halted) ∧
    (∀ (x : Slot) (g : StageRun), Stands s n t 0x24C w r → Confirmed s n t → (coreOf s n).stage = some g →
      slotOf s g.slot = some x → x.fin = none →
      Runs (.seqBrk n t) s fun u => ∃ y e, slotOf u g.slot = some y ∧ y.fin = some e ∧ e.status = 8 ∧
        e.detail.toNat = 0x0C + 256 * n.val + 8192 * t.val) ∧
    (Awake s → canIssue s n t = true → landDue (threadOf s n t).regs = r → r.pc % 4 = 0 →
      legalWord (instrAt s n r.pc) = false → Confirmed s n t →
      Runs (.seqAdd n t) s fun u => Faulted u n t 0x01 r.pc 0) ∧
    (Awake s → canIssue s n t = true → landDue (threadOf s n t).regs = r → r.pc % 4 ≠ 0 → Confirmed s n t →
      Runs (.seqAdd n t) s fun u => Faulted u n t 0x02 r.pc 0)

/-- SRD, SIG, SSET, WARM, WBLK, WAIT, SYNC_WAIT_TIMEOUT: counters of sync objects, and waits on them (10 R231 to R233; 13
R319 to R321). -/
def Obligations.SequencerSync : Prop :=
  ∀ (s : State) (n : Fin 32) (t : Fin 4),
    (∀ (i : Nat) (x : Wait), Awake s → (threadOf s n t).waits[i]? = some x → x.settled = none →
      late s x.deadline = true →
      Runs (.syncWaitTimeout n t i) s fun u =>
        (threadOf u n t).waits[i]? = some { x with settled := some false } ∧
          ∀ j : Nat, j ≠ i → (threadOf u n t).waits[j]? = (threadOf s n t).waits[j]?) ∧
    ∀ (w o : Nat) (r : Regs) (y : SyncObj) (a v d : Dword),
    a.toNat = o → r.get (wRa w) = a → r.get (wRb w) = v → r.get (wRc w) = d → o < 8192 → syncOf s o = some y →
    y.ctx = stageCtx s n → Confirmed s n t →
    (Stands s n t 0x248 w r → Writes (.seqSrd n t) s n t r (wRd w) y.counter) ∧
    (Stands s n t 0x300 w r →
      Runs (.seqSig n t) s fun u =>
        syncOf u o = some { y with counter := y.counter + v } ∧ (∀ p : Nat, p ≠ o → syncOf u p = syncOf s p) ∧
          (threadOf u n t).regs = r.at_ (r.pc + 4)) ∧
    (Stands s n t 0x301 w r →
      Runs (.seqSset n t) s fun u =>
        syncOf u o = some { y with counter := v } ∧ (∀ p : Nat, p ≠ o → syncOf u p = syncOf s p) ∧
          (threadOf u n t).regs = r.at_ (r.pc + 4)) ∧
    (Stands s n t 0x302 w r → o / 256 = n.val → (threadOf s n t).waits.length < 16 →
      Runs (.seqWarm n t) s fun u =>
        (threadOf u n t).regs = r.at_ (r.pc + 4) ∧ OnlyThread s u n t ∧
          (threadOf u n t).waits = (threadOf s n t).waits ++ [⟨o, v, d, if v ≤ y.counter then some true
            else if late s d = true then some false else none⟩]) ∧
    (Stands s n t 0x302 w r → o / 256 = n.val → 16 ≤ (threadOf s n t).waits.length →
      Runs (.seqWarm n t) s fun u => Faulted u n t 0x09 r.pc 0) ∧
    (Stands s n t 0x303 w r → (threadOf s n t).block = none → (∀ x ∈ (threadOf s n t).waits, x.settled = some true) →
      (threadOf s n t).waits.length ≤ 16 →
      Runs (.seqWblk n t) s fun u =>
        (threadOf u n t).waits = [] ∧ (threadOf u n t).regs =
          (r.put (wRd w) (BitVec.ofNat 64 (2 ^ (threadOf s n t).waits.length - 1))).at_ (r.pc + 4)) ∧
    (Stands s n t 0x303 w r → (threadOf s n t).block = none → (threadOf s n t).waits ≠ [] →
      (∀ x ∈ (threadOf s n t).waits, x.settled = none) →
      Runs (.seqWblk n t) s fun u => (threadOf u n t).state = .waiting ∧ (threadOf u n t).regs = (threadOf s n t).regs) ∧
    (Stands s n t 0x304 w r → o / 256 = n.val → (threadOf s n t).waits.length < 16 → (threadOf s n t).block = none →
      v ≤ y.counter → Runs (.seqWait n t) s fun u => Executed s u n t ((r.put (wRd w) 0).at_ (r.pc + 4))) ∧
    (Stands s n t 0x304 w r → o / 256 = n.val → (threadOf s n t).waits.length < 16 → (threadOf s n t).block = none →
      y.counter < v → late s d = true →
      Runs (.seqWait n t) s fun u => Executed s u n t ((r.put (wRd w) 1).at_ (r.pc + 4)))

/-- CRR, CRW, COP: core registers, bank owner codes, and the issue of a coprocessor operation (09 R199, R200, R202; 10 R228,
R229). -/
def Obligations.CoreRegistersAndCop : Prop :=
  ∀ (s : State) (n : Fin 32) (t : Fin 4) (w : Nat) (r : Regs),
    (Stands s n t 0xA00 w r → bitAt w 10 = false →
      Writes (.seqCrr n t) s n t r (wRd w) (BitVec.ofNat 64 (coreReg s n (w % 1024 * 4)))) ∧
    (Stands s n t 0xA00 w r → bitAt w 10 = true → isBridled s n = true → n.val % 2 = 0 →
      Writes (.seqCrr n t) s n t r (wRd w) (BitVec.ofNat 64 (coreReg s (n.val + 1) (w % 1024 * 4)))) ∧
    (Stands s n t 0xA00 w r → bitAt w 10 = true → isBridled s n = false → Confirmed s n t →
      Runs (.seqCrr n t) s fun u => Faulted u n t 0x01 r.pc 0) ∧
    (∀ (b : Fin 34) (code : Byte), Stands s n t 0xA40 w r → Confirmed s n t → bitAt w 10 = false →
      w % 1024 = 0x40 + b.val → (r.get (wRd w)).setWidth 8 = code → 0x10 ≤ code.toNat → code.toNat ≤ 0x17 →
      (bankOf s n b).ownerB = 0x01 → (bankOf s n b).pend = none →
      Runs (.seqCrw n t) s fun u =>
        bankOf u n b = ⟨0x01, (bankOf s n b).ownerA, some code, false, some (n.val, t.val), (coreOf s n).nextOp⟩ ∧
          (threadOf u n t).regs = r.at_ (r.pc + 4)) ∧
    (∀ (b : Fin 34) (code : Byte), Stands s n t 0xA40 w r → Confirmed s n t → bitAt w 10 = false →
      w % 1024 = 0x40 + b.val → (r.get (wRd w)).setWidth 8 = code → code = 0x01 →
      0x10 ≤ (bankOf s n b).ownerB.toNat → (bankOf s n b).pend = none →
      Runs (.seqCrw n t) s fun u =>
        (bankOf u n b).pend = some 0x01 ∧ (bankOf u n b).reclaim = true ∧ (bankOf u n b).ownerB = (bankOf s n b).ownerB) ∧
    (∀ (d : Bytes) (side : Nat), Stands s n t 0xE00 w r → (threadOf s n t).stores = [] →
      readDesc s n (bitsAt w 25 22) (r.get (bitsAt w 21 17)).toNat = .ok d → side = opSide s n (bitsAt w 25 22) d →
      (bitAt side 0 = true → copCount s n < 128) → (bitAt side 1 = true → copCount s (n.val + 1) < 128) →
      ((opsOf s n t).filter fun o => 1 ≤ o.depth).length < 4 →
      Runs (.seqCop n t) s fun u =>
        (coreOf u n).cops = (coreOf s n).cops ++ [⟨(coreOf s n).nextOp, bitsAt w 25 22, side, t.val, r.pc, r.num, d,
          (threadOf s n t).branches.length, .queued, 0, 0, 0, [], none, [], r⟩] ∧ (coreOf u n).nextOp = (coreOf s n).nextOp + 1 ∧
          (threadOf u n t).regs = r.at_ (r.pc + 4))

/-! ### 11: the coprocessors -/

/-- MM_LOAD, MM_RUN: the weight tile goes to the shadow registers; a run on formats that do not meet writes nothing and ends
0x0012; a run writes its tokens' outputs; a column fault is noted; a run whose OFMT 2 does not fit N is refused (11 R244,
R248, R252, R254, R255, R259, R268). -/
def Obligations.MatrixOperations : Prop :=
  ∀ (s : State) (n : Fin 32) (o : CopOp), o.depth = 0 →
    (OpGo s n o.id 0x0001 o (mmLoadRanges o.desc) → loadsDone s n o.id = true →
      Runs (.mmLoad n o.id) s fun u =>
        OpDone s u n o [] 0 0 ∧ (coreOf u n).active = (coreOf s n).active ∧
          (coreOf u n).shadow.fmt.toNat = fieldAt o.desc 48 1 ∧ (coreOf u n).shadow.n = fieldAt o.desc 46 2 ∧
          (isBridled s n = true → n.val < 31 → (coreOf u (n.val + 1)).shadow = (coreOf u n).shadow) ∧
          ∀ c r : Nat, c < fieldAt o.desc 46 2 → r < 256 →
            (((coreOf u n).shadow.cols[c]?).bind fun x => x.codes[r]?) = some
              (if fieldAt o.desc 44 2 ≤ r then 0
               else if fieldAt o.desc 49 1 = 0 then
                 elemOf (fieldAt o.desc 48 1) (spadRead s n (fieldAt o.desc 32 4 + r * fieldAt o.desc 36 4)
                   (fmtBytes (fieldAt o.desc 48 1) (fieldAt o.desc 46 2))) c
               else elemOf (fieldAt o.desc 48 1) (spadRead s n (fieldAt o.desc 32 4 + c * fieldAt o.desc 36 4)
                 (fmtBytes (fieldAt o.desc 48 1) (fieldAt o.desc 44 2))) r)) ∧
    (∀ bad : Option (Nat × Nat), RunGo s n o false →
      (fmtsMeet (coreOf s n).active.fmt.toNat (fieldAt o.desc 72 1) = false ∨
        (isBridled s n = true ∧ fmtsMeet (coreOf s (n.val + 1)).active.fmt.toNat (fieldAt o.desc 72 1) = false)) →
      Runs (.mmRun n o.id bad) s fun u => OpDone s u n o [] 0x0012 (coreOf s n).active.fmt.toNat) ∧
    (∀ bad : Option (Nat × Nat), RunGo s n o false →
      rangesFault s n o.id (mmRunWrites s n o.desc (coreOf s n).active.n) = none →
      fmtsMeet (coreOf s n).active.fmt.toNat (fieldAt o.desc 72 1) = true →
      (isBridled s n = true → fmtsMeet (coreOf s (n.val + 1)).active.fmt.toNat (fieldAt o.desc 72 1) = true) →
      faultCol s n bad = none →
      Runs (.mmRun n o.id bad) s fun u => ∃ st det : Nat, (st = 0 ∨ st = 0x0011) ∧
        OpDone s u n o ((runTokens s n o.desc none).map fun x => x.writes).flatten st det) ∧
    (∀ (bad : Option (Nat × Nat)) (a p : Nat), RunGo s n o false →
      rangesFault s n o.id (mmRunWrites s n o.desc (coreOf s n).active.n) = none →
      fmtsMeet (coreOf s n).active.fmt.toNat (fieldAt o.desc 72 1) = true →
      (isBridled s n = true → fmtsMeet (coreOf s (n.val + 1)).active.fmt.toNat (fieldAt o.desc 72 1) = true) →
      faultCol s n bad = some (n.val, a, p) →
      Runs (.mmRun n o.id bad) s fun u =>
        (coreOf u n).badCols = (coreOf s n).badCols ++ [(a, p)] ∧ ∃ q, opOf u n o.id = some q ∧ q.phase = .ready ∧
          q.status = 0x0010 ∧ q.detail = BitVec.ofNat 32 (a + 65536 * p)) ∧
    (∀ bad : Option (Nat × Nat), RunGo s n o true → loadsDone s n o.id = true →
      fmtsMeet (coreOf s n).shadow.fmt.toNat (fieldAt o.desc 72 1) = false →
      Runs (.mmRun n o.id bad) s fun u =>
        (coreOf u n).active = (coreOf s n).shadow ∧ (coreOf u n).shadow = (coreOf s n).active ∧
          OpDone s u n o [] 0x0012 (coreOf s n).shadow.fmt.toNat) ∧
    (∀ (bad : Option (Nat × Nat)) (t : Fin 4), Awake s → opReady s n o.id 0x0002 = some o → runBusy s n o.id = false →
      mmSwaps o = false → groupsFit ((coreOf s n).active.n, (coreOf s n).shadow.n) o.desc = false → o.thread = t.val →
      (coreOf s n).stage.isSome = true → (threadOf s n t).state ≠ .faulted →
      Runs (.mmRun n o.id bad) s fun u => Faulted u n t 0x0A o.pc (descSpa s n o))

/-- The vector operations: the confirmed operation writes its results in OFMT and ends with its status; before its confirmation it
stages them, or, beyond 64 KiB, stops and changes nothing. The operations of two operands and of one, FMA, RSUM and RMAX;
QUANT, REQUANT, whose integer results are clamped and counted; MXQUANT, whose results come with their scales; DEQUANT (11
R263 to R266; 10 R237). -/
def Obligations.VectorOperations : Prop :=
  (
    ∀ (s : State) (n : Fin 32) (o : CopOp),
      (∀ (i : Instr) (kind : Nat) (f : Nat → Nat → Nat),
        (i = .vecAdd n o.id ∧ kind = 0x0101 ∧ f = f32add) ∨
        (i = .vecSub n o.id ∧ kind = 0x0102 ∧ f = rnd2 fun a b => numAdd a (numNeg b)) ∨
        (i = .vecMul n o.id ∧ kind = 0x0103 ∧ f = f32mul) ∨ (i = .vecMin n o.id ∧ kind = 0x0105 ∧ f = rnd2 numMin) ∨
        (i = .vecMax n o.id ∧ kind = 0x0106 ∧ f = rnd2 numMax) ∨ (i = .vecDiv n o.id ∧ kind = 0x0107 ∧ f = rnd2 numDiv) →
        VecEnds i s n o kind (vecOutput o (List.zipWith f (vecA s n o.desc) (vecB s n o.desc))) 0 0) ∧
      (∀ (i : Instr) (kind : Nat) (f : Nat → Nat),
        (i = .vecSqrt n o.id ∧ kind = 0x0108 ∧ f = rnd1 numSqrt) ∨ (i = .vecRsqrt n o.id ∧ kind = 0x0109 ∧ f = approx kind) ∨
        (i = .vecExp n o.id ∧ kind = 0x010A ∧ f = approx kind) ∨ (i = .vecLog n o.id ∧ kind = 0x010B ∧ f = approx kind) ∨
        (i = .vecTanh n o.id ∧ kind = 0x010C ∧ f = approx kind) ∨
        (i = .vecSigmoid n o.id ∧ kind = 0x010D ∧ f = approx kind) ∨
        (i = .vecGelu n o.id ∧ kind = 0x010E ∧ f = approx kind) ∨
        (i = .vecRelu n o.id ∧ kind = 0x010F ∧ f = rnd1 fun x => numMax x numZero) ∨
        (i = .vecConvert n o.id ∧ kind = 0x0120 ∧ f = id) →
        VecEnds i s n o kind (vecOutput o ((vecA s n o.desc).map f)) 0 0) ∧
      VecEnds (.vecFma n o.id) s n o 0x0104 (vecOutput o (List.zipWith
        (fun x c => encodeF fp32 false (numAdd (numMul (decodeF fp32 x.1) (decodeF fp32 x.2)) (decodeF fp32 c)))
        (List.zip (vecA s n o.desc) (vecB s n o.desc)) (vecC s n o.desc))) 0 0 ∧
      (∀ (i : Instr) (kind z : Nat) (f : Nat → Nat → Nat),
        (i = .vecRsum n o.id ∧ kind = 0x0110 ∧ z = 0 ∧ f = f32add) ∨
        (i = .vecRmax n o.id ∧ kind = 0x0111 ∧ z = 0xFF800000 ∧ f = rnd2 numMax) →
        VecEnds i s n o kind [(fieldAt o.desc 44 4, leBytes 4 (rnd1 id (reduce f z (vecA s n o.desc))))] 0 0)) ∧
  (
    ∀ (s : State) (n : Fin 32) (o : CopOp),
      (∀ (i : Instr) (kind : Nat) (l : List (Int × Bool)),
        (i = .vecQuant n o.id ∧ kind = 0x0121 ∧ l = (vecA s n o.desc).map (quant1 (fieldAt o.desc 53 1)
          (decodeF fp32 (fieldAt o.desc 56 4)) (toSigned 16 (fieldAt o.desc 60 2)))) ∨
        (i = .vecRequant n o.id ∧ kind = 0x0122 ∧
          l = (groups 4 (fieldAt o.desc 48 4) (spadRead s n (fieldAt o.desc 32 4) (4 * fieldAt o.desc 48 4))).map
            (requant1 (fieldAt o.desc 53 1) (fieldAt o.desc 55 1) (toSigned 32 (fieldAt o.desc 56 4))
              (toSigned 16 (fieldAt o.desc 60 2)))) →
        VecEnds i s n o kind
          [(fieldAt o.desc 44 4, pack (fieldAt o.desc 53 1) (l.map fun x => intCode (elemBits (fieldAt o.desc 53 1)) x.1))]
          (if (l.filter fun x => x.2).length = 0 then 0 else 0x0011) (min (l.filter fun x => x.2).length (2 ^ 32 - 1))) ∧
      (∀ (fmt : Nat) (sc : Machine.Num) (zp : Int) (x : Nat), 1 ≤ elemBits fmt →
        -(2 ^ (elemBits fmt - 1) : Int) ≤ (quant1 fmt sc zp x).1 ∧ (quant1 fmt sc zp x).1 < 2 ^ (elemBits fmt - 1)) ∧
      (∀ q, q = mxQuant (fieldAt o.desc 53 1) ((vecA s n o.desc).map (decodeF fp32)) →
        VecEnds (.vecMxquant n o.id) s n o 0x0123
          [(fieldAt o.desc 44 4, pack (fieldAt o.desc 53 1) q.2), (fieldAt o.desc 40 4, q.1)] 0 0) ∧
      VecEnds (.vecDequant n o.id) s n o 0x0124 (vecOutput o ((listIdx ((unpack (fieldAt o.desc 52 1)
        (spadRead s n (fieldAt o.desc 32 4) (fmtBytes (fieldAt o.desc 52 1) (fieldAt o.desc 48 4)))).take
          (fieldAt o.desc 48 4))).map fun x => encodeF fp32 false (mxNum (fieldAt o.desc 52 1) x.2
            ((spadRead s n (fieldAt o.desc 36 4) ((fieldAt o.desc 48 4 + 31) / 32)).getD (x.1 / 32) 0).toNat))) 0 0)

/-- DMA_COPY, COP_OPERATION_COMPLETE: a copy issues its rows and delivers what it read; a completion writes the status word,
signals the sync object and frees the place in the queue; a fault faults the thread (10 R230, R241; 11 R267, R433). -/
def Obligations.CopiesAndCompletion : Prop :=
  ∀ (s : State) (n : Fin 32) (o : CopOp),
    (o.depth = 0 → o.prog = 0 → channelFree s n o = true → OpGo s n o.id 0x0201 o (dmaRanges o.desc) →
      Runs (.dmaCopy n o.id) s fun u =>
        opOf u n o.id = some { o with phase := .running, prog := fieldAt o.desc 52 4 } ∧
          ∀ m : Fin 32, (coreOf u m).spad = (coreOf s m).spad) ∧
    (Awake s → opOf s n o.id = some o → o.phase = .queued → channelFree s n o = false →
      Runs (.dmaCopy n o.id) s fun u => u = s) ∧
    (Awake s → opOf s n o.id = some o → (coreOf s n).fenced = false → o.fault = none → o.unit ≤ 2 → o.phase = .ready →
      o.depth = 0 → o.staging = [] → dStatusWr o.desc = false → dSync o.desc = 0xFFFF →
      Runs (.copOperationComplete n o.id) s fun u =>
        opOf u n o.id = none ∧ (coreOf u n).copDone = (coreOf s n).copDone + 1 ∧ Wrote s u n [] ∧
          u = { s with cores := u.cores }) ∧
    (∀ y : SyncObj, Awake s → opOf s n o.id = some o → (coreOf s n).fenced = false → o.fault = none → o.unit ≤ 2 →
      o.phase = .ready → o.depth = 0 → o.staging = [] → dStatusWr o.desc = true →
      rangesFault s n o.id [(dStatusSpa o.desc, 8)] = none → rangesHeld s n o.id [(dStatusSpa o.desc, 8)] = false →
      dSync o.desc ≠ 0xFFFF → syncOf s (dSync o.desc) = some y →
      Runs (.copOperationComplete n o.id) s fun u =>
        opOf u n o.id = none ∧ Wrote s u n [(dStatusSpa o.desc, leBytes 2 o.status.toNat ++ zeros 2 ++
          leBytes 4 o.detail.toNat)] ∧
          syncOf u (dSync o.desc) = some { y with counter := y.counter + BitVec.ofNat 64 (dSigValue o.desc) }) ∧
    (Awake s → opOf s n o.id = some o → (coreOf s n).fenced = false → o.fault = none → 4 ≤ o.unit → o.phase = .running →
      o.depth = 0 → fieldAt o.desc 52 4 ≤ o.prog → dStatusWr o.desc = false → dSync o.desc = 0xFFFF →
      (∀ x ∈ accsOf s (dmaOwns n o.id), x.2.stage = .done ∧ x.2.poison = false) →
      rangesFault s n o.id (dmaWrites o) = none → rangesHeld s n o.id (dmaWrites o) = false →
      Runs (.copOperationComplete n o.id) s fun u =>
        opOf u n o.id = none ∧ accsOf u (dmaOwns n o.id) = [] ∧
          Wrote s u n (((accsOf s (dmaOwns n o.id)).filter fun x => x.2.kind.isRead).map fun x =>
            (x.2.dest, x.2.data))) ∧
    (∀ (t : Fin 4) (k d : Byte) (a : Nat), Awake s → opOf s n o.id = some o → (coreOf s n).fenced = false →
      o.fault = none → 4 ≤ o.unit → o.phase = .running → o.depth = 0 → o.thread = t.val → (coreOf s n).stage.isSome = true →
      (threadOf s n t).state ≠ .faulted → dmaFault o (accsOf s (dmaOwns n o.id)) = some (k, d, a) →
      (writeInFlight (accsOf s (dmaOwns n o.id)) = false →
        Runs (.copOperationComplete n o.id) s fun u => Faulted u n t k o.pc a ∧ (threadOf u n t).fault.detail = d) ∧
      (writeInFlight (accsOf s (dmaOwns n o.id)) = true →
        Runs (.copOperationComplete n o.id) s fun u =>
          opOf u n o.id = some o ∧ threadOf u n t = threadOf s n t ∧ ∀ x ∈ accsOf u (dmaOwns n o.id), x.2.stage.waits = false))

/-! ### 12: embedding tables -/

/-- LOOKUP, LOOKUP_ACCEPT, LOOKUP_ROW_RETURN, LOOKUP_DEADLINE, LOOKUP_COMPLETE: a lookup goes to its engine, takes the epoch of
its table, takes its rows, and ends (12 R274 to R283, R291). -/
def Obligations.LookupsRun : Prop :=
  ∀ (s : State) (e : Fin 8), Awake s →
    (∀ (n : Fin 32) (o : CopOp) (t : TableD), o.depth = 0 → o.phase = .queued → OpGo s n o.id 0x0301 o (lookupReads o.desc) →
      lookupTable s (stageCtx s n) o.desc = some t → fieldAt o.desc 34 1 = e.val →
      (fieldAt o.desc 35 1 = 4 ∨ offsOk (bagStarts s n o.desc) (fieldAt o.desc 40 4) = true) →
      ((lookupWrites s n o.desc).all fun r => inSpad s n r.1 r.2) = true →
      Runs (.lookup n o.id) s fun u =>
        (engineOf u e).intake = (engineOf s e).intake ++ [newLookup s n o t] ∧
          (coreOf u n).lookups = (coreOf s n).lookups + 1 ∧ opOf u n o.id = some { o with phase := .running }) ∧
    (∀ (l : Lookup) (r : List Lookup) (t : TableD), (engineOf s e).intake = l :: r →
      (engineOf s e).active.length < 64 → s.hlt.warmBegun = false →
      tableOf (applySwitch s l.table) l.table = some t → (∀ x ∈ (engineOf s e).active, x.id ≠ l.id) →
      Runs (.lookupAccept e) s fun u =>
        (engineOf u e).intake = r ∧ (engineOf u e).active.length = (engineOf s e).active.length + 1 ∧
          (∃ m ∈ (engineOf u e).active, m.id = l.id ∧ ∀ n id : Nat, l.src = .core n id →
            m.epoch = t.epoch ∧ m.base = t.base ∧ (late s l.deadline = true →
              m.isOver = true ∧
                m.status = (if l.status = 0 ∨ (l.metAt = s.tb.up ∧ 0x0034 < l.status) then 0x0034 else l.status))) ∧
          (tableOf u l.table).map (fun x => x.lookups) = some (t.lookups + 1)) ∧
    (∀ l r, (engineOf s e).intake = l :: r → 64 ≤ (engineOf s e).active.length →
      Runs (.lookupAccept e) s fun u => u = s) ∧
    (∀ (lk acc i : Nat) (l : Lookup) (a : Access) (x : RowFetch), lookupOf s e lk = some l → accOf s acc = some a →
      a.owner = .lookup e.val lk i → l.fetch[i]? = some x → a.stage = .done → a.poison = false → a.dest = 0 →
      a.data.length = x.len → accsOf s (fun w => lkOwns e lk w && rowIdx w == i) = [(acc, a)] →
      Runs (.lookupRowReturn e lk acc) s fun u => ∃ m q, lookupOf u e lk = some m ∧ m.fetch[i]? = some q ∧
        q.isOver = true ∧ q.data = a.data ∧ m.status = l.status) ∧
    (∀ (lk n id : Nat) (l : Lookup), lookupOf s e lk = some l → l.isOver = false → late s l.deadline = true →
      l.src = .core n id →
      Runs (.lookupDeadline e lk) s fun u => ∃ m, lookupOf u e lk = some m ∧ m.isOver = true ∧
        m.status = (if l.status = 0 ∨ (l.metAt = s.tb.up ∧ 0x0034 < l.status) then 0x0034 else l.status) ∧
          s.te.tables = u.te.tables) ∧
    (∀ (lk i : Nat) (l : Lookup), lookupOf s e lk = some l → l.isOver = false → late s l.deadline = true → l.src = .peer i →
      Runs (.lookupDeadline e lk) s fun u =>
        lookupOf u e lk = none ∧ ∀ q ∈ u.fab.router, q ∈ s.fab.router ∨ q.op.toNat < 0x80) ∧
    (∀ (lk : Nat) (n : Fin 32) (l : Lookup), lookupOf s e lk = some l → lookupDone l = true →
      (∃ id : Nat, l.src = .core n id) → outHeld s e l = true → Runs (.lookupComplete e lk) s fun u => u = s) ∧
    (∀ (lk : Nat) (n : Fin 32) (l : Lookup) (t : TableD) (o : CopOp) (lead : Bytes) (v w : State), lookupOf s e lk = some l →
      lookupDone l = true → l.src = .core n o.id → l.status = 0 → tableOf s l.table = some t → opOf s n o.id = some o →
      dStatusWr o.desc = false → dSync o.desc = 0xFFFF → outHeld s e l = false →
      takeFreeBytes s (l.outSpa % 4) = (lead, v) → writeOuts e n (wordPads l t lead ++ lookupOuts l t) v true = (w, true) →
      Runs (.lookupComplete e lk) s fun u =>
        lookupOf u e lk = none ∧ opOf u n o.id = none ∧ (∀ m : Fin 32, (coreOf u m).spad = (coreOf w m).spad) ∧
          (l.retBank = true → ∀ (m : Fin 32) (b : Fin 34), (m.val, b.val) ∈ l.banks →
            (bankOf s m b).ownerB = ownEngine e → (bankOf u m b).ownerB = 0x01)) ∧
    (∀ (lk i : Nat) (l : Lookup) (t : TableD) (p : Packet), lookupOf s e lk = some l → lookupDone l = true →
      l.isOver = false → l.src = .peer i → tableOf s l.table = some t → servingOf s i = some p → l.status ≠ 0 →
      Runs (.lookupComplete e lk) s fun u =>
        lookupOf u e lk = none ∧ servingOf u i = none ∧ ∃ q, u.fab.router = s.fab.router ++ [q] ∧ q.op = 0x8E ∧
          q.destChip = p.srcChip ∧ q.tag = p.tag)

/-- TE_UPDATE, UPDATE_RECORD_ARRIVAL, RQ_UPD_TAIL_WRITE, UPDATE_RING_RECORD: records are routed to their owner's engine, tested
against the stream's window, and read from host rings in order (12 R284 to R289). -/
def Obligations.UpdatesApply : Prop :=
  ∀ s : State, Awake s →
    (∀ (n : Fin 32) (o : CopOp) (t : TableD) (e : Fin 8), o.depth = 0 → o.prog = 0 →
      OpGo s n o.id 0x0302 o (updateReads s n o.desc) → recordsSplit s n o.desc = false → fieldAt o.desc 36 4 = 1 →
      tableOf s (leNat (spadRead s n (fieldAt o.desc 32 4) 2)) = some t → t.ctx = stageCtx s n → t.shard = 0 →
      t.home = e.val →
      badIndex t (BitVec.ofNat 64 (leNat (spadRead s n (fieldAt o.desc 32 4 + 16) 8))) = false →
      Runs (.teUpdate n o.id) s fun u =>
        (∃ q : UpdRec, (engineOf u e).arriving = (engineOf s e).arriving ++ [q] ∧ q.src = .core n o.id ∧
          q.source = myChip s ∧ q.seq = BitVec.ofNat 64 (leNat (spadRead s n (fieldAt o.desc 32 4 + 8) 8)) ∧
          q.delta = spadRead s n (fieldAt o.desc 32 4 + 32) t.rowBytes) ∧
          opOf u n o.id = some { o with phase := .running, prog := 1 }) ∧
    (∀ (e : Fin 8) (r : UpdRec) (l : List UpdRec) (t : TableD), (engineOf s e).inflight = [] →
      (engineOf s e).arriving = r :: l → tableOf s r.table = some t → t.pend = none →
      Runs (.updateRecordArrival e) s fun u => (engineOf u e).arriving = l ∧
        (∀ (h row : Nat) (x : UpdStream), judge s r = .accept h t row → tget s.te.streams h = some x →
          tget u.te.streams h = some (windowMark x r.seq.toNat) ∧ ∃ q ∈ (engineOf u e).inflight, q.id = r.id) ∧
        (judge s r = .dup → u.acc = s.acc ∧ (tableOf u r.table).map (fun x => x.updDup) = some (t.updDup + 1)) ∧
        (judge s r = .stale → u.acc = s.acc ∧ (tableOf u r.table).map (fun x => x.updStale) = some (t.updStale + 1)) ∧
        (∀ st, judge s r = .dropped st →
          u.acc = s.acc ∧ (tableOf u r.table).map (fun x => x.updDropped) = some (t.updDropped + 1))) ∧
    (∀ (x : UpdStream) (seq : Nat),
      (x.next ≤ seq → windowSays x seq = .accept) ∧
      (seq < x.next → 1024 ≤ x.next - 1 - seq → windowSays x seq = .stale) ∧
      (windowSays x seq = .accept → windowSays (windowMark x seq) seq = .dup) ∧
      (∀ q : Nat, q ≠ seq → windowSays x seq = .accept → windowSays x q = .dup →
        windowSays (windowMark x seq) q ≠ .accept)) ∧
    (∀ (h : Fin 1024) (v : Word) (x : UpdStream), hostDecode s = true → tget s.te.streams h = some x → x.ring = true →
      (v - x.head).toNat ≤ 2 ^ x.log2 → (x.tail - x.head).toNat ≤ (v - x.head).toNat →
      Runs (.rqUpdTailWrite h v) s fun u => tget u.te.streams h = some { x with tail := v }) ∧
    (∀ (h : Fin 1024) (v : Word) (x : UpdStream), hostDecode s = true → tget s.te.streams h = some x →
      2 ^ x.log2 < (v - x.head).toNat → Runs (.rqUpdTailWrite h v) s fun u => tget u.te.streams h = some x) ∧
    (∀ (h : Fin 1024) (x : UpdStream), NoUpdates s → AccDistinct s → tget s.te.streams h = some x → x.ring = true →
      x.head ≠ x.tail → ringBusy s h = false → s.hlt.warmBegun = false → accsOf s (ringOwns h) = [] →
      Runs (.updateRingRecord h) s fun u =>
        (∃ id a, (id, a) ∈ u.acc ∧ a.owner = .ring h ∧ s.nextAcc ≤ id) ∧ u.te.streams = s.te.streams) ∧
    (∀ (h : Fin 1024) (x : UpdStream) (id : Nat) (a : Access) (w : AccFail), NoUpdates s → tget s.te.streams h = some x →
      x.ring = true → x.head ≠ x.tail → ringBusy s h = false → s.hlt.warmBegun = false →
      accsOf s (ringOwns h) = [(id, a)] → a.stage = .failed w →
      Runs (.updateRingRecord h) s fun u =>
        tget u.te.streams h = some { x with head := x.head + 1 } ∧ accsOf u (ringOwns h) = [])

/-- OP_TABLE_CREATE, OP_TABLE_DESTROY, OP_TABLE_EPOCH_AT, OP_UPDATE_STREAM_OPEN, OP_UPDATE_STREAM_CLOSE, OP_TABLE_STATS
(12 R270 to R272, R286, R293, R296). EPOCH_SWITCH, PREV_BUSY_CLEAR (12 R291, R292). -/
def Obligations.TablesAndEpochs : Prop :=
  (
    ∀ (s : State) (c : Chan) (k : CmdHeld),
      (OthersIdle s c → HasCmd s c 0x0601 k → firstFail (chan s c) (tableCreateChk s k) = none → bitAt (k.f 8 2) 4 = false →
        Runs (.opTableCreate c) s fun t => Answered t c k 0 [] ∧ tableOf t (k.f 0 2) = some (newTable k) ∧
          ∀ j : Nat, j ≠ k.f 0 2 → tableOf t j = tableOf s j) ∧
      (∀ x : TableD, OthersIdle s c → HasCmd s c 0x0601 k → firstFail (chan s c) (tableCreateChk s k) = none →
        bitAt (k.f 8 2) 4 = true → tableOf s (k.f 0 2) = some x →
        Runs (.opTableCreate c) s fun t =>
          Answered t c k 0 [] ∧ tableOf t (k.f 0 2) = some { x with owners := ownerEnts k }) ∧
      (∀ x : TableD, OthersIdle s c → HasCmd s c 0x0602 k → Reserved k [2, 3] → k.f 0 2 ≤ 4095 →
        tableOf s (k.f 0 2) = some x → MayName s c x.ctx → lookupsOn s (k.f 0 2) = false →
        Runs (.opTableDestroy c) s fun t => Answered t c k 0 [] ∧ tableOf t (k.f 0 2) = none) ∧
      (∀ x : TableD, OthersIdle s c → HasCmd s c 0x0602 k → Reserved k [2, 3] → k.f 0 2 ≤ 4095 →
        tableOf s (k.f 0 2) = some x → MayName s c x.ctx → lookupsOn s (k.f 0 2) = true →
        Runs (.opTableDestroy c) s fun t =>
          (chan t c).cmd = some { k with begun := true } ∧
            tableOf t (k.f 0 2) = some { x with dying := true, pend := none }) ∧
      (∀ x : TableD, OthersIdle s c → HasCmd s c 0x0603 k → Reserved k [3, 4, 5, 6, 7] → k.f 0 2 ≤ 4095 → k.f 2 1 = 0 →
        s.tb.valid = true → epochSoon s k = false → tableOf s (k.f 0 2) = some x → MayName s c x.ctx →
        x.pend = none → x.dying = false →
        Runs (.opTableEpochAt c) s fun t =>
          Answered t c k 0 (leBytes 4 (x.epoch + 1).toNat) ∧ tableOf t (k.f 0 2) = some { x with
            pend := some ⟨BitVec.ofNat 64 (k.f 8 8), BitVec.ofNat 64 (k.f 16 8), BitVec.ofNat 64 (k.f 24 8)⟩ }) ∧
      (∀ (x : TableD) (p : PendSwitch), OthersIdle s c → HasCmd s c 0x0603 k → Reserved k [3, 4, 5, 6, 7] →
        k.f 0 2 ≤ 4095 → k.f 2 1 = 1 → s.tb.valid = true → tableOf s (k.f 0 2) = some x → MayName s c x.ctx →
        x.dying = false → x.pend = some p → p.at_.toNat = k.f 8 8 → dtNs s < p.at_ →
        Runs (.opTableEpochAt c) s fun t =>
          Answered t c k 0 (leBytes 4 x.epoch.toNat) ∧ tableOf t (k.f 0 2) = some { x with pend := none }) ∧
      (∀ x : TableD, OthersIdle s c → HasCmd s c 0x0603 k → Reserved k [3, 4, 5, 6, 7] → k.f 0 2 ≤ 4095 → k.f 2 1 = 1 →
        s.tb.valid = true → tableOf s (k.f 0 2) = some x → MayName s c x.ctx → x.dying = false → x.pend = none →
        (x.lastAt.map BitVec.toNat = some (k.f 8 8) → Runs (.opTableEpochAt c) s fun t =>
          Answered t c k stBadState (leBytes 4 x.epoch.toNat) ∧ tableOf t (k.f 0 2) = some x) ∧
        (x.lastAt.map BitVec.toNat ≠ some (k.f 8 8) → Runs (.opTableEpochAt c) s fun t =>
          Answered t c k 0 (leBytes 4 x.epoch.toNat) ∧ tableOf t (k.f 0 2) = some x)) ∧
      (HasCmd s c 0x0604 k → OthersIdle s c →
        firstFail (chan s c) { streamOpenChk s k with full := decide (1024 ≤ s.te.streams.length) } = none →
        Runs (.opUpdateStreamOpen c) s fun t => ∃ h x, tget s.te.streams h = none ∧ Answered t c k 0 (leBytes 4 h) ∧
          tget t.te.streams h = some x ∧ x.source.toNat = k.f 0 2 ∧ x.stream.toNat = k.f 2 2 ∧ x.ctx = k.f 4 1 ∧
            x.engine = k.f 6 1 ∧ x.next = k.f 8 8 ∧ x.window = BitVec.allOnes 1024 ∧ x.head = 0 ∧ x.tail = 0) ∧
      (∀ x : UpdStream, HasCmd s c 0x0605 k → OthersIdle s c → k.f 0 2 ≤ 1023 → Reserved k [2, 3] →
        tget s.te.streams (k.f 0 2) = some x → MayName s c x.ctx →
        Runs (.opUpdateStreamClose c) s fun t => Answered t c k 0 [] ∧ tget t.te.streams (k.f 0 2) = none) ∧
      (∀ x : TableD, HasCmd s c 0x0606 k → OthersIdle s c → k.f 0 2 ≤ 4095 → Reserved k [2, 3] →
        tableOf s (k.f 0 2) = some x → MayName s c x.ctx → x.dying = false →
        (∀ p : PendSwitch, x.pend = some p → s.tb.valid = false ∨ dtNs s < p.at_) →
        Runs (.opTableStats c) s fun t =>
          Answered t c k 0 (layout 64 [(0, 4, x.epoch.toNat), (4, 4, b2n x.pend.isSome + 2 * b2n x.prevBusy),
            (8, 8, (x.pend.map fun p => p.at_.toNat).getD 0), (16, 8, x.lookups.toNat),
            (24, 8, x.ballasts.toNat), (32, 8, x.updApplied.toNat), (40, 8, x.updDup.toNat), (48, 8, x.updStale.toNat),
            (56, 8, x.updDropped.toNat)]))) ∧
  (
    ∀ (s : State) (i : Fin 4096) (t : TableD), Awake s → tableOf s i = some t →
      (∀ p : PendSwitch, s.hlt.warmBegun = false → t.pend = some p → s.tb.valid = true → p.at_ ≤ dtNs s → t.shard = 0 →
        Runs (.epochSwitch i) s fun u => tableOf u i = some { t with
          epoch := t.epoch + 1, prevBase := t.base, prevBallast := t.ballast, base := p.base, ballast := p.ballast,
          pend := none, lastAt := some p.at_, prevBusy := true }) ∧
      (∀ p : PendSwitch, t.pend = some p → (s.tb.valid = false ∨ dtNs s < p.at_) →
        Runs (.epochSwitch i) s fun u => tableOf u i = some t) ∧
      (∀ a : Dword, t.prevBusy = true → t.lastAt = some a → a.toNat + s.fab.longestUs * 1000 < (dtNs s).toNat →
        namesEpoch s i (t.epoch - 1) = false →
        Runs (.prevBusyClear i) s fun u => tableOf u i = some { t with prevBusy := false }) ∧
      (namesEpoch s i (t.epoch - 1) = true → Runs (.prevBusyClear i) s fun u => tableOf u i = some t))

/-! ### 13: requests -/

/-- RQ_SQ_TAIL_WRITE, RQ_CQ_HEAD_WRITE, RQ_Q_STATUS_CLEAR, RQ_SYNC_SEL_WRITE (13 R298, R301, R322, R325). DESCRIPTOR_READ
on a queue in host memory: admission in the order of 01 R17: attachment, SHED, a new slot; a descriptor that cannot be
read has its record (01 R17, R18; 13 R299, R300, R304, R314, R432). -/
def Obligations.QueuesAdmitDescriptors : Prop :=
  (
    ∀ (s : State) (q : Fin 256) (x : Queue) (v : Word), Awake s → hostDecode s = true → queueOf s q = some x →
      (x.fabric = false → (v - x.sqHead).toNat ≤ 2 ^ x.log2 → (x.sqTail - x.sqHead).toNat ≤ (v - x.sqHead).toNat →
        Runs (.rqSqTailWrite q v) s fun t => queueOf t q = some { x with sqTail := v }) ∧
      (x.fabric = false → (2 ^ x.log2 < (v - x.sqHead).toNat ∨ (v - x.sqHead).toNat < (x.sqTail - x.sqHead).toNat) →
        Runs (.rqSqTailWrite q v) s fun t => queueOf t q = some { x with ptrErr := true }) ∧
      (x.fabric = false → (v - x.cqHead).toNat ≤ (x.cqTail - x.cqHead).toNat →
        Runs (.rqCqHeadWrite q v) s fun t => queueOf t q = some { x with cqHead := v }) ∧
      (x.fabric = false → (x.cqTail - x.cqHead).toNat < (v - x.cqHead).toNat →
        Runs (.rqCqHeadWrite q v) s fun t => queueOf t q = some { x with ptrErr := true }) ∧
      (x.fabric = true → (Runs (.rqSqTailWrite q v) s fun t => queueOf t q = some x) ∧
        Runs (.rqCqHeadWrite q v) s fun t => queueOf t q = some x) ∧
      (Runs (.rqQStatusClear q v) s fun t => queueOf t q = some { x with
        ptrErr := x.ptrErr && !v.getLsbD 2, notifyErr := x.notifyErr && !v.getLsbD 3 }) ∧
      (∀ (n : Fin 64) (y : SyncObj), syncOf s (v.toNat % 8192) = some y →
        Runs (.rqSyncSelWrite n v) s fun t =>
          t.sch.readSets[n] = ⟨v.setWidth 13, y.counter.extractLsb' 0 32, y.counter.extractLsb' 32 32⟩ ∧
            (∀ m : Fin 64, m ≠ n → t.sch.readSets[m] = s.sch.readSets[m]) ∧ t.sch.sync = s.sch.sync)) ∧
  (
    ∀ (s : State) (q a : Nat) (x : Queue) (b : Bytes) (errs : List (Nat × LineErr)), Awake s → s.sch.frozen = false → s.hlt.warmBegun = false →
      nextQueue s = some (q, x) → queueOf s q = some x → x.fabric = false → hostUp s = true →
      readsSent s < 1024 → atcFind s (pasidOf s x.ctx) x.descAt false = .ok a →
      (∀ (i : Nat) (y : Slot), (s.sch.slots.find? fun z => z.2.source = x.source && z.2.desc.token = (descOf b).token) =
          some (i, y) → attachCount s < 4096 → slotOf s i = some y →
        Runs (.descriptorRead (some b) errs) s fun t =>
          slotOf t i = some { y with attached := y.attached ++ [⟨q, (descOf b).user⟩] } ∧
            (queueOf t q).map (fun z => z.sqHead) = some (x.sqHead + 1)) ∧
      ((s.sch.slots.find? fun z => z.2.source = x.source && z.2.desc.token = (descOf b).token) = none →
        cacheFind s x.source (descOf b).token = none →
        (late s (descOf b).deadline = true →
          Runs (.descriptorRead (some b) errs) s fun t => t.sch.slots = s.sch.slots ∧
            queueOf t q = some { x with sqHead := x.sqHead + 1, cqTail := x.cqTail + 1, reserved := x.reserved + 1 - 1 }) ∧
        (∀ i : Nat, late s (descOf b).deadline = false → freeSlot s = some i → descBad s x b (descOf b) = none →
          x.pretrans = false →
          Runs (.descriptorRead (some b) errs) s fun t => ∃ y, slotOf t i = some y ∧ y.state = .waiting ∧ y.desc = descOf b ∧
            y.queue = q ∧ y.stage = 0 ∧ y.fin = none ∧
            queueOf t q = some { x with sqHead := x.sqHead + 1, reserved := x.reserved + 1 }) ∧
        (∀ i k : Nat, late s (descOf b).deadline = false → freeSlot s = some i → descBad s x b (descOf b) = some k →
          Runs (.descriptorRead (some b) errs) s fun t => ∃ y e, slotOf t i = some y ∧ y.state = .completing ∧ y.fin = some e ∧
            e.status = 6 ∧ e.detail = BitVec.ofNat 16 k)) ∧
      (Runs (.descriptorRead none errs) s fun t => t.sch.slots = s.sch.slots ∧
        queueOf t q = some { x with sqHead := x.sqHead + 1, cqTail := x.cqTail + 1, reserved := x.reserved + 1 - 1 }))

/-- STAGE_DISPATCH, STAGE_END, COMPLETION_RECORD_POST: a stage starts on an idle core with the registers of 10 R220, ends at a
boundary, and the request's record is posted (13 R306 to R317). -/
def Obligations.StagesRun : Prop :=
  ∀ s : State, Awake s → s.sch.frozen = false → s.hlt.warmBegun = false →
    (∀ (i : Nat) (y : Slot) (g : PlanStage),
      (∀ z ∈ s.sch.slots, ∀ h, nextStage s z.2 = some h → kindExists s h.pair = true) → dispatchNext s = some (i, y) →
      slotOf s i = some y → y.cancelled = false → late s y.desc.deadline = false → nextStage s y = some g →
      Runs .stageDispatch s fun t => ∃ n : Fin 32, n.val ∈ idleCores s g.pair ∧
        (∃ r, (coreOf t n).stage = some r ∧ r.slot = i ∧ r.plan = y.desc.plan.toNat ∧ r.stage = y.stage ∧ r.ctx = y.ctx) ∧
        slotOf t i = some { y with state := .running, core := some n.val } ∧
        (∀ (k : Fin 4) (pc : Word), g.entry[k.val]? = some pc → pc ≠ 0xFFFFFFFF →
          (threadOf t n k).state = .running ∧ (threadOf t n k).regs.pc = pc.toNat ∧
            (threadOf t n k).regs.get 1 = BitVec.ofNat 64 i ∧ (threadOf t n k).regs.get 2 = y.desc.inDva ∧
            (threadOf t n k).regs.get 3 = y.desc.outDva ∧ (threadOf t n k).regs.get 4 = BitVec.ofNat 64 k.val ∧
            (threadOf t n k).regs.get 5 = y.desc.deadline ∧ (threadOf t n k).regs.get 6 = y.desc.ctx.setWidth 64 ∧
            (threadOf t n k).regs.get 30 = g.stackTop.setWidth 64 ∧ (threadOf t n k).regs.lk = 0 ∧
            (∀ j : Nat, 7 ≤ j → j ≠ 30 → (threadOf t n k).regs.get j = 0)) ∧
        ((coreOf s n).icode ≠ some (y.desc.plan.toNat, y.stage) → Memory.wf (coreOf s n).istore = true →
          memRead (coreOf t n).istore 0 g.code.length = g.code)) ∧
    (∀ (n : Fin 32) (g : StageRun) (y : Slot), (coreOf s n).stage = some g →
      stageDone s n (if isBridled s n then [n.val, n.val + 1] else [n.val]) = true →
      (∀ m : Fin 32, (coreOf s m).badCols = []) → slotOf s g.slot = some y → y.fin = none → y.cancelled = false →
      Runs (.stageEnd n) s fun t =>
        (coreOf t n).stage = none ∧ (coreOf t n).stages = (coreOf s n).stages + 1 ∧
          (∀ b : Fin 34, (bankOf t n b).ownerB = 0x01 ∧ (bankOf t n b).pend = none) ∧
          (late s y.desc.deadline = false → nextStage s { y with stage := y.stage + 1 } = none →
            ∃ z e, slotOf t g.slot = some z ∧ z.state = .completing ∧ z.fin = some e ∧ e.status = 0 ∧
              e.app = (threadOf s n 0).app ∧ e.stagesDone = BitVec.ofNat 8 (y.stage + 1) ∧ e.dtDone = dtNs s) ∧
          (∀ h : PlanStage, late s y.desc.deadline = false → nextStage s { y with stage := y.stage + 1 } = some h →
            kindExists s h.pair = true →
            slotOf t g.slot = some { y with stage := y.stage + 1, state := .waiting, core := none }) ∧
          (late s y.desc.deadline = true → ∃ z e, slotOf t g.slot = some z ∧ z.state = .completing ∧ z.fin = some e ∧
            e.status = 3 ∧ e.detail = BitVec.ofNat 16 (y.stage + 1))) ∧
    (∀ (i : Fin 4096) (y : Slot) (e : ReqEnd) (x : Queue) (errs : List (Nat × LineErr)), slotOf s i = some y → y.state = .completing → y.flushing = false →
      y.attached = [] → y.fin = some e → y.lastHost = none → y.outFail = false → y.flushFail = false →
      queueOf s y.queue = some x → x.fabric = false →
      Runs (.completionRecordPost i errs) s fun t =>
        slotOf t i = none ∧ queueOf t y.queue = some { x with cqTail := x.cqTail + 1, reserved := x.reserved - 1 } ∧
          (y.desc.noReplay = false → e.status ≠ 4 → e.status ≠ 5 → e.status ≠ 10 →
            (⟨y.source, y.desc.token, e⟩ : CacheEnt) ∈ t.sch.cache) ∧
          (y.desc.noReplay = true → t.sch.cache = s.sch.cache) ∧
          (hostUp s = true → s.hl.posts = [] → s.hl.cfg.atsEn = false → x.recordAt % 32 = 0 →
            .hostWrite x.recordAt (recordBytes y.desc.token y.desc.user e x.phase false false) false false (.plain false)
              (pasidOf s x.ctx) ∈ t.out))

/-- OP_PLAN_LOAD, OP_PLAN_UNLOAD, OP_QUEUE_CREATE, OP_QUEUE_DESTROY, OP_REPLAY_WINDOW, OP_REQ_CANCEL, OP_SYNC_ALLOC, OP_SYNC_FREE
(13 R303, R305, R315, R317, R318, R326, R327). -/
def Obligations.RequestOpcodesComplete : Prop :=
  ∀ (s : State) (c : Chan) (k : CmdHeld),
    (HasCmd s c 0x0501 k → OthersIdle s c → k.f 0 2 ≤ 1023 → Reserved k ([3] ++ span 8 16) → CtxOk s c (k.f 2 1) →
      ((imageChk k).all fun x => !x.1) = true → planOf s (k.f 0 2) = none → s.sch.plans.length < 1024 →
      planBytes s + k.f 4 4 ≤ 2 ^ 28 →
      Runs (.opPlanLoad c) s fun t => Answered t c k 0 [] ∧
        planOf t (k.f 0 2) = some ⟨k.f 2 1, k.f 4 4, (List.range (k.f 20 1)).map (stageOf k)⟩) ∧
    (∀ p : Plan, HasCmd s c 0x0502 k → OthersIdle s c → k.f 0 2 ≤ 1023 → Reserved k [2, 3] →
      planOf s (k.f 0 2) = some p → MayName s c p.ctx → ctxDying s p.ctx = false → planBusy s (k.f 0 2) = false →
      Runs (.opPlanUnload c) s fun t => Answered t c k 0 [] ∧ planOf t (k.f 0 2) = none ∧
        ∀ n : Fin 32, ∀ i, (coreOf t n).icode = some i → i.1 ≠ k.f 0 2) ∧
    (HasCmd s c 0x0503 k → OthersIdle s c → firstFail (chan s c) (queueChk s k) = none →
      Runs (.opQueueCreate c) s fun t => Answered t c k 0 [] ∧ queueOf t (k.f 0 1) = some (newQueue k)) ∧
    (∀ x : Queue, HasCmd s c 0x0504 k → OthersIdle s c → Reserved k [1, 2, 3] → queueOf s (k.f 0 1) = some x →
      MayName s c x.ctx → ctxDying s x.ctx = false → remaining s (k.f 0 1) = 0 →
      Runs (.opQueueDestroy c) s fun t => Answered t c k 0 (zeros 4) ∧ queueOf t (k.f 0 1) = none) ∧
    (∀ (x : Queue) (i : Nat) (y : Slot), HasCmd s c 0x0504 k → OthersIdle s c → Reserved k [1, 2, 3] →
      queueOf s (k.f 0 1) = some x → MayName s c x.ctx → ctxDying s x.ctx = false → s.sch.slots = [(i, y)] →
      y.queue = k.f 0 1 → y.cancelled = false → y.state = .waiting → y.fin = none →
      Runs (.opQueueDestroy c) s fun t =>
        (chan t c).cmd = some { k with begun := true } ∧
          queueOf t (k.f 0 1) = some { x with stopping := true } ∧ ∃ z e, slotOf t i = some z ∧ z.state = .completing ∧
            z.fin = some e ∧ e.status = 5) ∧
    (HasCmd s c 0x0505 k → 1 ≤ k.f 0 4 → k.f 0 4 ≤ 1000 →
      Runs (.opReplayWindow c) s fun t =>
        Answered t c k 0 (leBytes 4 s.sch.replayMs.toNat) ∧ t.sch.replayMs.toNat = k.f 0 4) ∧
    (∀ (i : Nat) (y : Slot), HasCmd s c 0x0506 k → OthersIdle s c → Reserved k (span 2 8) →
      (∀ e ∈ s.sch.queues, e.2.source.toNat = k.f 0 2 → MayName s c e.2.ctx) →
      inFlight s (k.f 0 2) (k.f 8 8) = some (i, y) → slotOf s i = some y →
      Runs (.opReqCancel c) s fun t => Answered t c k 0 [] ∧
        (y.state = .running → slotOf t i = some { y with cancelled := true }) ∧
        (y.state = .waiting → ∃ z e, slotOf t i = some z ∧ z.state = .completing ∧ z.fin = some e ∧ e.status = 5)) ∧
    (HasCmd s c 0x0507 k → OthersIdle s c → CtxOk s c (k.f 0 1) → k.f 1 1 ≤ 31 → 1 ≤ k.f 2 2 → k.f 2 2 ≤ 256 →
      k.f 4 1 ≤ 1 → Reserved k [5, 6, 7] → freeRuns s (k.f 1 1) (k.f 2 2) ≠ [] →
      Runs (.opSyncAlloc c) s fun t => ∃ a ∈ freeRuns s (k.f 1 1) (k.f 2 2),
        Answered t c k 0 (layout 4 [(0, 2, a)]) ∧
          ∀ j : Nat, j < k.f 2 2 → syncOf t (a + j) = some ⟨k.f 0 1, k.f 4 1 == 1, 0⟩) ∧
    (HasCmd s c 0x0508 k → OthersIdle s c → 1 ≤ k.f 2 2 → k.f 0 2 + k.f 2 2 ≤ 8192 →
      (∀ o ∈ span (k.f 0 2) (k.f 0 2 + k.f 2 2), armedOn s o = false ∧ ∃ y, syncOf s o = some y ∧ MayName s c y.ctx) →
      Runs (.opSyncFree c) s fun t => Answered t c k 0 [] ∧
        ∀ o : Nat, syncOf t o = if k.f 0 2 ≤ o ∧ o < k.f 0 2 + k.f 2 2 then none else syncOf s o)

/-! ### 14: the Ratline fabric -/

/-- DATA_FLIT, LINK_CTRL_FLIT, NAK_FLIT, IDLE_FLIT, TIMESYNC_FLIT: sequence numbers, acknowledgement, replay and CRC failures of
a link that is up (14 R329, R330, R332, R351). -/
def Obligations.FlitsArrive : Prop :=
  ∀ (s : State) (l : Fin 24) (f : Bytes), Awake s → (linkOf s l).state = .up → f.length = 256 →
    (∀ i : Instr, i ∈ [Instr.dataFlit l f false, .linkCtrlFlit l f false, .nakFlit l f false, .idleFlit l f false] →
      Runs i s fun t => (∃ b, t.out = s.out ++ [.flit l b] ∧ fieldAt b 0 1 = 3) ∧ t.fab.router = s.fab.router ∧
        (linkOf t l).rxSeq = (linkOf s l).rxSeq ∧ (linkOf t l).replay = (linkOf s l).replay) ∧
    (fieldAt f 0 1 = 1 → fieldAt f 2 2 = (linkOf s l).rxSeq.toNat → bitAt (fieldAt f 1 1) 3 = true →
      bitAt (fieldAt f 1 1) 4 = true →
      Runs (.dataFlit l f true) s fun t =>
        t.fab.router = s.fab.router.filter (fun p => !p.openOn l (fieldAt f 1 1 % 8)) ++
          [packetOf (flitPayload f) (fieldAt f 1 1 % 8) l 1] ∧ (linkOf t l).rxSeq = (linkOf s l).rxSeq + 1) ∧
    (fieldAt f 0 1 = 1 → fieldAt f 2 2 = (linkOf s l).rxSeq.toNat → bitAt (fieldAt f 1 1) 3 = true →
      bitAt (fieldAt f 1 1) 4 = false → 40 ≤ (flitPayload f).length →
      Runs (.dataFlit l f true) s fun t =>
        t.fab.router = s.fab.router.filter (fun p => !p.openOn l (fieldAt f 1 1 % 8)) ++
          [packetFrom (flitPayload f) (fieldAt f 1 1 % 8) l 1] ∧ (linkOf t l).rxSeq = (linkOf s l).rxSeq + 1) ∧
    (fieldAt f 0 1 = 1 → fieldAt f 2 2 = (linkOf s l).rxSeq.toNat → bitAt (fieldAt f 1 1) 3 = false →
      (s.fab.router.any fun p => p.openOn l (fieldAt f 1 1 % 8)) = true →
      Runs (.dataFlit l f true) s fun t =>
        t.fab.router = s.fab.router.map (fun p => if p.openOn l (fieldAt f 1 1 % 8) = true then
          p.grow (flitPayload f) (bitAt (fieldAt f 1 1) 4) else p) ∧ (linkOf t l).rxSeq = (linkOf s l).rxSeq + 1) ∧
    (fieldAt f 0 1 = 1 → fieldAt f 2 2 ≠ (linkOf s l).rxSeq.toNat →
      Runs (.dataFlit l f true) s fun t =>
        t.fab.router = s.fab.router ∧ (linkOf t l).rxSeq = (linkOf s l).rxSeq) ∧
    (fieldAt f 0 1 = 2 → fieldAt f 2 2 = (linkOf s l).rxSeq.toNat →
      Runs (.linkCtrlFlit l f true) s fun t =>
        (linkOf t l).peerChip.toNat = fieldAt (flitPayload f) 0 2 ∧
          (linkOf t l).peerInc.toNat = fieldAt (flitPayload f) 2 2 ∧ (linkOf t l).rxSeq = (linkOf s l).rxSeq + 1) ∧
    (fieldAt f 0 1 = 3 → (linkOf s l).naks < 15 →
      Runs (.nakFlit l f true) s fun t =>
        (linkOf t l).replays = (linkOf s l).replays + 1 ∧ ∀ r ∈ (linkOf t l).replay, .flit l r.2 ∈ t.out) ∧
    (fieldAt f 0 1 = 3 → (linkOf s l).naks = 15 → (linkOf s l).nakSeq = BitVec.ofNat 16 (fieldAt f 4 2) + 1 →
      (∀ r ∈ (linkOf s l).replay, seqLe r.1 (BitVec.ofNat 16 (fieldAt f 4 2)) = false) →
      Runs (.nakFlit l f true) s fun t =>
        (linkOf t l).state ≠ .up ∧ (linkOf t l).cause = 2 ∧ (linkOf t l).downCount = (linkOf s l).downCount + 1) ∧
    (fieldAt f 0 1 = 0 → (linkOf s l).ctrlDue = false →
      Runs (.idleFlit l f true) s fun t =>
        (linkOf t l).replay = (linkOf s l).replay.filter (fun r =>
          !seqLe r.1 (BitVec.ofNat 16 (fieldAt f 4 2))) ∧ t.out = s.out ∧ t.fab.router = s.fab.router) ∧
    (fieldAt f 0 1 = 4 →
      Runs (.timesyncFlit l f true) s fun t =>
        (linkOf t l).frame = some ((f.drop 14).take 32, (dt80 s).toNat) ∧ (linkOf t l).tsFail = (linkOf s l).tsFail) ∧
    (Runs (.timesyncFlit l f false) s fun t =>
      t.fab.links = s.fab.links.set l { linkOf s l with tsFail := (linkOf s l).tsFail + 1 } ∧ t.out = s.out)

/-- PACKET_FORWARD: a packet of the router arrives, is dropped and counted, waits for credits for the whole of it, or goes on by
one flit, behind no other packet of its channel and with no flit that has not arrived (14 R330, R332, R333, R335 to R337). -/
def Obligations.PacketsAreForwarded : Prop :=
  ∀ (s : State) (i : Nat) (p : Packet), Awake s → s.fab.router[i]? = some p →
    (nextHop s p = .here → p.out = none → p.more = false → s.hlt.warmBegun = false → knownOps.contains p.op = true →
      Runs (.packetForward i) s fun t =>
        t.fab.router = s.fab.router.eraseIdx i ∧ t.fab.intake = s.fab.intake ++ [{ p with num := s.fab.nextNum }] ∧
          t.fab.nextNum = s.fab.nextNum + 1) ∧
    (nextHop s p = .here → p.out = none → p.more = false → s.hlt.warmBegun = true →
      Runs (.packetForward i) s fun t => t.fab.router = s.fab.router.eraseIdx i ∧ t.fab.intake = s.fab.intake) ∧
    (nextHop s p = .drop → p.out = none → p.more = false →
      Runs (.packetForward i) s fun t =>
        t.fab.router = s.fab.router.eraseIdx i ∧ t.fab.routeDrop = s.fab.routeDrop + 1 ∧ t.fab.intake = s.fab.intake) ∧
    (nextHop s p = .here ∨ nextHop s p = .drop → p.out = none → p.more = true →
      Runs (.packetForward i) s fun t => t = s) ∧
    (∀ (ls : List Nat) (upper : Bool) (route : Byte) (m : Fin 24) (vc : Nat), p.out = none → nextHop s p = .on ls upper route →
      vc = 2 * packetClass p.op p.flags + b2n upper → bestLink s vc ls = some m.val →
      (flitCount p ≤ vget (linkOf s m).credits vc 0 → channelBusy s m vc = false → mayLeave s p ⟨m, vc, route, 0⟩ = true →
        Runs (.packetForward i) s fun t =>
          t.fab.router = (if flitCount p ≤ 1 then s.fab.router.eraseIdx i
            else s.fab.router.set i { p with out := some ⟨m, vc, route, 1⟩ }) ∧
          (linkOf t m).txSeq = (linkOf s m).txSeq + 1 ∧
          vget (linkOf t m).credits vc 0 = vget (linkOf s m).credits vc 0 - flitCount p) ∧
      ((vget (linkOf s m).credits vc 0 < flitCount p ∨ channelBusy s m vc = true ∨ mayLeave s p ⟨m, vc, route, 0⟩ = false) →
        Runs (.packetForward i) s fun t => t = s)) ∧
    (∀ (e : Egress) (m : Fin 24), p.out = some e → e.link = m.val →
      (mayLeave s p e = true →
        Runs (.packetForward i) s fun t =>
          t.fab.router = (if flitCount p ≤ e.sent + 1 then s.fab.router.eraseIdx i
            else s.fab.router.set i { p with out := some { e with sent := e.sent + 1 } }) ∧
          (linkOf t m).txSeq = (linkOf s m).txSeq + 1 ∧ (linkOf t m).credits = (linkOf s m).credits) ∧
      (mayLeave s p e = false → Runs (.packetForward i) s fun t => t = s)) ∧
    (p.destChip = myChip s → s.fab.chipId.isSome = true → nextHop s p = .here)

/-- RATLINE_READ, RATLINE_WRITE, RATLINE_ADD, RATLINE_ADD_UPDATE_FORM, RATLINE_SIGNAL, RATLINE_LOOKUP: a late request is
dropped, one of another incarnation is refused and counted, the others are performed and answered (14 R340, R341, R343,
R344, R348). A RATLINE_READ, RATLINE_WRITE or RATLINE_ADD whose line accesses have all ended well is answered READ_DATA
with the bytes read, or ACK (14 R340, R344). -/
def Obligations.RequestsAreServed : Prop :=
  (
    ∀ (s : State) (i : Nat) (p : Packet), Awake s → s.hlt.warmBegun = false → intakeOf s i = some p →
      (∀ (j : Instr) (op : Byte) (form : Bool), (j, op, form) ∈ [(Instr.ratlineRead i, 0x01, true),
          (.ratlineWrite i, 0x02, true), (.ratlineAdd i, 0x03, !p.flags.getLsbD 1),
          (.ratlineAddUpdateForm i, 0x03, p.flags.getLsbD 1), (.ratlineSignal i, 0x04, true),
          (.ratlineLookup i, 0x05, true)] → p.op = op → form = true → servingOf s i = none →
        (late s p.deadline = true →
          Runs j s fun t => intakeOf t i = none ∧ t.fab.router = s.fab.router ∧ t.acc = s.acc) ∧
        (late s p.deadline = false → p.destInc ≠ s.fab.inc →
          Runs j s fun t => intakeOf t i = none ∧ t.fab.staleIn = s.fab.staleIn + 1 ∧ t.acc = s.acc ∧
            ∃ r, t.fab.router = s.fab.router ++ [r] ∧ r.op = 0x8E ∧ r.status = 1 ∧ r.tag = p.tag ∧
              r.destChip = p.srcChip ∧ r.destInc = p.srcInc)) ∧
      (∀ (j : Instr) (op : Byte) (n : Nat), servingOf s i = none → late s p.deadline = false → p.destInc = s.fab.inc →
        (j, op, n) ∈ [(Instr.ratlineRead i, 0x01, leNat p.payload), (.ratlineWrite i, 0x02, p.payload.length)] →
        p.op = op → (op = 0x01 → p.payload.length = 4) → 1 ≤ n → n ≤ 2048 →
        domainOn s (6 + intakeOct p) = true → remoteMay s (gCtx p.gaddr) (gDva p) n (if op = 0x01 then 1 else 2) = true →
        Runs j s fun t => intakeOf t i = none ∧ (servingOf t i = some p ∨ servingOf t i = none ∧
          ∃ r ∈ t.fab.router, r.tag = p.tag ∧ r.destChip = p.srcChip)) ∧
      (∀ (j : Instr) (op : Byte) (n bit : Nat), servingOf s i = none → late s p.deadline = false → p.destInc = s.fab.inc →
        (j, op, n, bit) ∈ [(Instr.ratlineRead i, 0x01, leNat p.payload, 1),
          (.ratlineWrite i, 0x02, p.payload.length, 2)] → p.op = op → (op = 0x01 → p.payload.length = 4) → 1 ≤ n → n ≤ 2048 →
        remoteMay s (gCtx p.gaddr) (gDva p) n bit = false →
        Runs j s fun t => intakeOf t i = none ∧ t.acc = s.acc ∧ ∃ r, t.fab.router = s.fab.router ++ [r] ∧ r.op = 0x8E ∧
          r.status = 2) ∧
      (∀ z : Nat, servingOf s i = none → late s p.deadline = false → p.destInc = s.fab.inc → p.op = 0x03 →
        p.flags.getLsbD 1 = false → addSize (p.flags.toNat / 16) = some z → p.payload.length % z = 0 → p.payload ≠ [] →
        gDva p % 64 + p.payload.length ≤ 64 → domainOn s (6 + intakeOct p) = true →
        remoteMay s (gCtx p.gaddr) (gDva p) p.payload.length 2 = true →
        Runs (.ratlineAdd i) s fun t => intakeOf t i = none ∧ (servingOf t i = some p ∨ servingOf t i = none ∧
          ∃ r ∈ t.fab.router, r.tag = p.tag ∧ r.destChip = p.srcChip)) ∧
      (∀ (t2 : TableD) (e : Fin 8), late s p.deadline = false → p.destInc = s.fab.inc → p.op = 0x03 →
        p.flags.getLsbD 1 = true → tableOf s (fieldAt p.payload 0 2) = some t2 → 32 + rowLen t2 ≤ p.payload.length →
        p.payload.length ≤ 32 + t2.rowBytes → t2.home = e.val → domainOn s (6 + e) = true →
        domainOn s (6 + intakeOct p) = true →
        Runs (.ratlineAddUpdateForm i) s fun t => intakeOf t i = none ∧ ∃ q : UpdRec,
          (engineOf t e).arriving = (engineOf s e).arriving ++ [q] ∧ q.src = .peer p.num ∧ q.source = p.srcChip ∧
            q.delta = p.payload.drop 32) ∧
      (∀ y : SyncObj, late s p.deadline = false → p.destInc = s.fab.inc → p.op = 0x04 → p.payload.length = 8 →
        syncOf s (p.gaddr.toNat % 8192) = some y → y.remoteOk = true → y.ctx = gCtx p.gaddr →
        Runs (.ratlineSignal i) s fun t => intakeOf t i = none ∧
          syncOf t (p.gaddr.toNat % 8192) = some { y with counter := y.counter + BitVec.ofNat 64 (leNat p.payload) } ∧
          ∃ r, t.fab.router = s.fab.router ++ [r] ∧ r.op = 0x80 ∧ r.status = 0 ∧ r.tag = p.tag) ∧
      (∀ (b : Bytes) (t2 : TableD) (e : Fin 8), late s p.deadline = false → p.destInc = s.fab.inc → p.op = 0x05 →
        wholeOp s p = some b → peerLookupOk s p b = some t2 → t2.home = e.val →
        Runs (.ratlineLookup i) s fun t => intakeOf t i = none ∧
          (engineOf t e).intake = (engineOf s e).intake ++ [peerLookup s p b])) ∧
  (
    ∀ (s : State) (i : Nat) (p : Packet), Awake s → intakeOf s i = none → servingOf s i = some p → packetClass p.op p.flags ≠ 1 →
      accsOf s (peerOwns i) ≠ [] → (∀ x ∈ accsOf s (peerOwns i), x.2.stage = .done ∧ x.2.poison = false) →
      (p.op = 0x01 → leNat p.payload ≤ 2048 →
        (∀ x ∈ accsOf s (peerOwns i), x.2.dest + x.2.data.length ≤ leNat p.payload) →
        Runs (.ratlineRead i) s fun t => servingOf t i = none ∧ accsOf t (peerOwns i) = [] ∧
          ∃ r, t.fab.router = s.fab.router ++ [r] ∧ r.op = 0x81 ∧ r.status = 0 ∧ r.tag = p.tag ∧ r.destChip = p.srcChip ∧
            (∀ x, accsOf s (peerOwns i) = [x] → x.2.dest = 0 → x.2.data.length = leNat p.payload → r.payload = x.2.data)) ∧
      (∀ (j : Instr) (op : Byte), (j, op) ∈ [(Instr.ratlineWrite i, 0x02), (.ratlineAdd i, 0x03)] → p.op = op →
        Runs j s fun t => servingOf t i = none ∧ accsOf t (peerOwns i) = [] ∧
          ∃ r, t.fab.router = s.fab.router ++ [r] ∧ r.op = 0x80 ∧ r.status = 0 ∧ r.tag = p.tag))

/-- ACK, READ_DATA, POOLED, REFUSED, REMOTE_TIMEOUT_FIRE: a response ends the request its tracker names; one that names no live
tracker is discarded; a timeout ends the request (14 R346, R347). -/
def Obligations.ResponsesEndRequests : Prop :=
  ∀ s : State, Awake s → s.hlt.warmBegun = false → AccDistinct s →
    (∀ (j : Instr) (op : Byte) (i : Nat) (p : Packet), (j, op) ∈ [(Instr.ack i, 0x80), (.readData i, 0x81),
        (.pooled i, 0x85), (.refused i, 0x8E)] → intakeOf s i = some p → p.op = op → trackerOf s p = none →
      Runs j s fun t => intakeOf t i = none ∧ t.fab.trackers = s.fab.trackers ∧ t.acc = s.acc) ∧
    (∀ (j : Instr) (op : Byte) (i k id : Nat) (p : Packet) (tr : Tracker) (b : Bytes) (a : Access), (j, op) ∈
        [(Instr.ack i, 0x80), (.readData i, 0x81), (.pooled i, 0x85), (.refused i, 0x8E)] → intakeOf s i = some p →
      p.op = op → trackerOf s p = some (k, tr) → wholeOp s p = some b → tr.why = .access id → Owned s id a →
      Runs j s fun t => (∀ q ∈ t.fab.intake, sameOp p q = false) ∧
        (∀ q, tget t.fab.trackers k = some q → q.gen ≠ tr.gen) ∧
        ∃ x, accOf t id = some x ∧
          (op ≠ 0x8E → p.status = 0 → x.stage = .done ∧ (a.kind = .read → x.data = b.take a.len)) ∧
          (p.status = 4 → x.stage = .failed .memory) ∧
          (p.status ≠ 0 → p.status ≠ 4 → x.stage = .failed (.xlate 6))) ∧
    (∀ (k id : Nat) (tr : Tracker) (a : Access), tget s.fab.trackers k = some tr → passed s tr.deadline = true →
      tr.why = .access id → Owned s id a →
      Runs (.remoteTimeoutFire k) s fun t => (∀ q, tget t.fab.trackers k = some q → q.gen ≠ tr.gen) ∧
        ∃ x, accOf t id = some x ∧ x.stage = .failed (if tr.byTimeout then .timeout else .missed)) ∧
    (∀ (k : Nat) (tr : Tracker), tget s.fab.trackers k = some tr → passed s tr.deadline = false →
      Runs (.remoteTimeoutFire k) s fun t => t = s)

/-- RATLINE_LINK_LOSS, RATLINE_LINK_RETRAIN_DONE, LINK_TRAINING_END, OP_LINK_UP, OP_LINK_DOWN: the states of a link (14
R352 to R354). OP_CHIP_ID_SET, OP_ROUTE_SET, OP_REMOTE_TIMEOUT, OP_FABRIC_STATUS (14 R334, R335, R347, R354). -/
def Obligations.LinksAndFabricOpcodes : Prop :=
  (
    ∀ (s : State) (l : Fin 24), Awake s →
      (∀ (cause : LossCause), (linkOf s l).state = .up →
        Runs (.ratlineLinkLoss l cause) s fun t =>
          (linkOf t l).cause.toNat = lossCode cause ∧ (linkOf t l).downCount = (linkOf s l).downCount + 1 ∧
            (linkOf t l).replay = [] ∧
            (linkOf t l).state = (if cause ≠ .serdesOff ∧ mpServes s = true then .training else .down)) ∧
      (∀ (inc : Half) (d : Word), (linkOf s l).state = .training → (linkOf s l).retrain = true →
        domainOn s (linkDomain l) = true →
        Runs (.ratlineLinkRetrainDone l (.trained (linkOf s l).peerChip inc d)) s fun t =>
          (linkOf t l).state = .up ∧ (linkOf t l).peerInc = inc ∧ (linkOf t l).rxSeq = 0 ∧
            ∀ v : Fin 8, ((linkOf t l).credits)[v] = 64) ∧
      (∀ (chip inc : Half) (d : Word), (linkOf s l).state = .training → (linkOf s l).retrain = true →
        chip ≠ (linkOf s l).peerChip →
        Runs (.ratlineLinkRetrainDone l (.trained chip inc d)) s fun t =>
          (linkOf t l).state = .down ∧ (linkOf t l).cause = 4) ∧
      ((linkOf s l).state = .training → (linkOf s l).retrain = true →
        Runs (.ratlineLinkRetrainDone l .failed) s fun t => (linkOf t l).state = .fault ∧ (linkOf t l).cause = 5) ∧
      (∀ (c : Chan) (k : CmdHeld) (chip inc : Half) (d : Word), (linkOf s l).chan = some c → (linkOf s l).state = .training →
        (linkOf s l).retrain = false → (chan s c).cmd = some k → Memory.wf (chan s c).resp = true → s.hlt.mpHung = false →
        (peerExpected s l chip = true →
          Runs (.linkTrainingEnd l (.trained chip inc d)) s fun t => (linkOf t l).state = .up ∧
            Answered t c k 0 (layout 4 [(0, 2, chip.toNat), (2, 2, inc.toNat)])) ∧
        (peerExpected s l chip = false →
          Runs (.linkTrainingEnd l (.trained chip inc d)) s fun t =>
            (linkOf t l).state = .down ∧ (linkOf t l).cause = 4 ∧ (chan t c).done = true ∧ (chan t c).cmd = none) ∧
        ((linkOf s l).trainAt + msUp 500 ≤ s.tb.up →
          Runs (.linkTrainingEnd l .failed) s fun t =>
            (linkOf t l).state = .fault ∧ Answered t c k 0x000B (zeros 4))) ∧
      (∀ (c : Chan) (k : CmdHeld), HasCmd s c 0x0702 k → OthersIdle s c → k.f 0 1 = l.val → Reserved k [1, 2, 3] →
        s.fab.chipId.isSome = true → ((linkOf s l).state = .down ∨ (linkOf s l).state = .fault) →
        domainOn s (linkDomain l) = true →
        Runs (.opLinkUp c) s fun t =>
          (linkOf t l).state = .training ∧ (linkOf t l).chan = some c ∧ (chan t c).cmd = some { k with begun := true }) ∧
      (∀ (c : Chan) (k : CmdHeld), HasCmd s c 0x0703 k → OthersIdle s c → k.f 0 1 = l.val → Reserved k [1, 2, 3] →
        (linkOf s l).chan ≠ some c →
        Runs (.opLinkDown c) s fun t => Answered t c k 0 [] ∧ (linkOf t l).state = .down ∧
          ∀ m : Fin 24, m ≠ l → (linkOf t m).state = (linkOf s m).state ∧
            ((∀ p ∈ s.fab.router, p.uses l = false) → linkOf t m = linkOf s m))) ∧
  (
    ∀ (s : State) (c : Chan) (k : CmdHeld),
      (HasCmd s c 0x0701 k → k.f 0 2 ≤ 4095 → Reserved k [2, 3] → linksBusy s = false →
        Runs (.opChipIdSet c) s fun t =>
          Answered t c k 0 [] ∧ t.fab.chipId = some (BitVec.ofNat 12 (k.f 0 2)) ∧ t.fab.inc = s.fab.inc) ∧
      (HasCmd s c 0x0701 k → k.f 0 2 ≤ 4095 → Reserved k [2, 3] → linksBusy s = true →
        Runs (.opChipIdSet c) s fun t => Answered t c k 5 [] ∧ t.fab = s.fab) ∧
      (HasCmd s c 0x0704 k → (k.f 0 1 = 1 ∨ k.f 0 1 = 2) → ((torusChk k).all fun x => !x.1) = true →
        Reserved k (span 4 16) →
        Runs (.opRouteSet c) s fun t => Answered t c k 0 [] ∧ t.fab.topo.toNat = k.f 0 1 ∧
          t.fab.dims = (k.f 1 1, k.f 2 1, k.f 3 1) ∧ t.fab.peers = Vector.replicate 24 0xFFFF) ∧
      (HasCmd s c 0x0704 k → k.f 0 1 = 3 → ((fullChk s k).all fun x => !x.1) = true → Reserved k (span 4 16) →
        Runs (.opRouteSet c) s fun t => Answered t c k 0 [] ∧ t.fab.topo = 3 ∧
          ∀ i : Fin 24, (t.fab.peers[i]).toNat = peerAt k i ∧ (t.fab.detours[i]).toNat = detourAt k i) ∧
      (HasCmd s c 0x0704 k → k.f 0 1 = 0 → Reserved k (span 4 16) →
        Runs (.opRouteSet c) s fun t => Answered t c k 0 [] ∧ t.fab.topo = 0) ∧
      (HasCmd s c 0x0705 k → k.f 0 1 ≤ 2 → 10 ≤ k.f 4 4 → k.f 4 4 ≤ 100000 → Reserved k [1, 2, 3] →
        Runs (.opRemoteTimeout c) s fun t =>
          Answered t c k 0 (leBytes 4 (remoteUs s (BitVec.ofNat 8 (k.f 0 1)))) ∧
            remoteUs t (BitVec.ofNat 8 (k.f 0 1)) = k.f 4 4 ∧
            (k.f 0 1 = 0 → t.fab.longestUs = max s.fab.longestUs (k.f 4 4))) ∧
      (HasCmd s c 0x0706 k →
        Runs (.opFabricStatus c) s fun t => AnsweredLen t c k 0 784 ∧ Answered t c k 0 (fabricResp s) ∧ t.fab = s.fab))

/-! ### 15: resets, the dump and health -/

/-- FLR, PERST_N_ASSERT, OP_CHIP_RESET: the host link is reset at once; once the device is READY a warm reset is accepted,
threads, coprocessor operations and trackers end, commands are aborted; a trigger during a warm reset joins it (05 R105;
15 R359, R361 to R363). WARM_RESET: slots, queues, sync objects, event ring, COH_MODE, TLBs and boost are cleared, the
incarnation number advances past 0, OP_CHIP_RESET is answered; what R360 keeps is kept (14 R348; 15 R360 to R363). -/
def Obligations.WarmResetTaken : Prop :=
  (
    ∀ s : State, Awake s →
      (∀ (i : Instr) (w : WarmTrigger), (i = .flr ∧ w = .flr ∧ s.hl.link.speed ≠ 0) ∨ (i = .perstNAssert ∧ w = .perst) →
        (Runs i s fun t => t.hl.cfg = PcieConfig.reset ∧ t.hl.bar4 = 0x10000000 ∧ t.hl.reads = [] ∧
          (w = .perst → t.hl.link.speed = 0) ∧ (w = .flr → t.hl.link = s.hl.link) ∧ t.tb.count = s.tb.count ∧
          t.tb.valid = s.tb.valid) ∧
        (s.sec.phase ≠ 4 → (w = .flr → mpServes s = false) → Runs i s fun t => t.hlt = s.hlt ∧ t.sch.queues = s.sch.queues ∧ t.sch.sync = s.sch.sync ∧
          t.xl.maps = s.xl.maps) ∧
        (∀ x, s.hlt.warm = some x → Runs i s fun t => t.hlt = s.hlt) ∧
        (s.sec.phase = 4 → s.hlt.warm = none → mpServes s = false → Runs i s fun t =>
          t.hlt.warm = some w ∧ t.hlt.warmBegun = false ∧ t.cores = s.cores ∧ t.fab.trackers = s.fab.trackers) ∧
        (s.sec.phase = 4 ∨ w = .flr → s.hlt.warm = none → mpServes s = true → NoFills s → Runs i s fun t =>
          t.hlt.warm = some w ∧ t.hlt.warmBegun = true ∧ t.fab.trackers = [] ∧ t.fab.intake = [] ∧
            (∀ n : Fin 32, (t.cores[n]).stage = none ∧ (t.cores[n]).cops = [] ∧ (t.cores[n]).spad = (s.cores[n]).spad) ∧
            ∀ c : Fin 17, c.val < 16 → (chan t c).cmd = none)) ∧
      (s.hl.link.speed = 0 → Runs .flr s fun t => t = s) ∧
      (∀ (c : Chan) (k : CmdHeld), HasCmd s c 0x0902 k → k.f 0 1 = 0 → Reserved k [1, 2, 3] → s.hlt.warm = none →
        (∀ r ∈ s.hl.reads, ∀ off, r.2.why ≠ .indirect c off) → NoFills s →
        Runs (.opChipReset c) s fun t =>
          t.hlt.warm = some (.command c) ∧ (chan t c).cmd = some { k with begun := true } ∧ t.hl.cfg = s.hl.cfg ∧
            t.hl.bar4 = s.hl.bar4 ∧ t.fab.trackers = [] ∧ ∀ d : Fin 17, d ≠ c → d.val < 16 → (chan t d).cmd = none)) ∧
  (
    ∀ s : State, Awake s →
      (∀ w : WarmTrigger, s.hlt.warm = some w → s.hlt.warmBegun = true → mpServes s = true → fillsEnding s = false →
        Runs .warmReset s fun t =>
          t.hlt = { s.hlt with warm := none, warmBegun := false, warmResets := s.hlt.warmResets + 1 } ∧ t.sch.queues = [] ∧ t.sch.slots = [] ∧
            t.sch.sync = [] ∧ t.sch.frozen = false ∧ t.mbx.ring = none ∧ t.hl.cohMode = 0 ∧ t.hl.winUnits = 0 ∧
            t.hl.atc = [] ∧ t.xl.l1 = [] ∧ (∀ i : Fin 8, t.xl.l2[i] = []) ∧ t.pwr = { s.pwr with boostEn := 0 } ∧
            t.fab.inc = (if s.fab.inc = 0xFFFF then 1 else s.fab.inc + 1) ∧ t.fab.chipId = s.fab.chipId ∧
            t.fab.topo = s.fab.topo ∧ t.tb = s.tb ∧ t.cal = s.cal ∧ t.gn = s.gn ∧ t.tw = s.tw ∧ t.xl.maps = s.xl.maps ∧
            t.xl.ctxs = s.xl.ctxs ∧ t.hl.cfg = s.hl.cfg ∧ t.hl.bar4 = s.hl.bar4 ∧ t.hl.intStatus = s.hl.intStatus ∧
            t.sch.plans = s.sch.plans ∧ t.bridled = s.bridled ∧
            ∀ n : Fin 32, (t.cores[n]).icode = none ∧ (t.cores[n]).fenced = (s.cores[n]).fenced ∧
              (t.cores[n]).spad = (s.cores[n]).spad ∧ (t.cores[n]).held = false) ∧
      (∀ (c : Chan) (k : CmdHeld), s.hlt.warm = some (.command c) → s.hlt.warmBegun = true → mpServes s = true →
        fillsEnding s = false → (chan s c).cmd = some k → Memory.wf (chan s c).resp = true →
        Runs .warmReset s fun t =>
          Answered t c k 0 (layout 4 [(0, 2, if s.fab.inc = 0xFFFF then 1 else (s.fab.inc + 1).toNat)])) ∧
      ((s.hlt.warm = none ∨ s.hlt.warmBegun = false ∨ mpServes s = false ∨ fillsEnding s = true) → Runs .warmReset s fun t => t = s))

/-- COLD_RESET, DBG_COLD_REQ_WRITE, RAIL_UNDERVOLTAGE: each trigger puts the device in cold reset, and what 15 R360 does
not keep is at its reset value; a trigger too short or another value written does nothing (15 R359, R360; 18 R415, R424,
R426). BOOT, FIRMWARE_START, TOWER_TRAINING_DONE, BOOT_READY (14 R348; 17 R394 to R396, R399, R404). -/
def Obligations.ColdResetAndBoot : Prop :=
  (
    ∀ s : State, Awake s →
      (∀ i : Instr,
        (∃ us : Nat, i = .coldReset (.pin us) ∧ 10 ≤ us) ∨ i = .coldReset .rail ∨ i = .coldReset .debug ∨
        (i = .dbgColdReqWrite 0x0000C01D ∧ hostDecode s = true) ∨
        (∃ (r : Rail) (ns : Nat), i = .railUndervoltage r ns ∧ 1000 ≤ ns) →
        Runs i s fun t =>
          t.sec.cold = true ∧ t.sec.phase = 0 ∧ t.tb = Timebase.reset ∧ t.mbx = Mbx.reset ∧ t.hl = HostLink.reset ∧
            t.xl = Xlate.reset ∧ t.acc = [] ∧ t.te = Tables.reset ∧ t.sch = Sched.reset ∧ t.hlt = Health.reset ∧
            t.fab = { Fabric.reset with inc := s.fab.inc } ∧ t.bridled = State.reset.bridled ∧
            (∀ n : Fin 32, (t.cores[n]).fenced = false ∧ (t.cores[n]).icode = none) ∧ t.sec.tamperSeen = false ∧
            t.sec.lifecycle = s.sec.lifecycle ∧ t.sec.svnMin = s.sec.svnMin ∧ t.sec.tamperFuses = s.sec.tamperFuses ∧
            t.sec.ownerHash = s.sec.ownerHash ∧ t.sec.flashA = s.sec.flashA ∧ t.sec.flashB = s.sec.flashB ∧
            t.sec.bootSlotB = s.sec.bootSlotB ∧ t.sec.bypassRec = s.sec.bypassRec ∧ t.sec.incRec = s.sec.incRec ∧
            t.tw.retPages = s.tw.retPages ∧ t.tw.retDeep = s.tw.retDeep ∧ t.gn.position = s.gn.position) ∧
      (∀ us : Nat, us < 10 → Runs (.coldReset (.pin us)) s fun t => t = s) ∧
      (∀ v : Word, v ≠ 0x0000C01D → Runs (.dbgColdReqWrite v) s fun t => t = s) ∧
      (∀ (r : Rail) (ns : Nat), ns < 1000 → Runs (.railUndervoltage r ns) s fun t => t = s)) ∧
  (
    ∀ s : State,
      (∀ b : BootInput, s.sec.cold = true → b.railsOk = true →
        Runs (.boot b) s fun t => t.sec.cold = false ∧ t.sec.addrSel = b.addrSel ∧ t.sec.tamperPin = b.tamperLow ∧
          (b.fusesOk = true → t.sec.phase = s.sec.phase) ∧ (b.fusesOk = false → t.sec.phase = 9 ∧ t.sec.failCode = 2) ∧
          (b.fusesOk = true → s.sec.lcPending = true → t.sec.lifecycle = s.sec.lcTarget ∧ t.sec.lcPending = false ∧
            t.sec.dik = [] ∧ t.sec.ak = [] ∧ (s.sec.lcTarget = 1 → t.sec.ownerHash = s.sec.lcKeyHash)) ∧
          (b.fusesOk = true → s.sec.lcPending = false → t.sec.lifecycle = s.sec.lifecycle)) ∧
      (∀ b : BootInput, (s.sec.cold = false ∨ b.railsOk = false) → Runs (.boot b) s fun t => t = s) ∧
      (Awake s → s.sec.phase = 0 → s.hlt.mpHung = false →
        (∀ b : Bool, (b = s.sec.bootSlotB ∨ imageOk s (slotBytes s s.sec.bootSlotB) = false) →
          imageOk s (slotBytes s b) = true →
          Runs .firmwareStart s fun t => t.sec.fwStarted = true ∧ t.sec.slotB = b ∧
            t.sec.fallback = (b != s.sec.bootSlotB) ∧ t.sec.header = (slotBytes s b).take 4096 ∧
            t.sec.phase = (if s.sec.loopDone = true then 3 else 1) ∧ (s.sec.tamperNow = false → t.sec.sealedValid = true) ∧
            (s.sec.tamperNow = true → t.sec.sealedValid = s.sec.sealedValid)) ∧
        ((∀ b : Bool, imageOk s (slotBytes s b) = false) →
          Runs .firmwareStart s fun t => t.sec.phase = 8 ∧ t.sec.fwStarted = s.sec.fwStarted)) ∧
      (∀ found : List DeepPortFound, Awake s → s.sec.fwStarted = true → s.sec.loopDone = true → s.sec.towersUp = false →
        s.sec.phase ≠ 9 →
        (Runs (.towerTrainingDone false found) s fun t => t.sec.phase = 9 ∧ t.sec.failCode = 1 ∧ t.fab = s.fab) ∧
        (Runs (.towerTrainingDone true found) s fun t => t.sec.towersUp = true ∧
          t.fab.inc = (if s.fab.inc = 0xFFFF then 1 else s.fab.inc + 1) ∧
          (s.sec.norOk = true → t.sec.incRec = t.fab.inc) ∧ ∀ i : Fin 4, (t.tw.ports[i]).enabled = true)) ∧
      (Awake s → s.sec.phase = 3 → s.sec.fwStarted = true → s.sec.loopDone = true → s.sec.calDone = true →
        s.sec.towersUp = true → Runs .bootReady s fun t => t = { s with sec := { s.sec with phase := 4 } }) ∧
      (Awake s → (s.sec.phase ≠ 3 ∨ s.sec.calDone = false ∨ s.sec.towersUp = false) → Runs .bootReady s fun t => t = s))

/-- HEARTBEAT, OP_HEARTBEAT_CONFIG, CAPTURE, CAPTURE_DONE, FREEZE, OP_DUMP; a failed check that firmware reports (05 R108,
R112; 15 R367, R369 to R372, R376). -/
def Obligations.HealthAndDump : Prop :=
  ∀ s : State, Awake s →
    (s.sec.fwStarted = true → s.hlt.mpHung = false → s.hlt.beatAt + msUp s.hlt.hbPeriod.toNat ≤ s.tb.up →
      Runs (.heartbeat none) s fun t =>
        t = { s with hlt := { s.hlt with heartbeat := s.hlt.heartbeat + 1, beatAt := s.tb.up } }) ∧
    ((s.sec.fwStarted = false ∨ s.hlt.mpHung = true ∨ s.tb.up < s.hlt.beatAt + msUp s.hlt.hbPeriod.toNat) →
      Runs (.heartbeat none) s fun t => t = s) ∧
    (∀ (unit : Fin 5) (code : Word), s.sec.fwStarted = true → s.hlt.mpHung = false → s.mbx.ring = none → s.hl.posts = [] →
      Runs (.heartbeat (some (unit, code))) s fun t =>
        t.mbx.evtSeq = s.mbx.evtSeq + 1 ∧ t.mbx.log = ((⟨0x0009, 2, s.mbx.evtSeq + 1, dtNs s,
          layout 16 [(0, 2, 0x0600), (2, 1, unit.val), (4, 4, code.toNat)]⟩ : EventRec) :: s.mbx.log).take 64 ∧
          t.hlt.heartbeat = s.hlt.heartbeat +
            (if s.hlt.beatAt + msUp s.hlt.hbPeriod.toNat ≤ s.tb.up then 1 else 0)) ∧
    (∀ (c : Chan) (k : CmdHeld), HasCmd s c 0x0903 k → 1 ≤ k.f 0 1 → k.f 0 1 ≤ 100 → Reserved k [1, 2, 3] →
      Runs (.opHeartbeatConfig c) s fun t =>
        Answered t c k 0 (layout 4 [(0, 1, s.hlt.hbPeriod.toNat)]) ∧ t.hlt.hbPeriod.toNat = k.f 0 1) ∧
    (hostDecode s = true → s.hlt.dbgBusy = false →
      Runs .capture s fun t =>
        t = { s with hlt := { s.hlt with dbgBusy := true, dbgDone := false, capAt := dtNs s } }) ∧
    (hostDecode s = true → s.hlt.dbgBusy = true → Runs .capture s fun t => t = s) ∧
    (s.hlt.dbgBusy = true →
      Runs .captureDone s fun t =>
        t.hlt.dbgBusy = false ∧ t.hlt.dbgDone = true ∧ t.hlt.captures = s.hlt.captures + 1 ∧
          t.hlt.image.length = 323840 - 65536 ∧ t = { s with hlt := t.hlt }) ∧
    (hostDecode s = true → Runs .freeze s fun t => t = { s with sch := { s.sch with frozen := true } }) ∧
    (∀ (c : Chan) (k : CmdHeld), HasCmd s c 0x0901 k → k.progress = 0 → k.f 0 8 % 4096 = 0 → 323840 ≤ k.f 8 4 →
      Reserved k [12, 13, 14, 15] →
      (dumpReach s (k.f 0 8 + 0x100) 8192 = true →
        Runs (.opDump c) s fun t =>
          (chan t c).cmd = some { k with begun := true, progress := (dtNs s).toNat * 16 + 2 } ∧ t.cores = s.cores ∧
            t.sch = s.sch) ∧
      (hostUp s = false → Runs (.opDump c) s fun t => Answered t c k 9 (leBytes 4 0) ∧ t.out = s.out)) ∧
    (∀ (c : Chan) (k : CmdHeld) (i : Nat), mpServes s = true → (chan s c).cmd = some k → k.opcode.toNat = 0x0901 →
      k.ready = true → k.begun = true → k.progress % 16 = i → Memory.wf (chan s c).resp = true →
      (1 ≤ i → i ≤ 7 → dumpReach s (k.f 0 8 + (dumpSections.getD i (0, 0)).1) (dumpSections.getD i (0, 0)).2 = true →
        Runs (.opDump c) s fun t => (chan t c).cmd = some { k with progress := k.progress / 16 * 16 + (i + 1) }) ∧
      (i = 8 → dumpReach s (k.f 0 8) 256 = true →
        Runs (.opDump c) s fun t => Answered t c k 0 (leBytes 4 323840)))

/-! ### 16: power and reefing -/

/-- HOTSPOT_TEMPERATURE_CHANGE, POWER_SAMPLE, PWR_CAP_N_CHANGE, OVERCURRENT, REEF_LEVEL_STEP: the demand of each input, and the
level of each octant (16 R383 to R388). -/
def Obligations.ReefingFollowsDemand : Prop :=
  ∀ s : State, Awake s →
    (∀ (k : Fin 8) (x : Int),
      Runs (.hotspotTemperatureChange k x) s fun t =>
        (octState t k).hotT = x ∧
          (∀ L : Nat, 1 ≤ L → L ≤ 7 → 105 * 16 + 20 * ((L : Int) - 1) ≤ x → L ≤ (octState t k).hotDemand.toNat) ∧
          (1 ≤ (octState t k).hotDemand.toNat →
            (octState s k).hotDemand.toNat < (octState t k).hotDemand.toNat →
            105 * 16 + 20 * (((octState t k).hotDemand.toNat : Int) - 1) ≤ x) ∧
          (1 ≤ (octState t k).hotDemand.toNat →
            105 * 16 + 20 * (((octState t k).hotDemand.toNat : Int) - 1) - 32 ≤ x) ∧
          (105 * 16 + 20 * (((octState s k).hotDemand.toNat : Int) - 1) - 32 ≤ x →
            (octState s k).hotDemand.toNat ≤ (octState t k).hotDemand.toNat) ∧
          (octState t k).hotHold = (if (octState s k).hotHold then decide (110 * 16 ≤ x)
            else decide (115 * 16 ≤ x) && decide ((octState s k).level = 7)) ∧
          ∀ j : Fin 8, j ≠ k → (octState t j).hotDemand = (octState s j).hotDemand ∧
            (octState t j).level = (octState s j).level) ∧
    (∀ w : Half,
      Runs (.powerSample w) s fun t => t.pwr.powerW = w ∧
        (s.pwr.limitW < w → t.pwr.powerDemand.toNat = min 7 (s.pwr.powerDemand.toNat + 1)) ∧
        (w ≤ s.pwr.limitW → 97 * s.pwr.limitW.toNat ≤ 100 * w.toNat →
          t.pwr.powerDemand = s.pwr.powerDemand ∧ t.pwr.lowMs = 0) ∧
        (100 * w.toNat < 97 * s.pwr.limitW.toNat → s.pwr.lowMs < 9 →
          t.pwr.powerDemand = s.pwr.powerDemand ∧ t.pwr.lowMs = s.pwr.lowMs + 1) ∧
        (100 * w.toNat < 97 * s.pwr.limitW.toNat → 9 ≤ s.pwr.lowMs →
          t.pwr.powerDemand.toNat = s.pwr.powerDemand.toNat - 1 ∧ t.pwr.lowMs = 0)) ∧
    (∀ low : Bool,
      Runs (.pwrCapNChange low) s fun t => t.pwr.capPin = low ∧
        ∀ k : Fin 8, low = true → s.pwr.capLevel.toNat ≤ octDemand t k) ∧
    (∀ a : Nat,
      Runs (.overcurrent a) s fun t =>
        (s.pwr.iccMax.toNat < a → s.pwr.iccAt = none → t.pwr.iccDemand.toNat = min 7 (s.pwr.iccDemand.toNat + 1)) ∧
        (∀ x, s.pwr.iccMax.toNat < a → s.pwr.iccAt = some x → t.pwr.iccDemand.toNat =
          if s.tb.up < x + usUp 10 then s.pwr.iccDemand.toNat else min 7 (s.pwr.iccDemand.toNat + 1)) ∧
        (∀ x, a * 100 < 97 * s.pwr.iccMax.toNat → s.pwr.iccLow = some x → x + msUp 10 ≤ s.tb.up →
          t.pwr.iccDemand.toNat = s.pwr.iccDemand.toNat - 1)) ∧
    (∀ k : Fin 8, (octState s k).boosted = false →
      ((octState s k).level.toNat < octDemand s k →
        Runs (.reefLevelStep k) s fun t =>
          (octState t k).level.toNat = octDemand s k ∧ t.pwr.reefChanges = s.pwr.reefChanges + 1 ∧
            ∀ j : Fin 8, j ≠ k → (octState t j).level = (octState s j).level) ∧
      (∀ x, octDemand s k < (octState s k).level.toNat → (octState s k).lowerSince = some x →
        Runs (.reefLevelStep k) s fun t =>
          (octState t k).level.toNat = if x + msUp 10 ≤ s.tb.up then (octState s k).level.toNat - 1
            else (octState s k).level.toNat) ∧
      ((octState s k).level = 0 → octDemand s k = 0 → s.pwr.boostEn.getLsbD k = true →
        Runs (.reefLevelStep k) s fun t => (octState t k).boosted = true ∧ (octState t k).level = 0)) ∧
    (∀ k : Fin 8, (octState s k).boosted = true → (octDemand s k ≠ 0 ∨ s.pwr.boostEn.getLsbD k = false) →
      Runs (.reefLevelStep k) s fun t =>
        (octState t k).boosted = false ∧ (octState t k).level = (octState s k).level ∧
          t.pwr.reefChanges = s.pwr.reefChanges + 1)

/-- OP_POWER_LIMIT, OP_REEF_STATUS, OP_DOMAIN_POWER, OP_BOOST, OP_THERMAL_READ (16 R377, R385, R392). -/
def Obligations.PowerOpcodesComplete : Prop :=
  ∀ (s : State) (c : Chan) (k : CmdHeld),
    (HasCmd s c 0x0801 k → OthersIdle s c → 300 ≤ k.f 0 2 → k.f 0 2 ≤ 1300 → k.f 2 1 ≤ 7 → 200 ≤ k.f 4 2 → k.f 4 2 ≤ 1500 →
      Reserved k [3, 6, 7] →
      Runs (.opPowerLimit c) s fun t =>
        Answered t c k 0 (layout 4 [(0, 2, s.pwr.limitW.toNat)]) ∧ t.pwr.limitW.toNat = k.f 0 2 ∧
          t.pwr.capLevel.toNat = k.f 2 1 ∧ t.pwr.iccMax.toNat = k.f 4 2 ∧ t.pwr.domains = s.pwr.domains) ∧
    (HasCmd s c 0x0802 k →
      Runs (.opReefStatus c) s fun t => Answered t c k 0 (((List.range 8).map fun n => leBytes 4 (pwrOct s n)).flatten
        ++ leBytes 4 (pwrStatus s) ++ leBytes 4 (pwrPower s) ++ leBytes 4 s.pwr.reefChanges.toNat ++ zeros 4) ∧
        t.pwr = s.pwr) ∧
    (∀ (found : List DeepPortFound) (d : Nat) (on : Bool), HasCmd s c 0x0803 k → k.f 0 1 = d → 1 ≤ d → d ≤ 29 → d ≠ 2 →
      k.f 1 1 = b2n on → Reserved k [2, 3] → domainOn s d ≠ on →
      ((if on then mayOn s d else mayOff s d) = true →
        Runs (.opDomainPower c found) s fun t =>
          Answered t c k 0 (leBytes 4 t.pwr.domains.toNat) ∧
            ∀ j : Fin 30, t.pwr.domains.getLsbD j = if j.val = d then on else s.pwr.domains.getLsbD j) ∧
      ((if on then mayOn s d else mayOff s d) = false →
        Runs (.opDomainPower c found) s fun t =>
          Answered t c k 5 (leBytes 4 s.pwr.domains.toNat) ∧ t.pwr = s.pwr ∧ t.tw = s.tw ∧ t.gn = s.gn ∧
            t.cores = s.cores)) ∧
    (∀ found : List DeepPortFound, HasCmd s c 0x0803 k → (k.f 0 1 = 0 ∨ k.f 0 1 = 2) →
      Runs (.opDomainPower c found) s fun t => Answered t c k 4 (leBytes 4 s.pwr.domains.toNat) ∧ t.pwr = s.pwr) ∧
    (HasCmd s c 0x0804 k → Reserved k [1, 2, 3] →
      Runs (.opBoost c) s fun t => Answered t c k 0 [] ∧ t.pwr = { s.pwr with boostEn := BitVec.ofNat 8 (k.f 0 1) }) ∧
    (HasCmd s c 0x0805 k →
      Runs (.opThermalRead c) s fun t => t.pwr = s.pwr ∧ ∃ ref : Nat,
        Answered t c k 0 (((List.range 8).map fun n => leBytes 4 (pwrTemp s n)).flatten ++ leBytes 2 ref ++ zeros 2))

/-! ### 17: boot, update, life cycle -/

/-- OP_FW_UPDATE_BEGIN, OP_FW_UPDATE_DATA, OP_FW_UPDATE_COMMIT (17 R395, R400, R401, R411); a boot record that cannot be written
ends a commit ST_HW_ERROR (the model's choice, log 28). -/
def Obligations.FirmwareIsUpdated : Prop :=
  ∀ (s : State) (c : Chan) (k : CmdHeld),
    (HasCmd s c 0x0A01 k → 4097 ≤ k.f 0 4 → k.f 0 4 ≤ 2 ^ 24 → Reserved k [4, 5, 6, 7] →
      (∀ x, s.mbx.session = some x → x.chan = c) →
      Runs (.opFwUpdateBegin c) s fun t =>
        Answered t c k 0 (layout 4 [(0, 1, b2n !s.sec.bootSlotB)]) ∧ t.sec = s.sec ∧
          t.mbx.session = some ⟨c, !s.sec.bootSlotB, k.f 0 4, 0, s.tb.up⟩) ∧
    (∀ x, HasCmd s c 0x0A01 k → 4097 ≤ k.f 0 4 → k.f 0 4 ≤ 2 ^ 24 → Reserved k [4, 5, 6, 7] →
      s.mbx.session = some x → x.chan ≠ c →
      Runs (.opFwUpdateBegin c) s fun t => Answered t c k 1 (zeros 4) ∧ t.mbx.session = s.mbx.session) ∧
    (∀ x, HasCmd s c 0x0A02 k → s.mbx.session = some x → x.chan = c → k.f 0 4 = x.received → 1 ≤ k.f 4 2 →
      k.f 4 2 ≤ 1000 → x.received + k.f 4 2 ≤ x.imageLen → Reserved k [6, 7] →
      Runs (.opFwUpdateData c) s fun t =>
        Answered t c k 0 (leBytes 4 (x.received + k.f 4 2)) ∧
          t.mbx.session = some { x with received := x.received + k.f 4 2, lastAt := s.tb.up } ∧
          slotBytes t x.slotB = putAt (slotBytes s x.slotB) x.received (k.payload.drop 8) ∧
          slotBytes t (!x.slotB) = slotBytes s (!x.slotB)) ∧
    (∀ x, HasCmd s c 0x0A03 k → s.mbx.session = some x → x.chan = c → k.f 0 1 ≤ 1 → Reserved k [1, 2, 3] →
      (x.received ≠ x.imageLen →
        Runs (.opFwUpdateCommit c) s fun t => Answered t c k 5 (layout 8 [(5, 1, b2n s.sec.bootSlotB)]) ∧ t.sec = s.sec) ∧
      (x.received = x.imageLen → imageOk s (slotBytes s x.slotB) = false →
        Runs (.opFwUpdateCommit c) s fun t =>
          Answered t c k 0x000A (layout 8 [(5, 1, b2n s.sec.bootSlotB)]) ∧ t.sec = s.sec ∧ t.mbx.session = none) ∧
      (x.received = x.imageLen → imageOk s (slotBytes s x.slotB) = true → s.sec.norOk = false →
        Runs (.opFwUpdateCommit c) s fun t =>
          Answered t c k 0x000B (layout 8 [(5, 1, b2n s.sec.bootSlotB)]) ∧ t.sec.bootSlotB = s.sec.bootSlotB ∧
            t.mbx.session = none) ∧
      (x.received = x.imageLen → imageOk s (slotBytes s x.slotB) = true → s.sec.norOk = true → s.sec.phase = 8 →
        Runs (.opFwUpdateCommit c) s fun t => (chan t c).done = true ∧ t.mbx.session = none ∧ t.sec.bootSlotB = x.slotB ∧
          t.sec.slotB = x.slotB ∧ t.sec.fwStarted = true ∧ t.sec.fallback = false ∧
          t.sec.phase = (if s.sec.loopDone = true then 3 else 1)) ∧
      (x.received = x.imageLen → imageOk s (slotBytes s x.slotB) = true → s.sec.norOk = true → s.sec.phase ≠ 8 →
        Runs (.opFwUpdateCommit c) s fun t =>
          Answered t c k 0 (layout 8 [(0, 4, fieldAt (slotBytes s x.slotB) 4 4), (4, 1, fieldAt (slotBytes s x.slotB) 8 1),
            (5, 1, b2n x.slotB)]) ∧ t.mbx.session = none ∧
            t.sec = { s.sec with
              bootSlotB := x.slotB
              svnMin := if k.f 0 1 = 1 ∧ s.sec.lifecycle = 2 then BitVec.ofNat 6 (min 63 (max s.sec.svnMin.toNat (fieldAt (slotBytes s x.slotB) 8 1)))
                else s.sec.svnMin }))

/-- OP_LIFECYCLE_ADVANCE, OP_LIFECYCLE_STATUS, OP_ATTEST, TAMPER, TAMPER_N_RELEASE, JTAG_INSTRUCTION (17 R402 to R407, R411; 18
R412). -/
def Obligations.LifecycleAndTamper : Prop :=
  ∀ s : State, Awake s →
    (∀ (c : Chan) (k : CmdHeld), HasCmd s c 0x0A04 k → k.f 0 1 = s.sec.lifecycle.toNat + 1 → k.f 0 1 ≤ 3 →
      Reserved k [1, 2, 3, 4, 5, 6, 7] →
      (advanceOk s k = true →
        Runs (.opLifecycleAdvance c) s fun t =>
          (chan t c).cmd = some { k with begun := true } ∧ t.sec = { s.sec with
            nonce := none, lcPending := true, lcTarget := BitVec.ofNat 2 (k.f 0 1), lcKeyHash := cut k.payload 16 48 }) ∧
      (advanceOk s k = false →
        Runs (.opLifecycleAdvance c) s fun t =>
          Answered t c k 0x000A (layout 4 [(0, 1, s.sec.lifecycle.toNat)]) ∧ t.sec = { s.sec with nonce := none })) ∧
    (∀ (c : Chan) (k : CmdHeld), mpServes s = true → (chan s c).cmd = some k → k.opcode.toNat = 0x0A04 →
      k.ready = true → k.begun = true → s.sec.lcPending = true → Memory.wf (chan s c).resp = true →
      Runs (.opLifecycleAdvance c) s fun t =>
        Answered t c k 0 (layout 4 [(0, 1, s.sec.lcTarget.toNat)]) ∧ t.sec = { s.sec with
          dik := [], ak := [], sealedValid := false, lcPending := false, lifecycle := s.sec.lcTarget
          ownerHash := if s.sec.lcTarget = 1 then s.sec.lcKeyHash else s.sec.ownerHash }) ∧
    (∀ (c : Chan) (k : CmdHeld), HasCmd s c 0x0A05 k →
      Runs (.opLifecycleStatus c) s fun t => ∃ n : Dword,
        Answered t c k 0 (statusResp s n.toNat) ∧ t.sec = { s.sec with nonce := some n }) ∧
    (∀ (c : Chan) (k : CmdHeld), HasCmd s c 0x0A06 k →
      (s.sec.sealedValid = true → s.sec.lifecycle ≠ 3 →
        Runs (.opAttest c) s fun t => Answered t c k 0 (attestBody s k ++
          fit 96 (Config.ecdsaSign (scratch s s.sec.ak) (Config.sha384 (attestBody s k)))) ∧ t.sec = s.sec) ∧
      ((s.sec.sealedValid = false ∨ s.sec.lifecycle = 3) →
        Runs (.opAttest c) s fun t => Answered t c k 5 (zeros 416) ∧ t.sec = s.sec)) ∧
    (∀ ns : Nat, 1000 ≤ ns → s.sec.tamperNow = false →
      Runs (.tamper ns) s fun t =>
        t.sec = { s.sec with
          dik := [], ak := [], sealedValid := false, tamperNow := true, tamperSeen := true
          tamperFuses := if s.sec.tamperFuses.toNat < 32 then s.sec.tamperFuses + 1 else s.sec.tamperFuses } ∧
          (mpServes s = true → s.mbx.ring = none → s.hl.posts = [] → ∃ e ∈ t.mbx.log, e.typ = 0x0009 ∧ e.sev = 1 ∧
            fieldAt e.data 0 2 = 0x0300 ∧ e.seq = s.mbx.evtSeq + 1)) ∧
    (∀ ns : Nat, ns < 100 → Runs (.tamper ns) s fun t => t = s) ∧
    (∀ ns : Nat, 100 ≤ ns → ns < 1000 → s.sec.tamperNow = false →
      Runs (.tamper ns) s fun t => t.sec.tamperNow = true ∧ t.sec.phase = s.sec.phase ∧
        t.sec.lifecycle = s.sec.lifecycle ∧ (t.sec.tamperSeen = false → t.sec.dik = s.sec.dik ∧ t.sec.ak = s.sec.ak)) ∧
    (Runs .tamperNRelease s fun t => t = { s with sec := { s.sec with tamperNow := false } }) ∧
    (∀ i : JtagInstr,
      ((i = .bypass ∨ i = .samplePreload ∨ i = .extest ∨ s.sec.lifecycle = 0 ∨ s.sec.lifecycle = 3) →
        Runs (.jtagInstruction i) s fun t => t = { s with sec := { s.sec with jtag := i } }) ∧
      (∀ n : Nat, i = .other n → (s.sec.lifecycle = 1 ∨ s.sec.lifecycle = 2) →
        Runs (.jtagInstruction i) s fun t => t = s))

/-! ### The whole block -/

/-- 02 R44: when a deadline has passed; the fraction of DT takes no part; a remote timeout of T formed at DT value S is the deadline
S + T. -/
def Obligations.DeadlinesPass : Prop :=
  (∀ (s : State) (d : Dword), passed s d = true ↔ d ≠ 0xFFFFFFFFFFFFFFFF ∧ d.toNat < (dtNs s).toNat) ∧
  (∀ (s t : State) (d : Dword), dtNs s = dtNs t → passed s d = passed t d) ∧
  ∀ (s u : State) (op fl tc : Byte) (chip inc : Half) (g : Dword) (l : List Bytes) (w : TrackWhy) (i : Nat),
    sendRequest s op fl tc chip inc g 0xFFFFFFFFFFFFFFFF l w = (.sent i, u) →
    (dtNs s).toNat + remoteUs s tc * 1000 < 2 ^ 64 - 1 →
    ∃ tr, tget u.fab.trackers i = some tr ∧ tr.deadline.toNat = (dtNs s).toNat + remoteUs s tc * 1000

/-- 05 R430: the first failing check decides the status; among failing fields the lowest offset is DETAIL; a response of steps 1 to 4
has LEN 0; a refused command changes nothing but its channel and what announces it. -/
def Obligations.ChecksComeInOrder : Prop :=
  (∀ (ch : MbxChan) (h : Chk),
    (∀ x ∈ h.param, x.1 = true →
      ∃ o, firstFail ch h = some (4, o) ∧ (true, o) ∈ h.param ∧ ∀ y ∈ h.param, y.1 = true → o ≤ y.2) ∧
    ((∀ x ∈ h.param, x.1 = false) →
      (ch.ctxBound = true → ∀ x ∈ h.ctxs, x ≠ ch.ctx.toNat → firstFail ch h = some (6, 0)) ∧
      ((ch.ctxBound = false ∨ ∀ x ∈ h.ctxs, x = ch.ctx.toNat) →
        (h.missing = true → firstFail ch h = some (8, 0)) ∧
        (∀ st, h.missing = false → h.state = some st → firstFail ch h = some (st, 0)) ∧
        (h.missing = false → h.state = none → firstFail ch h = if h.full then some (7, 0) else none)))) ∧
  (∀ (s : State) (c : Chan) (op st d : Nat) (k : CmdHeld) (chk : CmdHeld → Chk) (ref : CmdHeld → State → Bytes)
      (eff : CmdHeld → State → Done), HasCmd s c op k → orderHeld s c k (chk k) = false →
    firstFail (chan s c) (chk k) = some (st, d) → ∃ t, runOp s c op chk ref eff = t ∧
      (chan t c).done = true ∧ (chan t c).busy = false ∧ (chan t c).lastSeq = k.seq ∧
        memRead (chan t c).resp 0 (16 + (ref k s).length) = layout 16 [(0, 2, k.opcode.toNat), (2, 2, k.seq.toNat),
          (4, 2, (ref k s).length), (7, 1, 1), (8, 2, st), (10, 2, d)] ++ ref k s ∧
        t = { s with mbx := t.mbx, hl := t.hl, out := t.out }) ∧
  ∀ (s : State) (c : Chan) (r : OpRow) (k : CmdHeld), Awake s → mpServes s = true → (chan s c).busy = true →
    (chan s c).cmd = none → (chan s c).bell = nextSeq (chan s c).lastSeq → Memory.wf (chan s c).resp = true →
    fieldAt (memRead (chan s c).req 0 1024) 2 2 = (chan s c).bell.toNat →
    fieldAt (memRead (chan s c).req 0 1024) 7 1 = 1 → k.seq = (chan s c).bell →
    k.opcode = BitVec.ofNat 16 (fieldAt (memRead (chan s c).req 0 1024) 0 2) → opRow k.opcode.toNat = some r →
    (mayCarry s c r = false → Runs (.mbxAck c) s fun t => Answered t c k 6 []) ∧
    (∀ st, mayCarry s c r = true → phaseRefuses s k.opcode.toNat = some st →
      Runs (.mbxAck c) s fun t => Answered t c k st []) ∧
    (mayCarry s c r = true → phaseRefuses s k.opcode.toNat = none →
      fieldAt (memRead (chan s c).req 0 1024) 6 1 % 2 = 0 →
      (1008 < fieldAt (memRead (chan s c).req 0 1024) 4 2 ∨
        lenFits r.len (fieldAt (memRead (chan s c).req 0 1024) 4 2) (((memRead (chan s c).req 0 1024).drop 16).take
          (fieldAt (memRead (chan s c).req 0 1024) 4 2)) = false) →
      Runs (.mbxAck c) s fun t => Answered t c k 3 [])

/-- Every command ends in a next state and leaves the queue as it was; while the device is held in cold reset only BOOT has an effect
(the model's choice, log 2 and 17). -/
def Obligations.EveryCommandEnds : Prop :=
  ∀ (i : Instr) (s : State), (∃ t, exec i s = .next t ∧ t.pending = s.pending) ∧
    (s.sec.cold = true → (∀ b, i ≠ .boot b) → exec i s = .next s)

/-- Right after reset the invariants hold, and the registers read what the spec states for reset (02 R46; 04 R89; 05 R95, R116; 06
R142; 15 R375; 16 R391; 17 R410). -/
def Obligations.ResetState : Prop :=
  Inv State.reset ∧ MemoriesOk State.reset ∧ State.reset.pending = [] ∧ State.reset.sec.phase = 0 ∧
    tbStatus State.reset.tb = 0 ∧ tbConfig State.reset.tb.cfg = 277344804 ∧ calStatus State.reset = 9 ∧ pwrPower State.reset = 85196800 ∧
    State.reset.tb.valid = false ∧ State.reset.tb.holdEst = 0xFFFFFFFF ∧ State.reset.tb.count = 0 ∧
    pwrStatus State.reset = 0 ∧ State.reset.gn.spa.fault = true ∧
    State.reset.gn.spb.fault = true ∧ State.reset.gn.mode = 0 ∧ State.reset.mbx.evtSeq = 0 ∧
    (∀ c : Fin 16, (chan State.reset (hostChan c)).enabled = (c.val == 0)) ∧
    (chan State.reset 0).areas = 0xFFFF ∧ State.reset.hl.intStatus = 0 ∧ State.reset.hl.intEnable = 0 ∧
    State.reset.hl.cohMode = 0 ∧ State.reset.hl.bar4 = 2 ^ 28 ∧ State.reset.hlt.heartbeat = 0 ∧
    State.reset.hlt.hbPeriod = 10 ∧ State.reset.pwr.iccMax = 1400 ∧
    State.reset.pwr.capLevel = 4 ∧ State.reset.pwr.boostEn = 0 ∧ State.reset.fab.chipId = none ∧
    State.reset.te.tables = [] ∧ State.reset.sch.queues = [] ∧ State.reset.xl.maps = [] ∧
    ∀ n : Fin 32, (State.reset.cores[n]).fenced = false ∧ ∀ b : Fin 34, ((State.reset.cores[n]).banks[b]).ownerB = 1

/-- Every step keeps `Inv`: the incarnation number, running and recorded, is never 0 (14 R348), the coherence mode and its window agree
(06 R126, R127), and a pending life-cycle transition goes to exactly the next state (17 R403). -/
def Obligations.StepsKeepInv : Prop := ∀ s t : State, Inv s → step s = .next t → Inv t

/-- Every step keeps every memory in its canonical form (tower cells, scratchpads, instruction stores, request and response areas),
and the accesses in flight different in number. -/
def Obligations.StepsKeepMemories : Prop := ∀ s t : State, MemoriesOk s → step s = .next t → MemoriesOk t

/-- 02 R34: no command steps DT once VALID is 1, and VALID then stays 1, until a cold reset; no command moves the unlocked
count. What no command undoes: a fence holds until cold reset, and after a cold reset every core is unfenced, its banks
all LOCAL (09 R207); TAMPER_SEEN stays set until cold reset, and the fuses of the life-cycle state, tampers and SVN_MIN
never go back. -/
def Obligations.LockFencesAndFusesHold : Prop :=
  (
    ∀ (i : Instr) (s t : State), exec i s = .next t → t.sec.cold = false →
      t.tb.up = s.tb.up ∧ (s.tb.valid = true → t.tb.valid = true ∧ t.tb.count = s.tb.count)) ∧
  (
    (∀ (i : Instr) (s t : State), Inv s → exec i s = .next t →
      s.sec.lifecycle ≤ t.sec.lifecycle ∧ s.sec.tamperFuses ≤ t.sec.tamperFuses ∧ s.sec.svnMin ≤ t.sec.svnMin ∧
        (t.sec.cold = false → (s.sec.tamperSeen = true → t.sec.tamperSeen = true) ∧
          ∀ n : Fin 32, (s.cores[n]).fenced = true → (t.cores[n]).fenced = true)) ∧
    ∀ (i : Instr) (s : State), Awake s → (i = .coldReset .rail ∨ i = .coldReset .debug) →
      Runs i s fun t => ∀ n : Fin 32, (t.cores[n]).fenced = false ∧ ∀ b : Fin 34, ((t.cores[n]).banks[b]).ownerB = 0x01)

/-! ### Frames: what commands leave unchanged -/

/-- Only the commands listed in `Instr.changesTime`, `changesCal` and `changesGnss` change the timebase, the calibration
items and the GNSS baseband; no command moves the count that stands in for the timing clock. Only the commands listed
change the life cycle, keys, flash and fuses; the health registers; power; and the bridle bits. -/
def Obligations.TimeAndSecurityFrame : Prop :=
  (
    ∀ (i : Instr) (s t : State), exec i s = .next t →
      (i.changesTime = false → t.tb = s.tb) ∧ (i.changesCal = false → t.cal = s.cal) ∧ (i.changesGnss = false → t.gn = s.gn)) ∧
  (
    ∀ (i : Instr) (s t : State), exec i s = .next t →
      (i.changesSecurity = false → t.sec = s.sec) ∧ (i.changesHealth = false → t.hlt = s.hlt) ∧
        (i.changesPower = false → t.pwr = s.pwr) ∧ (i.changesBridles = false → t.bridled = s.bridled))

/-- Every byte of tower memory is as before but for the commands that store there or lose a line; a host read or write that meets no
uncorrectable error loses none, and a host write within a line or a write of 64 bytes by CXL.mem stores exactly its bytes; tiers, contexts and mappings change by the commands listed only. -/
def Obligations.MemoryFrame : Prop :=
  (∀ (i : Instr) (s t : State), exec i s = .next t →
    (i.storesTower = false → ∀ a : Nat, memGet t.tw.cells a = memGet s.tw.cells a) ∧
      (i.changesLayout = false → t.tw.fullG = s.tw.fullG ∧ t.tw.quadG = s.tw.quadG ∧ t.tw.rc = s.tw.rc ∧
        t.tw.ports = s.tw.ports ∧ t.tw.interleave = s.tw.interleave ∧ t.tw.retPages = s.tw.retPages ∧
        t.tw.retDeep = s.tw.retDeep) ∧
      (i.changesMaps = false → t.xl.maps = s.xl.maps ∧ t.xl.ctxs = s.xl.ctxs)) ∧
  (∀ (s : State) (off n : Nat) (errs : List (Nat × LineErr)), Awake s → (∀ e ∈ errs, e.2 ≠ .uncorrectable) →
    Runs (.bar4Read off n errs) s fun t => ∀ a : Nat, memGet t.tw.cells a = memGet s.tw.cells a) ∧
  (∀ (s : State) (off cell : Nat) (d : List (Option Byte)) (ep : Bool) (errs : List (Nat × LineErr)), Awake s → Memory.wf s.tw.cells = true →
    0 < d.length → off % 64 + d.length ≤ 64 → cellOf s off = some cell →
    (∀ e ∈ errs, e.2 ≠ .uncorrectable) →
    Runs (.bar4Write off d ep errs) s fun t => ∀ a : Nat, (a < cell ∨ cell + d.length ≤ a) →
      memGet t.tw.cells a = memGet s.tw.cells a) ∧
  ∀ (s : State) (dpa cell : Nat) (d : List (Option Byte)) (p : Bool) (err : LineErr), Awake s →
    Memory.wf s.tw.cells = true → dpa % 64 = 0 → d.length = 64 → cellOf s dpa = some cell → err ≠ .uncorrectable →
    Runs (.cxlMemWrite dpa d p err) s fun t => ∀ a : Nat, (a < cell ∨ cell + 64 ≤ a) →
      memGet t.tw.cells a = memGet s.tw.cells a

/-- Only the commands listed change the cores and their banks, table descriptors, update streams, plans, queues and sync
objects. Only the commands listed change the chip's routes and incarnation, the links, the host configuration, and the
event ring and update session. -/
def Obligations.CoresAndFabricFrame : Prop :=
  (
    ∀ (i : Instr) (s t : State), exec i s = .next t →
      (i.changesCores = false → t.cores = s.cores) ∧ (i.changesTables = false → t.te.tables = s.te.tables) ∧
        (i.changesStreams = false → t.te.streams = s.te.streams) ∧ (i.changesPlans = false → t.sch.plans = s.sch.plans) ∧
        (i.changesQueues = false → t.sch.queues = s.sch.queues) ∧ (i.changesSync = false → t.sch.sync = s.sch.sync)) ∧
  (
    ∀ (i : Instr) (s t : State), exec i s = .next t →
      (i.changesRoutes = false → t.fab.chipId = s.fab.chipId ∧ t.fab.inc = s.fab.inc ∧ t.fab.topo = s.fab.topo ∧
        t.fab.dims = s.fab.dims ∧ t.fab.peers = s.fab.peers ∧ t.fab.detours = s.fab.detours ∧
        t.fab.longestUs = s.fab.longestUs) ∧
      (i.changesLinks = false → t.fab.links = s.fab.links) ∧
      (i.changesHostConfig = false → t.hl.cfg = s.hl.cfg ∧ t.hl.link = s.hl.link ∧ t.hl.cohMode = s.hl.cohMode ∧
        t.hl.winUnits = s.hl.winUnits ∧ t.hl.winBase = s.hl.winBase ∧ t.hl.bar4 = s.hl.bar4 ∧
        t.hl.intEnable = s.hl.intEnable) ∧
      (i.changesRings = false → t.mbx.ring = s.mbx.ring ∧ t.mbx.session = s.mbx.session))

/-- A mailbox opcode touches no other channel than its own, but for those that name one (OP_MBX_GRANT, OP_MBX_RESET), end another
channel's command (OP_LINK_DOWN, OP_CHIP_RESET) or serve a calibration run. -/
def Obligations.ChannelsApart : Prop :=
  ∀ (i : Instr) (s t : State) (c d : Chan), i.ownChan = some c → exec i s = .next t → d ≠ c → chan t d = chan s d
end

