-- ==== Sys2Proof/Laws/Keeps.lean ====
section
/-! SUPPORT. Keeps.lean: what every operation of the block keeps: the queue, the invariants, the canonical form of every memory, the fuses,
VALID and DT once locked, TAMPER_SEEN and the fences. -/

namespace Sys2Proof.Machine

/-- What holds of a state `t` that operations lead to from `a`, none of them a cold reset or BOOT. -/
structure Keeps (a t : State) : Prop where
  pending : t.pending = a.pending
  cold : t.sec.cold = a.sec.cold
  inv : Inv a → Inv t
  fuses : Inv a → a.sec.lifecycle ≤ t.sec.lifecycle ∧ a.sec.tamperFuses ≤ t.sec.tamperFuses ∧ a.sec.svnMin ≤ t.sec.svnMin
  mem : MemoriesOk a → MemoriesOk t
  up : t.tb.up = a.tb.up
  valid : a.tb.valid = true → t.tb.valid = true ∧ t.tb.count = a.tb.count
  seen : a.sec.tamperSeen = true → t.sec.tamperSeen = true
  fenced : ∀ n : Fin 32, (a.cores[n]).fenced = true → (t.cores[n]).fenced = true

theorem Keeps.refl (a : State) : Keeps a a :=
  ⟨rfl, rfl, id, fun _ => ⟨BitVec.le_refl _, BitVec.le_refl _, BitVec.le_refl _⟩, id, rfl, fun h => ⟨h, rfl⟩, id, fun _ h => h⟩

theorem Keeps.trans {a u t : State} (h : Keeps a u) (k : Keeps u t) : Keeps a t :=
  ⟨k.pending.trans h.pending, k.cold.trans h.cold, fun x => k.inv (h.inv x),
    fun x => ⟨BitVec.le_trans (h.fuses x).1 (k.fuses (h.inv x)).1, BitVec.le_trans (h.fuses x).2.1 (k.fuses (h.inv x)).2.1,
      BitVec.le_trans (h.fuses x).2.2 (k.fuses (h.inv x)).2.2⟩,
    fun x => k.mem (h.mem x), k.up.trans h.up,
    fun x => ⟨(k.valid (h.valid x).1).1, ((k.valid (h.valid x).1).2).trans (h.valid x).2⟩, fun x => k.seen (h.seen x),
    fun n x => k.fenced n (h.fenced n x)⟩

/-- The parts of the state that `Keeps` speaks of. -/
def kept (s : State) :=
  (s.pending, s.fab.inc, s.hl.cohMode, s.hl.winUnits, s.tw.cells, s.mbx.chans, s.cores,
    (s.tb.up, s.tb.valid, s.tb.count, s.acc, s.nextAcc),
    (s.sec.cold, s.sec.incRec, s.sec.lcPending, s.sec.lcTarget, s.sec.lifecycle, s.sec.tamperFuses, s.sec.svnMin, s.sec.tamperSeen))

theorem Keeps.same {a u t : State} (h : Keeps a u) (e : kept t = kept u) : Keeps a t := by
  refine h.trans ?_
  simp only [kept, Prod.mk.injEq] at e
  obtain ⟨e1, e2, e3, e4, e5, e6, e7, ⟨e8, e9, e10, e19, e20⟩, e11, e12, e13, e14, e15, e16, e17, e18⟩ := e
  refine ⟨e1, e11, ?_, ?_, ?_, e8, ?_, ?_, ?_⟩
  · simp only [Inv, e2, e3, e4, e12, e13, e14, e15, imp_self]
  · intro _; simp only [e15, e16, e17]; exact ⟨BitVec.le_refl _, BitVec.le_refl _, BitVec.le_refl _⟩
  · simp only [MemoriesOk, AccDistinct, chan, e5, e6, e7, e19, e20, imp_self]
  · intro h; exact ⟨e9.trans h, e10⟩
  · intro h; exact e18.trans h
  · intro n h; rw [e7]; exact h

/-- A record update of `u` that leaves these parts. -/
theorem Keeps.upd {a u : State} {tb cal gn mbx hl xl acc nextAcc tw cores bridled te sch fab hlt pwr sec out freeCtr}
    (h : Keeps a u)
    (e : kept ⟨tb, cal, gn, mbx, hl, xl, acc, nextAcc, tw, cores, bridled, te, sch, fab, hlt, pwr, sec, out, freeCtr, u.pending⟩
      = kept u) :
    Keeps a ⟨tb, cal, gn, mbx, hl, xl, acc, nextAcc, tw, cores, bridled, te, sch, fab, hlt, pwr, sec, out, freeCtr, u.pending⟩ :=
  h.same e

theorem foldl_keeps {α : Type} {a : State} (f : State → α → State) (hf : ∀ s x, Keeps a s → Keeps a (f s x)) (l : List α)
    (s : State) (h : Keeps a s) : Keeps a (l.foldl f s) := by
  induction l generalizing s with
  | nil => exact h
  | cons x l ih => exact ih _ (hf s x h)

/-- A core whose fence, scratchpad and instruction store are as good as before. -/
def CoreKept (c d : Core) : Prop :=
  (c.fenced = true → d.fenced = true) ∧ (Memory.wf c.spad = true → Memory.wf d.spad = true) ∧
    (Memory.wf c.istore = true → Memory.wf d.istore = true)

/-- A channel whose areas are as good as before. -/
def ChanKept (c d : MbxChan) : Prop :=
  (Memory.wf c.req = true → Memory.wf d.req = true) ∧ (Memory.wf c.resp = true → Memory.wf d.resp = true)

end Sys2Proof.Machine
end

