-- ==== Sys2Proof/Laws/Memory.lean ====
section
/-! SUPPORT. Memory.lean: the laws of a memory: a read after a write, and the canonical form that every write keeps. -/

namespace Sys2Proof.Machine

/-- A byte set reads back; every other byte is as it was. -/
theorem memGet_memSet_of_wfFrom : ∀ (m : Mem) (lo a : Nat) (v : Byte) (x : Nat), memWfFrom lo m = true →
    memGet (memSet m a v) x = if x = a then v else memGet m x := by
  intro m
  induction m with
  | nil =>
    intro lo a v x _
    simp only [memSet]
    split
    · rename_i hv
      by_cases hx : x = a
      · simp only [memGet, hx, if_true]; exact hv.symm
      · simp only [memGet, hx, if_false]
    · rfl
  | cons e r ih =>
    obtain ⟨b, w⟩ := e
    intro lo a v x h
    simp only [memWfFrom, Bool.and_eq_true, decide_eq_true_eq] at h
    have hr : ∀ y, y ≤ b → memGet r y = 0 := by
      intro y hy
      have : ∀ (r : Mem) (l : Nat), y < l → memWfFrom l r = true → memGet r y = 0 := by
        intro r
        induction r with
        | nil => intros; rfl
        | cons e r ih2 =>
          intro l hl hw
          simp only [memWfFrom, Bool.and_eq_true, decide_eq_true_eq] at hw
          have : y ≠ e.1 := by omega
          simp only [memGet, this, if_false]
          exact ih2 (e.1 + 1) (by omega) hw.2
      exact this r (b + 1) (by omega) h.2
    simp only [memSet]
    split
    · rename_i hab
      by_cases hv : v = 0
      · simp only [hv, if_true]
        by_cases hx : x = a
        · rw [if_pos hx, hx]
          simp only [memGet, show a ≠ b by omega, if_false]
          exact hr a (by omega)
        · simp [hx]
      · simp only [hv, if_false, memGet]
    · rename_i hab
      split
      · rename_i hab2
        subst hab2
        by_cases hv : v = 0
        · simp only [hv, if_true]
          by_cases hx : x = a
          · simp only [hx, if_true]; exact hr a (Nat.le_refl _)
          · simp [memGet, hx]
        · simp only [hv, if_false, memGet]
          by_cases hx : x = a <;> simp [hx]
      · rename_i hne
        simp only [memGet]
        by_cases hx : x = b
        · have : x ≠ a := by omega
          simp [hx, show b ≠ a by omega]
        · simp only [hx, if_false]
          exact ih (b + 1) a v x h.2

theorem memGet_memSet {m : Mem} (h : Memory.wf m = true) (a : Nat) (v : Byte) (x : Nat) :
    memGet (memSet m a v) x = if x = a then v else memGet m x := memGet_memSet_of_wfFrom m 0 a v x h

theorem memSet_wfFrom : ∀ (m : Mem) (lo a : Nat) (v : Byte), lo ≤ a → memWfFrom lo m = true →
    memWfFrom lo (memSet m a v) = true := by
  intro m
  induction m with
  | nil =>
    intro lo a v h _
    simp only [memSet]
    split
    · rfl
    · rename_i hv
      simp only [memWfFrom, Bool.and_eq_true, decide_eq_true_eq, bne_iff_ne, ne_eq, and_true]
      exact ⟨h, hv⟩
  | cons e r ih =>
    obtain ⟨b, w⟩ := e
    intro lo a v h hw
    simp only [memWfFrom, Bool.and_eq_true, decide_eq_true_eq] at hw
    have weak : ∀ (r : Mem) (l l' : Nat), l' ≤ l → memWfFrom l r = true → memWfFrom l' r = true := by
      intro r l l' hl hr
      cases r with
      | nil => rfl
      | cons e r =>
        simp only [memWfFrom, Bool.and_eq_true, decide_eq_true_eq] at hr ⊢
        exact ⟨⟨by omega, hr.1.2⟩, hr.2⟩
    simp only [memSet]
    split
    · split
      · simp only [memWfFrom, Bool.and_eq_true, decide_eq_true_eq]
        exact hw
      · rename_i hab hv
        simp only [memWfFrom, Bool.and_eq_true, decide_eq_true_eq]
        exact ⟨⟨h, by simpa using hv⟩, ⟨by omega, hw.1.2⟩, hw.2⟩
    · split
      · rename_i hab hab2
        subst hab2
        split
        · exact weak r (a + 1) lo (by omega) hw.2
        · rename_i hv
          simp only [memWfFrom, Bool.and_eq_true, decide_eq_true_eq]
          exact ⟨⟨h, by simpa using hv⟩, hw.2⟩
      · simp only [memWfFrom, Bool.and_eq_true, decide_eq_true_eq]
        exact ⟨hw.1, ih (b + 1) a v (by omega) hw.2⟩

/-- Setting a byte keeps the canonical form. -/
theorem memSet_wf {m : Mem} (h : Memory.wf m = true) (a : Nat) (v : Byte) : Memory.wf (memSet m a v) = true :=
  memSet_wfFrom m 0 a v (Nat.zero_le _) h

/-- Writing bytes keeps the canonical form. -/
theorem memWrite_wf : ∀ (bs : Bytes) (m : Mem) (a : Nat), Memory.wf m = true → Memory.wf (memWrite m a bs) = true := by
  intro bs
  induction bs with
  | nil => intro m a h; exact h
  | cons b r ih => intro m a h; exact ih _ _ (memSet_wf h a b)

/-- The bytes a write leaves: those written, and the others as they were. -/
theorem memGet_memWrite : ∀ (bs : Bytes) (m : Mem) (a x : Nat), Memory.wf m = true →
    memGet (memWrite m a bs) x = if a ≤ x ∧ x < a + bs.length then bs.getD (x - a) 0 else memGet m x := by
  intro bs
  induction bs with
  | nil =>
    intro m a x _
    have : ¬(a ≤ x ∧ x < a + ([] : Bytes).length) := by simp
    rw [if_neg this]; rfl
  | cons b r ih =>
    intro m a x h
    rw [memWrite, ih _ _ _ (memSet_wf h a b), memGet_memSet h]
    simp only [List.length_cons]
    by_cases h1 : x = a
    · subst h1
      rw [if_neg (by omega), if_pos rfl, if_pos (by omega)]; simp
    · by_cases h2 : a + 1 ≤ x ∧ x < a + 1 + r.length
      · rw [if_pos h2, if_pos (by omega)]
        obtain ⟨k, hk⟩ : ∃ k, x = a + 1 + k := ⟨x - (a + 1), by omega⟩
        subst hk
        simp [show a + 1 + k - (a + 1) = k by omega, show a + 1 + k - a = k + 1 by omega]
      · rw [if_neg h2, if_neg h1, if_neg (by omega)]

/-- The bytes written read back. -/
theorem memRead_memWrite {m : Mem} (h : Memory.wf m = true) (a : Nat) (bs : Bytes) :
    memRead (memWrite m a bs) a bs.length = bs := by
  apply List.ext_getElem
  · simp [memRead]
  · intro i h1 h2
    simp only [memRead, List.getElem_map, List.getElem_range, memGet_memWrite bs m a _ h]
    rw [if_pos ⟨Nat.le_add_right _ _, by omega⟩]
    simp [show a + i - a = i by omega, h2]

/-- A write leaves the bytes outside it. -/
theorem memGet_memWrite_other {m : Mem} (h : Memory.wf m = true) (a : Nat) (bs : Bytes) (x : Nat)
    (hx : x < a ∨ a + bs.length ≤ x) : memGet (memWrite m a bs) x = memGet m x := by
  rw [memGet_memWrite bs m a x h, if_neg (by omega)]

@[simp] theorem memRead_length (m : Mem) (a n : Nat) : (memRead m a n).length = n := by simp [memRead]

@[simp] theorem leBytes_length : ∀ n v : Nat, (leBytes n v).length = n
  | 0, _ => rfl
  | n + 1, v => by simp [leBytes, leBytes_length n]

@[simp] theorem zeros_length (n : Nat) : (zeros n).length = n := by simp [zeros]

/-- A structure of fields that lie inside it has the length given. -/
theorem layout_length (len : Nat) (fs : List (Nat × Nat × Nat)) (h : ∀ f ∈ fs, f.1 + f.2.1 ≤ len) :
    (layout len fs).length = len := by
  have : ∀ (fs : List (Nat × Nat × Nat)) (b : Bytes), b.length = len → (∀ f ∈ fs, f.1 + f.2.1 ≤ len) →
      (fs.foldl (fun b f => putAt b f.1 (leBytes f.2.1 f.2.2)) b).length = len := by
    intro fs
    induction fs with
    | nil => intro b hb _; exact hb
    | cons f r ih =>
      intro b hb hf
      refine ih _ ?_ fun g hg => hf g (List.mem_cons_of_mem _ hg)
      have := hf f List.mem_cons_self
      simp [putAt, hb]; omega
  exact this fs (zeros len) (by simp) h

end Sys2Proof.Machine
end

