-- ==== Sys2Proof/Laws/Ops.lean ====
section
/-! SUPPORT. Laws/Ops.lean: what the shared operations do: held in cold reset or not, numbered tables, vectors, registers, and the
running of a mailbox opcode. -/

namespace Sys2Proof.Machine

/-! ### A command takes effect unless the device is held in cold reset -/

theorem live_awake {s : State} (h : Awake s) (f : State → State) : live s f = .next (f s) := by
  simp [live, h]

theorem live_cold {s : State} (h : s.sec.cold = true) (f : State → State) : live s f = .next s := by
  simp [live, h]

theorem barWrite_on {s : State} (h : Awake s) (d : hostDecode s = true) (f : State → State) : barWrite s f = .next (f s) := by
  simp [barWrite, live, h, d]

theorem barWrite_off {s : State} (d : hostDecode s = false) (f : State → State) : barWrite s f = .next s := by
  simp [barWrite, live, d]

theorem barRead_on {s : State} (h : Awake s) (d : hostDecode s = true) (f : State → State) : barRead s f = .next (f s) := by
  simp [barRead, live, h, d]

theorem barRead_off {s : State} (h : Awake s) (d : hostDecode s = false) (f : State → State) :
    barRead s f = .next (emit s .unsupported) := by
  simp [barRead, live, h, d]

/-- A command that a meaning under `live` executes ends in the state its effect gives. -/
theorem runs_live {i : Instr} {s : State} {P : State → Prop} {f : State → State} (e : exec i s = live s f) (h : Awake s)
    (p : P (f s)) : Runs i s P :=
  ⟨f s, e.trans (live_awake h f), p⟩

/-! ### Numbered tables -/

theorem tget_tput {α : Type} (t : Tab α) (i : Nat) (v : α) : tget (tput t i v) i = some v := by
  induction t with
  | nil => simp [tput, tget]
  | cons e r ih =>
    obtain ⟨j, w⟩ := e
    unfold tput
    split
    · simp [tget]
    · split
      · simp [tget]
      · next h => simp [tget, h, ih]

theorem tget_tput_other {α : Type} (t : Tab α) {i k : Nat} (v : α) (h : k ≠ i) : tget (tput t i v) k = tget t k := by
  induction t with
  | nil => simp [tput, tget, h]
  | cons e r ih =>
    obtain ⟨j, w⟩ := e
    unfold tput
    split
    · simp [tget, h]
    · split
      · next hij => subst hij; simp [tget, h]
      · simp [tget, ih]

theorem tget_tdel {α : Type} (t : Tab α) (i : Nat) : tget (tdel t i) i = none := by
  induction t with
  | nil => simp [tdel, tget]
  | cons e r ih =>
    obtain ⟨j, w⟩ := e
    by_cases h : j = i
    · simpa [tdel, h] using ih
    · have : i ≠ j := fun x => h x.symm
      simpa [tdel, h, tget, this] using ih

theorem tget_tdel_other {α : Type} (t : Tab α) {i k : Nat} (h : k ≠ i) : tget (tdel t i) k = tget t k := by
  induction t with
  | nil => simp [tdel, tget]
  | cons e r ih =>
    obtain ⟨j, w⟩ := e
    by_cases hj : j = i
    · subst hj; simpa [tdel, tget, h] using ih
    · by_cases hk : k = j
      · simp [tdel, hj, tget, hk]
      · simpa [tdel, hj, tget, hk] using ih

theorem tget_tmod {α : Type} (t : Tab α) (i k : Nat) (f : α → α) :
    tget (tmod t i f) k = if k = i then (tget t k).map f else tget t k := by
  induction t with
  | nil => simp [tmod, tget]
  | cons e r ih =>
    obtain ⟨j, w⟩ := e
    have e1 : tmod ((j, w) :: r) i f = (if j = i then (j, f w) else (j, w)) :: tmod r i f := by simp [tmod]
    rw [e1]
    by_cases hj : j = i
    · subst hj
      by_cases hk : k = j <;> simp [tget, hk, ih]
    · by_cases hk : k = j
      · subst hk; simp [tget, hj]
      · simp [tget, hj, hk, ih]

/-! ### Vectors, registers -/

theorem vget_vmod {α : Type} {n : Nat} (v : Vector α n) (i j : Nat) (f : α → α) (d : α) :
    vget (vmod v i f) j d = if j = i ∧ i < n then f (vget v j d) else vget v j d := by
  unfold vget vmod
  by_cases hi : i < n
  · by_cases hj : j < n
    · by_cases h : j = i
      · subst h; simp [hi]
      · simp [hi, hj, h, Ne.symm h]
    · have : j ≠ i := fun e => hj (e ▸ hi)
      simp [hj, this]
  · simp [hi]

theorem Regs.get_zero (r : Regs) : r.get 0 = 0 := rfl

theorem Regs.put_zero (r : Regs) (v : Dword) : r.put 0 v = r := rfl

theorem Regs.get_put (r : Regs) {i : Nat} (v : Dword) (h : i ≠ 0) (h32 : i < 32) : (r.put i v).get i = v := by
  simp [Regs.get, Regs.put, h, vget_vmod, h32]

theorem Regs.get_put_other (r : Regs) {i j : Nat} (v : Dword) (h : j ≠ i) : (r.put i v).get j = r.get j := by
  unfold Regs.get Regs.put
  split
  · rfl
  · split <;> simp [vget_vmod, h]

/-! ### The running of an opcode (05 R97, R430) -/

/-- No command of that opcode is ready on the channel: nothing happens. -/
theorem runOp_none {s : State} {c : Chan} {op : Nat} (h : opCmd s c op = none) (chk refused eff) :
    runOp s c op chk refused eff = s := by
  simp [runOp, h]

/-- The first check that fails answers the command. -/
theorem runOp_refused {s : State} {c : Chan} {op : Nat} {k : CmdHeld} {chk : CmdHeld → Chk} {st d : Nat} (h : opCmd s c op = some k)
    (b : k.begun = false) (o : orderHeld s c k (chk k) = false) (f : firstFail (chan s c) (chk k) = some (st, d)) (refused eff) :
    runOp s c op chk refused eff = finishCmd s c st d (refused k s) := by
  simp [runOp, h, b, o, f]

/-- The command of the channel has begun, or passes every check now. -/
abbrev Goes (s : State) (c : Chan) (op : Nat) (chk : CmdHeld → Chk) (k : CmdHeld) : Prop :=
  opCmd s c op = some k ∧ (k.begun = true ∨ (orderHeld s c k (chk k) = false ∧ firstFail (chan s c) (chk k) = none))

theorem runOp_ok {s s' : State} {c : Chan} {op : Nat} {k : CmdHeld} {chk : CmdHeld → Chk} {refused eff} {r : Bytes}
    (g : Goes s c op chk k) (e : eff k s = .ok s' r) : runOp s c op chk refused eff = finishCmd s' c stOk 0 r := by
  obtain ⟨h, b | ⟨o, f⟩⟩ := g
  · simp [runOp, h, b, e]
  · by_cases b : k.begun = true <;> simp [runOp, h, b, o, f, e]

theorem runOp_fail {s s' : State} {c : Chan} {op : Nat} {k : CmdHeld} {chk : CmdHeld → Chk} {refused eff} {st : Nat} {r : Bytes}
    (g : Goes s c op chk k) (e : eff k s = .fail s' st r) : runOp s c op chk refused eff = finishCmd s' c st 0 r := by
  obtain ⟨h, b | ⟨o, f⟩⟩ := g
  · simp [runOp, h, b, e]
  · by_cases b : k.begun = true <;> simp [runOp, h, b, o, f, e]

theorem runOp_wait {s s' : State} {c : Chan} {op : Nat} {k : CmdHeld} {chk : CmdHeld → Chk} {refused eff}
    (g : Goes s c op chk k) (e : eff k s = .wait s') : runOp s c op chk refused eff = setBegun s' c := by
  obtain ⟨h, b | ⟨o, f⟩⟩ := g
  · simp [runOp, h, b, e]
  · by_cases b : k.begun = true <;> simp [runOp, h, b, o, f, e]

/-- An opcode whose effect is a function is the running of that effect, ended ST_OK with its view of the state after it. -/
theorem plainOp_runOp {s : State} {c : Chan} {op : Nat} {k : CmdHeld} {chk : CmdHeld → Chk} (resp eff)
    (h : opCmd s c op = some k) (b : k.begun = false) :
    plainOp s c op chk resp eff = runOp s c op chk resp fun k s => .ok (eff k s) (resp k (eff k s)) := by
  simp [plainOp, runOp, h, b]

theorem plainOp_ok {s : State} {c : Chan} {op : Nat} {k : CmdHeld} {chk : CmdHeld → Chk} (resp eff)
    (h : opCmd s c op = some k) (o : orderHeld s c k (chk k) = false) (f : firstFail (chan s c) (chk k) = none) :
    plainOp s c op chk resp eff = finishCmd (eff k s) c stOk 0 (resp k (eff k s)) := by
  simp [plainOp, h, o, f]

/-- A completed command: the channel is free, its sequence number is LAST_SEQ, its response stands in the response area. -/
theorem finishWith_chan {irq : Bool} {s : State} {c : Chan} {k : CmdHeld} (st d : Nat) (p : Bytes) (h : (chan s c).cmd = some k)
    (n : (irq && (chan s c).irqEn) = false) (g : s.hlt.mpHung = false) :
    finishWith irq s c st d p = modChan s c fun ch => { ch with
      resp := memWrite ch.resp 0 (respHeader k st d p.length ++ p)
      lastSeq := k.seq
      done := true
      busy := false
      cmd := none } := by
  have e : ∀ f : MbxChan → MbxChan, chan (modChan s c f) c = f (chan s c) := by intro f; simp [chan, modChan]
  simp only [finishWith, h, g]
  rw [e]
  simp [n]

end Sys2Proof.Machine
end

