-- ==== Sys2Proof/Laws/State.lean ====
section
/-! SUPPORT. Laws/State.lean: what each update of the state leaves: one lemma for each field that it does not touch. -/

namespace Sys2Proof.Machine

/-! ### emit -/

@[simp] theorem emit_tb (s : State) (o) : (emit s o).tb = s.tb := rfl
@[simp] theorem emit_cal (s : State) (o) : (emit s o).cal = s.cal := rfl
@[simp] theorem emit_gn (s : State) (o) : (emit s o).gn = s.gn := rfl
@[simp] theorem emit_mbx (s : State) (o) : (emit s o).mbx = s.mbx := rfl
@[simp] theorem emit_hl (s : State) (o) : (emit s o).hl = s.hl := rfl
@[simp] theorem emit_xl (s : State) (o) : (emit s o).xl = s.xl := rfl
@[simp] theorem emit_acc (s : State) (o) : (emit s o).acc = s.acc := rfl
@[simp] theorem emit_nextAcc (s : State) (o) : (emit s o).nextAcc = s.nextAcc := rfl
@[simp] theorem emit_tw (s : State) (o) : (emit s o).tw = s.tw := rfl
@[simp] theorem emit_cores (s : State) (o) : (emit s o).cores = s.cores := rfl
@[simp] theorem emit_bridled (s : State) (o) : (emit s o).bridled = s.bridled := rfl
@[simp] theorem emit_te (s : State) (o) : (emit s o).te = s.te := rfl
@[simp] theorem emit_sch (s : State) (o) : (emit s o).sch = s.sch := rfl
@[simp] theorem emit_fab (s : State) (o) : (emit s o).fab = s.fab := rfl
@[simp] theorem emit_hlt (s : State) (o) : (emit s o).hlt = s.hlt := rfl
@[simp] theorem emit_pwr (s : State) (o) : (emit s o).pwr = s.pwr := rfl
@[simp] theorem emit_sec (s : State) (o) : (emit s o).sec = s.sec := rfl
@[simp] theorem emit_freeCtr (s : State) (o) : (emit s o).freeCtr = s.freeCtr := rfl
@[simp] theorem emit_pending (s : State) (o) : (emit s o).pending = s.pending := rfl

/-! ### modChan -/

@[simp] theorem modChan_tb (s : State) (c) (f) : (modChan s c f).tb = s.tb := rfl
@[simp] theorem modChan_cal (s : State) (c) (f) : (modChan s c f).cal = s.cal := rfl
@[simp] theorem modChan_gn (s : State) (c) (f) : (modChan s c f).gn = s.gn := rfl
@[simp] theorem modChan_hl (s : State) (c) (f) : (modChan s c f).hl = s.hl := rfl
@[simp] theorem modChan_xl (s : State) (c) (f) : (modChan s c f).xl = s.xl := rfl
@[simp] theorem modChan_acc (s : State) (c) (f) : (modChan s c f).acc = s.acc := rfl
@[simp] theorem modChan_nextAcc (s : State) (c) (f) : (modChan s c f).nextAcc = s.nextAcc := rfl
@[simp] theorem modChan_tw (s : State) (c) (f) : (modChan s c f).tw = s.tw := rfl
@[simp] theorem modChan_cores (s : State) (c) (f) : (modChan s c f).cores = s.cores := rfl
@[simp] theorem modChan_bridled (s : State) (c) (f) : (modChan s c f).bridled = s.bridled := rfl
@[simp] theorem modChan_te (s : State) (c) (f) : (modChan s c f).te = s.te := rfl
@[simp] theorem modChan_sch (s : State) (c) (f) : (modChan s c f).sch = s.sch := rfl
@[simp] theorem modChan_fab (s : State) (c) (f) : (modChan s c f).fab = s.fab := rfl
@[simp] theorem modChan_hlt (s : State) (c) (f) : (modChan s c f).hlt = s.hlt := rfl
@[simp] theorem modChan_pwr (s : State) (c) (f) : (modChan s c f).pwr = s.pwr := rfl
@[simp] theorem modChan_sec (s : State) (c) (f) : (modChan s c f).sec = s.sec := rfl
@[simp] theorem modChan_out (s : State) (c) (f) : (modChan s c f).out = s.out := rfl
@[simp] theorem modChan_freeCtr (s : State) (c) (f) : (modChan s c f).freeCtr = s.freeCtr := rfl
@[simp] theorem modChan_pending (s : State) (c) (f) : (modChan s c f).pending = s.pending := rfl

/-! ### setBegun -/

@[simp] theorem setBegun_tb (s : State) (c) : (setBegun s c).tb = s.tb := rfl
@[simp] theorem setBegun_cal (s : State) (c) : (setBegun s c).cal = s.cal := rfl
@[simp] theorem setBegun_gn (s : State) (c) : (setBegun s c).gn = s.gn := rfl
@[simp] theorem setBegun_hl (s : State) (c) : (setBegun s c).hl = s.hl := rfl
@[simp] theorem setBegun_xl (s : State) (c) : (setBegun s c).xl = s.xl := rfl
@[simp] theorem setBegun_acc (s : State) (c) : (setBegun s c).acc = s.acc := rfl
@[simp] theorem setBegun_nextAcc (s : State) (c) : (setBegun s c).nextAcc = s.nextAcc := rfl
@[simp] theorem setBegun_tw (s : State) (c) : (setBegun s c).tw = s.tw := rfl
@[simp] theorem setBegun_cores (s : State) (c) : (setBegun s c).cores = s.cores := rfl
@[simp] theorem setBegun_bridled (s : State) (c) : (setBegun s c).bridled = s.bridled := rfl
@[simp] theorem setBegun_te (s : State) (c) : (setBegun s c).te = s.te := rfl
@[simp] theorem setBegun_sch (s : State) (c) : (setBegun s c).sch = s.sch := rfl
@[simp] theorem setBegun_fab (s : State) (c) : (setBegun s c).fab = s.fab := rfl
@[simp] theorem setBegun_hlt (s : State) (c) : (setBegun s c).hlt = s.hlt := rfl
@[simp] theorem setBegun_pwr (s : State) (c) : (setBegun s c).pwr = s.pwr := rfl
@[simp] theorem setBegun_sec (s : State) (c) : (setBegun s c).sec = s.sec := rfl
@[simp] theorem setBegun_out (s : State) (c) : (setBegun s c).out = s.out := rfl
@[simp] theorem setBegun_freeCtr (s : State) (c) : (setBegun s c).freeCtr = s.freeCtr := rfl
@[simp] theorem setBegun_pending (s : State) (c) : (setBegun s c).pending = s.pending := rfl

/-! ### setProgress -/

@[simp] theorem setProgress_tb (s : State) (c) (n) : (setProgress s c n).tb = s.tb := rfl
@[simp] theorem setProgress_cal (s : State) (c) (n) : (setProgress s c n).cal = s.cal := rfl
@[simp] theorem setProgress_gn (s : State) (c) (n) : (setProgress s c n).gn = s.gn := rfl
@[simp] theorem setProgress_hl (s : State) (c) (n) : (setProgress s c n).hl = s.hl := rfl
@[simp] theorem setProgress_xl (s : State) (c) (n) : (setProgress s c n).xl = s.xl := rfl
@[simp] theorem setProgress_acc (s : State) (c) (n) : (setProgress s c n).acc = s.acc := rfl
@[simp] theorem setProgress_nextAcc (s : State) (c) (n) : (setProgress s c n).nextAcc = s.nextAcc := rfl
@[simp] theorem setProgress_tw (s : State) (c) (n) : (setProgress s c n).tw = s.tw := rfl
@[simp] theorem setProgress_cores (s : State) (c) (n) : (setProgress s c n).cores = s.cores := rfl
@[simp] theorem setProgress_bridled (s : State) (c) (n) : (setProgress s c n).bridled = s.bridled := rfl
@[simp] theorem setProgress_te (s : State) (c) (n) : (setProgress s c n).te = s.te := rfl
@[simp] theorem setProgress_sch (s : State) (c) (n) : (setProgress s c n).sch = s.sch := rfl
@[simp] theorem setProgress_fab (s : State) (c) (n) : (setProgress s c n).fab = s.fab := rfl
@[simp] theorem setProgress_hlt (s : State) (c) (n) : (setProgress s c n).hlt = s.hlt := rfl
@[simp] theorem setProgress_pwr (s : State) (c) (n) : (setProgress s c n).pwr = s.pwr := rfl
@[simp] theorem setProgress_sec (s : State) (c) (n) : (setProgress s c n).sec = s.sec := rfl
@[simp] theorem setProgress_out (s : State) (c) (n) : (setProgress s c n).out = s.out := rfl
@[simp] theorem setProgress_freeCtr (s : State) (c) (n) : (setProgress s c n).freeCtr = s.freeCtr := rfl
@[simp] theorem setProgress_pending (s : State) (c) (n) : (setProgress s c n).pending = s.pending := rfl

/-! ### setSession -/

@[simp] theorem setSession_tb (s : State) (x) : (setSession s x).tb = s.tb := rfl
@[simp] theorem setSession_cal (s : State) (x) : (setSession s x).cal = s.cal := rfl
@[simp] theorem setSession_gn (s : State) (x) : (setSession s x).gn = s.gn := rfl
@[simp] theorem setSession_hl (s : State) (x) : (setSession s x).hl = s.hl := rfl
@[simp] theorem setSession_xl (s : State) (x) : (setSession s x).xl = s.xl := rfl
@[simp] theorem setSession_acc (s : State) (x) : (setSession s x).acc = s.acc := rfl
@[simp] theorem setSession_nextAcc (s : State) (x) : (setSession s x).nextAcc = s.nextAcc := rfl
@[simp] theorem setSession_tw (s : State) (x) : (setSession s x).tw = s.tw := rfl
@[simp] theorem setSession_cores (s : State) (x) : (setSession s x).cores = s.cores := rfl
@[simp] theorem setSession_bridled (s : State) (x) : (setSession s x).bridled = s.bridled := rfl
@[simp] theorem setSession_te (s : State) (x) : (setSession s x).te = s.te := rfl
@[simp] theorem setSession_sch (s : State) (x) : (setSession s x).sch = s.sch := rfl
@[simp] theorem setSession_fab (s : State) (x) : (setSession s x).fab = s.fab := rfl
@[simp] theorem setSession_hlt (s : State) (x) : (setSession s x).hlt = s.hlt := rfl
@[simp] theorem setSession_pwr (s : State) (x) : (setSession s x).pwr = s.pwr := rfl
@[simp] theorem setSession_sec (s : State) (x) : (setSession s x).sec = s.sec := rfl
@[simp] theorem setSession_out (s : State) (x) : (setSession s x).out = s.out := rfl
@[simp] theorem setSession_freeCtr (s : State) (x) : (setSession s x).freeCtr = s.freeCtr := rfl
@[simp] theorem setSession_pending (s : State) (x) : (setSession s x).pending = s.pending := rfl

/-! ### modCore -/

@[simp] theorem modCore_tb (s : State) (n) (f) : (modCore s n f).tb = s.tb := rfl
@[simp] theorem modCore_cal (s : State) (n) (f) : (modCore s n f).cal = s.cal := rfl
@[simp] theorem modCore_gn (s : State) (n) (f) : (modCore s n f).gn = s.gn := rfl
@[simp] theorem modCore_mbx (s : State) (n) (f) : (modCore s n f).mbx = s.mbx := rfl
@[simp] theorem modCore_hl (s : State) (n) (f) : (modCore s n f).hl = s.hl := rfl
@[simp] theorem modCore_xl (s : State) (n) (f) : (modCore s n f).xl = s.xl := rfl
@[simp] theorem modCore_acc (s : State) (n) (f) : (modCore s n f).acc = s.acc := rfl
@[simp] theorem modCore_nextAcc (s : State) (n) (f) : (modCore s n f).nextAcc = s.nextAcc := rfl
@[simp] theorem modCore_tw (s : State) (n) (f) : (modCore s n f).tw = s.tw := rfl
@[simp] theorem modCore_bridled (s : State) (n) (f) : (modCore s n f).bridled = s.bridled := rfl
@[simp] theorem modCore_te (s : State) (n) (f) : (modCore s n f).te = s.te := rfl
@[simp] theorem modCore_sch (s : State) (n) (f) : (modCore s n f).sch = s.sch := rfl
@[simp] theorem modCore_fab (s : State) (n) (f) : (modCore s n f).fab = s.fab := rfl
@[simp] theorem modCore_hlt (s : State) (n) (f) : (modCore s n f).hlt = s.hlt := rfl
@[simp] theorem modCore_pwr (s : State) (n) (f) : (modCore s n f).pwr = s.pwr := rfl
@[simp] theorem modCore_sec (s : State) (n) (f) : (modCore s n f).sec = s.sec := rfl
@[simp] theorem modCore_out (s : State) (n) (f) : (modCore s n f).out = s.out := rfl
@[simp] theorem modCore_freeCtr (s : State) (n) (f) : (modCore s n f).freeCtr = s.freeCtr := rfl
@[simp] theorem modCore_pending (s : State) (n) (f) : (modCore s n f).pending = s.pending := rfl

/-! ### modThread -/

@[simp] theorem modThread_tb (s : State) (n) (t) (f) : (modThread s n t f).tb = s.tb := rfl
@[simp] theorem modThread_cal (s : State) (n) (t) (f) : (modThread s n t f).cal = s.cal := rfl
@[simp] theorem modThread_gn (s : State) (n) (t) (f) : (modThread s n t f).gn = s.gn := rfl
@[simp] theorem modThread_mbx (s : State) (n) (t) (f) : (modThread s n t f).mbx = s.mbx := rfl
@[simp] theorem modThread_hl (s : State) (n) (t) (f) : (modThread s n t f).hl = s.hl := rfl
@[simp] theorem modThread_xl (s : State) (n) (t) (f) : (modThread s n t f).xl = s.xl := rfl
@[simp] theorem modThread_acc (s : State) (n) (t) (f) : (modThread s n t f).acc = s.acc := rfl
@[simp] theorem modThread_nextAcc (s : State) (n) (t) (f) : (modThread s n t f).nextAcc = s.nextAcc := rfl
@[simp] theorem modThread_tw (s : State) (n) (t) (f) : (modThread s n t f).tw = s.tw := rfl
@[simp] theorem modThread_bridled (s : State) (n) (t) (f) : (modThread s n t f).bridled = s.bridled := rfl
@[simp] theorem modThread_te (s : State) (n) (t) (f) : (modThread s n t f).te = s.te := rfl
@[simp] theorem modThread_sch (s : State) (n) (t) (f) : (modThread s n t f).sch = s.sch := rfl
@[simp] theorem modThread_fab (s : State) (n) (t) (f) : (modThread s n t f).fab = s.fab := rfl
@[simp] theorem modThread_hlt (s : State) (n) (t) (f) : (modThread s n t f).hlt = s.hlt := rfl
@[simp] theorem modThread_pwr (s : State) (n) (t) (f) : (modThread s n t f).pwr = s.pwr := rfl
@[simp] theorem modThread_sec (s : State) (n) (t) (f) : (modThread s n t f).sec = s.sec := rfl
@[simp] theorem modThread_out (s : State) (n) (t) (f) : (modThread s n t f).out = s.out := rfl
@[simp] theorem modThread_freeCtr (s : State) (n) (t) (f) : (modThread s n t f).freeCtr = s.freeCtr := rfl
@[simp] theorem modThread_pending (s : State) (n) (t) (f) : (modThread s n t f).pending = s.pending := rfl

/-! ### modBank -/

@[simp] theorem modBank_tb (s : State) (n) (b) (f) : (modBank s n b f).tb = s.tb := rfl
@[simp] theorem modBank_cal (s : State) (n) (b) (f) : (modBank s n b f).cal = s.cal := rfl
@[simp] theorem modBank_gn (s : State) (n) (b) (f) : (modBank s n b f).gn = s.gn := rfl
@[simp] theorem modBank_mbx (s : State) (n) (b) (f) : (modBank s n b f).mbx = s.mbx := rfl
@[simp] theorem modBank_hl (s : State) (n) (b) (f) : (modBank s n b f).hl = s.hl := rfl
@[simp] theorem modBank_xl (s : State) (n) (b) (f) : (modBank s n b f).xl = s.xl := rfl
@[simp] theorem modBank_acc (s : State) (n) (b) (f) : (modBank s n b f).acc = s.acc := rfl
@[simp] theorem modBank_nextAcc (s : State) (n) (b) (f) : (modBank s n b f).nextAcc = s.nextAcc := rfl
@[simp] theorem modBank_tw (s : State) (n) (b) (f) : (modBank s n b f).tw = s.tw := rfl
@[simp] theorem modBank_bridled (s : State) (n) (b) (f) : (modBank s n b f).bridled = s.bridled := rfl
@[simp] theorem modBank_te (s : State) (n) (b) (f) : (modBank s n b f).te = s.te := rfl
@[simp] theorem modBank_sch (s : State) (n) (b) (f) : (modBank s n b f).sch = s.sch := rfl
@[simp] theorem modBank_fab (s : State) (n) (b) (f) : (modBank s n b f).fab = s.fab := rfl
@[simp] theorem modBank_hlt (s : State) (n) (b) (f) : (modBank s n b f).hlt = s.hlt := rfl
@[simp] theorem modBank_pwr (s : State) (n) (b) (f) : (modBank s n b f).pwr = s.pwr := rfl
@[simp] theorem modBank_sec (s : State) (n) (b) (f) : (modBank s n b f).sec = s.sec := rfl
@[simp] theorem modBank_out (s : State) (n) (b) (f) : (modBank s n b f).out = s.out := rfl
@[simp] theorem modBank_freeCtr (s : State) (n) (b) (f) : (modBank s n b f).freeCtr = s.freeCtr := rfl
@[simp] theorem modBank_pending (s : State) (n) (b) (f) : (modBank s n b f).pending = s.pending := rfl

/-! ### modOp -/

@[simp] theorem modOp_tb (s : State) (n) (i) (f) : (modOp s n i f).tb = s.tb := rfl
@[simp] theorem modOp_cal (s : State) (n) (i) (f) : (modOp s n i f).cal = s.cal := rfl
@[simp] theorem modOp_gn (s : State) (n) (i) (f) : (modOp s n i f).gn = s.gn := rfl
@[simp] theorem modOp_mbx (s : State) (n) (i) (f) : (modOp s n i f).mbx = s.mbx := rfl
@[simp] theorem modOp_hl (s : State) (n) (i) (f) : (modOp s n i f).hl = s.hl := rfl
@[simp] theorem modOp_xl (s : State) (n) (i) (f) : (modOp s n i f).xl = s.xl := rfl
@[simp] theorem modOp_acc (s : State) (n) (i) (f) : (modOp s n i f).acc = s.acc := rfl
@[simp] theorem modOp_nextAcc (s : State) (n) (i) (f) : (modOp s n i f).nextAcc = s.nextAcc := rfl
@[simp] theorem modOp_tw (s : State) (n) (i) (f) : (modOp s n i f).tw = s.tw := rfl
@[simp] theorem modOp_bridled (s : State) (n) (i) (f) : (modOp s n i f).bridled = s.bridled := rfl
@[simp] theorem modOp_te (s : State) (n) (i) (f) : (modOp s n i f).te = s.te := rfl
@[simp] theorem modOp_sch (s : State) (n) (i) (f) : (modOp s n i f).sch = s.sch := rfl
@[simp] theorem modOp_fab (s : State) (n) (i) (f) : (modOp s n i f).fab = s.fab := rfl
@[simp] theorem modOp_hlt (s : State) (n) (i) (f) : (modOp s n i f).hlt = s.hlt := rfl
@[simp] theorem modOp_pwr (s : State) (n) (i) (f) : (modOp s n i f).pwr = s.pwr := rfl
@[simp] theorem modOp_sec (s : State) (n) (i) (f) : (modOp s n i f).sec = s.sec := rfl
@[simp] theorem modOp_out (s : State) (n) (i) (f) : (modOp s n i f).out = s.out := rfl
@[simp] theorem modOp_freeCtr (s : State) (n) (i) (f) : (modOp s n i f).freeCtr = s.freeCtr := rfl
@[simp] theorem modOp_pending (s : State) (n) (i) (f) : (modOp s n i f).pending = s.pending := rfl

/-! ### modSlot -/

@[simp] theorem modSlot_tb (s : State) (i) (f) : (modSlot s i f).tb = s.tb := rfl
@[simp] theorem modSlot_cal (s : State) (i) (f) : (modSlot s i f).cal = s.cal := rfl
@[simp] theorem modSlot_gn (s : State) (i) (f) : (modSlot s i f).gn = s.gn := rfl
@[simp] theorem modSlot_mbx (s : State) (i) (f) : (modSlot s i f).mbx = s.mbx := rfl
@[simp] theorem modSlot_hl (s : State) (i) (f) : (modSlot s i f).hl = s.hl := rfl
@[simp] theorem modSlot_xl (s : State) (i) (f) : (modSlot s i f).xl = s.xl := rfl
@[simp] theorem modSlot_acc (s : State) (i) (f) : (modSlot s i f).acc = s.acc := rfl
@[simp] theorem modSlot_nextAcc (s : State) (i) (f) : (modSlot s i f).nextAcc = s.nextAcc := rfl
@[simp] theorem modSlot_tw (s : State) (i) (f) : (modSlot s i f).tw = s.tw := rfl
@[simp] theorem modSlot_cores (s : State) (i) (f) : (modSlot s i f).cores = s.cores := rfl
@[simp] theorem modSlot_bridled (s : State) (i) (f) : (modSlot s i f).bridled = s.bridled := rfl
@[simp] theorem modSlot_te (s : State) (i) (f) : (modSlot s i f).te = s.te := rfl
@[simp] theorem modSlot_fab (s : State) (i) (f) : (modSlot s i f).fab = s.fab := rfl
@[simp] theorem modSlot_hlt (s : State) (i) (f) : (modSlot s i f).hlt = s.hlt := rfl
@[simp] theorem modSlot_pwr (s : State) (i) (f) : (modSlot s i f).pwr = s.pwr := rfl
@[simp] theorem modSlot_sec (s : State) (i) (f) : (modSlot s i f).sec = s.sec := rfl
@[simp] theorem modSlot_out (s : State) (i) (f) : (modSlot s i f).out = s.out := rfl
@[simp] theorem modSlot_freeCtr (s : State) (i) (f) : (modSlot s i f).freeCtr = s.freeCtr := rfl
@[simp] theorem modSlot_pending (s : State) (i) (f) : (modSlot s i f).pending = s.pending := rfl

/-! ### modQueue -/

@[simp] theorem modQueue_tb (s : State) (q) (f) : (modQueue s q f).tb = s.tb := rfl
@[simp] theorem modQueue_cal (s : State) (q) (f) : (modQueue s q f).cal = s.cal := rfl
@[simp] theorem modQueue_gn (s : State) (q) (f) : (modQueue s q f).gn = s.gn := rfl
@[simp] theorem modQueue_mbx (s : State) (q) (f) : (modQueue s q f).mbx = s.mbx := rfl
@[simp] theorem modQueue_hl (s : State) (q) (f) : (modQueue s q f).hl = s.hl := rfl
@[simp] theorem modQueue_xl (s : State) (q) (f) : (modQueue s q f).xl = s.xl := rfl
@[simp] theorem modQueue_acc (s : State) (q) (f) : (modQueue s q f).acc = s.acc := rfl
@[simp] theorem modQueue_nextAcc (s : State) (q) (f) : (modQueue s q f).nextAcc = s.nextAcc := rfl
@[simp] theorem modQueue_tw (s : State) (q) (f) : (modQueue s q f).tw = s.tw := rfl
@[simp] theorem modQueue_cores (s : State) (q) (f) : (modQueue s q f).cores = s.cores := rfl
@[simp] theorem modQueue_bridled (s : State) (q) (f) : (modQueue s q f).bridled = s.bridled := rfl
@[simp] theorem modQueue_te (s : State) (q) (f) : (modQueue s q f).te = s.te := rfl
@[simp] theorem modQueue_fab (s : State) (q) (f) : (modQueue s q f).fab = s.fab := rfl
@[simp] theorem modQueue_hlt (s : State) (q) (f) : (modQueue s q f).hlt = s.hlt := rfl
@[simp] theorem modQueue_pwr (s : State) (q) (f) : (modQueue s q f).pwr = s.pwr := rfl
@[simp] theorem modQueue_sec (s : State) (q) (f) : (modQueue s q f).sec = s.sec := rfl
@[simp] theorem modQueue_out (s : State) (q) (f) : (modQueue s q f).out = s.out := rfl
@[simp] theorem modQueue_freeCtr (s : State) (q) (f) : (modQueue s q f).freeCtr = s.freeCtr := rfl
@[simp] theorem modQueue_pending (s : State) (q) (f) : (modQueue s q f).pending = s.pending := rfl

/-! ### modTable -/

@[simp] theorem modTable_tb (s : State) (i) (f) : (modTable s i f).tb = s.tb := rfl
@[simp] theorem modTable_cal (s : State) (i) (f) : (modTable s i f).cal = s.cal := rfl
@[simp] theorem modTable_gn (s : State) (i) (f) : (modTable s i f).gn = s.gn := rfl
@[simp] theorem modTable_mbx (s : State) (i) (f) : (modTable s i f).mbx = s.mbx := rfl
@[simp] theorem modTable_hl (s : State) (i) (f) : (modTable s i f).hl = s.hl := rfl
@[simp] theorem modTable_xl (s : State) (i) (f) : (modTable s i f).xl = s.xl := rfl
@[simp] theorem modTable_acc (s : State) (i) (f) : (modTable s i f).acc = s.acc := rfl
@[simp] theorem modTable_nextAcc (s : State) (i) (f) : (modTable s i f).nextAcc = s.nextAcc := rfl
@[simp] theorem modTable_tw (s : State) (i) (f) : (modTable s i f).tw = s.tw := rfl
@[simp] theorem modTable_cores (s : State) (i) (f) : (modTable s i f).cores = s.cores := rfl
@[simp] theorem modTable_bridled (s : State) (i) (f) : (modTable s i f).bridled = s.bridled := rfl
@[simp] theorem modTable_sch (s : State) (i) (f) : (modTable s i f).sch = s.sch := rfl
@[simp] theorem modTable_fab (s : State) (i) (f) : (modTable s i f).fab = s.fab := rfl
@[simp] theorem modTable_hlt (s : State) (i) (f) : (modTable s i f).hlt = s.hlt := rfl
@[simp] theorem modTable_pwr (s : State) (i) (f) : (modTable s i f).pwr = s.pwr := rfl
@[simp] theorem modTable_sec (s : State) (i) (f) : (modTable s i f).sec = s.sec := rfl
@[simp] theorem modTable_out (s : State) (i) (f) : (modTable s i f).out = s.out := rfl
@[simp] theorem modTable_freeCtr (s : State) (i) (f) : (modTable s i f).freeCtr = s.freeCtr := rfl
@[simp] theorem modTable_pending (s : State) (i) (f) : (modTable s i f).pending = s.pending := rfl

/-! ### modEngine -/

@[simp] theorem modEngine_tb (s : State) (e) (f) : (modEngine s e f).tb = s.tb := rfl
@[simp] theorem modEngine_cal (s : State) (e) (f) : (modEngine s e f).cal = s.cal := rfl
@[simp] theorem modEngine_gn (s : State) (e) (f) : (modEngine s e f).gn = s.gn := rfl
@[simp] theorem modEngine_mbx (s : State) (e) (f) : (modEngine s e f).mbx = s.mbx := rfl
@[simp] theorem modEngine_hl (s : State) (e) (f) : (modEngine s e f).hl = s.hl := rfl
@[simp] theorem modEngine_xl (s : State) (e) (f) : (modEngine s e f).xl = s.xl := rfl
@[simp] theorem modEngine_acc (s : State) (e) (f) : (modEngine s e f).acc = s.acc := rfl
@[simp] theorem modEngine_nextAcc (s : State) (e) (f) : (modEngine s e f).nextAcc = s.nextAcc := rfl
@[simp] theorem modEngine_tw (s : State) (e) (f) : (modEngine s e f).tw = s.tw := rfl
@[simp] theorem modEngine_cores (s : State) (e) (f) : (modEngine s e f).cores = s.cores := rfl
@[simp] theorem modEngine_bridled (s : State) (e) (f) : (modEngine s e f).bridled = s.bridled := rfl
@[simp] theorem modEngine_sch (s : State) (e) (f) : (modEngine s e f).sch = s.sch := rfl
@[simp] theorem modEngine_fab (s : State) (e) (f) : (modEngine s e f).fab = s.fab := rfl
@[simp] theorem modEngine_hlt (s : State) (e) (f) : (modEngine s e f).hlt = s.hlt := rfl
@[simp] theorem modEngine_pwr (s : State) (e) (f) : (modEngine s e f).pwr = s.pwr := rfl
@[simp] theorem modEngine_sec (s : State) (e) (f) : (modEngine s e f).sec = s.sec := rfl
@[simp] theorem modEngine_out (s : State) (e) (f) : (modEngine s e f).out = s.out := rfl
@[simp] theorem modEngine_freeCtr (s : State) (e) (f) : (modEngine s e f).freeCtr = s.freeCtr := rfl
@[simp] theorem modEngine_pending (s : State) (e) (f) : (modEngine s e f).pending = s.pending := rfl

/-! ### modStream -/

@[simp] theorem modStream_tb (s : State) (i) (f) : (modStream s i f).tb = s.tb := rfl
@[simp] theorem modStream_cal (s : State) (i) (f) : (modStream s i f).cal = s.cal := rfl
@[simp] theorem modStream_gn (s : State) (i) (f) : (modStream s i f).gn = s.gn := rfl
@[simp] theorem modStream_mbx (s : State) (i) (f) : (modStream s i f).mbx = s.mbx := rfl
@[simp] theorem modStream_hl (s : State) (i) (f) : (modStream s i f).hl = s.hl := rfl
@[simp] theorem modStream_xl (s : State) (i) (f) : (modStream s i f).xl = s.xl := rfl
@[simp] theorem modStream_acc (s : State) (i) (f) : (modStream s i f).acc = s.acc := rfl
@[simp] theorem modStream_nextAcc (s : State) (i) (f) : (modStream s i f).nextAcc = s.nextAcc := rfl
@[simp] theorem modStream_tw (s : State) (i) (f) : (modStream s i f).tw = s.tw := rfl
@[simp] theorem modStream_cores (s : State) (i) (f) : (modStream s i f).cores = s.cores := rfl
@[simp] theorem modStream_bridled (s : State) (i) (f) : (modStream s i f).bridled = s.bridled := rfl
@[simp] theorem modStream_sch (s : State) (i) (f) : (modStream s i f).sch = s.sch := rfl
@[simp] theorem modStream_fab (s : State) (i) (f) : (modStream s i f).fab = s.fab := rfl
@[simp] theorem modStream_hlt (s : State) (i) (f) : (modStream s i f).hlt = s.hlt := rfl
@[simp] theorem modStream_pwr (s : State) (i) (f) : (modStream s i f).pwr = s.pwr := rfl
@[simp] theorem modStream_sec (s : State) (i) (f) : (modStream s i f).sec = s.sec := rfl
@[simp] theorem modStream_out (s : State) (i) (f) : (modStream s i f).out = s.out := rfl
@[simp] theorem modStream_freeCtr (s : State) (i) (f) : (modStream s i f).freeCtr = s.freeCtr := rfl
@[simp] theorem modStream_pending (s : State) (i) (f) : (modStream s i f).pending = s.pending := rfl

/-! ### modLink -/

@[simp] theorem modLink_tb (s : State) (l) (f) : (modLink s l f).tb = s.tb := rfl
@[simp] theorem modLink_cal (s : State) (l) (f) : (modLink s l f).cal = s.cal := rfl
@[simp] theorem modLink_gn (s : State) (l) (f) : (modLink s l f).gn = s.gn := rfl
@[simp] theorem modLink_mbx (s : State) (l) (f) : (modLink s l f).mbx = s.mbx := rfl
@[simp] theorem modLink_hl (s : State) (l) (f) : (modLink s l f).hl = s.hl := rfl
@[simp] theorem modLink_xl (s : State) (l) (f) : (modLink s l f).xl = s.xl := rfl
@[simp] theorem modLink_acc (s : State) (l) (f) : (modLink s l f).acc = s.acc := rfl
@[simp] theorem modLink_nextAcc (s : State) (l) (f) : (modLink s l f).nextAcc = s.nextAcc := rfl
@[simp] theorem modLink_tw (s : State) (l) (f) : (modLink s l f).tw = s.tw := rfl
@[simp] theorem modLink_cores (s : State) (l) (f) : (modLink s l f).cores = s.cores := rfl
@[simp] theorem modLink_bridled (s : State) (l) (f) : (modLink s l f).bridled = s.bridled := rfl
@[simp] theorem modLink_te (s : State) (l) (f) : (modLink s l f).te = s.te := rfl
@[simp] theorem modLink_sch (s : State) (l) (f) : (modLink s l f).sch = s.sch := rfl
@[simp] theorem modLink_hlt (s : State) (l) (f) : (modLink s l f).hlt = s.hlt := rfl
@[simp] theorem modLink_pwr (s : State) (l) (f) : (modLink s l f).pwr = s.pwr := rfl
@[simp] theorem modLink_sec (s : State) (l) (f) : (modLink s l f).sec = s.sec := rfl
@[simp] theorem modLink_out (s : State) (l) (f) : (modLink s l f).out = s.out := rfl
@[simp] theorem modLink_freeCtr (s : State) (l) (f) : (modLink s l f).freeCtr = s.freeCtr := rfl
@[simp] theorem modLink_pending (s : State) (l) (f) : (modLink s l f).pending = s.pending := rfl

/-! ### toRouter -/

@[simp] theorem toRouter_tb (s : State) (p) : (toRouter s p).tb = s.tb := rfl
@[simp] theorem toRouter_cal (s : State) (p) : (toRouter s p).cal = s.cal := rfl
@[simp] theorem toRouter_gn (s : State) (p) : (toRouter s p).gn = s.gn := rfl
@[simp] theorem toRouter_mbx (s : State) (p) : (toRouter s p).mbx = s.mbx := rfl
@[simp] theorem toRouter_hl (s : State) (p) : (toRouter s p).hl = s.hl := rfl
@[simp] theorem toRouter_xl (s : State) (p) : (toRouter s p).xl = s.xl := rfl
@[simp] theorem toRouter_acc (s : State) (p) : (toRouter s p).acc = s.acc := rfl
@[simp] theorem toRouter_nextAcc (s : State) (p) : (toRouter s p).nextAcc = s.nextAcc := rfl
@[simp] theorem toRouter_tw (s : State) (p) : (toRouter s p).tw = s.tw := rfl
@[simp] theorem toRouter_cores (s : State) (p) : (toRouter s p).cores = s.cores := rfl
@[simp] theorem toRouter_bridled (s : State) (p) : (toRouter s p).bridled = s.bridled := rfl
@[simp] theorem toRouter_te (s : State) (p) : (toRouter s p).te = s.te := rfl
@[simp] theorem toRouter_sch (s : State) (p) : (toRouter s p).sch = s.sch := rfl
@[simp] theorem toRouter_hlt (s : State) (p) : (toRouter s p).hlt = s.hlt := rfl
@[simp] theorem toRouter_pwr (s : State) (p) : (toRouter s p).pwr = s.pwr := rfl
@[simp] theorem toRouter_sec (s : State) (p) : (toRouter s p).sec = s.sec := rfl
@[simp] theorem toRouter_out (s : State) (p) : (toRouter s p).out = s.out := rfl
@[simp] theorem toRouter_freeCtr (s : State) (p) : (toRouter s p).freeCtr = s.freeCtr := rfl
@[simp] theorem toRouter_pending (s : State) (p) : (toRouter s p).pending = s.pending := rfl

/-! ### dropIntake -/

@[simp] theorem dropIntake_tb (s : State) (f) : (dropIntake s f).tb = s.tb := rfl
@[simp] theorem dropIntake_cal (s : State) (f) : (dropIntake s f).cal = s.cal := rfl
@[simp] theorem dropIntake_gn (s : State) (f) : (dropIntake s f).gn = s.gn := rfl
@[simp] theorem dropIntake_mbx (s : State) (f) : (dropIntake s f).mbx = s.mbx := rfl
@[simp] theorem dropIntake_hl (s : State) (f) : (dropIntake s f).hl = s.hl := rfl
@[simp] theorem dropIntake_xl (s : State) (f) : (dropIntake s f).xl = s.xl := rfl
@[simp] theorem dropIntake_acc (s : State) (f) : (dropIntake s f).acc = s.acc := rfl
@[simp] theorem dropIntake_nextAcc (s : State) (f) : (dropIntake s f).nextAcc = s.nextAcc := rfl
@[simp] theorem dropIntake_tw (s : State) (f) : (dropIntake s f).tw = s.tw := rfl
@[simp] theorem dropIntake_cores (s : State) (f) : (dropIntake s f).cores = s.cores := rfl
@[simp] theorem dropIntake_bridled (s : State) (f) : (dropIntake s f).bridled = s.bridled := rfl
@[simp] theorem dropIntake_te (s : State) (f) : (dropIntake s f).te = s.te := rfl
@[simp] theorem dropIntake_sch (s : State) (f) : (dropIntake s f).sch = s.sch := rfl
@[simp] theorem dropIntake_hlt (s : State) (f) : (dropIntake s f).hlt = s.hlt := rfl
@[simp] theorem dropIntake_pwr (s : State) (f) : (dropIntake s f).pwr = s.pwr := rfl
@[simp] theorem dropIntake_sec (s : State) (f) : (dropIntake s f).sec = s.sec := rfl
@[simp] theorem dropIntake_out (s : State) (f) : (dropIntake s f).out = s.out := rfl
@[simp] theorem dropIntake_freeCtr (s : State) (f) : (dropIntake s f).freeCtr = s.freeCtr := rfl
@[simp] theorem dropIntake_pending (s : State) (f) : (dropIntake s f).pending = s.pending := rfl

/-! ### modHlt -/

@[simp] theorem modHlt_tb (s : State) (f) : (modHlt s f).tb = s.tb := rfl
@[simp] theorem modHlt_cal (s : State) (f) : (modHlt s f).cal = s.cal := rfl
@[simp] theorem modHlt_gn (s : State) (f) : (modHlt s f).gn = s.gn := rfl
@[simp] theorem modHlt_mbx (s : State) (f) : (modHlt s f).mbx = s.mbx := rfl
@[simp] theorem modHlt_hl (s : State) (f) : (modHlt s f).hl = s.hl := rfl
@[simp] theorem modHlt_xl (s : State) (f) : (modHlt s f).xl = s.xl := rfl
@[simp] theorem modHlt_acc (s : State) (f) : (modHlt s f).acc = s.acc := rfl
@[simp] theorem modHlt_nextAcc (s : State) (f) : (modHlt s f).nextAcc = s.nextAcc := rfl
@[simp] theorem modHlt_tw (s : State) (f) : (modHlt s f).tw = s.tw := rfl
@[simp] theorem modHlt_cores (s : State) (f) : (modHlt s f).cores = s.cores := rfl
@[simp] theorem modHlt_bridled (s : State) (f) : (modHlt s f).bridled = s.bridled := rfl
@[simp] theorem modHlt_te (s : State) (f) : (modHlt s f).te = s.te := rfl
@[simp] theorem modHlt_sch (s : State) (f) : (modHlt s f).sch = s.sch := rfl
@[simp] theorem modHlt_fab (s : State) (f) : (modHlt s f).fab = s.fab := rfl
@[simp] theorem modHlt_pwr (s : State) (f) : (modHlt s f).pwr = s.pwr := rfl
@[simp] theorem modHlt_sec (s : State) (f) : (modHlt s f).sec = s.sec := rfl
@[simp] theorem modHlt_out (s : State) (f) : (modHlt s f).out = s.out := rfl
@[simp] theorem modHlt_freeCtr (s : State) (f) : (modHlt s f).freeCtr = s.freeCtr := rfl
@[simp] theorem modHlt_pending (s : State) (f) : (modHlt s f).pending = s.pending := rfl

/-! ### modPwr -/

@[simp] theorem modPwr_tb (s : State) (f) : (modPwr s f).tb = s.tb := rfl
@[simp] theorem modPwr_cal (s : State) (f) : (modPwr s f).cal = s.cal := rfl
@[simp] theorem modPwr_gn (s : State) (f) : (modPwr s f).gn = s.gn := rfl
@[simp] theorem modPwr_mbx (s : State) (f) : (modPwr s f).mbx = s.mbx := rfl
@[simp] theorem modPwr_hl (s : State) (f) : (modPwr s f).hl = s.hl := rfl
@[simp] theorem modPwr_xl (s : State) (f) : (modPwr s f).xl = s.xl := rfl
@[simp] theorem modPwr_acc (s : State) (f) : (modPwr s f).acc = s.acc := rfl
@[simp] theorem modPwr_nextAcc (s : State) (f) : (modPwr s f).nextAcc = s.nextAcc := rfl
@[simp] theorem modPwr_tw (s : State) (f) : (modPwr s f).tw = s.tw := rfl
@[simp] theorem modPwr_cores (s : State) (f) : (modPwr s f).cores = s.cores := rfl
@[simp] theorem modPwr_bridled (s : State) (f) : (modPwr s f).bridled = s.bridled := rfl
@[simp] theorem modPwr_te (s : State) (f) : (modPwr s f).te = s.te := rfl
@[simp] theorem modPwr_sch (s : State) (f) : (modPwr s f).sch = s.sch := rfl
@[simp] theorem modPwr_fab (s : State) (f) : (modPwr s f).fab = s.fab := rfl
@[simp] theorem modPwr_hlt (s : State) (f) : (modPwr s f).hlt = s.hlt := rfl
@[simp] theorem modPwr_sec (s : State) (f) : (modPwr s f).sec = s.sec := rfl
@[simp] theorem modPwr_out (s : State) (f) : (modPwr s f).out = s.out := rfl
@[simp] theorem modPwr_freeCtr (s : State) (f) : (modPwr s f).freeCtr = s.freeCtr := rfl
@[simp] theorem modPwr_pending (s : State) (f) : (modPwr s f).pending = s.pending := rfl

/-! ### modOct -/

@[simp] theorem modOct_tb (s : State) (k) (f) : (modOct s k f).tb = s.tb := rfl
@[simp] theorem modOct_cal (s : State) (k) (f) : (modOct s k f).cal = s.cal := rfl
@[simp] theorem modOct_gn (s : State) (k) (f) : (modOct s k f).gn = s.gn := rfl
@[simp] theorem modOct_mbx (s : State) (k) (f) : (modOct s k f).mbx = s.mbx := rfl
@[simp] theorem modOct_hl (s : State) (k) (f) : (modOct s k f).hl = s.hl := rfl
@[simp] theorem modOct_xl (s : State) (k) (f) : (modOct s k f).xl = s.xl := rfl
@[simp] theorem modOct_acc (s : State) (k) (f) : (modOct s k f).acc = s.acc := rfl
@[simp] theorem modOct_nextAcc (s : State) (k) (f) : (modOct s k f).nextAcc = s.nextAcc := rfl
@[simp] theorem modOct_tw (s : State) (k) (f) : (modOct s k f).tw = s.tw := rfl
@[simp] theorem modOct_cores (s : State) (k) (f) : (modOct s k f).cores = s.cores := rfl
@[simp] theorem modOct_bridled (s : State) (k) (f) : (modOct s k f).bridled = s.bridled := rfl
@[simp] theorem modOct_te (s : State) (k) (f) : (modOct s k f).te = s.te := rfl
@[simp] theorem modOct_sch (s : State) (k) (f) : (modOct s k f).sch = s.sch := rfl
@[simp] theorem modOct_fab (s : State) (k) (f) : (modOct s k f).fab = s.fab := rfl
@[simp] theorem modOct_hlt (s : State) (k) (f) : (modOct s k f).hlt = s.hlt := rfl
@[simp] theorem modOct_sec (s : State) (k) (f) : (modOct s k f).sec = s.sec := rfl
@[simp] theorem modOct_out (s : State) (k) (f) : (modOct s k f).out = s.out := rfl
@[simp] theorem modOct_freeCtr (s : State) (k) (f) : (modOct s k f).freeCtr = s.freeCtr := rfl
@[simp] theorem modOct_pending (s : State) (k) (f) : (modOct s k f).pending = s.pending := rfl

/-! ### setDomain -/

@[simp] theorem setDomain_tb (s : State) (d) (b) : (setDomain s d b).tb = s.tb := rfl
@[simp] theorem setDomain_cal (s : State) (d) (b) : (setDomain s d b).cal = s.cal := rfl
@[simp] theorem setDomain_gn (s : State) (d) (b) : (setDomain s d b).gn = s.gn := rfl
@[simp] theorem setDomain_mbx (s : State) (d) (b) : (setDomain s d b).mbx = s.mbx := rfl
@[simp] theorem setDomain_hl (s : State) (d) (b) : (setDomain s d b).hl = s.hl := rfl
@[simp] theorem setDomain_xl (s : State) (d) (b) : (setDomain s d b).xl = s.xl := rfl
@[simp] theorem setDomain_acc (s : State) (d) (b) : (setDomain s d b).acc = s.acc := rfl
@[simp] theorem setDomain_nextAcc (s : State) (d) (b) : (setDomain s d b).nextAcc = s.nextAcc := rfl
@[simp] theorem setDomain_tw (s : State) (d) (b) : (setDomain s d b).tw = s.tw := rfl
@[simp] theorem setDomain_cores (s : State) (d) (b) : (setDomain s d b).cores = s.cores := rfl
@[simp] theorem setDomain_bridled (s : State) (d) (b) : (setDomain s d b).bridled = s.bridled := rfl
@[simp] theorem setDomain_te (s : State) (d) (b) : (setDomain s d b).te = s.te := rfl
@[simp] theorem setDomain_sch (s : State) (d) (b) : (setDomain s d b).sch = s.sch := rfl
@[simp] theorem setDomain_fab (s : State) (d) (b) : (setDomain s d b).fab = s.fab := rfl
@[simp] theorem setDomain_hlt (s : State) (d) (b) : (setDomain s d b).hlt = s.hlt := rfl
@[simp] theorem setDomain_sec (s : State) (d) (b) : (setDomain s d b).sec = s.sec := rfl
@[simp] theorem setDomain_out (s : State) (d) (b) : (setDomain s d b).out = s.out := rfl
@[simp] theorem setDomain_freeCtr (s : State) (d) (b) : (setDomain s d b).freeCtr = s.freeCtr := rfl
@[simp] theorem setDomain_pending (s : State) (d) (b) : (setDomain s d b).pending = s.pending := rfl

/-! ### modSec -/

@[simp] theorem modSec_tb (s : State) (f) : (modSec s f).tb = s.tb := rfl
@[simp] theorem modSec_cal (s : State) (f) : (modSec s f).cal = s.cal := rfl
@[simp] theorem modSec_gn (s : State) (f) : (modSec s f).gn = s.gn := rfl
@[simp] theorem modSec_mbx (s : State) (f) : (modSec s f).mbx = s.mbx := rfl
@[simp] theorem modSec_hl (s : State) (f) : (modSec s f).hl = s.hl := rfl
@[simp] theorem modSec_xl (s : State) (f) : (modSec s f).xl = s.xl := rfl
@[simp] theorem modSec_acc (s : State) (f) : (modSec s f).acc = s.acc := rfl
@[simp] theorem modSec_nextAcc (s : State) (f) : (modSec s f).nextAcc = s.nextAcc := rfl
@[simp] theorem modSec_tw (s : State) (f) : (modSec s f).tw = s.tw := rfl
@[simp] theorem modSec_cores (s : State) (f) : (modSec s f).cores = s.cores := rfl
@[simp] theorem modSec_bridled (s : State) (f) : (modSec s f).bridled = s.bridled := rfl
@[simp] theorem modSec_te (s : State) (f) : (modSec s f).te = s.te := rfl
@[simp] theorem modSec_sch (s : State) (f) : (modSec s f).sch = s.sch := rfl
@[simp] theorem modSec_fab (s : State) (f) : (modSec s f).fab = s.fab := rfl
@[simp] theorem modSec_hlt (s : State) (f) : (modSec s f).hlt = s.hlt := rfl
@[simp] theorem modSec_pwr (s : State) (f) : (modSec s f).pwr = s.pwr := rfl
@[simp] theorem modSec_out (s : State) (f) : (modSec s f).out = s.out := rfl
@[simp] theorem modSec_freeCtr (s : State) (f) : (modSec s f).freeCtr = s.freeCtr := rfl
@[simp] theorem modSec_pending (s : State) (f) : (modSec s f).pending = s.pending := rfl

/-! ### wipe -/

@[simp] theorem wipe_tb (s : State) : (wipe s).tb = s.tb := rfl
@[simp] theorem wipe_cal (s : State) : (wipe s).cal = s.cal := rfl
@[simp] theorem wipe_gn (s : State) : (wipe s).gn = s.gn := rfl
@[simp] theorem wipe_mbx (s : State) : (wipe s).mbx = s.mbx := rfl
@[simp] theorem wipe_hl (s : State) : (wipe s).hl = s.hl := rfl
@[simp] theorem wipe_xl (s : State) : (wipe s).xl = s.xl := rfl
@[simp] theorem wipe_acc (s : State) : (wipe s).acc = s.acc := rfl
@[simp] theorem wipe_nextAcc (s : State) : (wipe s).nextAcc = s.nextAcc := rfl
@[simp] theorem wipe_tw (s : State) : (wipe s).tw = s.tw := rfl
@[simp] theorem wipe_cores (s : State) : (wipe s).cores = s.cores := rfl
@[simp] theorem wipe_bridled (s : State) : (wipe s).bridled = s.bridled := rfl
@[simp] theorem wipe_te (s : State) : (wipe s).te = s.te := rfl
@[simp] theorem wipe_sch (s : State) : (wipe s).sch = s.sch := rfl
@[simp] theorem wipe_fab (s : State) : (wipe s).fab = s.fab := rfl
@[simp] theorem wipe_hlt (s : State) : (wipe s).hlt = s.hlt := rfl
@[simp] theorem wipe_pwr (s : State) : (wipe s).pwr = s.pwr := rfl
@[simp] theorem wipe_out (s : State) : (wipe s).out = s.out := rfl
@[simp] theorem wipe_freeCtr (s : State) : (wipe s).freeCtr = s.freeCtr := rfl
@[simp] theorem wipe_pending (s : State) : (wipe s).pending = s.pending := rfl

/-! ### accMod -/

@[simp] theorem accMod_tb (s : State) (i) (f) : (accMod s i f).tb = s.tb := rfl
@[simp] theorem accMod_cal (s : State) (i) (f) : (accMod s i f).cal = s.cal := rfl
@[simp] theorem accMod_gn (s : State) (i) (f) : (accMod s i f).gn = s.gn := rfl
@[simp] theorem accMod_mbx (s : State) (i) (f) : (accMod s i f).mbx = s.mbx := rfl
@[simp] theorem accMod_hl (s : State) (i) (f) : (accMod s i f).hl = s.hl := rfl
@[simp] theorem accMod_xl (s : State) (i) (f) : (accMod s i f).xl = s.xl := rfl
@[simp] theorem accMod_nextAcc (s : State) (i) (f) : (accMod s i f).nextAcc = s.nextAcc := rfl
@[simp] theorem accMod_tw (s : State) (i) (f) : (accMod s i f).tw = s.tw := rfl
@[simp] theorem accMod_cores (s : State) (i) (f) : (accMod s i f).cores = s.cores := rfl
@[simp] theorem accMod_bridled (s : State) (i) (f) : (accMod s i f).bridled = s.bridled := rfl
@[simp] theorem accMod_te (s : State) (i) (f) : (accMod s i f).te = s.te := rfl
@[simp] theorem accMod_sch (s : State) (i) (f) : (accMod s i f).sch = s.sch := rfl
@[simp] theorem accMod_fab (s : State) (i) (f) : (accMod s i f).fab = s.fab := rfl
@[simp] theorem accMod_hlt (s : State) (i) (f) : (accMod s i f).hlt = s.hlt := rfl
@[simp] theorem accMod_pwr (s : State) (i) (f) : (accMod s i f).pwr = s.pwr := rfl
@[simp] theorem accMod_sec (s : State) (i) (f) : (accMod s i f).sec = s.sec := rfl
@[simp] theorem accMod_out (s : State) (i) (f) : (accMod s i f).out = s.out := rfl
@[simp] theorem accMod_freeCtr (s : State) (i) (f) : (accMod s i f).freeCtr = s.freeCtr := rfl
@[simp] theorem accMod_pending (s : State) (i) (f) : (accMod s i f).pending = s.pending := rfl

/-! ### accStage -/

@[simp] theorem accStage_tb (s : State) (i) (x) : (accStage s i x).tb = s.tb := rfl
@[simp] theorem accStage_cal (s : State) (i) (x) : (accStage s i x).cal = s.cal := rfl
@[simp] theorem accStage_gn (s : State) (i) (x) : (accStage s i x).gn = s.gn := rfl
@[simp] theorem accStage_mbx (s : State) (i) (x) : (accStage s i x).mbx = s.mbx := rfl
@[simp] theorem accStage_hl (s : State) (i) (x) : (accStage s i x).hl = s.hl := rfl
@[simp] theorem accStage_xl (s : State) (i) (x) : (accStage s i x).xl = s.xl := rfl
@[simp] theorem accStage_nextAcc (s : State) (i) (x) : (accStage s i x).nextAcc = s.nextAcc := rfl
@[simp] theorem accStage_tw (s : State) (i) (x) : (accStage s i x).tw = s.tw := rfl
@[simp] theorem accStage_cores (s : State) (i) (x) : (accStage s i x).cores = s.cores := rfl
@[simp] theorem accStage_bridled (s : State) (i) (x) : (accStage s i x).bridled = s.bridled := rfl
@[simp] theorem accStage_te (s : State) (i) (x) : (accStage s i x).te = s.te := rfl
@[simp] theorem accStage_sch (s : State) (i) (x) : (accStage s i x).sch = s.sch := rfl
@[simp] theorem accStage_fab (s : State) (i) (x) : (accStage s i x).fab = s.fab := rfl
@[simp] theorem accStage_hlt (s : State) (i) (x) : (accStage s i x).hlt = s.hlt := rfl
@[simp] theorem accStage_pwr (s : State) (i) (x) : (accStage s i x).pwr = s.pwr := rfl
@[simp] theorem accStage_sec (s : State) (i) (x) : (accStage s i x).sec = s.sec := rfl
@[simp] theorem accStage_out (s : State) (i) (x) : (accStage s i x).out = s.out := rfl
@[simp] theorem accStage_freeCtr (s : State) (i) (x) : (accStage s i x).freeCtr = s.freeCtr := rfl
@[simp] theorem accStage_pending (s : State) (i) (x) : (accStage s i x).pending = s.pending := rfl

/-! ### accDrop -/

@[simp] theorem accDrop_tb (s : State) (f) : (accDrop s f).tb = s.tb := rfl
@[simp] theorem accDrop_cal (s : State) (f) : (accDrop s f).cal = s.cal := rfl
@[simp] theorem accDrop_gn (s : State) (f) : (accDrop s f).gn = s.gn := rfl
@[simp] theorem accDrop_mbx (s : State) (f) : (accDrop s f).mbx = s.mbx := rfl
@[simp] theorem accDrop_hl (s : State) (f) : (accDrop s f).hl = s.hl := rfl
@[simp] theorem accDrop_xl (s : State) (f) : (accDrop s f).xl = s.xl := rfl
@[simp] theorem accDrop_nextAcc (s : State) (f) : (accDrop s f).nextAcc = s.nextAcc := rfl
@[simp] theorem accDrop_tw (s : State) (f) : (accDrop s f).tw = s.tw := rfl
@[simp] theorem accDrop_cores (s : State) (f) : (accDrop s f).cores = s.cores := rfl
@[simp] theorem accDrop_bridled (s : State) (f) : (accDrop s f).bridled = s.bridled := rfl
@[simp] theorem accDrop_te (s : State) (f) : (accDrop s f).te = s.te := rfl
@[simp] theorem accDrop_sch (s : State) (f) : (accDrop s f).sch = s.sch := rfl
@[simp] theorem accDrop_fab (s : State) (f) : (accDrop s f).fab = s.fab := rfl
@[simp] theorem accDrop_hlt (s : State) (f) : (accDrop s f).hlt = s.hlt := rfl
@[simp] theorem accDrop_pwr (s : State) (f) : (accDrop s f).pwr = s.pwr := rfl
@[simp] theorem accDrop_sec (s : State) (f) : (accDrop s f).sec = s.sec := rfl
@[simp] theorem accDrop_out (s : State) (f) : (accDrop s f).out = s.out := rfl
@[simp] theorem accDrop_freeCtr (s : State) (f) : (accDrop s f).freeCtr = s.freeCtr := rfl
@[simp] theorem accDrop_pending (s : State) (f) : (accDrop s f).pending = s.pending := rfl

/-! ### modItem -/

@[simp] theorem modItem_tb (s : State) (i) (f) : (modItem s i f).tb = s.tb := rfl
@[simp] theorem modItem_gn (s : State) (i) (f) : (modItem s i f).gn = s.gn := rfl
@[simp] theorem modItem_mbx (s : State) (i) (f) : (modItem s i f).mbx = s.mbx := rfl
@[simp] theorem modItem_hl (s : State) (i) (f) : (modItem s i f).hl = s.hl := rfl
@[simp] theorem modItem_xl (s : State) (i) (f) : (modItem s i f).xl = s.xl := rfl
@[simp] theorem modItem_acc (s : State) (i) (f) : (modItem s i f).acc = s.acc := rfl
@[simp] theorem modItem_nextAcc (s : State) (i) (f) : (modItem s i f).nextAcc = s.nextAcc := rfl
@[simp] theorem modItem_tw (s : State) (i) (f) : (modItem s i f).tw = s.tw := rfl
@[simp] theorem modItem_cores (s : State) (i) (f) : (modItem s i f).cores = s.cores := rfl
@[simp] theorem modItem_bridled (s : State) (i) (f) : (modItem s i f).bridled = s.bridled := rfl
@[simp] theorem modItem_te (s : State) (i) (f) : (modItem s i f).te = s.te := rfl
@[simp] theorem modItem_sch (s : State) (i) (f) : (modItem s i f).sch = s.sch := rfl
@[simp] theorem modItem_fab (s : State) (i) (f) : (modItem s i f).fab = s.fab := rfl
@[simp] theorem modItem_hlt (s : State) (i) (f) : (modItem s i f).hlt = s.hlt := rfl
@[simp] theorem modItem_pwr (s : State) (i) (f) : (modItem s i f).pwr = s.pwr := rfl
@[simp] theorem modItem_sec (s : State) (i) (f) : (modItem s i f).sec = s.sec := rfl
@[simp] theorem modItem_out (s : State) (i) (f) : (modItem s i f).out = s.out := rfl
@[simp] theorem modItem_freeCtr (s : State) (i) (f) : (modItem s i f).freeCtr = s.freeCtr := rfl
@[simp] theorem modItem_pending (s : State) (i) (f) : (modItem s i f).pending = s.pending := rfl

/-! ### rcEmpty -/

@[simp] theorem rcEmpty_tb (s : State) : (rcEmpty s).tb = s.tb := rfl
@[simp] theorem rcEmpty_cal (s : State) : (rcEmpty s).cal = s.cal := rfl
@[simp] theorem rcEmpty_gn (s : State) : (rcEmpty s).gn = s.gn := rfl
@[simp] theorem rcEmpty_mbx (s : State) : (rcEmpty s).mbx = s.mbx := rfl
@[simp] theorem rcEmpty_hl (s : State) : (rcEmpty s).hl = s.hl := rfl
@[simp] theorem rcEmpty_xl (s : State) : (rcEmpty s).xl = s.xl := rfl
@[simp] theorem rcEmpty_acc (s : State) : (rcEmpty s).acc = s.acc := rfl
@[simp] theorem rcEmpty_nextAcc (s : State) : (rcEmpty s).nextAcc = s.nextAcc := rfl
@[simp] theorem rcEmpty_cores (s : State) : (rcEmpty s).cores = s.cores := rfl
@[simp] theorem rcEmpty_bridled (s : State) : (rcEmpty s).bridled = s.bridled := rfl
@[simp] theorem rcEmpty_te (s : State) : (rcEmpty s).te = s.te := rfl
@[simp] theorem rcEmpty_sch (s : State) : (rcEmpty s).sch = s.sch := rfl
@[simp] theorem rcEmpty_fab (s : State) : (rcEmpty s).fab = s.fab := rfl
@[simp] theorem rcEmpty_hlt (s : State) : (rcEmpty s).hlt = s.hlt := rfl
@[simp] theorem rcEmpty_pwr (s : State) : (rcEmpty s).pwr = s.pwr := rfl
@[simp] theorem rcEmpty_sec (s : State) : (rcEmpty s).sec = s.sec := rfl
@[simp] theorem rcEmpty_out (s : State) : (rcEmpty s).out = s.out := rfl
@[simp] theorem rcEmpty_freeCtr (s : State) : (rcEmpty s).freeCtr = s.freeCtr := rfl
@[simp] theorem rcEmpty_pending (s : State) : (rcEmpty s).pending = s.pending := rfl

/-! ### takeFree -/

@[simp] theorem takeFree_tb (s : State) : (takeFree s).2.tb = s.tb := rfl
@[simp] theorem takeFree_cal (s : State) : (takeFree s).2.cal = s.cal := rfl
@[simp] theorem takeFree_gn (s : State) : (takeFree s).2.gn = s.gn := rfl
@[simp] theorem takeFree_mbx (s : State) : (takeFree s).2.mbx = s.mbx := rfl
@[simp] theorem takeFree_hl (s : State) : (takeFree s).2.hl = s.hl := rfl
@[simp] theorem takeFree_xl (s : State) : (takeFree s).2.xl = s.xl := rfl
@[simp] theorem takeFree_acc (s : State) : (takeFree s).2.acc = s.acc := rfl
@[simp] theorem takeFree_nextAcc (s : State) : (takeFree s).2.nextAcc = s.nextAcc := rfl
@[simp] theorem takeFree_tw (s : State) : (takeFree s).2.tw = s.tw := rfl
@[simp] theorem takeFree_cores (s : State) : (takeFree s).2.cores = s.cores := rfl
@[simp] theorem takeFree_bridled (s : State) : (takeFree s).2.bridled = s.bridled := rfl
@[simp] theorem takeFree_te (s : State) : (takeFree s).2.te = s.te := rfl
@[simp] theorem takeFree_sch (s : State) : (takeFree s).2.sch = s.sch := rfl
@[simp] theorem takeFree_fab (s : State) : (takeFree s).2.fab = s.fab := rfl
@[simp] theorem takeFree_hlt (s : State) : (takeFree s).2.hlt = s.hlt := rfl
@[simp] theorem takeFree_pwr (s : State) : (takeFree s).2.pwr = s.pwr := rfl
@[simp] theorem takeFree_sec (s : State) : (takeFree s).2.sec = s.sec := rfl
@[simp] theorem takeFree_out (s : State) : (takeFree s).2.out = s.out := rfl
@[simp] theorem takeFree_pending (s : State) : (takeFree s).2.pending = s.pending := rfl

@[simp] theorem takeFree_freeCtr (s : State) : (takeFree s).2.freeCtr = s.freeCtr + 1 := rfl

/-! ### enqueue -/

@[simp] theorem enqueue_tb (s : State) (l) : (enqueue s l).tb = s.tb := rfl
@[simp] theorem enqueue_cal (s : State) (l) : (enqueue s l).cal = s.cal := rfl
@[simp] theorem enqueue_gn (s : State) (l) : (enqueue s l).gn = s.gn := rfl
@[simp] theorem enqueue_mbx (s : State) (l) : (enqueue s l).mbx = s.mbx := rfl
@[simp] theorem enqueue_xl (s : State) (l) : (enqueue s l).xl = s.xl := rfl
@[simp] theorem enqueue_acc (s : State) (l) : (enqueue s l).acc = s.acc := rfl
@[simp] theorem enqueue_nextAcc (s : State) (l) : (enqueue s l).nextAcc = s.nextAcc := rfl
@[simp] theorem enqueue_tw (s : State) (l) : (enqueue s l).tw = s.tw := rfl
@[simp] theorem enqueue_cores (s : State) (l) : (enqueue s l).cores = s.cores := rfl
@[simp] theorem enqueue_bridled (s : State) (l) : (enqueue s l).bridled = s.bridled := rfl
@[simp] theorem enqueue_te (s : State) (l) : (enqueue s l).te = s.te := rfl
@[simp] theorem enqueue_sch (s : State) (l) : (enqueue s l).sch = s.sch := rfl
@[simp] theorem enqueue_fab (s : State) (l) : (enqueue s l).fab = s.fab := rfl
@[simp] theorem enqueue_hlt (s : State) (l) : (enqueue s l).hlt = s.hlt := rfl
@[simp] theorem enqueue_pwr (s : State) (l) : (enqueue s l).pwr = s.pwr := rfl
@[simp] theorem enqueue_sec (s : State) (l) : (enqueue s l).sec = s.sec := rfl
@[simp] theorem enqueue_out (s : State) (l) : (enqueue s l).out = s.out := rfl
@[simp] theorem enqueue_freeCtr (s : State) (l) : (enqueue s l).freeCtr = s.freeCtr := rfl
@[simp] theorem enqueue_pending (s : State) (l) : (enqueue s l).pending = s.pending := rfl

@[simp] theorem enqueue_posts (s : State) (l) : (enqueue s l).hl.posts = s.hl.posts ++ l := rfl

/-! ### setEnding -/

@[simp] theorem setEnding_tb (s : State) (c) (n) : (setEnding s c n).tb = s.tb := rfl
@[simp] theorem setEnding_cal (s : State) (c) (n) : (setEnding s c n).cal = s.cal := rfl
@[simp] theorem setEnding_gn (s : State) (c) (n) : (setEnding s c n).gn = s.gn := rfl
@[simp] theorem setEnding_hl (s : State) (c) (n) : (setEnding s c n).hl = s.hl := rfl
@[simp] theorem setEnding_xl (s : State) (c) (n) : (setEnding s c n).xl = s.xl := rfl
@[simp] theorem setEnding_acc (s : State) (c) (n) : (setEnding s c n).acc = s.acc := rfl
@[simp] theorem setEnding_nextAcc (s : State) (c) (n) : (setEnding s c n).nextAcc = s.nextAcc := rfl
@[simp] theorem setEnding_tw (s : State) (c) (n) : (setEnding s c n).tw = s.tw := rfl
@[simp] theorem setEnding_cores (s : State) (c) (n) : (setEnding s c n).cores = s.cores := rfl
@[simp] theorem setEnding_bridled (s : State) (c) (n) : (setEnding s c n).bridled = s.bridled := rfl
@[simp] theorem setEnding_te (s : State) (c) (n) : (setEnding s c n).te = s.te := rfl
@[simp] theorem setEnding_sch (s : State) (c) (n) : (setEnding s c n).sch = s.sch := rfl
@[simp] theorem setEnding_fab (s : State) (c) (n) : (setEnding s c n).fab = s.fab := rfl
@[simp] theorem setEnding_hlt (s : State) (c) (n) : (setEnding s c n).hlt = s.hlt := rfl
@[simp] theorem setEnding_pwr (s : State) (c) (n) : (setEnding s c n).pwr = s.pwr := rfl
@[simp] theorem setEnding_sec (s : State) (c) (n) : (setEnding s c n).sec = s.sec := rfl
@[simp] theorem setEnding_out (s : State) (c) (n) : (setEnding s c n).out = s.out := rfl
@[simp] theorem setEnding_freeCtr (s : State) (c) (n) : (setEnding s c n).freeCtr = s.freeCtr := rfl
@[simp] theorem setEnding_pending (s : State) (c) (n) : (setEnding s c n).pending = s.pending := rfl

/-! ### clearChan -/

@[simp] theorem clearChan_tb (s : State) (c) : (clearChan s c).tb = s.tb := rfl
@[simp] theorem clearChan_cal (s : State) (c) : (clearChan s c).cal = s.cal := rfl
@[simp] theorem clearChan_gn (s : State) (c) : (clearChan s c).gn = s.gn := rfl
@[simp] theorem clearChan_hl (s : State) (c) : (clearChan s c).hl = s.hl := rfl
@[simp] theorem clearChan_xl (s : State) (c) : (clearChan s c).xl = s.xl := rfl
@[simp] theorem clearChan_acc (s : State) (c) : (clearChan s c).acc = s.acc := rfl
@[simp] theorem clearChan_nextAcc (s : State) (c) : (clearChan s c).nextAcc = s.nextAcc := rfl
@[simp] theorem clearChan_tw (s : State) (c) : (clearChan s c).tw = s.tw := rfl
@[simp] theorem clearChan_cores (s : State) (c) : (clearChan s c).cores = s.cores := rfl
@[simp] theorem clearChan_bridled (s : State) (c) : (clearChan s c).bridled = s.bridled := rfl
@[simp] theorem clearChan_te (s : State) (c) : (clearChan s c).te = s.te := rfl
@[simp] theorem clearChan_sch (s : State) (c) : (clearChan s c).sch = s.sch := rfl
@[simp] theorem clearChan_fab (s : State) (c) : (clearChan s c).fab = s.fab := rfl
@[simp] theorem clearChan_hlt (s : State) (c) : (clearChan s c).hlt = s.hlt := rfl
@[simp] theorem clearChan_pwr (s : State) (c) : (clearChan s c).pwr = s.pwr := rfl
@[simp] theorem clearChan_sec (s : State) (c) : (clearChan s c).sec = s.sec := rfl
@[simp] theorem clearChan_out (s : State) (c) : (clearChan s c).out = s.out := rfl
@[simp] theorem clearChan_freeCtr (s : State) (c) : (clearChan s c).freeCtr = s.freeCtr := rfl
@[simp] theorem clearChan_pending (s : State) (c) : (clearChan s c).pending = s.pending := rfl

end Sys2Proof.Machine
end

