-- ==== Sys2Proof/Laws/Vector.lean ====
section
/-! SUPPORT. Laws/Vector.lean: the lengths of element lists, of packed results and of what an operation stages (11 R263). -/

namespace Sys2Proof.Machine

@[simp] theorem listIdx_length {α : Type} (l : List α) : (listIdx l).length = l.length := by simp [listIdx]

@[simp] theorem groups_length (n k : Nat) (b : Bytes) : (groups n k b).length = k := by
  induction k generalizing b with
  | zero => rfl
  | succ k ih => simp [groups, ih]

@[simp] theorem spadRead_length (s : State) (n spa len : Nat) : (spadRead s n spa len).length = len := by simp [spadRead]

/-- Elements of whole bytes, as many as the bytes hold. -/
theorem unpack_length {fmt : Nat} (h : elemBits fmt ≠ 4) (b : Bytes) : (unpack fmt b).length = b.length / (elemBits fmt / 8) := by
  simp [unpack, h]

theorem pack_length {fmt : Nat} (h : elemBits fmt ≠ 4) (l : List Nat) : (pack fmt l).length = elemBits fmt / 8 * l.length := by
  rw [pack, if_neg h]
  induction l with
  | nil => rfl
  | cons a l ih => simp [ih, Nat.mul_add, Nat.add_comm]

/-- One string of bytes staged, byte by byte. -/
theorem spread_length (a : Nat) (b : Bytes) : (spread [(a, b)]).length = b.length := by simp [spread]

/-- An operand of FP32 elements has as many as COUNT says. -/
theorem vecIn_fp32_length (s : State) (n w spa cnt : Nat) (d : Bytes) : (vecIn s n d w 11 spa cnt).length = cnt := by
  have e : (unpack 11 (spadRead s n spa (fmtBytes 11 cnt))).length = cnt := by
    rw [unpack_length (by decide), spadRead_length]
    simp [fmtBytes, elemBits]
    omega
  simp [vecIn, isMx, e]

end Sys2Proof.Machine
end

