-- ==== Sys2Proof/WellFormed.lean ====
section
/-! DEFINITION. WellFormed.lean: what a command's operands must satisfy to be an event the spec describes. A term that
fails a check is no event of the block; exec still answers for it. -/

namespace Sys2Proof

/-- A misaligned access is one (00 R5). -/
def badSize (off : Nat) : AccessSize → Bool
  | .misaligned wide => off % (if wide then 8 else 4) != 0
  | .byte => true
  | .half => true

/-- A deep-memory line is 64 bytes (08 R175). -/
def respLen : DeepResp → Bool
  | .data l => l.length = 64
  | .poison => true
  | .written => true

/-- Operands inside the ranges of the spec. -/
def Instr.wf (i : Instr) : Bool :=
  match i with
  | .bar0WritePlain off _ _ => off < 0x4000000
  | .bar0BadAccess off _ size => off < 0x4000000 && badSize off size
  | .tbSnapLatch _ _ => true
  | .gnssQualify => true
  | .gnssDisqualify => true
  | .ppsInEdge _ _ _ => true
  | .ref10mLoss => true
  | .exchangeIntervalMissed => true
  | .sourceTakeover => true
  | .lock24hSet => true
  | .leapSecond => true
  | .timesyncExchangeStart _ => true
  | .sync _ => true
  | .delayReq _ => true
  | .delayResp _ => true
  | .ppsOutRise => true
  | .ppsOutFall => true
  | .opTimeConfig _ => true
  | .opTimeSet _ => true
  | .timeSetTimeout => true
  | .opTimeStatus _ => true
  | .refPresenceDecided _ => true
  | .calLoopbacksDone m => m.linkD.length = 24 && m.therm.length = 16
  | .frequencyGateStart => true
  | .frequencyGateEnd _ _ _ => true
  | .opCalRun _ m => m.linkD.length = 24 && m.therm.length = 16
  | .opCalRead _ => true
  | .samplePortFault _ _ _ => true
  | .samplePortFaultClear _ => true
  | .sampleTimeTag _ => true
  | .search _ _ => true
  | .verify _ _ => true
  | .pullInLock _ => true
  | .pullInTimeout _ => true
  | .trackLoss _ => true
  | .searchListReturn _ => true
  | .coherentIntervalEnd _ acc _ => acc.length = 12
  | .syncEventVerified _ _ _ _ _ => true
  | .cn0Expire _ => true
  | .measurementEpoch _ recs => recs.all fun r => r.chan < 128
  | .surveyComplete => true
  | .holdResidualCheck => true
  | .opGnssConfig _ => true
  | .opGnssSurvey _ => true
  | .opGnssPosition _ => true
  | .opGnssStream _ => true
  | .opGnssAssist _ _ => true
  | .mbxDoorbell _ _ => true
  | .mbxAck _ => true
  | .mbxStatusClear _ _ => true
  | .solpReq msg _ => msg.length ≤ 255
  | .solpStat => true
  | .opNop _ => true
  | .opGetInfo _ => true
  | .opMbxGrant _ => true
  | .opMbxReset _ => true
  | .opEventRing _ => true
  | .opErrorLog _ => true
  | .opHealthSummary _ => true
  | .fwUpdateSessionTimeout => true
  | .hostLinkTrain _ cfg => cfg.msix.length = 256
  | .bar4Read _ len _ => 0 < len
  | .bar4Write _ data _ _ => 0 < data.length
  | .cxlMemRead dpa _ => dpa % 64 = 0
  | .cxlMemWrite dpa data _ _ => dpa % 64 = 0 && data.length = 64
  | .bar4Resize _ => true
  | .completionTimeout _ => true
  | .hostReadCompletion _ _ => true
  | .atsTranslationCompletion _ resp => 4096 ≤ resp.size && resp.addr % resp.size = 0
  | .atsInvalidation _ _ _ => true
  | .msixUnmask _ => true
  | .msixGapEnd _ => true
  | .intStatusClear _ => true
  | .intEnableWrite _ => true
  | .opCoherenceMode _ => true
  | .opCtxCreate _ => true
  | .opCtxDestroy _ => true
  | .opMap _ => true
  | .opUnmap _ => true
  | .opTlbInval _ => true
  | .unmapHostAbandon _ => true
  | .opPrefetch _ => true
  | .prefetchDone _ => true
  | .opMigrate _ => true
  | .migratePage _ => true
  | .opAdvise _ => true
  | .translationWalkDone _ => true
  | .towerLineAccess _ _ => true
  | .deepPortResponse _ _ r => respLen r
  | .deepRequestTimeout _ _ => true
  | .deepPortLinkDown _ => true
  | .patrolScrub _ _ => true
  | .towerTemperatureChange _ _ => true
  | .opRowcacheConfig _ => true
  | .opDeepPortConfig _ found => found.length = 4
  | .opFill _ _ => true
  | .opPageRetire _ => true
  | .handoverComplete _ _ => true
  | .reclaimComplete _ _ => true
  | .coreFence _ _ => true
  | .opCoreFence _ => true
  | .opCoreBridle _ => true
  | .opCoreUnbridle _ => true
  | .opCoreStatus _ => true
  | .seqAdd _ _ => true
  | .seqSub _ _ => true
  | .seqAnd _ _ => true
  | .seqOr _ _ => true
  | .seqXor _ _ => true
  | .seqSll _ _ => true
  | .seqSrl _ _ => true
  | .seqSra _ _ => true
  | .seqSlt _ _ => true
  | .seqSltu _ _ => true
  | .seqMin _ _ => true
  | .seqMax _ _ => true
  | .seqMinu _ _ => true
  | .seqMaxu _ _ => true
  | .seqAddi _ _ => true
  | .seqAndi _ _ => true
  | .seqOri _ _ => true
  | .seqXori _ _ => true
  | .seqSlli _ _ => true
  | .seqSrli _ _ => true
  | .seqSrai _ _ => true
  | .seqMul _ _ => true
  | .seqMulu _ _ => true
  | .productLand _ _ => true
  | .seqMfpl _ _ => true
  | .seqMfph _ _ => true
  | .seqMflk _ _ => true
  | .seqMtlk _ _ => true
  | .seqJr _ _ => true
  | .seqCallr _ _ => true
  | .seqRet _ _ => true
  | .seqRdtime _ _ => true
  | .seqSrd _ _ => true
  | .seqCdrain _ _ => true
  | .seqSpb _ _ => true
  | .seqHalt _ _ => true
  | .seqBrk _ _ => true
  | .seqLui _ _ => true
  | .seqSig _ _ => true
  | .seqSset _ _ => true
  | .seqWarm _ _ => true
  | .seqWblk _ _ => true
  | .seqWait _ _ => true
  | .syncWaitTimeout _ _ _ => true
  | .seqLd _ _ => true
  | .seqLw _ _ => true
  | .seqLbu _ _ => true
  | .seqSt _ _ => true
  | .seqSw _ _ => true
  | .seqSb _ _ => true
  | .seqBeq _ _ => true
  | .seqBne _ _ => true
  | .seqBlt _ _ => true
  | .seqBge _ _ => true
  | .seqBltu _ _ => true
  | .seqBgeu _ _ => true
  | .seqJ _ _ => true
  | .seqCall _ _ => true
  | .seqCrr _ _ => true
  | .seqCrw _ _ => true
  | .seqCop _ _ => true
  | .branchResolve _ _ => true
  | .squashedOperationBoundary _ _ => true
  | .mmLoad _ _ => true
  | .mmRun _ _ _ => true
  | .vecAdd _ _ => true
  | .vecSub _ _ => true
  | .vecMul _ _ => true
  | .vecFma _ _ => true
  | .vecMin _ _ => true
  | .vecMax _ _ => true
  | .vecDiv _ _ => true
  | .vecSqrt _ _ => true
  | .vecRsqrt _ _ => true
  | .vecExp _ _ => true
  | .vecLog _ _ => true
  | .vecTanh _ _ => true
  | .vecSigmoid _ _ => true
  | .vecGelu _ _ => true
  | .vecRelu _ _ => true
  | .vecRsum _ _ => true
  | .vecRmax _ _ => true
  | .vecConvert _ _ => true
  | .vecQuant _ _ => true
  | .vecRequant _ _ => true
  | .vecMxquant _ _ => true
  | .vecDequant _ _ => true
  | .dmaCopy _ _ => true
  | .copOperationComplete _ _ => true
  | .lookup _ _ => true
  | .lookupAccept _ => true
  | .lookupRowReturn _ _ _ => true
  | .lookupDeadline _ _ => true
  | .lookupComplete _ _ => true
  | .teUpdate _ _ => true
  | .updateRecordArrival _ => true
  | .rqUpdTailWrite _ _ => true
  | .updateRingRecord _ => true
  | .epochSwitch _ => true
  | .prevBusyClear _ => true
  | .opTableCreate _ => true
  | .opTableDestroy _ => true
  | .opTableEpochAt _ => true
  | .opUpdateStreamOpen _ => true
  | .opUpdateStreamClose _ => true
  | .opTableStats _ => true
  | .rqSqTailWrite _ _ => true
  | .rqCqHeadWrite _ _ => true
  | .rqQStatusClear _ _ => true
  | .rqSyncSelWrite _ _ => true
  | .descriptorRead data _ => data.all fun b => b.length = 128
  | .stageDispatch => true
  | .stageEnd _ => true
  | .completionRecordPost _ _ => true
  | .opPlanLoad _ => true
  | .opPlanUnload _ => true
  | .opQueueCreate _ => true
  | .opQueueDestroy _ => true
  | .opReplayWindow _ => true
  | .opReqCancel _ => true
  | .opSyncAlloc _ => true
  | .opSyncFree _ => true
  | .dataFlit _ flit _ => flit.length = 256
  | .linkCtrlFlit _ flit _ => flit.length = 256
  | .nakFlit _ flit _ => flit.length = 256
  | .idleFlit _ flit _ => flit.length = 256
  | .timesyncFlit _ flit _ => flit.length = 256
  | .packetForward _ => true
  | .ratlineRead _ => true
  | .ratlineWrite _ => true
  | .ratlineAdd _ => true
  | .ratlineAddUpdateForm _ => true
  | .ratlineSignal _ => true
  | .ratlineLookup _ => true
  | .ack _ => true
  | .readData _ => true
  | .pooled _ => true
  | .refused _ => true
  | .remoteTimeoutFire _ => true
  | .ratlineLinkLoss _ _ => true
  | .ratlineLinkRetrainDone _ _ => true
  | .opChipIdSet _ => true
  | .opLinkUp _ => true
  | .opLinkDown _ => true
  | .opRouteSet _ => true
  | .opRemoteTimeout _ => true
  | .opFabricStatus _ => true
  | .flr => true
  | .perstNAssert => true
  | .warmReset => true
  | .coldReset _ => true
  | .dbgColdReqWrite _ => true
  | .opChipReset _ => true
  | .opDump _ => true
  | .opHeartbeatConfig _ => true
  | .heartbeat _ => true
  | .capture => true
  | .freeze => true
  | .captureDone => true
  | .opPowerLimit _ => true
  | .opReefStatus _ => true
  | .opDomainPower _ found => found.length = 4
  | .opBoost _ => true
  | .opThermalRead _ => true
  | .hotspotTemperatureChange _ _ => true
  | .powerSample _ => true
  | .pwrCapNChange _ => true
  | .overcurrent _ => true
  | .reefLevelStep _ => true
  | .boot _ => true
  | .firmwareStart => true
  | .bootReady => true
  | .opFwUpdateBegin _ => true
  | .opFwUpdateData _ => true
  | .opFwUpdateCommit _ => true
  | .opLifecycleAdvance _ => true
  | .opLifecycleStatus _ => true
  | .opAttest _ => true
  | .tamper _ => true
  | .railUndervoltage _ _ => true
  | .jtagInstruction _ => true
  | .ppsInMissing => true
  | .tbSlewingClear _ => true
  | .calSlewingClear => true
  | .linkTrainingEnd _ _ => true
  | .hostLinkDown => true
  | .deepPortLinkReturn _ => true
  | .towerTrainingDone _ found => found.length = 4
  | .tamperNRelease => true
  | .maxFirmwareTimeExpiry _ => true

end Sys2Proof
end

