-- ==== Sys2Proof/Tests/Slice0.lean ====
section
/-! SUPPORT. Slice0.lean: the model's own tests. Each theorem shows a state and operands that meet the hypotheses of a clause of
the statements, and mostly what the command then leaves; the expected values are worked out from the rules named there. -/

namespace Sys2Proof.Tests
open Machine

set_option maxRecDepth 8000
set_option Elab.async false

/-- A device that is READY, its host link up with every enable the tests need. -/
def on : State := { State.reset with
  sec := { Security.reset with cold := false, fwStarted := true, phase := 4 }
  hl := { HostLink.reset with
    link := ⟨5, 16, true, true, true, true, true⟩
    cfg := { PcieConfig.reset with bme := true, mse := true, msixEn := true } } }

/-- A command held ready, with SEQ 7. -/
def held (op : Nat) (p : Bytes) : CmdHeld := ⟨BitVec.ofNat 16 op, 7, p, true, false, [], 0, 0, none⟩

def withCmd (s : State) (k : CmdHeld) : State := { s with mbx := { s.mbx with
  chans := s.mbx.chans.set 0 { MbxChan.reset 0 with busy := true, ack := true, cmd := some k } } }

/-- `s` with opcode `op` held on channel 0. -/
def cmd (s : State) (op : Nat) (p : Bytes) : State := withCmd s (held op p)

def st (op : Nat) (p : Bytes) : State := cmd on op p

/-- No channel but 0 holds a command in the states of these tests (the premise `OthersIdle`). -/
theorem test_others_idle : ∀ (s : State) (k : CmdHeld), s.mbx = on.mbx → OthersIdle (withCmd s k) 0 := by
  intro s k h d hd
  have e : ∀ d : Fin 17, d ≠ 0 → (on.mbx.chans[d]).cmd = none := by decide
  have f : chan (withCmd s k) d = on.mbx.chans[d] := by
    simp only [chan, withCmd, h]
    exact Vector.getElem_set_ne _ _ (fun c => hd (Fin.ext c.symm))
  rw [f, e d hd]; rfl

/-- The state after a command. -/
def after (i : Instr) (s : State) : State := match exec i s with
  | .next t => t
  | _ => s

/-- The status in channel 0's response header, once DONE reads 1. -/
def status (t : State) : Option Nat :=
  if (chan t 0).done && !(chan t 0).busy && (chan t 0).lastSeq = 7 then some (leNat (memRead (chan t 0).resp 8 2)) else none

/-- A field of channel 0's response payload. -/
def resp (t : State) (off n : Nat) : Nat := leNat (memRead (chan t 0).resp (16 + off) n)

/-- As `on`, the power-up calibration run over: DT may lock (R57). -/
def tbOn (f : Timebase → Timebase) : State := { on with tb := f on.tb, cal := { on.cal with run := none, running := false } }
def calOn (f : Calib → Calib) : State := { on with cal := f on.cal }
def gnOn (f : Gnss → Gnss) : State := { on with gn := f on.gn }
def upBy (n : Nat) (s : State) : State := { s with tb := { s.tb with up := n } }

/-! ### Well-formedness refuses ill-formed operands -/

theorem test_wf_rejects_offset : (Instr.bar0WritePlain 0x4000000 false 0).wf = false := by decide
theorem test_wf_rejects_aligned : (Instr.bar0BadAccess 8 true (.misaligned true)).wf = false := by decide
theorem test_wf_rejects_cal : (Instr.opCalRun 0 ⟨0, [], []⟩).wf = false := by decide
theorem test_wf_rejects_store : (Instr.coherentIntervalEnd 0 [1] false).wf = false := by decide
theorem test_wf_rejects_msg : (Instr.solpReq (List.replicate 256 0) true).wf = false := by decide
theorem test_wf_rejects_read0 : (Instr.bar4Read 0 0 []).wf = false := by decide
theorem test_wf_rejects_write0 : (Instr.bar4Write 0 [] false []).wf = false := by decide
theorem test_wf_rejects_cxl : (Instr.cxlMemRead 32 .none).wf = false ∧ (Instr.cxlMemWrite 0 [none] false .none).wf = false := by decide
theorem test_wf_rejects_page : (Instr.atsTranslationCompletion 0 ⟨true, true, 0, 64⟩).wf = false := by decide
theorem test_wf_rejects_line : (Instr.deepPortResponse 0 0 (.data [0])).wf = false := by decide
theorem test_wf_rejects_ports : (Instr.opDeepPortConfig 0 []).wf = false := by decide
theorem test_wf_rejects_desc : (Instr.descriptorRead (some [0]) []).wf = false := by decide
theorem test_wf_rejects_flit : (Instr.idleFlit 0 [0] true).wf = false := by decide

/-! ### 02, 03: device time and calibration -/

def sec (n : Nat) : Nat := nsUp (n * 1000000000)

theorem test_gnss_qualify : ∃ s, Awake s ∧ s.tb.gnssQual = false ∧ s.tb.solValidSince = some 0 ∧ 0 + nsUp 10000000000 ≤ s.tb.up ∧
    (after .gnssQualify s).tb.gnssQual = true ∧ (after .gnssQualify s).tb.valid = true := by
  refine ⟨tbOn fun b => { b with solValidSince := some 0, up := sec 10 }, ?_⟩; decide

theorem test_gnss_disqualify : ∃ s, Awake s ∧ s.tb.gnssQual = true ∧ s.tb.solInvalidSince = some 0 ∧
    0 + nsUp 3000000000 ≤ s.tb.up ∧ (after .gnssDisqualify s).tb.gnssQual = false := by
  refine ⟨tbOn fun b => { b with gnssQual := true, solInvalidSince := some 0, up := sec 3 }, ?_⟩; decide

theorem test_pps_in_edge : ∃ s, Awake s ∧ (after (.ppsInEdge 50 (-10000) 15000000) s).tb.extQual = true ∧
    (after (.ppsInEdge 50 (-10000) 15000000) s).tb.ppsGood = 10 ∧ (after (.ppsInEdge 1001 0 0) s).tb.extQual = false ∧
    (after (.ppsInEdge 51 0 0) s).tb.ppsGood = 0 := by
  refine ⟨tbOn fun b => { b with ppsGood := 9 }, ?_⟩; decide

theorem test_ref10m_loss : ∃ s, Awake s ∧ s.tb.refOk = true ∧ (after .ref10mLoss s).tb.refOk = false ∧
    (after .ref10mLoss s).tb.extQual = false := by
  refine ⟨tbOn fun b => { b with refOk := true, extQual := true }, ?_⟩; decide

theorem test_pps_in_missing : ∃ s, Awake s ∧ s.tb.extQual = true ∧ s.tb.ppsAt = some 0 ∧ 0 + nsUp 3000000000 ≤ s.tb.up ∧
    (after .ppsInMissing s).tb.extQual = false := by
  refine ⟨tbOn fun b => { b with extQual := true, ppsAt := some 0, up := sec 3 }, ?_⟩; decide

theorem test_exchange_missed : ∃ s, Awake s ∧ s.tb.fabQual = true ∧ s.tb.exch.isSome = true ∧ 7 ≤ s.tb.exchMissed ∧
    s.tb.exchAt + s.tb.exchIv ≤ s.tb.up ∧ 0 < s.tb.exchIv ∧ (after .exchangeIntervalMissed s).tb.fabQual = false := by
  refine ⟨tbOn fun b => { b with fabQual := true, exch := some ⟨1, 0, 0, 0, false⟩, exchMissed := 7, exchIv := sec 1, up := sec 1 }, ?_⟩
  decide

theorem test_source_takeover : ∃ s, Awake s ∧ s.tb.valid = true ∧ srcQual s.tb s.tb.source = true ∧
    pickSource s.tb (fun x => x == s.tb.source || (srcQual s.tb x && sinceOpt s (srcSince s.tb x) (nsUp 60000000000)))
      = .gnss ∧ (Source.gnss ≠ s.tb.source ∧ Source.gnss ≠ .none) ∧ (after .sourceTakeover s).tb.source = .gnss := by
  refine ⟨tbOn fun b => { b with
    valid := true, source := .ext, extQual := true, gnssQual := true, gnssSince := some 0, extSince := some 0
    up := sec 60 }, ?_⟩; decide

theorem test_source_takeover_early : ∃ s, Awake s ∧ s.tb.valid = true ∧ (after .sourceTakeover s).tb.source = .ext := by
  refine ⟨tbOn fun b => { b with
    valid := true, source := .ext, extQual := true, gnssQual := true, gnssSince := some 1, extSince := some 0
    up := sec 60 }, ?_⟩; decide

theorem test_lock24h : ∃ s, Awake s ∧ s.tb.lockSince = some 0 ∧ 0 + nsUp 86400000000000 ≤ s.tb.up ∧ s.tb.holdover = false ∧
    (after .lock24hSet s).tb.lock24h = true := by
  refine ⟨tbOn fun b => { b with lockSince := some 0, up := sec 86400 }, ?_⟩; decide

theorem test_leap_second : ∃ s, Awake s ∧ s.tb.utc.pending = true ∧ s.tb.utc.leapAt ≤ dtNs s ∧ s.tb.utc.nextDelta = 3 ∧
    (after .leapSecond s).tb.utc.seconds = 36 ∧ (after .leapSecond s).tb.utc.pending = false := by
  refine ⟨tbOn fun b => { b with utc := ⟨37, true, 3, true, 0⟩ }, ?_⟩; decide

theorem test_slewing_clear : ∃ s, Awake s ∧ tbSlewing s.tb = true ∧ srcQual s.tb s.tb.source = true ∧
    (100 : Word).toInt.natAbs ≤ 100 ∧
    (phaseMag s.tb - 100) * 1000000 * 2 ^ 32 ≤ s.tb.cfg.slewPpm.toNat * (s.tb.up - s.tb.errAt) ∧
    tbSlewing (after (.tbSlewingClear 100) s).tb = false := by
  refine ⟨tbOn fun b => { b with valid := true, source := .gnss, gnssQual := true, phaseErr := 101, up := nsUp 5000 }, ?_⟩
  decide

theorem test_snap_latch : ∃ s, Awake s ∧ hostDecode s = true ∧ ((after (.tbSnapLatch 63 true) s).tb.snaps[63]).w0 = 5 ∧
    ((after (.tbSnapLatch 63 true) s).tb.snaps[62]).w0 = 0 := by
  refine ⟨tbOn fun b => { b with count := 5 * 2 ^ 32 }, ?_⟩; decide

theorem test_pps_out : ∃ s, Awake s ∧ s.tb.valid = true ∧ s.tb.ppsOut = false ∧
    ((dtNs s).toNat + s.tb.cfg.ppsAdv.toInt) % 1000000000 = 0 ∧ (s.tb.cfg.ppsGate = true → tbTraceable s.tb = true) ∧
    (after .ppsOutRise s).tb.ppsOut = true := by
  refine ⟨tbOn fun b => { b with valid := true, count := 999999999 * 2 ^ 32, cfg := { b.cfg with ppsAdv := 1 } }, ?_⟩
  decide

theorem test_pps_out_fall : ∃ s, Awake s ∧ s.tb.ppsOut = true ∧ s.tb.ppsFall ≤ dtNs s ∧ (after .ppsOutFall s).tb.ppsOut = false := by
  refine ⟨tbOn fun b => { b with ppsOut := true }, ?_⟩; decide

/-- FABRIC upstream on link 2, which is up. -/
def upstream : State := { on with
  tb := { on.tb with valid := true, cfg := { on.tb.cfg with upstream := 2 } }
  fab := { on.fab with links := on.fab.links.set 2 { Link.reset with state := .up } } }

def frameOn (s : State) (f : Bytes) : State :=
  { s with fab := { s.fab with links := vmod s.fab.links 2 fun l => { l with frame := some (f, 77) } } }

theorem test_exchange_start : ∃ s, Awake s ∧ upOk s = true ∧ s.tb.exchAt + exchLen s ≤ s.tb.up ∧
    (after (.timesyncExchangeStart none) s).tb.exch = some ⟨1, 0, 0, 0, false⟩ := by
  refine ⟨upBy (sec 1) upstream, ?_⟩; decide

/-- The peer on link 2 starts exchange 9: SYNC, TYPE 1, with SEQ 9 and t1 (R41). -/
theorem test_sync_sent : Awake upstream ∧ (linkOf upstream 2).state = .up ∧
    ((after (.timesyncExchangeStart (some (2, 9))) upstream).out.map fun o => match o with
      | .flit l b => (l, fieldAt b 0 1, fieldAt b 14 1, fieldAt b 18 2)
      | _ => (0, 0, 0, 0)) = [(2, 4, 1, 9)] := by decide

/-- An exchange of a slower rate goes on beside the new one (R48), takes its SYNC, and ends with its DELAY_RESP. -/
def slower (e : Exchange) : State := { upstream with tb := { upstream.tb with exchAt := 1, exchOld := [(e, sec 1)] } }

theorem test_sync_old : ∃ s f, Awake s ∧ (linkOf s 2).frame = some (f, 77) ∧ fieldAt f 0 1 = 1 ∧ (2 : Nat) = upLink s ∧
    upOk s = true ∧ s.tb.valid = true ∧ s.tb.exchOld = [(⟨9, 0, 0, 0, false⟩, sec 1)] ∧
    (after (.sync 2) s).tb.exchOld = [(⟨9, 0, 77, 0, true⟩, sec 1)] ∧ (after (.sync 2) s).tb.exch = none := by
  refine ⟨frameOn (slower ⟨9, 0, 0, 0, false⟩) (layout 32 [(0, 1, 1), (4, 2, 9)]), layout 32 [(0, 1, 1), (4, 2, 9)], ?_⟩
  decide

theorem test_delay_resp_old : ∃ s f, Awake s ∧ (linkOf s 2).frame = some (f, 77) ∧ fieldAt f 0 1 = 3 ∧ s.tb.exch = none ∧
    s.tb.exchOld = [(⟨9, 100, 177, 200, true⟩, sec 1)] ∧ fieldAt f 4 2 = 9 ∧ (2 : Nat) = upLink s ∧ upOk s = true ∧
    s.tb.valid = true ∧ (after (.delayResp 2) s).tb.fabOff = 7 * 2 ^ 16 ∧ (after (.delayResp 2) s).tb.exchOld = [] := by
  refine ⟨frameOn (slower ⟨9, 100, 177, 200, true⟩) (layout 32 [(0, 1, 3), (4, 2, 9), (24, 2, 263)]),
    layout 32 [(0, 1, 3), (4, 2, 9), (24, 2, 263)], ?_⟩
  decide

theorem test_sync : ∃ s f, Awake s ∧ (linkOf s 2).frame = some (f, 77) ∧ fieldAt f 0 1 = 1 ∧ (2 : Nat) = upLink s ∧
    upOk s = true ∧ (after (.sync 2) s).tb.exch = some ⟨9, 0, 77, 0, true⟩ := by
  refine ⟨frameOn upstream (layout 32 [(0, 1, 1), (4, 2, 9)]), layout 32 [(0, 1, 1), (4, 2, 9)], ?_⟩; decide

theorem test_delay_req : ∃ s f, Awake s ∧ (linkOf s 2).frame = some (f, 77) ∧ fieldAt f 0 1 = 2 ∧
    (linkOf (after (.delayReq 2) s) 2).frame = none ∧ (after (.delayReq 2) s).out.length = s.out.length + 1 := by
  refine ⟨frameOn upstream (layout 32 [(0, 1, 2)]), layout 32 [(0, 1, 2)], ?_⟩; decide

/-- t1 = 100, t2 = 177, t3 = 200, t4 = 263 in 2^-16 ns: the offset is (77 - 63) / 2 = 7 of those units (R41). -/
theorem test_delay_resp : ∃ s f e, Awake s ∧ (linkOf s 2).frame = some (f, 77) ∧ fieldAt f 0 1 = 3 ∧ s.tb.exch = some e ∧
    e.asked = true ∧ fieldAt f 4 2 = e.seq.toNat ∧ (2 : Nat) = upLink s ∧ upOk s = true ∧ s.tb.valid = true ∧
    (after (.delayResp 2) s).tb.fabOff = 7 * 2 ^ 16 ∧ (after (.delayResp 2) s).tb.exch = none := by
  refine ⟨frameOn { upstream with tb := { upstream.tb with exch := some ⟨9, 100, 177, 200, true⟩ } }
    (layout 32 [(0, 1, 3), (4, 2, 9), (24, 2, 263)]), layout 32 [(0, 1, 3), (4, 2, 9), (24, 2, 263)], ⟨9, 100, 177, 200, true⟩, ?_⟩
  decide

def timeCfg : Bytes := [1, 0b100100, 200, 2, 64, 5, 1, 0, 5, 0, 7, 0, 0, 0, 0, 0]

theorem test_time_config : HasCmd (st 0x0101 timeCfg) 0 0x0101 (held 0x0101 timeCfg) ∧
    prioOk ((held 0x0101 timeCfg).f 1 1) = true ∧ Reserved (held 0x0101 timeCfg) [7, 12, 13, 14, 15] ∧
    status (after (.opTimeConfig 0) (st 0x0101 timeCfg)) = some 0 ∧
    (after (.opTimeConfig 0) (st 0x0101 timeCfg)).tb.cfg.upstream = 2 ∧
    (after (.opTimeConfig 0) (st 0x0101 timeCfg)).tb.cfg.ppsInDly = 7 := by decide

theorem test_time_config_read : HasCmd (st 0x0101 (zeros 16)) 0 0x0101 (held 0x0101 (zeros 16)) ∧
    status (after (.opTimeConfig 0) (st 0x0101 (zeros 16))) = some 0 ∧
    (after (.opTimeConfig 0) (st 0x0101 (zeros 16))).tb = on.tb := by decide

theorem test_time_set : HasCmd (st 0x0102 (leBytes 16 1000)) 0 0x0102 (held 0x0102 (leBytes 16 1000)) ∧
    on.tb.valid = false ∧ on.tb.timeSet = none ∧ on.tb.extQual = false ∧
    Reserved (held 0x0102 (leBytes 16 1000)) [10, 11, 12, 13, 14, 15] ∧
    status (after (.opTimeSet 0) (st 0x0102 (leBytes 16 1000))) = some 0 ∧
    dtNs (after (.opTimeSet 0) (st 0x0102 (leBytes 16 1000))) = 1000000000000 ∧
    resp (after (.opTimeSet 0) (st 0x0102 (leBytes 16 1000))) 8 1 = 4 := by decide

def extOn : State := tbOn fun b => { b with extQual := true }

theorem test_time_set_ext : HasCmd (cmd extOn 0x0102 (leBytes 16 1000)) 0 0x0102 (held 0x0102 (leBytes 16 1000)) ∧
    extOn.tb.valid = false ∧ extOn.tb.timeSet = none ∧ extOn.tb.extQual = true ∧
    ((after (.opTimeSet 0) (cmd extOn 0x0102 (leBytes 16 1000))).tb.timeSet.any fun w => w.chan = 0) = true := by decide

theorem test_time_set_timeout : ∃ s w k, Awake s ∧ s.tb.timeSet = some w ∧ w.chan = 0 ∧ w.limit ≤ s.tb.up ∧
    (chan s 0).cmd = some k ∧ Memory.wf (chan s 0).resp = true ∧ status (after .timeSetTimeout s) = some 0x000B := by
  refine ⟨upBy (sec 2) (after (.opTimeSet 0) (cmd extOn 0x0102 (leBytes 16 1000))), _, _, ?_, rfl, ?_, ?_, rfl, ?_⟩ <;> decide

theorem test_time_status : HasCmd (st 0x0103 []) 0 0x0103 (held 0x0103 []) ∧
    status (after (.opTimeStatus 0) (st 0x0103 [])) = some 0 ∧
    resp (after (.opTimeStatus 0) (st 0x0103 [])) 16 4 = 277344804 := by decide

def meas : CalMeas := ⟨0, List.replicate 16 5, List.replicate 24 0⟩

theorem test_ref_present : Awake on ∧ (100 : Int).natAbs ≤ 100 ∧ (after (.refPresenceDecided (-100)) on).cal.refPresent = true ∧
    ((after (.refPresenceDecided 101) on).cal.items[0]).result = 3 ∧
    ((after (.refPresenceDecided 101) on).cal.items[3]).result = 0 := by decide

def refOn : State := calOn fun c => { c with refPresent := true }

theorem test_loopbacks : ∃ s r, Awake s ∧ s.cal.run = some r ∧ r.chan = none ∧ r.gate = .idle ∧ s.sec.loopDone = false ∧
    s.sec.fwStarted = true ∧ s.cal.refPresent = true ∧ (after (.calLoopbacksDone meas) s).sec.phase = 3 ∧
    (after (.calLoopbacksDone meas) s).gn.mode = 1 := by
  refine ⟨{ refOn with sec := { refOn.sec with phase := 1 } }, _, ?_, rfl, ?_⟩ <;> decide

def gateAt (g : Gate) : State := calOn fun c => { c with
  refPresent := true
  run := some ⟨none, 0xFFFFFFF, false, g, 3⟩ }

theorem test_gate_start_pps : ∃ s r, Awake s ∧ s.cal.run = some r ∧ r.gate = .waiting 0 ∧ s.tb.ppsAt = some s.tb.up ∧
    s.tb.up < 0 + nsUp 1000000001 ∧
    ((after .frequencyGateStart s).cal.run.map fun q => q.gate) = some (.running (sec 1) true 0) := by
  refine ⟨{ gateAt (.waiting 0) with tb := { on.tb with ppsAt := some (sec 1), up := sec 1 } }, _, ?_, rfl, ?_⟩ <;> decide

theorem test_gate_start : ∃ s r, Awake s ∧ s.cal.run = some r ∧ r.gate = .waiting 0 ∧ s.tb.ppsAt ≠ some s.tb.up ∧
    0 + nsUp 1000000000 ≤ s.tb.up ∧
    ((after .frequencyGateStart s).cal.run.map fun q => q.gate) = some (.running (sec 1) false 0) := by
  refine ⟨upBy (sec 1) (gateAt (.waiting 0)), _, ?_, rfl, ?_⟩ <;> decide

theorem test_gate_end : ∃ s r, Awake s ∧ s.cal.run = some r ∧ r.gate = .running 0 false 0 ∧ 0 + nsUp 2000000000 ≤ s.tb.up ∧
    r.todo.getLsbD 0 = true ∧ calPasses 0 s.cal.items[0] 25600 r.ovr = true ∧
    ((after (.frequencyGateEnd 25600 0 0) s).cal.items[0]).target = 25600 := by
  refine ⟨upBy (sec 2) (gateAt (.running 0 false 0)), _, ?_, rfl, ?_⟩ <;> decide

theorem test_gate_end_pps : ∃ s r, Awake s ∧ s.cal.run = some r ∧ r.gate = .running 0 true 2 ∧
    (after (.frequencyGateEnd 25600 0 0) s).cal.ppsUsed = true := by
  refine ⟨upBy (sec 2) (gateAt (.running 0 true 2)), _, ?_, rfl, ?_⟩ <;> decide

theorem test_cal_slewing_clear : ∃ s, Awake s ∧ calSlewing s = true ∧ (List.range 28).all (calCanReach s) = true ∧
    ((after .calSlewingClear s).cal.items[4]).value = 128 := by
  refine ⟨upBy (sec 20) (calOn fun c => { c with items := c.items.set 4 { CalItem.reset with target := 128 } }), ?_⟩; decide

def idleCal : State := calOn fun c => { c with refPresent := true, run := none, running := false }

theorem test_cal_run_gate : HasCmd (cmd idleCal 0x0104 (leBytes 8 1)) 0 0x0104 (held 0x0104 (leBytes 8 1)) ∧
    idleCal.cal.run = none ∧ Reserved (held 0x0104 (leBytes 8 1)) [5, 6, 7] ∧
    (after (.opCalRun 0 meas) (cmd idleCal 0x0104 (leBytes 8 1))).cal.running = true := by decide

theorem test_cal_run_therm : ∃ s, HasCmd s 0 0x0104 (held 0x0104 (leBytes 8 8)) ∧ s.pwr.domains.toNat < 2 ^ 14 ∧
    thermPasses s.cal.thermRec meas.therm false = true ∧ status (after (.opCalRun 0 meas) s) = some 0 ∧
    ((after (.opCalRun 0 meas) s).cal.items[3]).target = 5 := by
  refine ⟨{ cmd idleCal 0x0104 (leBytes 8 8) with pwr := { Power.reset with domains := 0x3FFF } }, ?_⟩; decide

theorem test_cal_read : HasCmd (st 0x0105 [27, 0, 0, 0]) 0 0x0105 (held 0x0105 [27, 0, 0, 0]) ∧
    (on.cal.items[27]).value = (on.cal.items[27]).target ∧
    status (after (.opCalRead 0) (st 0x0105 [27, 0, 0, 0])) = some 0 ∧
    resp (after (.opCalRead 0) (st 0x0105 [27, 0, 0, 0])) 32 4 = 0x80000000 := by decide

/-- CAL_COUNT and CAL_LAST of the record outlive a cold reset (R55, R61). -/
theorem test_cal_record_kept : ∃ s, Awake s ∧ ((after (.coldReset .rail) (calRecord s 1)).cal.items[0]).count = 9 := by
  refine ⟨calOn fun c => { c with items := c.items.set 0 { CalItem.reset with count := 9 } }, ?_⟩; decide

/-! ### 04: the GNSS baseband -/

def gnCfg (c : GnConfig) : GnConfig := { c with fsHz := 50000000, sigEnable := 0x3FFE }

/-- Ports in order, configured, acquisition started. -/
def gn0 : State := { on with
  sec := { on.sec with loopDone := true }
  gn := { on.gn with cfg := gnCfg on.gn.cfg, spa := { on.gn.spa with fault := false }, spb := { on.gn.spb with fault := false } } }

def chanOn (f : GnChan → GnChan) : State := { gn0 with gn := { gn0.gn with chans := gn0.gn.chans.set 9 (f GnChan.reset) } }

theorem test_port_fault : Awake gn0 ∧ domainOn gn0 1 = true ∧ gn0.gn.cfg.fsHz ≠ 0 ∧
    (gnPort (after (.samplePortFault .spa true 0) gn0) .spa).fault = true ∧
    (gnPort (after (.samplePortFault .spb false 101) gn0) .spb).fault = true ∧
    (gnPort (after (.samplePortFault .spb false 100) gn0) .spb).fault = false := by decide

theorem test_port_clear : ∃ s, Awake s ∧ domainOn s 1 = true ∧ (gnPort s .spa).fault = true ∧ s.gn.cfg.fsHz ≠ 0 ∧
    (gnPort s .spa).badAt + nsUp 100000000 ≤ s.tb.up ∧ (gnPort (after (.samplePortFaultClear .spa) s) .spa).fault = false := by
  refine ⟨upBy (nsUp 100000000) { gn0 with gn := { gn0.gn with spa := GnPort.reset } }, ?_⟩; decide

theorem test_time_tag : Awake gn0 ∧ (gnPort (after (.sampleTimeTag .spb) (upBy 5 gn0)) .spb).tags = 1 := by decide

/-- No samples, no detection. -/
theorem test_search : Awake gn0 ∧ targetState gn0 1 3 = none ∧ anyFirst gn0 = false ∧ sigUsable gn0 1 = true ∧
    listed gn0 1 3 = true ∧ targetState (after (.search 0x103 []) gn0) 1 3 = some (.excluded (nsUp 10000000000)) := by decide

theorem test_search_first : ∃ s, Awake s ∧ targetState s 1 3 = some (.first 5 2 7) ∧ sigUsable s 1 = true ∧ listed s 1 3 = true ∧
    (searchWindow s 1 3).1.bins = [0, 1, 2, 3, 4] ∧ (searchWindow s 1 3).1.phase = some (7, 10) := by
  refine ⟨setTarget gn0 1 3 (some (.first 5 2 7)), ?_⟩; decide

/-- A channel in TRACK with signal 1 hands over to signal 3 of the satellite: 1,575.42 to 1,176.45 MHz (R74). -/
theorem test_hand_over : ((handOver (chanOn fun c => { c with
    state := .track, sig := 1, sv := 4, doppler := 4 * 128000, codePh := 1023 * 65536 / 4 }) 3 4).map fun w => (w.bins, w.phase)) =
      some ([2, 3, 4], some (5120, 3)) := by decide

def verifying : State := setTarget gn0 1 3 (some (.verifying (-1) 7))

/-- A target in verification where the first re-test decides: what is placed does not depend on the samples. -/
def passing (f : Gnss → Gnss) : State := { verifying with gn := f { verifying.gn with cfg := { verifying.gn.cfg with m := 0 } } }

theorem test_verify_fails : Awake verifying ∧ targetState verifying 1 3 = some (.verifying (-1) 7) ∧ sigUsable verifying 1 = true ∧
    (∀ z : Bool, reTests verifying.gn.cfg.m.toNat verifying.gn.cfg.n.toNat 0 0 ([[], []].map (reTest verifying 1 3 (-1) 7 z)) =
      some false) ∧
    targetState (after (.verify 0x103 [[], []]) verifying) 1 3 = some (.excluded (nsUp 10000000000)) := by decide

theorem test_verify_passes : Awake (passing id) ∧ targetState (passing id) 1 3 = some (.verifying (-1) 7) ∧
    sigUsable (passing id) 1 = true ∧ (gnChan (passing id) 0).state = .free ∧
    (∀ z : Bool, reTests (passing id).gn.cfg.m.toNat (passing id).gn.cfg.n.toNat 0 0
      ([[]].map (reTest (passing id) 1 3 (-1) 7 z)) = some true) ∧
    targetState (after (.verify 0x103 [[]]) (passing id)) 1 3 = some .onChannel := by decide

def allTrack (g : Gnss) : Gnss := { g with
  chans := Vector.ofFn fun i => { GnChan.reset with state := .track, sig := 1, sv := BitVec.ofNat 8 (i.val + 10) } }

/-- No elevation is known: the last channel yields, and the candidate, 2 degrees short, is declined (R78). -/
theorem test_verify_declined : Awake (passing allTrack) ∧ (∀ m : Fin 128, (gnChan (passing allTrack) m).state ≠ .free) ∧
    ((lowestChan (passing allTrack) ((listIdx (passing allTrack).gn.chans.toList).filter fun x => x.2.state == .track)).map
      fun x => x.1) = some 127 ∧
    targetState (after (.verify 0x103 [[]]) (passing allTrack)) 1 3 = some (.excluded (nsUp 60000000000)) := by decide

theorem test_list_return : ∃ s, Awake s ∧ targetState s 1 3 = some (.excluded 5) ∧ 5 ≤ s.tb.up ∧
    targetState (after (.searchListReturn 0x103) s) 1 3 = none := by
  refine ⟨upBy 5 (setTarget gn0 1 3 (some (.excluded 5))), ?_⟩; decide

theorem test_pull_in_lock : ∃ s, Awake s ∧ (gnChan s 9).state = .pullIn ∧ (gnChan s 9).codeBy = true ∧
    (gnChan s 9).carrierBy = true ∧ (gnChan (after (.pullInLock 9) s) 9).state = .track := by
  refine ⟨chanOn fun c => { c with state := .pullIn, codeBy := true, carrierBy := true }, ?_⟩; decide

theorem test_pull_in_timeout : ∃ s, Awake s ∧ (gnChan s 9).state = .pullIn ∧ (gnChan s 9).codeBy = false ∧
    (gnChan s 9).since + nsUp 200000000 ≤ s.tb.up ∧ (gnChan (after (.pullInTimeout 9) s) 9).state = .free ∧
    targetState (after (.pullInTimeout 9) s) 2 4 = some (.first (sec 1 + nsUp 5000000000) 0 0) := by
  refine ⟨upBy (sec 1) (chanOn fun c => { c with state := .pullIn, sig := 2, sv := 4 }), ?_⟩; decide

theorem test_track_loss : ∃ s, Awake s ∧ (gnChan s 9).state = .track ∧ (gnChan s 9).lowSince = some 0 ∧
    0 + nsUp 1000000000 ≤ s.tb.up ∧ (gnChan (after (.trackLoss 9) s) 9).state = .free := by
  refine ⟨upBy (sec 1) (chanOn fun c => { c with state := .track, lowSince := some 0 }), ?_⟩; decide

/-- I and Q of VE, E, P, L, VL and N; the prompt of 3 and 1: (9 - 1) / (9 + 1) is 0.8 (R77). -/
def acc12 : List Int := [1, 2, 3, 4, 3, 1, 7, 8, 9, 10, 11, 12]

def tracking : State := upBy (nsUp 1000000) (chanOn fun c => { c with state := .track, sig := 1 })

theorem test_interval_end : Awake tracking ∧ (gnChan tracking 9).state ≠ .free ∧ acc12.length = 12 ∧
    (gnChan tracking 9).cohAt + msUp (cohMs (gnChan tracking 9).sig.toNat (gnChan tracking 9).sv.toNat (gnChan tracking 9).bitSync)
      ≤ tracking.tb.up ∧ (gnChan (after (.coherentIntervalEnd 9 acc12 true) tracking) 9).carrierLock = true ∧
    (gnChan (after (.coherentIntervalEnd 9 acc12 true) tracking) 9).store = acc12 ∧
    (gnChan (after (.coherentIntervalEnd 9 (acc12.set 5 2) true) tracking) 9).carrierLock = false := by decide

/-- A store of 15-bit magnitudes: 32,767 halves to 16,384 (ties to even), and the shift is 1 (R81). -/
theorem test_interval_shift :
    (gnChan (after (.coherentIntervalEnd 9 (acc12.set 0 32767) false) tracking) 9).scale = 1 ∧
    (gnChan (after (.coherentIntervalEnd 9 (acc12.set 0 32767) false) tracking) 9).store.take 4 = [16384, 1, 2, 2] := by decide

theorem test_sync_event : ∃ s, Awake s ∧ (gnChan s 9).state = .track ∧ syncOk (gnChan s 9).sig.toNat 0x8B false = true ∧
    (gnChan (after (.syncEventVerified 9 0x8B false true []) s) 9).cn0 = 4321 ∧
    (gnChan (after (.syncEventVerified 9 0x8B false true []) s) 9).cn0Valid = true ∧
    (gnChan (after (.syncEventVerified 9 0x8A true true []) s) 9).cn0Valid = false := by
  refine ⟨chanOn fun c => { c with state := .track, sig := 1, cn0Now := 4321 }, ?_⟩; decide

theorem test_cn0_expire : ∃ s, Awake s ∧ (gnChan s 9).cn0Valid = true ∧
    (gnChan s 9).lastSync + msUp (3 * syncMs (gnChan s 9).sig.toNat (gnChan s 9).sv.toNat) ≤ s.tb.up ∧
    (gnChan (after (.cn0Expire 9) s) 9).cn0 = 0 := by
  refine ⟨upBy (sec 18) (chanOn fun c => { c with state := .track, sig := 1, cn0Valid := true, cn0 := 5 }), ?_⟩; decide

def sol : SolInput := ⟨false, true, 200, 0, 70, 100, 200, 300, none, none⟩

theorem test_epoch : ∃ s, Awake s ∧ epochDue s = true ∧ s.gn.mode = 0 ∧ (after (.measurementEpoch sol []) s).gn.epochSeq = 1 ∧
    (after (.measurementEpoch sol []) s).gn.solUncPs = 70 ∧ (after (.measurementEpoch sol []) s).gn.solValid = false := by
  refine ⟨{ gn0 with tb := { gn0.tb with count := 1000000000 * 2 ^ 32 } }, ?_⟩; decide

def gnMode (n : Nat) (f : Gnss → Gnss) : State := { gn0 with gn := f { gn0.gn with mode := BitVec.ofNat 2 n } }

/-- The mean of two solved positions (R86). -/
theorem test_survey_complete : ∃ s, Awake s ∧ s.gn.mode = 1 ∧ s.gn.posCnt ≠ 0 ∧
    s.gn.surveyAt + nsUp (60000000000 * s.gn.targetMin.toNat) ≤ s.tb.up ∧
    (after .surveyComplete s).gn.position = some ⟨100, 200, 300⟩ ∧ (after .surveyComplete s).gn.mode = 2 := by
  refine ⟨upBy (sec 60) (gnMode 1 fun g => { g with targetMin := 1, posSum := (200, 400, 600), posCnt := 2 }), ?_⟩; decide

def holding (sq : Nat) : State := upBy (sec 60) (gnMode 2 fun g => { g with
  holdCheck := true, holdAt := some 0, position := some ⟨1, 2, 3⟩, resSq := sq, resCnt := 2 })

/-- The RMS of two residuals of 30 m stays; above it a survey starts (R87). -/
theorem test_hold_residual : Awake (holding 0) ∧ (holding 0).gn.mode = 2 ∧ (holding 0).gn.holdCheck = true ∧
    (holding 0).gn.holdAt = some 0 ∧ 0 + nsUp 60000000000 ≤ (holding 0).tb.up ∧ (holding 0).gn.resCnt ≠ 0 ∧
    (after .holdResidualCheck (holding (1800 * 2 ^ 32 + 1))).gn.mode = 1 ∧
    (after .holdResidualCheck (holding (1800 * 2 ^ 32))).gn.mode = 2 ∧
    (after .holdResidualCheck (holding (1800 * 2 ^ 32))).gn.holdCheck = false := by decide

theorem test_gnss_config_read : HasCmd (st 0x0201 []) 0 0x0201 (held 0x0201 []) ∧
    status (after (.opGnssConfig 0) (st 0x0201 [])) = some 0 ∧
    resp (after (.opGnssConfig 0) (st 0x0201 [])) 28 2 = 1000 := by decide

/-- FS_HZ 0 with the defaults of R90, and the interval 20 ms. -/
def gnBytes : Bytes := gnConfigBytes { on.gn.cfg with intervalMs := 20 }

theorem test_gnss_config : HasCmd (st 0x0201 gnBytes) 0 0x0201 (held 0x0201 gnBytes) ∧ gnBytes ≠ [] ∧
    firstFail (chan (st 0x0201 gnBytes) 0) (gnConfigChk (held 0x0201 gnBytes)) = none ∧
    status (after (.opGnssConfig 0) (st 0x0201 gnBytes)) = some 0 ∧
    (after (.opGnssConfig 0) (st 0x0201 gnBytes)).gn.cfg.intervalMs = 20 := by decide

theorem test_gnss_survey : HasCmd (st 0x0202 [168, 0, 0, 0]) 0 0x0202 (held 0x0202 [168, 0, 0, 0]) ∧
    Reserved (held 0x0202 [168, 0, 0, 0]) [1, 2, 3] ∧
    (after (.opGnssSurvey 0) (st 0x0202 [168, 0, 0, 0])).gn.targetMin = 10080 ∧
    status (after (.opGnssSurvey 0) (st 0x0202 [169, 0, 0, 0])) = some 4 := by decide

theorem test_gnss_position : HasCmd (st 0x0203 (leBytes 24 5)) 0 0x0203 (held 0x0203 (leBytes 24 5)) ∧
    (after (.opGnssPosition 0) (st 0x0203 (leBytes 24 5))).gn.position = some ⟨5, 0, 0⟩ := by decide

def stream : Bytes := layout 16 [(0, 8, 0x4000), (8, 1, 12), (9, 1, 1), (10, 1, 200)]

theorem test_gnss_stream : HasCmd (st 0x0204 stream) 0 0x0204 (held 0x0204 stream) ∧
    Reserved (held 0x0204 stream) [11, 12, 13, 14, 15] ∧
    ((after (.opGnssStream 0) (st 0x0204 stream)).gn.ring.any fun r => r.addr = 0x4000 && r.vector = 200) = true := by decide

theorem test_gnss_stream_off : HasCmd (st 0x0204 (zeros 16)) 0 0x0204 (held 0x0204 (zeros 16)) ∧
    status (after (.opGnssStream 0) (st 0x0204 (zeros 16))) = some 0 ∧
    (after (.opGnssStream 0) (st 0x0204 (zeros 16))).gn.ring = none := by decide

/-- Two ephemeris items of 5 bytes, of which the first fails its check. -/
def assist : Bytes := layout 26 [(0, 1, 2), (1, 1, 0), (2, 2, 2), (4, 2, 5)]

theorem test_gnss_assist : HasCmd (st 0x0205 assist) 0 0x0205 (held 0x0205 assist) ∧ assistLenOk 2 5 = true ∧
    Reserved (held 0x0205 assist) (span 6 16) ∧
    (∀ i : Nat, i < 2 → Reserved (held 0x0205 assist) (span (17 + i * 5) (20 + i * 5))) ∧
    resp (after (.opGnssAssist 0 [false, true]) (st 0x0205 assist)) 0 2 = 1 ∧
    resp (after (.opGnssAssist 0 [false, true]) (st 0x0205 assist)) 2 2 = 1 := by decide

/-- A UTC item sets TB_UTC_OFFSET.SECONDS (R92). -/
theorem test_gnss_assist_utc :
    (after (.opGnssAssist 0 []) (st 0x0205 (layout 18 [(0, 1, 5), (2, 2, 1), (4, 2, 2), (16, 2, 37)]))).tb.utc.seconds = 37 := by
  decide

/-! ### 05: the mailboxes -/

theorem test_doorbell_new : (chan on 0).enabled = true ∧ (chan on 0).busy = false ∧ mpServes on = true ∧
    (chan (after (.mbxDoorbell 0 1) on) 0).busy = true ∧ (chan (after (.mbxDoorbell 0 1) on) 0).bell = 1 ∧
    (chan (after (.mbxDoorbell 0 2) on) 0).seqErr = true ∧ (chan (after (.mbxDoorbell 0 0) on) 0).seqErr = true := by decide

def seqAt (n : Half) : State := { on with mbx := { on.mbx with chans := on.mbx.chans.set 0 { MbxChan.reset 0 with
  lastSeq := n, irqEn := true, vector := 3 } } }

theorem test_doorbell_wraps : (chan (after (.mbxDoorbell 0 1) (seqAt 0xFFFF)) 0).busy = true ∧
    (chan (after (.mbxDoorbell 0 0x10005) (seqAt 4)) 0).busy = true := by decide

/-- A replay answers at once, with the channel's MSI-X. -/
theorem test_doorbell_replay : ∃ s, (chan s 0).irqEn = true ∧ s.hl.posts = [] ∧ vecOpen s 3 = true ∧ vecGap s 3 = false ∧
    hostUp s = true ∧ (chan (after (.mbxDoorbell 0 5) s) 0).replayed = true ∧ (after (.mbxDoorbell 0 5) s).out.length = 1 := by
  refine ⟨{ seqAt 5 with hl := { on.hl with cfg := { on.hl.cfg with msix := List.replicate 256 ⟨64, 9, false⟩ } } }, ?_⟩
  decide

theorem test_doorbell_busy : (chan (st 1 []) 0).busy = true ∧ (chan (st 1 []) 0).bell = 0 ∧
    (after (.mbxDoorbell 0 0) (st 1 [])).mbx = (st 1 []).mbx ∧ (chan (after (.mbxDoorbell 0 1) (st 1 [])) 0).overrun = true := by decide

theorem test_doorbell_disabled : (chan on (hostChan 1)).enabled = false ∧ (after (.mbxDoorbell 1 1) on).mbx = on.mbx := by decide

theorem test_status_clear : ∃ s, (chan s 0).overrun = true ∧ (chan (after (.mbxStatusClear 0 0x10) s) 0).overrun = false ∧
    (chan (after (.mbxStatusClear 0 0x10) s) 0).seqErr = true := by
  refine ⟨{ on with mbx := { on.mbx with chans := on.mbx.chans.set 0 { MbxChan.reset 0 with overrun := true, seqErr := true } } }, ?_⟩
  decide

/-- A message in the request area, its doorbell rung. -/
def rung (msg : Bytes) : State := { on with mbx := { on.mbx with chans := on.mbx.chans.set 0 { MbxChan.reset 0 with
  busy := true, bell := 1, req := memWrite [] 0 msg } } }

def hdr (op seq len flags : Nat) : Bytes := layout 16 [(0, 2, op), (2, 2, seq), (4, 2, len), (6, 1, flags), (7, 1, 1)]

theorem test_ack_direct : ∃ r, opRow 0x0903 = some r ∧ mayCarry (rung (hdr 0x0903 1 4 0)) 0 r = true ∧
    phaseRefuses (rung (hdr 0x0903 1 4 0)) 0x0903 = none ∧ lenFits r.len 4 [0, 0, 0, 0] = true ∧
    (chan (rung (hdr 0x0903 1 4 0)) 0).bell = nextSeq (chan (rung (hdr 0x0903 1 4 0)) 0).lastSeq ∧
    ((chan (after (.mbxAck 0) (rung (hdr 0x0903 1 4 0))) 0).cmd.any fun k => k.ready && k.opcode = 0x0903) = true := by
  refine ⟨⟨0x0903, 1000, false, false, .fixed [4]⟩, ?_⟩; decide

/-- An indirect OP_PLAN_LOAD of 112 bytes at host address 0x1000. -/
def indirect : Bytes := hdr 0x0501 1 16 1 ++ layout 16 [(0, 8, 0x1000), (8, 4, 112)]

theorem test_ack_indirect : ∃ r, opRow 0x0501 = some r ∧ mayCarry (rung indirect) 0 r = true ∧
    lenPossible r.len 112 = true ∧ hostUp (rung indirect) = true ∧
    (tget (after (.mbxAck 0) (rung indirect)).hl.reads 0).any (fun q => q.addr = 0x1000 && q.len = 112) = true ∧
    ((chan (after (.mbxAck 0) (rung indirect)) 0).cmd.any fun q => !q.ready) = true := by
  refine ⟨⟨0x0501, 50000, false, false, .counted 16 1 [(4, 4)]⟩, ?_⟩; decide

theorem test_ack_seq_err : (chan (after (.mbxAck 0) (rung (hdr 1 2 0 0))) 0).seqErr = true := by decide

theorem test_ack_bad_opcode : opRow 0x0BAD = none ∧
    leNat (memRead (chan (after (.mbxAck 0) (rung (hdr 0x0BAD 1 0 0))) 0).resp 8 2) = 2 := by decide

/-- Checks 2 to 4 of R430: OP_CHIP_ID_SET on channel 1 is not permitted, a command before READY is busy, a length that does not
fit. -/
theorem test_ack_checks : (opRow 0x0701).any (fun r => !mayCarry on (hostChan 1) r) = true ∧
    phaseRefuses { on with sec := { on.sec with phase := 3 } } 0x0903 = some 1 ∧
    leNat (memRead (chan (after (.mbxAck 0) (rung (hdr 0x0903 1 5 0))) 0).resp 8 2) = 3 := by
  decide

theorem test_solp_req : ∃ msg, msg.length ≤ 255 ∧ (chan on bmcChan).enabled = true ∧ (chan on bmcChan).busy = false ∧
    BitVec.ofNat 16 (fieldAt msg 2 2) = nextSeq (chan on bmcChan).lastSeq ∧
    (chan (after (.solpReq msg true) on) bmcChan).busy = true ∧
    memRead (chan (after (.solpReq msg true) on) bmcChan).req 0 16 = msg ∧ (after (.solpReq msg false) on).mbx = on.mbx := by
  refine ⟨hdr 1 1 0 0, ?_⟩; decide

theorem test_solp_stat : (chan on bmcChan).seqErr = false ∧ (after .solpStat on).out = [.smbus [0]] := by decide

theorem test_session_timeout : ∃ s x, mpServes s = true ∧ s.mbx.session = some x ∧ x.lastAt + msUp 60000 ≤ s.tb.up ∧
    (after .fwUpdateSessionTimeout s).mbx.session = none := by
  refine ⟨upBy (sec 60) { on with mbx := { on.mbx with session := some ⟨0, true, 5000, 0, 0⟩ } }, _, ?_, rfl, ?_⟩ <;> decide

theorem test_max_time : ∃ s k, mpServes s = true ∧ (chan s 0).cmd = some k ∧ (k.ready = false ∨ k.begun = true) ∧
    k.opcode.toNat ≠ 0x0902 ∧ k.opcode.toNat ≠ 0x0702 ∧ k.ackAt + nsUp (maxFwNs k.opcode.toNat k.payload) ≤ s.tb.up ∧
    status (after (.maxFirmwareTimeExpiry 0) s) = some 0x000B := by
  refine ⟨upBy (sec 4) (withCmd on { held 0x0104 (leBytes 8 1) with begun := true }), _, ?_, rfl, ?_⟩ <;> decide

theorem test_nop : HasCmd (st 1 []) 0 1 (held 1 []) ∧ status (after (.opNop 0) (st 1 [])) = some 0 := by decide

theorem test_get_info : HasCmd (st 2 []) 0 2 (held 2 []) ∧ resp (after (.opGetInfo 0) (st 2 [])) 20 4 = 323840 ∧
    resp (after (.opGetInfo 0) (st 2 [])) 10 2 = 1 := by decide

theorem test_mbx_grant : HasCmd (st 3 [15, 3, 63, 0, 4, 0, 0, 0]) 0 3 (held 3 [15, 3, 63, 0, 4, 0, 0, 0]) ∧
    (chan on (hostChan 15)).busy = false ∧ Reserved (held 3 [15, 3, 63, 0, 4, 0, 0, 0]) [3, 6, 7] ∧
    (chan (after (.opMbxGrant 0) (st 3 [15, 3, 63, 0, 4, 0, 0, 0])) 15).ctx = 63 ∧
    (chan (after (.opMbxGrant 0) (st 3 [15, 3, 63, 0, 4, 0, 0, 0])) 15).enabled = true := by decide

theorem test_mbx_reset : ∃ s, HasCmd s 0 4 (held 4 [1, 0, 0, 0]) ∧ (chan s 1).busy = true ∧
    (chan (after (.opMbxReset 0) s) 1).busy = false ∧ (chan (after (.opMbxReset 0) s) 1).lastSeq = 0 := by
  refine ⟨cmd { on with mbx := { on.mbx with chans := on.mbx.chans.set 1 { MbxChan.reset 1 with
    busy := true, lastSeq := 6, cmd := some (held 1 []) } } } 4 [1, 0, 0, 0], ?_⟩; decide

/-- Channel 1 fills deep memory by access 4, which its port has not answered. -/
def filling : State := { on with
  acc := [(4, ⟨.fill 1, .dma 0 0, 0, 5, 0x10000, 64, .write, zeros 64, 0, false, false, false, noDeadline, .deep 0 true 100, 0⟩)]
  nextAcc := 5
  mbx := { on.mbx with chans := on.mbx.chans.set 1 { MbxChan.reset 1 with
    busy := true, cmd := some { held 0x030A (zeros 40) with begun := true } } } }

/-- OP_MBX_RESET waits for the deep writes of an OP_FILL (08 R188). -/
theorem test_mbx_reset_waits : ∃ q, HasCmd (cmd filling 4 [1, 0, 0, 0]) 0 4 (held 4 [1, 0, 0, 0]) ∧
    (chan (cmd filling 4 [1, 0, 0, 0]) 1).cmd = some q ∧ fillFlies (cmd filling 4 [1, 0, 0, 0]) 1 q = true ∧
    ((chan (after (.opMbxReset 0) (cmd filling 4 [1, 0, 0, 0])) 0).cmd.any fun k => k.begun) = true ∧
    ((chan (after (.opMbxReset 0) (cmd filling 4 [1, 0, 0, 0])) 1).cmd.any fun k => k.ending == some stAborted) = true := by
  refine ⟨{ held 0x030A (zeros 40) with begun := true }, ?_⟩; decide

def evRing : Bytes := layout 16 [(0, 8, 0x2000), (8, 1, 6), (9, 1, 5), (10, 1, 1)]

theorem test_event_ring : HasCmd (st 5 evRing) 0 5 (held 5 evRing) ∧ Reserved (held 5 evRing) [11, 12, 13, 14, 15] ∧
    ((after (.opEventRing 0) (st 5 evRing)).mbx.ring.any fun r => r.addr = 0x2000 && r.vector = 5 && r.log2 = 6) = true ∧
    (after (.opEventRing 0) (cmd (after (.opEventRing 0) (st 5 evRing)) 5 (zeros 16))).mbx.ring = none := by decide

theorem test_error_log : ∃ s, HasCmd s 0 6 (held 6 [1, 0, 7, 0]) ∧ s.hl.posts = [] ∧ resp (after (.opErrorLog 0) s) 0 4 = 2 ∧
    resp (after (.opErrorLog 0) s) 4 1 = 1 ∧ resp (after (.opErrorLog 0) s) 8 2 = 3 := by
  refine ⟨cmd { on with mbx := { on.mbx with log := [⟨4, 1, 2, 0, zeros 16⟩, ⟨3, 1, 1, 0, zeros 16⟩] } } 6 [1, 0, 7, 0], ?_⟩
  decide

theorem test_health_summary : HasCmd (st 7 []) 0 7 (held 7 []) ∧ resp (after (.opHealthSummary 0) (st 7 [])) 0 1 = 4 := by decide

/-! ### 06: the host link -/

def hlOn (f : HostLink → HostLink) : State := { on with hl := f on.hl }

def seqErrOn : State := { on with mbx := { on.mbx with chans := on.mbx.chans.set 0 { MbxChan.reset 0 with seqErr := true } } }

theorem test_request_area : (0x3FC : Nat) % 4 = 0 ∧ Memory.wf (chan on (hostChan 15)).req = true ∧
    memRead (chan (after (.bar0WritePlain (0x10000 + 0x1000 * 15 + 0x400 + 0x3FC) false 0x0102030405060708) on) 15).req 0x3FC 4
      = [8, 7, 6, 5] := by decide

theorem test_mbx_ctrl : chan (after (.bar0WritePlain 0x1F008 false 0xFE01) on) 15
    = { chan on 15 with irqEn := true, vector := 0xFE } := by decide

theorem test_int_ctrl : (after (.bar0WritePlain 0x30008 false 0x1FF) on).hl.intVector = 0xFF ∧
    ((after (.bar0WritePlain 0x304FC false 0x7FF) on).hl.vecs[255]).gapUs = 0x3FF := by decide

theorem test_no_register : (after (.bar0WritePlain 0x30500 true 5) on).hl.intVector = 0 ∧
    (after (.bar0WritePlain 0xFFF8 true 5) on).mbx = on.mbx := by decide

/-- A 64-bit write of the request area, and of MBX_DOORBELL with MBX_STATUS (R5). -/
theorem test_wide_write : (0x3F8 : Nat) % 8 = 0 ∧
    memRead (chan (after (.bar0WritePlain (0x10400 + 0x3F8) true 0x0102030405060708) on) 0).req 0x3F8 8
      = [8, 7, 6, 5, 4, 3, 2, 1] ∧
    (chan (after (.bar0WritePlain 0x10000 true 0x2000000001) (seqErrOn)) 0).busy = true ∧
    (chan (after (.bar0WritePlain 0x10000 true 0x2000000001) (seqErrOn)) 0).seqErr = false := by decide

theorem test_bad_access : isBad 6 true (.misaligned false) = true ∧ on.hl.intStatus.getLsbD 0 = false ∧
    (after (.bar0BadAccess 6 true (.misaligned false)) on).hl.badOff = 6 ∧
    (after (.bar0BadAccess 6 true (.misaligned false)) on).hl.badKind = 2 ∧
    (after (.bar0BadAccess 7 false .byte) on).out = [.readData [0xFF] false] ∧ isBad 0x20004 false (.misaligned true) = false := by
  decide

theorem test_int_clear : (after (.intStatusClear 0x21) (hlOn fun h => { h with intStatus := 0x23, badValid := true })).hl.intStatus = 2 ∧
    (after (.intStatusClear 0x21) (hlOn fun h => { h with intStatus := 0x23, badValid := true })).hl.badValid = false := by decide

theorem test_int_enable : ∃ s, hostDecode s = true ∧ s.hl.intStatus &&& 5 &&& ~~~s.hl.intEnable ≠ 0 ∧
    (after (.intEnableWrite 5) s).hl.intEnable = 5 ∧ (after (.intEnableWrite 5) s).out.length = 1 ∧
    (after (.intEnableWrite 2) s).out = [] := by
  refine ⟨hlOn fun h => { h with
    intStatus := 1, cfg := { h.cfg with msix := List.replicate 256 ⟨64, 9, false⟩ } }, ?_⟩
  decide

theorem test_decode_off : ∃ s, Awake s ∧ hostDecode s = false ∧ (after (.tbSnapLatch 0 false) s).out = [.unsupported] ∧
    (after (.bar4Read 0 4 []) s).out = [.unsupported] ∧ (after (.bar0BadAccess 1 false .byte) s).out = [.unsupported] ∧
    (after (.bar0WritePlain 0x30008 false 1) s).hl.intVector = 0 ∧ (after (.mbxDoorbell 0 1) s).mbx = s.mbx ∧
    (after .freeze s).sch = s.sch := by
  refine ⟨hlOn fun h => { h with cfg := { h.cfg with mse := false } }, ?_⟩; decide

theorem test_link_train : ∃ s p, Awake s ∧ linkValid p = true ∧ degraded s p = true ∧ s.hl.cohMode = 2 ∧ sharedOk p = false ∧
    (after (.hostLinkTrain p on.hl.cfg) s).hl.intStatus = 0x30 ∧ (after (.hostLinkTrain p on.hl.cfg) s).hl.link = p := by
  refine ⟨hlOn fun h => { h with first := some (5, 16), cohMode := 2 }, ⟨5, 8, false, true, true, true, false⟩, ?_⟩; decide +kernel

theorem test_link_down : Awake on ∧ (after .hostLinkDown on).hl.link.speed = 0 := by decide

theorem test_bar4_resize : ∃ s, Awake s ∧ s.hl.link.speed ≠ 0 ∧ s.hl.cfg.mse = false ∧
    2 ^ 38 ≤ Config.towerGib * 8 * gib ∧ (after (.bar4Resize (2 ^ 38)) s).hl.bar4 = 2 ^ 38 ∧
    (after (.bar4Resize (2 ^ 38)) on).hl.bar4 = 2 ^ 28 := by
  refine ⟨hlOn fun h => { h with cfg := { h.cfg with mse := false } }, ?_⟩; decide

/-- Vector 7 pending behind its mask. -/
def pend7 : State := hlOn fun h => { h with vecs := h.vecs.set 7 ⟨0, true, false, none⟩ }

theorem test_msix_unmask : ∃ s, Awake s ∧ s.hl.cfg.msix.length = 256 ∧ (s.hl.vecs[7]).pend = true ∧ (s.hl.vecs[7]).gapUs = 0 ∧
    s.hl.cfg.msixEn = true ∧ s.hl.cfg.funcMask = false ∧ hostUp s = true ∧
    (after (.msixUnmask (.vector 7)) s).out = [.msix 7 0 0] ∧
    ((after (.msixUnmask (.vector 7)) s).hl.vecs[7]).pend = false ∧ (after (.msixUnmask (.vector 8)) s).out = [] := by
  refine ⟨pend7, ?_⟩; decide +kernel

theorem test_msix_function : ∃ s, Awake s ∧ (after (.msixUnmask .function) s).hl.cfg.funcMask = false := by
  refine ⟨hlOn fun h => { h with cfg := { h.cfg with funcMask := true } }, ?_⟩; decide +kernel

theorem test_msix_gap_end : ∃ s, Awake s ∧ (s.hl.vecs[7]).held = true ∧ vecGap s 7 = false ∧ vecOpen s 7 = true ∧ hostUp s = true ∧
    (after (.msixGapEnd 7) s).out = [.msix 7 64 9] := by
  refine ⟨upBy (nsUp 5000) (hlOn fun h => { h with
    vecs := h.vecs.set 7 ⟨5, false, true, some 0⟩
    cfg := { h.cfg with msix := List.replicate 256 ⟨64, 9, false⟩ } }), ?_⟩; decide

/-- Tower memory with a byte at cell 3. -/
def mem3 : State := { on with tw := { on.tw with cells := [(3, 9)] } }

theorem test_bar4_read : Awake mem3 ∧ Memory.wf mem3.tw.cells = true ∧ cellOf mem3 3 = some 3 ∧ isPoisoned mem3 3 = false ∧
    (after (.bar4Read 3 1 []) mem3).out = [.readData [9] false] ∧ (after (.bar4Read (2 ^ 28) 1 []) mem3).out = [.unsupported] ∧
    (after (.bar4Read 0 128 [(0, .corrected)]) mem3).tw.cells = mem3.tw.cells := by decide

theorem test_bar4_write : Awake mem3 ∧ cellOf mem3 62 = some 62 ∧
    (after (.bar4Write 62 [some 1, some 2] false []) mem3).tw.cells = [(3, 9), (62, 1), (63, 2)] ∧
    (after (.bar4Write 3 [some 0, none] false []) mem3).tw.cells = [] ∧
    (after (.bar4Write (2 ^ 28 - 1) [some 1, some 2] false []) mem3).tw.cells = [(3, 9)] := by decide

theorem test_bar4_write_clears : ∃ s, isPoisoned s 0 = true ∧ (List.replicate 64 (5 : Byte)).length = 64 ∧
    isPoisoned (after (.bar4Write 0 (List.replicate 64 (some 5)) false []) s) 0 = false := by
  refine ⟨{ on with tw := { on.tw with poison := [0] } }, ?_⟩; decide

theorem test_cxl_read : mem3.hl.link.mem = true ∧ cellOf mem3 0 = some 0 ∧
    (after (.cxlMemRead 0 .none) mem3).out = [.readData ([0, 0, 0, 9] ++ zeros 60) false] := by decide

/-- A line of the shared window goes to the host's caches (06 R125). -/
theorem test_cxl_read_window : ∃ s, s.hl.link.mem = true ∧ inWindow s 64 = true ∧ cellOf s 64 = some 64 ∧
    (after (.cxlMemRead 64 .none) s).hl.held = [1] := by
  refine ⟨hlOn fun h => { h with cohMode := 2, winUnits := 1, winBase := 0 }, ?_⟩; decide

theorem test_cxl_write : mem3.hl.link.mem = true ∧ cellOf mem3 64 = some 64 ∧
    (after (.cxlMemWrite 64 (List.replicate 64 (some 1)) false .none) mem3).out = [.writeDone] ∧
    memGet (after (.cxlMemWrite 64 (List.replicate 64 (some 1)) false .none) mem3).tw.cells 127 = 1 ∧
    memGet (after (.cxlMemWrite 64 (List.replicate 64 (some 1)) false .none) mem3).tw.cells 3 = 9 := by decide

/-- A read access, number 4, of context 5. -/
def acc4 (stage : AccStage) : Access :=
  ⟨.prefetch 0, .dma 0 0, 0, 5, 0x10000, 4, .read, [], 0, false, false, false, noDeadline, stage, 0⟩

def accOn (s : State) (a : Access) : State := { s with acc := [(4, a)], nextAcc := 5 }

def hostAcc : State := accOn (hlOn fun h => { h with
  reads := [(2, ⟨.access 4, 0x9000, 4, none, true, 100⟩)], nextTag := 3 }) (acc4 (.host 2))

theorem test_host_read : tget hostAcc.hl.reads 2 = some ⟨.access 4, 0x9000, 4, none, true, 100⟩ ∧ hostAcc.hl.link.speed ≠ 0 ∧
    Owned hostAcc 4 (acc4 (.host 2)) ∧
    (accOf (after (.hostReadCompletion 2 (some [1, 2, 3, 4])) hostAcc) 4).any
      (fun b => b.stage == .done && b.data == [1, 2, 3, 4]) = true := by decide

theorem test_host_timeout : (accOf (after (.completionTimeout 2) (upBy 100 hostAcc)) 4).any (fun b => b.stage == .failed .memory) = true ∧
    tget (after (.completionTimeout 2) (upBy 100 hostAcc)).hl.reads 2 = none ∧ Owned (upBy 100 hostAcc) 4 (acc4 (.host 2)) := by decide

theorem test_host_indirect : ∃ s w, tget s.hl.reads 0 = some ⟨.indirect 0 0, 0x1000, 112, none, true, nsUp 10000000⟩ ∧ mpServes s = true ∧
    opRow 0x0501 = some w ∧ lenFits w.len 112 (leBytes 4 0 ++ leBytes 4 96 ++ zeros 104) = true ∧
    ((chan (after (.hostReadCompletion 0 (some (leBytes 4 0 ++ leBytes 4 96 ++ zeros 104))) s) 0).cmd.any fun q => q.ready) = true := by
  refine ⟨after (.mbxAck 0) (rung indirect), ⟨0x0501, 50000, false, false, .counted 16 1 [(4, 4)]⟩, ?_⟩; decide

/-- The first 64 bytes of two pieces; and 112 bytes whose counts ask for more. -/
theorem test_host_indirect_piece : ∃ s, tget s.hl.reads 0 = some ⟨.indirect 0 0, 0x1000, 112, none, true, nsUp 10000000⟩ ∧
    ((chan s 0).cmd.any fun k => k.f 8 4 = 224 && !k.ready) = true ∧
    ((chan (after (.hostReadCompletion 0 (some (zeros 112))) s) 0).cmd.map fun q => (q.ready, q.pieces.map fun x => x.1)) =
      some (false, [0]) := by
  refine ⟨withCmd { (after (.mbxAck 0) (rung indirect)) with mbx := on.mbx }
    { held 0x0501 (layout 16 [(0, 8, 0x1000), (8, 4, 224)]) with ready := false }, ?_⟩; decide

theorem test_host_indirect_len : ∃ w, opRow 0x0501 = some w ∧
    lenFits w.len 112 (leBytes 4 0 ++ leBytes 4 97 ++ zeros 104) = false ∧
    leNat (memRead (chan (after (.hostReadCompletion 0 (some (leBytes 4 0 ++ leBytes 4 97 ++ zeros 104)))
      (after (.mbxAck 0) (rung indirect))) 0).resp 8 2) = 3 := by
  refine ⟨⟨0x0501, 50000, false, false, .counted 16 1 [(4, 4)]⟩, ?_⟩; decide

/-- A write by CXL.cache ends with GO (06 R130). -/
theorem test_host_go : ∃ s, tget s.hl.reads 2 = some ⟨.go 4, 0x9000, 64, none, true, 100⟩ ∧ s.hl.link.speed ≠ 0 ∧
    s.tb.up < 100 ∧ Owned s 4 (acc4 (.host 2)) ∧
    (accOf (after (.hostReadCompletion 2 (some [])) s) 4).any (fun b => b.stage == .done) = true := by
  refine ⟨accOn (hlOn fun h => { h with reads := [(2, ⟨.go 4, 0x9000, 64, none, true, 100⟩)], nextTag := 3 }) (acc4 (.host 2)), ?_⟩
  decide

def atsOn (f : HostLink → HostLink) : State := hlOn fun h => f { h with
  cfg := { h.cfg with atsEn := true }, ats := [(2, ⟨.post, true, 0x9000, none, 50⟩)], nextTag := 3 }

theorem test_ats_timeout : tget (atsOn id).hl.reads 2 = none ∧ (2 : Nat) < (atsOn id).hl.nextTag ∧
    tget (after (.completionTimeout 2) (upBy 50 (atsOn id))).hl.ats 2 = none := by decide

theorem test_ats_completion : (after (.atsTranslationCompletion 2 ⟨true, false, 0xA000, 4096⟩) (atsOn id)).hl.atc
      = [⟨none, 0x9000, 4096, 0xA000, true, false⟩] ∧
    (after (.atsTranslationCompletion 2 ⟨false, false, 0, 4096⟩) (atsOn id)).hl.intStatus.getLsbD 3 = true := by decide

theorem test_ats_invalidation : ∃ s, Awake s ∧ s.hl.invals.length < 32 ∧ s.hl.reads = [] ∧
    (after (.atsInvalidation 0x9000 4096 none) s).hl.atc = [] ∧ (after (.atsInvalidation 0x9000 4096 none) s).out = [.atsInvalDone] := by
  refine ⟨atsOn fun h => { h with atc := [⟨none, 0x9000, 4096, 0xA000, true, false⟩] }, ?_⟩; decide

/-! ### 06, 07: coherence, contexts, translation -/

theorem test_coherence_1 : HasCmd (st 0x0301 (leBytes 16 1)) 0 0x0301 (held 0x0301 (leBytes 16 1)) ∧
    OthersIdle (st 0x0301 (leBytes 16 1)) 0 ∧ Reserved (held 0x0301 (leBytes 16 1)) [1, 2, 3] ∧ on.sch.queues = [] ∧
    (after (.opCoherenceMode 0) (st 0x0301 (leBytes 16 1))).hl.cohMode = 1 := by decide

def coh2 : Bytes := layout 16 [(0, 1, 2), (4, 4, 256), (8, 8, 0)]

theorem test_coherence_2 : ∃ s, HasCmd s 0 0x0301 (held 0x0301 coh2) ∧ sharedOk s.hl.link = true ∧
    0 + 256 * 2 ^ 28 ≤ Config.towerGib * 8 * gib ∧ (after (.opCoherenceMode 0) s).hl.winUnits = 256 ∧
    Inv (after (.opCoherenceMode 0) s) := by
  refine ⟨st 0x0301 coh2, ?_⟩; decide

theorem test_ctx_create : HasCmd (st 0x0302 [63, 2, 0, 0, 0, 0, 0, 0]) 0 0x0302 (held 0x0302 [63, 2, 0, 0, 0, 0, 0, 0]) ∧
    MayName on 0 63 ∧ ctxOf on 63 = none ∧
    ctxOf (after (.opCtxCreate 0) (st 0x0302 [63, 2, 0, 0, 0, 0, 0, 0])) 63 = some ⟨none, true, false⟩ := by decide

/-- A page of context 5 at the base of the FULL partition. -/
def page (w0 : Nat) : MapEnt := mapEnt 5 0x10000 w0 (2 ^ 30)
def w0Full : Nat := 7 + 2 * 2 ^ 8

def ctx5 : State := { on with xl := { on.xl with
  ctxs := [(5, ⟨none, false, false⟩)], maps := [page w0Full], l2 := on.xl.l2.set 0 [⟨page w0Full, true⟩] } }

theorem test_ctx_destroy : HasCmd (cmd ctx5 0x0303 [5, 0, 0, 0]) 0 0x0303 (held 0x0303 [5, 0, 0, 0]) ∧ ctxInUse ctx5 5 = false ∧
    outstanding ctx5 5 0 (2 ^ 64) ctx5.nextAcc = false ∧
    (after (.opCtxDestroy 0) (cmd ctx5 0x0303 [5, 0, 0, 0])).xl.maps = [] ∧
    ctxOf (after (.opCtxDestroy 0) (cmd ctx5 0x0303 [5, 0, 0, 0])) 5 = none := by decide

def mapReq : Bytes := layout 40 [(0, 1, 5), (8, 8, 0x20000), (16, 8, 0x2000), (24, 8, w0Full), (32, 8, 2 ^ 30 + 0x1000)]

theorem test_map : HasCmd (cmd ctx5 0x0304 mapReq) 0 0x0304 (held 0x0304 mapReq) ∧
    firstFail (chan (cmd ctx5 0x0304 mapReq) 0) (mapChk (cmd ctx5 0x0304 mapReq) (held 0x0304 mapReq)) = none ∧
    (after (.opMap 0) (cmd ctx5 0x0304 mapReq)).xl.maps =
      [page w0Full, mapEnt 5 0x20000 w0Full (2 ^ 30 + 0x1000), mapEnt 5 0x21000 w0Full (2 ^ 30 + 0x2000)] := by decide

def rangeReq (b1 n : Nat) : Bytes := layout n [(0, 1, 5), (1, 1, b1), (8, 8, 0x10000), (16, 8, 0x1000)]

theorem test_unmap : HasCmd (cmd ctx5 0x0305 (rangeReq 0 24)) 0 0x0305 (held 0x0305 (rangeReq 0 24)) ∧
    RangeOk (held 0x0305 (rangeReq 0 24)) ∧ CtxOk ctx5 0 5 ∧ (entriesOf ctx5 5 0x10000 0x1000).length ≤ 16384 ∧
    (entriesOf ctx5 5 0x10000 0x1000).any (splits 0x10000 0x1000) = false ∧ migrating ctx5 5 0x10000 0x1000 = false ∧
    outstanding ctx5 5 0x10000 0x1000 ctx5.nextAcc = false ∧
    (after (.opUnmap 0) (cmd ctx5 0x0305 (rangeReq 0 24))).xl.maps = [] := by decide

theorem test_tlb_inval : HasCmd (cmd ctx5 0x0306 (rangeReq 0 24)) 0 0x0306 (held 0x0306 (rangeReq 0 24)) ∧
    (after (.opTlbInval 0) (cmd ctx5 0x0306 (rangeReq 0 24))).xl.l2[0] = [] ∧
    (after (.opTlbInval 0) (cmd ctx5 0x0306 (rangeReq 1 24))).xl.l2[0] = [] ∧
    (after (.opTlbInval 0) (cmd ctx5 0x0306 (rangeReq 0 24))).xl.maps = [page w0Full] := by decide +kernel

theorem test_advise : HasCmd (cmd ctx5 0x0309 (rangeReq 3 24)) 0 0x0309 (held 0x0309 (rangeReq 3 24)) ∧
    (after (.opAdvise 0) (cmd ctx5 0x0309 (rangeReq 3 24))).xl.advice = [⟨5, 0x10000, 0x1000, 3⟩] ∧
    ((after (.opAdvise 0) (cmd ctx5 0x0309 (rangeReq 0 24))).xl.l2[0]).any (fun e => e.pinned) = false := by decide +kernel

def sync5 : State := { ctx5 with sch := { ctx5.sch with sync := [(9, ⟨5, false, 100⟩)] } }

def prefetchReq : Bytes := layout 40 [(0, 1, 5), (1, 1, 1), (2, 1, 1), (4, 2, 9), (8, 8, 0x10000), (16, 8, 0x1000), (24, 8, 7)]

theorem test_prefetch : HasCmd (cmd sync5 0x0307 prefetchReq) 0 0x0307 (held 0x0307 prefetchReq) ∧ syncOf sync5 9 = some ⟨5, false, 100⟩ ∧
    Reserved (held 0x0307 prefetchReq) ([3, 6, 7] ++ span 32 40) ∧
    resp (after (.opPrefetch 0) (cmd sync5 0x0307 prefetchReq)) 0 4 = 1 ∧
    ((tget (after (.opPrefetch 0) (cmd sync5 0x0307 prefetchReq)).xl.prefetches 0).any fun p => p.sync = 9 && p.sig = 7) = true := by
  decide

theorem test_prefetch_done : ∃ s p, tget s.xl.prefetches 0 = some p ∧ allEnded (accsOf s (isPrefetch 0)) = true ∧
    syncOf (after (.prefetchDone 0) s) 9 = some ⟨5, false, 107⟩ := by
  refine ⟨{ sync5 with xl := { sync5.xl with prefetches := [(0, ⟨5, 0, 0, 1, 1, 9, 7, []⟩)] } }, ⟨5, 0, 0, 1, 1, 9, 7, []⟩, ?_⟩
  decide

def migReq : Bytes := layout 48 [(0, 1, 5), (1, 1, 0), (2, 1, 2), (4, 2, 9), (8, 8, 0x10000), (16, 8, 0x1000),
  (24, 8, 2 ^ 30 + 0x100000), (32, 8, 7)]

theorem test_migrate : HasCmd (cmd sync5 0x0308 migReq) 0 0x0308 (held 0x0308 migReq) ∧
    firstFail (chan (cmd sync5 0x0308 migReq) 0) (migrateChk (cmd sync5 0x0308 migReq) (held 0x0308 migReq)) = none ∧
    ((tget (after (.opMigrate 0) (cmd sync5 0x0308 migReq)).xl.migrations 0).any fun m => m.pages == [page w0Full] && m.phase == 0)
      = true := by decide

def mig (phase : Nat) : Migration := ⟨5, 0x10000, 0x1000, false, 2, 9, 7, 2 ^ 30 + 0x100000, [], [page w0Full], phase, 0⟩

theorem test_migrate_end : ∃ s, tget s.xl.migrations 0 = some (mig 4) ∧ findMap s 5 0x10000 = some (page w0Full) ∧
    outstanding s 5 0x10000 4096 0 = false ∧ (page w0Full).size = 4096 ∧ tget (after (.migratePage 0) s).xl.migrations 0 = none ∧
    syncOf (after (.migratePage 0) s) 9 = some ⟨5, false, 107⟩ := by
  refine ⟨{ sync5 with xl := { sync5.xl with migrations := [(0, mig 4)] } }, ?_⟩; decide

theorem test_migrate_switch : ∃ s, tget s.xl.migrations 0 = some (mig 3) ∧
    (accsOf s (isMigrate 0)).all (fun a => a.2.stage == .done) = true ∧
    (after (.migratePage 0) s).xl.maps = [mapEnt 5 0x10000 w0Full (2 ^ 30 + 0x100000)] := by
  refine ⟨{ sync5 with xl := { sync5.xl with migrations := [(0, mig 3)] } }, ?_⟩; decide

theorem test_unmap_abandon : ∃ s k a, (chan s 0).cmd = some k ∧ k.begun = true ∧ k.opcode.toNat = 0x0305 ∧
    k.ackAt + msUp 4 ≤ s.tb.up ∧ (4, a) ∈ s.acc ∧ 4 < k.progress ∧ a.ctx = k.f 0 1 ∧
    meets a.dva a.len (k.f 8 8) (k.f 16 8) = true ∧ a.stage = .host 2 ∧
    tget (after (.unmapHostAbandon 0) s).hl.reads 2 = none := by
  refine ⟨upBy (nsUp 4000000) (withCmd hostAcc { held 0x0305 (rangeReq 0 24) with begun := true, progress := 5 }), _, acc4 (.host 2),
    rfl, ?_⟩
  decide

/-! ### 07, 08: accesses and memory -/

theorem test_walk_fault : ∃ s, Owned s 4 (acc4 .walk) ∧ walkTurn s 4 (acc4 .walk) = true ∧ findMap s 5 0x10000 = none ∧
    (accOf (after (.translationWalkDone 4) s) 4).any (fun b => b.stage == .failed (.xlate 2)) = true := by
  refine ⟨accOn on (acc4 .walk), ?_⟩; decide

theorem test_walk_tower : ∃ s, Owned s 4 (acc4 .walk) ∧ findMap s 5 0x10000 = some (page w0Full) ∧ walkPoisoned s 5 0x10000 = false ∧
    xlate (tlbUse s (.dma 0 0) 0 (page w0Full)) (acc4 .walk) = .go (page w0Full) ∧ (page w0Full).tier = 0 ∧
    (accOf (after (.translationWalkDone 4) s) 4).any (fun b => b.stage == .tower (2 ^ 30)) = true := by
  refine ⟨accOn ctx5 (acc4 .walk), ?_⟩; decide

theorem test_line_read : ∃ s, Owned s 4 (acc4 (.tower 1)) ∧ cellOf s 1 = some 1 ∧
    (accOf (after (.towerLineAccess 4 .none) s) 4).any (fun b => b.stage == .done && b.data == [0, 0, 9, 0]) = true := by
  refine ⟨accOn mem3 (acc4 (.tower 1)), ?_⟩; decide

def write4 : Access := { acc4 (.tower 3) with kind := .write, data := [1, 2] }

/-- A line of the window that the host holds is snooped, and the access waits (06 R125). -/
theorem test_line_snoop : ∃ s, Owned s 4 (acc4 (.tower 1)) ∧ hostHolds s 1 = true ∧
    (after (.towerLineAccess 4 .none) s).out = [.backInval 0] ∧ hostHolds (after (.towerLineAccess 4 .none) s) 1 = false ∧
    accOf (after (.towerLineAccess 4 .none) s) 4 = some (acc4 (.tower 1)) := by
  refine ⟨accOn (hlOn fun h => { h with cohMode := 2, winUnits := 1, winBase := 0, held := [0] }) (acc4 (.tower 1)), ?_⟩; decide

/-- A sector of the row cache of octant 0 serves bytes 2 to 5 of its line (08 R180). -/
theorem test_line_cached : ∃ s, Owned s 4 (acc4 (.rowCache (2 ^ 42 + 2))) ∧
    rcHas s 0 (2 ^ 42 + 2) = some ⟨2 ^ 36, 0, [1, 2, 3, 4, 5, 6, 7]⟩ ∧
    (accOf (after (.towerLineAccess 4 .none) s) 4).any (fun b => b.stage == .done && b.data == [3, 4, 5, 6]) = true := by
  refine ⟨accOn { on with tw := { on.tw with rcs := on.tw.rcs.set 0 [⟨2 ^ 36, 0, [1, 2, 3, 4, 5, 6, 7]⟩] } }
    (acc4 (.rowCache (2 ^ 42 + 2))), ?_⟩; decide

theorem test_line_write : ∃ s, Owned s 4 write4 ∧ cellOf s 3 = some 3 ∧ isPoisoned s 3 = false ∧ Memory.wf s.tw.cells = true ∧
    (after (.towerLineAccess 4 .none) s).tw.cells = [(3, 1), (4, 2)] := by
  refine ⟨accOn mem3 write4, ?_⟩; decide

theorem test_line_write_poisoned : ∃ s, Owned s 4 write4 ∧ isPoisoned s 3 = true ∧ write4.data.length ≠ 64 ∧
    (after (.towerLineAccess 4 .none) s).tw.cells = s.tw.cells ∧
    (accOf (after (.towerLineAccess 4 .none) s) 4).any (fun b => b.stage == .failed .memory) = true := by
  refine ⟨accOn { mem3 with tw := { mem3.tw with poison := [0] } } write4, ?_⟩; decide

def deepOn (s : State) : State := { s with tw := { s.tw with ports := s.tw.ports.set 1 ⟨true, true, true, 4, 1, 0, 0, 0⟩ } }

theorem test_deep_response : ∃ s a, AccDistinct s ∧ Owned s 4 a ∧ portUp s 1 = true ∧ a.stage = .deep (2 ^ 42 + 66) true 9 ∧
    deepPort s (2 ^ 42 + 66) = some (1, 66) ∧ a.kind = .read ∧
    (accOf (after (.deepPortResponse 1 4 (.data ([1, 2, 3, 4, 5, 6] ++ zeros 58))) s) 4).any
      (fun b => b.stage == .done && b.data == [3, 4, 5, 6]) = true := by
  refine ⟨accOn (deepOn on) (acc4 (.deep (2 ^ 42 + 66) true 9)), acc4 (.deep (2 ^ 42 + 66) true 9), ?_⟩; decide

theorem test_deep_timeout : ∃ s a, portUp s 1 = true ∧ Owned s 4 a ∧ a.stage = .deep (2 ^ 42 + 66) true 9 ∧ 9 ≤ s.tb.up ∧
    (after (.deepRequestTimeout 1 4) s).tw.deepTimeout[1] = 1 := by
  refine ⟨upBy 9 (accOn (deepOn on) (acc4 (.deep (2 ^ 42 + 66) true 9))), acc4 (.deep (2 ^ 42 + 66) true 9), ?_⟩; decide

theorem test_deep_down : (dport (deepOn on) 1).up = true ∧ (dport (after (.deepPortLinkDown 1) (deepOn on)) 1).up = false ∧
    (dport (after (.deepPortLinkReturn 1) (after (.deepPortLinkDown 1) (deepOn on))) 1).up = true ∧
    domainOn (after (.deepPortLinkDown 1) (deepOn on)) 3 = true := by decide

theorem test_scrub : domainOn on (6 + 7) = true ∧ on.tw.scrubDone[7] = false ∧ on.tw.retPages = [] ∧
    on.tw.scrubPos[7] + 1 < towerLines ∧ (after (.patrolScrub 7 .corrected) on).tw.scrubPos[7] = 1 := by decide

theorem test_tower_temp : (after (.towerTemperatureChange 7 1360) on).tw.refresh2[7] = true ∧
    (after (.towerTemperatureChange 7 1520) on).tw.limited[7] = true ∧
    (after (.towerTemperatureChange 7 1487) (after (.towerTemperatureChange 7 1520) on)).tw.limited[7] = false ∧
    (after (.towerTemperatureChange 7 1488) (after (.towerTemperatureChange 7 1520) on)).tw.limited[7] = true := by decide

def rcReq : Bytes := layout 16 [(0, 2, 247), (2, 2, 0), (4, 1, 1)]

theorem test_rowcache : HasCmd (st 0x030B rcReq) 0 0x030B (held 0x030B rcReq) ∧
    firstFail (chan (st 0x030B rcReq) 0) (rowcacheChk (st 0x030B rcReq) (held 0x030B rcReq)) = none ∧
    (after (.opRowcacheConfig 0) (st 0x030B rcReq)).tw.rc[0] = 1 ∧
    (after (.opRowcacheConfig 0) (st 0x030B rcReq)).tw.fullG = 247 := by decide

def noPort : DeepPortFound := ⟨[], [], 0, 0, false, false⟩

theorem test_deep_config : HasCmd (st 0x030D [5, 0, 0, 0]) 0 0x030D (held 0x030D [5, 0, 0, 0]) ∧ tierMapped on 1 = false ∧
    (after (.opDeepPortConfig 0 (List.replicate 4 noPort)) (st 0x030D [5, 0, 0, 0])).tw.ports[2].enabled = true ∧
    (after (.opDeepPortConfig 0 (List.replicate 4 noPort)) (st 0x030D [5, 0, 0, 0])).tw.ports[1].enabled = false := by decide

def fillReq : Bytes := layout 32 [(8, 8, 2 ^ 30), (16, 8, 64), (24, 8, 0x0807060504030201)]

theorem test_fill : HasCmd (st 0x030A fillReq) 0 0x030A (held 0x030A fillReq) ∧
    firstFail (chan (st 0x030A fillReq) 0) (fillChk (st 0x030A fillReq) (held 0x030A fillReq)) = none ∧
    (cellOf on (2 ^ 30)).any (fun c => memRead (after (.opFill 0 1) (st 0x030A fillReq)).tw.cells c 10
      == [1, 2, 3, 4, 5, 6, 7, 8, 1, 2]) = true ∧ status (after (.opFill 0 1) (st 0x030A fillReq)) = some 0 ∧
    ((chan (after (.opFill 0 0) (st 0x030A fillReq)) 0).cmd.any fun q => q.begun && q.progress = 0) = true := by decide

/-- An OP_FILL of deep memory whose writes have ended, and one whose third line failed (08 R188). -/
def filled2 (bad : AccStage) (j : Nat) : State := withCmd { on with
    acc := [(4, ⟨.fill 0, .dma 0 0, 0, 5, 0, 64, .write, zeros 64, j, false, false, false, noDeadline, bad, 0⟩)], nextAcc := 5 }
  { held 0x030A (layout 32 [(0, 1, 1), (8, 8, 2 ^ 42), (16, 8, 192)]) with begun := true, progress := 3 }

theorem test_fill_deep_end : allEnded (accsOf (filled2 .done 0) (isFill 0)) = true ∧ fillBad (accsOf (filled2 .done 0) (isFill 0)) = none ∧
    resp (after (.opFill 0 9) (filled2 .done 0)) 0 8 = 192 ∧ status (after (.opFill 0 9) (filled2 .done 0)) = some 0 ∧
    fillBad (accsOf (filled2 (.failed .memory) 2) (isFill 0)) = some 2 ∧
    resp (after (.opFill 0 9) (filled2 (.failed .memory) 2)) 0 8 = 128 ∧
    status (after (.opFill 0 9) (filled2 (.failed .memory) 2)) = some 13 := by decide

def retireReq (deep a : Nat) : Bytes := layout 16 [(0, 1, deep), (8, 8, a)]

theorem test_page_retire : HasCmd (st 0x030C (retireReq 0 0x1000)) 0 0x030C (held 0x030C (retireReq 0 0x1000)) ∧
    firstFail (chan (st 0x030C (retireReq 0 0x1000)) 0) (retireChk on (held 0x030C (retireReq 0 0x1000))) = none ∧
    pageListed on false 0x1000 = false ∧ resp (after (.opPageRetire 0) (st 0x030C (retireReq 0 0x1000))) 0 4 = 1 ∧
    resp (after (.opPageRetire 0) (cmd (after (.opPageRetire 0) (st 0x030C (retireReq 0 0x1000))) 0x030C (retireReq 0 0x1000))) 0 4 = 1 := by
  decide

theorem test_page_retire_deep : deepPort (deepOn on) (2 ^ 42 + 0x3000) = some (1, 0x3000) ∧
    (after (.opPageRetire 0) (cmd (deepOn on) 0x030C (retireReq 1 (2 ^ 42 + 0x3000)))).tw.retDeep = [(1, 0x3000)] := by decide

/-! ### 09: cores and banks -/

def coreOn (s : State) (n : Fin 32) (f : Core → Core) : State := { s with cores := s.cores.set n (f s.cores[n]) }

theorem test_core_fence : Awake on ∧ mpServes on = true ∧ (coreOf on 3).fenced = false ∧
    (coreOf (after (.coreFence 3 .internal) on) 3).cause = 3 ∧ (bankOf (after (.coreFence 3 .internal) on) 3 33).ownerB = 2 ∧
    (after (.coreFence 3 .internal) on).mbx.log.length = 1 ∧
    (coreOf (after (.coreFence 3 .internal) (after (.coreFence 3 (.spadParity 0 0 true)) on)) 3).cause = 2 := by decide +kernel

def bridled1 : State := { on with bridled := on.bridled.set 1 true }

theorem test_core_fence_pair : isBridled bridled1 3 = true ∧ (2 : Nat) / 2 = 3 / 2 ∧
    (coreOf (after (.coreFence 3 .internal) bridled1) 2).cause = 4 ∧
    (coreOf (after (.coreFence 3 .internal) bridled1) 2).fenced = true := by decide +kernel

theorem test_core_fence_parity : (coreOf on 3).capValid = false ∧ (16383 : Nat) < 16384 ∧
    (coreOf (after (.coreFence 3 (.spadParity 33 16383 true)) on) 3).capWord = 16383 ∧
    (coreOf (after (.coreFence 3 (.spadParity 33 16383 true)) on) 3).capPortB = true ∧
    (coreOf (after (.coreFence 3 (.spadParity 31 196607 false)) on) 3).capWord = 196607 := by decide +kernel

theorem test_op_core_fence : HasCmd (st 0x0403 [31, 0, 0, 0]) 0 0x0403 (held 0x0403 [31, 0, 0, 0]) ∧
    Reserved (held 0x0403 [31, 0, 0, 0]) [1, 2, 3] ∧
    resp (after (.opCoreFence 0) (st 0x0403 [31, 0, 0, 0])) 0 4 = 0x80000000 ∧
    (coreOf (after (.opCoreFence 0) (st 0x0403 [31, 0, 0, 0])) 31).cause = 1 := by decide +kernel

def bankOn (b : Bank) : State := coreOn on 3 fun c => { c with banks := c.banks.set 5 b }

theorem test_handover : ∃ s, (bankOf s 3 5).pend = some 0x12 ∧ (bankOf s 3 5).reclaim = false ∧ handoverWaits s 3 5 = false ∧
    bankOf (after (.handoverComplete 3 5) s) 3 5 = ⟨0x12, 0, none, false, none, 0⟩ := by
  refine ⟨bankOn ⟨1, 0, some 0x12, false, some (3, 0), 0⟩, ?_⟩; decide

theorem test_reclaim : ∃ s, (bankOf s 3 5).pend = some 0x01 ∧ (bankOf s 3 5).reclaim = true ∧ reclaimFree s 3 5 = true ∧
    bankOf (after (.reclaimComplete 3 5) s) 3 5 = ⟨0x01, 0, none, false, none, 0⟩ := by
  refine ⟨bankOn ⟨0x12, 0, some 0x01, true, some (3, 0), 0⟩, ?_⟩; decide

theorem test_bridle : HasCmd (st 0x0401 [15, 0, 0, 0]) 0 0x0401 (held 0x0401 [15, 0, 0, 0]) ∧ on.bridled[15] = false ∧
    coreIdle on 30 = true ∧ coreIdle on 31 = true ∧ domainOn on (14 + 15) = true ∧
    resp (after (.opCoreBridle 0) (st 0x0401 [15, 0, 0, 0])) 0 2 = 0x8000 := by decide +kernel

theorem test_unbridle : bridled1.bridled[1] = true ∧ coreIdle bridled1 2 = true ∧ coreIdle bridled1 3 = true ∧
    (after (.opCoreUnbridle 0) (cmd bridled1 0x0402 [1, 0, 0, 0])).bridled[1] = false ∧
    status (after (.opCoreUnbridle 0) (cmd bridled1 0x0402 [1, 0, 0, 0])) = some 0 := by decide +kernel

/-- A stage of slot 0 runs on core 3. -/
def staged (f : Core → Core) : State := coreOn on 3 fun c => f { c with stage := some ⟨0, 0, 0, 5, true⟩ }

theorem test_bridle_hold : coreIdle (staged id) 2 = true ∧ coreIdle (staged id) 3 = false ∧
    status (after (.opCoreBridle 0) (cmd (staged id) 0x0401 [1, 0, 0, 0])) = some 5 ∧
    (coreOf (after (.opCoreBridle 0) (cmd (staged id) 0x0401 [1, 1, 0, 0])) 2).held = true := by
  decide +kernel

theorem test_bridle_held : ∃ s, s.bridled[1] = false ∧ coreIdle s (2 * 1) = false ∧
    (coreOf (after (.opCoreBridle 0) (cmd s 0x0401 [1, 1, 0, 0])) 3).held = true ∧
    (coreOf (after (.opCoreBridle 0) (cmd (after (.opCoreBridle 0) (cmd s 0x0401 [1, 1, 0, 0])) 0x0401 [1, 2, 0, 0])) 3).held = false := by
  refine ⟨coreOn on 2 fun c => { c with stage := some ⟨0, 0, 0, 5, true⟩ }, ?_⟩; decide +kernel

theorem test_core_status : HasCmd (st 0x0404 [31, 0, 0, 0]) 0 0x0404 (held 0x0404 [31, 0, 0, 0]) ∧
    status (after (.opCoreStatus 0) (st 0x0404 [31, 0, 0, 0])) = some 0 ∧
    resp (after (.opCoreStatus 0) (st 0x0404 [31, 0, 0, 0])) 8 8 = arrayWidth (coreOf on 31) := by decide +kernel

/-! ### 10: sequencers -/

/-- G1 and G2 hold `a` and `b`. -/
def ab (a b : Dword) : Regs := { Regs.reset with g := (Regs.reset.g.set 1 a).set 2 b }

/-- Thread 1 of core 3 runs, the words `ws` at its PC 0. -/
def runs (ws : List Nat) (r : Regs) (f : Thread → Thread) : State := staged fun c => { c with
  istore := memWrite [] 0 (ws.flatMap (leBytes 4))
  threads := c.threads.set 1 (f { Thread.reset with state := .running, regs := r }) }

/-- The word of key `k` with RD 3, RA 1, RB 2, RC 4. -/
def word (k : Nat) : Nat := k / 64 * 2 ^ 26 + 3 * 2 ^ 21 + 1 * 2 ^ 16 + 2 * 2 ^ 11 + k % 64
/-- The same with IMM16 in place of RB and RC. -/
def wordI (k imm : Nat) : Nat := k / 64 * 2 ^ 26 + 3 * 2 ^ 21 + 1 * 2 ^ 16 + imm

/-- Each instruction stands, and its result is as worked out from R225. -/
def Results (l : List (Nat × Nat × Instr × Dword)) (r : Regs) : Prop :=
  ∀ x ∈ l, Stands (runs [x.2.1] r id) 3 1 x.1 x.2.1 r ∧
    (threadOf (after x.2.2.1 (runs [x.2.1] r id)) 3 1).regs = (r.put 3 x.2.2.2).at_ 4

theorem test_alu : Results
    [(0x00, word 0x00, .seqAdd 3 1, 1), (0x01, word 0x01, .seqSub 3 1, 0xFFFFFFFFFFFFFFFD), (0x02, word 0x02, .seqAnd 3 1, 2),
     (0x03, word 0x03, .seqOr 3 1, 0xFFFFFFFFFFFFFFFF), (0x04, word 0x04, .seqXor 3 1, 0xFFFFFFFFFFFFFFFD),
     (0x05, word 0x05, .seqSll 3 1, 0xFFFFFFFFFFFFFFFC), (0x06, word 0x06, .seqSrl 3 1, 0x3FFFFFFFFFFFFFFF),
     (0x07, word 0x07, .seqSra 3 1, 0xFFFFFFFFFFFFFFFF), (0x08, word 0x08, .seqSlt 3 1, 1), (0x09, word 0x09, .seqSltu 3 1, 0),
     (0x0A, word 0x0A, .seqMin 3 1, 0xFFFFFFFFFFFFFFFF), (0x0B, word 0x0B, .seqMax 3 1, 2),
     (0x0C, word 0x0C, .seqMinu 3 1, 2), (0x0D, word 0x0D, .seqMaxu 3 1, 0xFFFFFFFFFFFFFFFF)]
    (ab 0xFFFFFFFFFFFFFFFF 2) := by unfold Results; decide +kernel

theorem test_alu_imm : Results
    [(0x40, wordI 0x40 0xFFFF, .seqAddi 3 1, 0x7F), (0x80, wordI 0x80 0xFFFF, .seqAndi 3 1, 0x80),
     (0xC0, wordI 0xC0 0xFF00, .seqOri 3 1, 0xFF80), (0x100, wordI 0x100 0xFFFF, .seqXori 3 1, 0xFF7F),
     (0x140, wordI 0x140 63, .seqSlli 3 1, 0), (0x180, wordI 0x180 7, .seqSrli 3 1, 1), (0x1C0, wordI 0x1C0 7, .seqSrai 3 1, 1),
     (0x280, 0x280 / 64 * 2 ^ 26 + 3 * 2 ^ 21 + 0x8000, .seqLui 3 1, 0xFFFFFFFF80000000),
     (0x240, 0x240 / 64 * 2 ^ 26 + 3 * 2 ^ 21, .seqMfpl 3 1, 0), (0x241, 9 * 2 ^ 26 + 3 * 2 ^ 21 + 1, .seqMfph 3 1, 0),
     (0x242, 9 * 2 ^ 26 + 3 * 2 ^ 21 + 2, .seqMflk 3 1, 0)] (ab 0x80 0) := by unfold Results; decide +kernel

theorem test_g0 : (ab 5 6).put 0 9 = ab 5 6 ∧ (ab 5 6).get 0 = 0 := by decide

/-- −1 × −1 and its unsigned counterpart; PH and PL land four instructions on (R222, R223). -/
theorem test_mul : Stands (runs [8 * 2 ^ 26 + 1 * 2 ^ 16 + 2 * 2 ^ 11] (ab (-1) (-1)) id) 3 1 0x200 (8 * 2 ^ 26 + 1 * 2 ^ 16 + 2 * 2 ^ 11) (ab (-1) (-1)) ∧
    (threadOf (after (.seqMul 3 1) (runs [8 * 2 ^ 26 + 1 * 2 ^ 16 + 2 * 2 ^ 11] (ab (-1) (-1)) id)) 3 1).regs.prods = [⟨4, 0, 1⟩] ∧
    (threadOf (after (.seqMulu 3 1) (runs [8 * 2 ^ 26 + 1 * 2 ^ 16 + 2 * 2 ^ 11 + 1] (ab (-1) (-1)) id)) 3 1).regs.prods
      = [⟨4, 0xFFFFFFFFFFFFFFFE, 1⟩] := by decide +kernel

def withProd (n : Nat) : Regs := { ab 0 0 with num := n, prods := [⟨4, 8, 9⟩] }

theorem test_product_land : (threadOf (after (.productLand 3 1) (runs [] (withProd 4) id)) 3 1).regs.ph = 8 ∧
    (threadOf (after (.productLand 3 1) (runs [] (withProd 3) id)) 3 1).regs = withProd 3 := by decide +kernel

theorem test_mtlk : (threadOf (after (.seqMtlk 3 1) (runs [9 * 2 ^ 26 + 1 * 2 ^ 16 + 3] (ab 77 0) id)) 3 1).regs.lk = 77 ∧
    Stands (runs [9 * 2 ^ 26 + 1 * 2 ^ 16 + 3] (ab 77 0) id) 3 1 0x243 (9 * 2 ^ 26 + 1 * 2 ^ 16 + 3) (ab 77 0) := by decide +kernel

theorem test_rdtime : ∃ s, Stands s 3 1 0x247 (9 * 2 ^ 26 + 3 * 2 ^ 21 + 2 * 2 ^ 11 + 7) (ab 0 0) ∧
    (threadOf (after (.seqRdtime 3 1) s) 3 1).regs.get 3 = 6 ∧ (threadOf (after (.seqRdtime 3 1) s) 3 1).regs.get 2 = 0x8000 := by
  refine ⟨{ runs [9 * 2 ^ 26 + 3 * 2 ^ 21 + 2 * 2 ^ 11 + 7] (ab 0 0) id with tb := { on.tb with count := 6 * 2 ^ 32 + 2 ^ 31 } }, ?_⟩
  decide +kernel

/-- SPA 16 of core 3, bank 0, holds 1 to 8. -/
def spad8 (s : State) : State := coreOn s 3 fun c => { c with spad := memWrite [] 16 [1, 2, 3, 4, 5, 6, 7, 0x88] }

theorem test_loads : ∀ x ∈ [(0x400, Instr.seqLd 3 1, (0x8807060504030201 : Dword), 8), (0x440, .seqLw 3 1, 0x04030201, 4), (0x480, .seqLbu 3 1, 1, 1)],
    Stands (spad8 (runs [wordI x.1 0xFFFC] (ab 20 0) id)) 3 1 x.1 (wordI x.1 0xFFFC) (ab 20 0) ∧
    inSpad (spad8 (runs [wordI x.1 0xFFFC] (ab 20 0) id)) 3 16 x.2.2.2 = true ∧
    rangeSays (spad8 (runs [wordI x.1 0xFFFC] (ab 20 0) id)) 3 16 x.2.2.2 none = none ∧
    (threadOf (after x.2.1 (spad8 (runs [wordI x.1 0xFFFC] (ab 20 0) id))) 3 1).regs.get 3 = x.2.2.1 := by decide +kernel

/-- A load reads its own thread's held store (R227). -/
theorem test_load_held : ∃ s, Stands s 3 1 0x440 (wordI 0x440 0) (ab 16 0) ∧ (threadOf s 3 1).stores = [⟨Regs.reset, 16, [9, 0, 0, 0], 1⟩] ∧
    (threadOf (after (.seqLw 3 1) s) 3 1).regs.get 3 = 9 := by
  refine ⟨spad8 (runs [wordI 0x440 0] (ab 16 0) fun t => { t with stores := [⟨Regs.reset, 16, [9, 0, 0, 0], 1⟩] }), ?_⟩; decide +kernel

def kindOf (s : State) : Byte := (threadOf s 3 1).fault.kind

theorem test_load_faults : kindOf (after (.seqLd 3 1) (runs [wordI 0x400 4] (ab 0 0) id)) = 3 ∧
    kindOf (after (.seqLbu 3 1) (runs [wordI 0x480 0] (ab (-1) 0) id)) = 4 ∧
    kindOf (after (.seqSt 3 1) (runs [wordI 0x500 4] (ab 0 0) id)) = 3 ∧
    (threadOf (after (.seqLd 3 1) (runs [wordI 0x400 4] (ab 0 0) id)) 3 1).fault.addr = 4 := by decide +kernel

/-- Bank 0 belongs to table engine 2, and then is draining to it. -/
def bank0 (s : State) (b : Bank) : State := coreOn s 3 fun c => { c with banks := c.banks.set 0 b }

theorem test_load_owner : ∃ s h, (∃ a, rangeSays s 3 0 8 none = some (a, .notOwner)) ∧ kindOf (after (.seqLd 3 1) s) = 5 ∧
    (∃ a, rangeSays h 3 0 8 none = some (a, .held)) ∧ (threadOf (after (.seqLd 3 1) h) 3 1).regs.pc = 0 := by
  refine ⟨bank0 (runs [wordI 0x400 0] (ab 0 0) id) ⟨0x12, 0, none, false, none, 0⟩,
    bank0 (runs [wordI 0x400 0] (ab 0 0) id) ⟨0x12, 0, some 1, true, none, 0⟩, ⟨0, ?_⟩, ?_, ⟨0, ?_⟩, ?_⟩ <;> decide +kernel

theorem test_stores : ∀ x ∈ [(0x500, Instr.seqSt 3 1, 8), (0x540, .seqSw 3 1, 4), (0x580, .seqSb 3 1, 1)],
    spaAt (runs [wordI x.1 8] (ab 0 0) id) 3 8 = some (3, 8) ∧
    memRead (coreOf (after x.2.1 (runs [wordI x.1 8] { ab 0 0 with g := (ab 0 0).g.set 3 0xAAAAAAAAAAAAAAAA } id)) 3).spad 0 17
      = zeros 8 ++ List.replicate x.2.2 0xAA ++ zeros (9 - x.2.2) := by decide +kernel

/-- A branch not yet resolved. -/
def guess (p a : Nat) : Branch := ⟨0, p, a, ab 0 0⟩

theorem test_store_held : ∃ s, (threadOf s 3 1).branches ≠ [] ∧ Stands s 3 1 0x580 (wordI 0x580 8) (ab 0 0) ∧
    (threadOf (after (.seqSb 3 1) s) 3 1).stores = [⟨ab 0 0, 8, [0], 1⟩] ∧ (coreOf (after (.seqSb 3 1) s) 3).spad = [] := by
  refine ⟨runs [wordI 0x580 8] (ab 0 0) fun t => { t with branches := [guess 4 4] }, ?_⟩; decide +kernel

def pcAfter (i : Instr) (w : Nat) (r : Regs) : Nat := (threadOf (after i (runs [w] r id)) 3 1).regs.pc

/-- With SPEC_OFF a branch goes where its test says: RD is G3, which holds 7, and RA is G1. -/
theorem test_branches : specOff (runs [wordI 0x600 2] (ab 7 0) id) 3 = true ∧
    (let r := { ab 7 0 with g := (ab 7 0).g.set 3 7 }
     let q := { ab (-1) 0 with g := (ab (-1) 0).g.set 3 7 }
     Stands (runs [wordI 0x600 2] r id) 3 1 0x600 (wordI 0x600 2) r ∧
     pcAfter (.seqBeq 3 1) (wordI 0x600 2) r = 8 ∧ pcAfter (.seqBeq 3 1) (wordI 0x600 2) q = 4 ∧
     pcAfter (.seqBne 3 1) (wordI 0x640 2) r = 4 ∧ pcAfter (.seqBne 3 1) (wordI 0x640 2) q = 8 ∧
     pcAfter (.seqBlt 3 1) (wordI 0x680 2) q = 8 ∧ pcAfter (.seqBlt 3 1) (wordI 0x680 2) r = 4 ∧
     pcAfter (.seqBge 3 1) (wordI 0x6C0 2) q = 4 ∧ pcAfter (.seqBge 3 1) (wordI 0x6C0 2) r = 8 ∧
     pcAfter (.seqBltu 3 1) (wordI 0x700 2) q = 4 ∧ pcAfter (.seqBgeu 3 1) (wordI 0x740 2) q = 8) := by decide +kernel

theorem test_jumps : pcAfter (.seqJ 3 1) (0x1E * 2 ^ 26 + 5) (ab 0 0) = 20 ∧
    Stands (runs [0x1E * 2 ^ 26 + 5] (ab 0 0) id) 3 1 0x780 (0x1E * 2 ^ 26 + 5) (ab 0 0) ∧
    pcAfter (.seqCall 3 1) (0x1F * 2 ^ 26 + 5) (ab 0 0) = 20 ∧
    (threadOf (after (.seqCall 3 1) (runs [0x1F * 2 ^ 26 + 5] (ab 0 0) id)) 3 1).regs.lk = 4 ∧
    pcAfter (.seqJr 3 1) (9 * 2 ^ 26 + 1 * 2 ^ 16 + 4) (ab 0x3FFFC 0) = 0x3FFFC ∧
    pcAfter (.seqCallr 3 1) (9 * 2 ^ 26 + 1 * 2 ^ 16 + 5) (ab 0x100 0) = 0x100 ∧
    pcAfter (.seqRet 3 1) (9 * 2 ^ 26 + 6) { ab 0 0 with lk := 0x200 } = 0x200 := by decide +kernel

/-- Speculation on: whether the branch stays open rests on the free prediction. -/
theorem test_branch_spec : ∃ s, specOff s 3 = false ∧ Stands s 3 1 0x600 (wordI 0x600 2) (ab 0 0) := by
  refine ⟨coreOn (runs [wordI 0x600 2] (ab 0 0) id) 3 fun c => { c with stage := some ⟨0, 0, 0, 5, false⟩ }, ?_⟩; decide +kernel

theorem test_ret_spec : ∃ s, specOff s 3 = false ∧ Stands s 3 1 0x246 (9 * 2 ^ 26 + 6) { ab 0 0 with lk := 0x200 } := by
  refine ⟨coreOn (runs [9 * 2 ^ 26 + 6] { ab 0 0 with lk := 0x200 } id) 3 fun c => { c with stage := some ⟨0, 0, 0, 5, false⟩ }, ?_⟩
  decide +kernel

theorem test_mispredicted : ∃ s, (threadOf s 3 1).branches = [guess 8 4, guess 4 4] ∧ (guess 8 4).predicted ≠ (guess 8 4).actual ∧
    (threadOf (after (.branchResolve 3 1) s) 3 1).branches = [] ∧ (threadOf (after (.branchResolve 3 1) s) 3 1).stores = [] := by
  refine ⟨runs [] (ab 5 5) fun t => { t with branches := [guess 8 4, guess 4 4], stores := [⟨Regs.reset, 8, [7], 1⟩] }, ?_⟩
  decide +kernel

theorem test_predicted : ∃ s, (threadOf s 3 1).branches = [guess 8 8] ∧ (threadOf s 3 1).stores = [⟨Regs.reset, 8, [7], 1⟩] ∧
    (coreOf s 3).cops = [] ∧ rangeSays s 3 8 1 none = none ∧ spaAt s 3 8 = some (3, 8) ∧
    (coreOf (after (.branchResolve 3 1) s) 3).spad = [(8, 7)] ∧ (threadOf (after (.branchResolve 3 1) s) 3 1).stores = [] := by
  refine ⟨runs [] (ab 5 5) fun t => { t with branches := [guess 8 8], stores := [⟨Regs.reset, 8, [7], 1⟩] }, ?_⟩; decide +kernel

def cop (id unit : Nat) (d : Bytes) (ph : OpPhase) : CopOp := ⟨id, unit, 1, 1, 0, 0, d, 0, ph, 0, 0, 0, [], none, [], Regs.reset⟩

theorem test_squashed : ∃ s o, opOf s 3 6 = some o ∧ o.phase = .squashed ∧ readsBack s 3 6 = true ∧
    opOf (after (.squashedOperationBoundary 3 6) s) 3 6 = none ∧ (coreOf (after (.squashedOperationBoundary 3 6) s) 3).squashed = 1 := by
  refine ⟨coreOn on 3 fun c => { c with cops := [cop 6 2 (zeros 64) .squashed] }, cop 6 2 (zeros 64) .squashed, ?_⟩; decide +kernel

theorem test_spb_cdrain : pcAfter (.seqSpb 3 1) (9 * 2 ^ 26 + 10) (ab 0 0) = 4 ∧ pcAfter (.seqCdrain 3 1) (9 * 2 ^ 26 + 9) (ab 0 0) = 4 ∧
    Stands (runs [9 * 2 ^ 26 + 10] (ab 0 0) id) 3 1 0x24A (9 * 2 ^ 26 + 10) (ab 0 0) ∧
    Stands (runs [9 * 2 ^ 26 + 9] (ab 0 0) id) 3 1 0x249 (9 * 2 ^ 26 + 9) (ab 0 0) := by decide +kernel

theorem test_spb_waits : ∃ s, ¬ Confirmed s 3 1 ∧ Stands s 3 1 0x24A (9 * 2 ^ 26 + 10) (ab 0 0) ∧
    (threadOf (after (.seqSpb 3 1) s) 3 1).regs.pc = 0 := by
  refine ⟨runs [9 * 2 ^ 26 + 10] (ab 0 0) fun t => { t with branches := [guess 4 4] }, ?_⟩; decide +kernel

theorem test_cdrain_stalls : ∃ s, Confirmed s 3 1 ∧ opsOf s 3 1 ≠ [] ∧ (threadOf (after (.seqCdrain 3 1) s) 3 1).state = .stalled := by
  refine ⟨coreOn (runs [9 * 2 ^ 26 + 9] (ab 0 0) id) 3 fun c => { c with cops := [cop 6 2 (zeros 64) .queued] }, ?_⟩; decide +kernel

theorem test_halt : Stands (runs [9 * 2 ^ 26 + 11] (ab 0x12345 0) id) 3 1 0x24B (9 * 2 ^ 26 + 11) (ab 0x12345 0) ∧
    (threadOf (after (.seqHalt 3 1) (runs [9 * 2 ^ 26 + 11] (ab 0x12345 0) id)) 3 1).state = .halted ∧
    (threadOf (after (.seqHalt 3 1) (runs [9 * 2 ^ 26 + 11] (ab 0x12345 0) id)) 3 1).app = 0x2345 := by decide +kernel

theorem test_brk : kindOf (after (.seqBrk 3 1) (runs [9 * 2 ^ 26 + 12] (ab 0 0) id)) = 0x0C ∧
    Stands (runs [9 * 2 ^ 26 + 12] (ab 0 0) id) 3 1 0x24C (9 * 2 ^ 26 + 12) (ab 0 0) := by decide +kernel

theorem test_illegal : legalWord 0x0000000E = false ∧ kindOf (after (.seqAdd 3 1) (runs [0x0000000E] (ab 0 0) id)) = 1 ∧
    kindOf (after (.seqAdd 3 1) (runs [0] { ab 0 0 with pc := 2 } id)) = 2 := by decide +kernel

/-- Object 900 is homed on core 3 (R319) and belongs to context 5. -/
def obj (s : State) : State := { s with sch := { s.sch with sync := [(900, ⟨5, false, 100⟩)] } }

def r900 (v d : Dword) : Regs := { ab 900 v with g := (ab 900 v).g.set 4 d }
/-- OP 0x0C word: RD 3, RA 1 the object, RB 2 the value, RC 4 the deadline. -/
def wordS (fn : Nat) : Nat := 0x0C * 2 ^ 26 + 3 * 2 ^ 21 + 1 * 2 ^ 16 + 2 * 2 ^ 11 + 4 * 2 ^ 6 + fn

theorem test_sync_ops : stageCtx (obj (runs [] (r900 7 0) id)) 3 = 5 ∧
    (threadOf (after (.seqSrd 3 1) (obj (runs [9 * 2 ^ 26 + 3 * 2 ^ 21 + 1 * 2 ^ 16 + 8] (r900 7 0) id))) 3 1).regs.get 3 = 100 ∧
    Stands (obj (runs [9 * 2 ^ 26 + 3 * 2 ^ 21 + 1 * 2 ^ 16 + 8] (r900 7 0) id)) 3 1 0x248 (9 * 2 ^ 26 + 3 * 2 ^ 21 + 1 * 2 ^ 16 + 8) (r900 7 0) ∧
    syncOf (after (.seqSig 3 1) (obj (runs [0x0C * 2 ^ 26 + 1 * 2 ^ 16 + 2 * 2 ^ 11] (r900 7 0) id))) 900 = some ⟨5, false, 107⟩ ∧
    syncOf (after (.seqSset 3 1) (obj (runs [0x0C * 2 ^ 26 + 1 * 2 ^ 16 + 2 * 2 ^ 11 + 1] (r900 7 0) id))) 900 = some ⟨5, false, 7⟩ := by
  decide +kernel

theorem test_warm : (900 : Nat) / 256 = 3 ∧ Stands (obj (runs [wordS 2] (r900 101 9) id)) 3 1 0x302 (wordS 2) (r900 101 9) ∧
    (threadOf (after (.seqWarm 3 1) (obj (runs [wordS 2] (r900 101 9) id))) 3 1).waits = [⟨900, 101, 9, none⟩] ∧
    (threadOf (after (.seqWarm 3 1) (obj (runs [wordS 2] (r900 100 9) id))) 3 1).waits = [⟨900, 100, 9, some true⟩] ∧
    kindOf (after (.seqWarm 3 1) (obj (runs [wordS 2] (r900 100 9) fun t => { t with
      waits := List.replicate 16 ⟨900, 0, 0, none⟩ }))) = 9 := by decide +kernel

def blk (w : List Wait) : State := runs [0x0C * 2 ^ 26 + 3 * 2 ^ 21 + 3] (ab 0 0) fun t => { t with waits := w }

theorem test_wblk : Stands (blk [⟨1, 0, 0, some true⟩, ⟨2, 0, 0, some true⟩]) 3 1 0x303 (0x0C * 2 ^ 26 + 3 * 2 ^ 21 + 3) (ab 0 0) ∧
    (threadOf (after (.seqWblk 3 1) (blk [⟨1, 0, 0, some true⟩, ⟨2, 0, 0, some true⟩])) 3 1).regs.get 3 = 3 ∧
    (threadOf (after (.seqWblk 3 1) (blk [⟨1, 0, 0, some true⟩, ⟨2, 0, 0, some true⟩])) 3 1).waits = [] ∧
    (threadOf (after (.seqWblk 3 1) (blk [⟨1, 0, 0, none⟩])) 3 1).state = .waiting := by decide +kernel

theorem test_wait : Stands (obj (runs [wordS 4] (r900 100 9) id)) 3 1 0x304 (wordS 4) (r900 100 9) ∧
    (threadOf (after (.seqWait 3 1) (obj (runs [wordS 4] (r900 100 9) id))) 3 1).regs.get 3 = 0 := by decide +kernel

def lateDt (s : State) : State := { s with tb := { s.tb with valid := true, count := 10 * 2 ^ 32 } }

theorem test_wait_late : late (lateDt on) 9 = true ∧ late (lateDt on) 10 = false ∧
    (threadOf (after (.seqWait 3 1) (lateDt (obj (runs [wordS 4] (r900 101 9) id)))) 3 1).regs.get 3 = 1 := by decide +kernel

theorem test_wait_timeout : ∃ s, (threadOf s 3 1).waits[1]? = some ⟨2, 0, 9, none⟩ ∧ late s 9 = true ∧
    (threadOf (after (.syncWaitTimeout 3 1 1) s) 3 1).waits = [⟨1, 0, 20, none⟩, ⟨2, 0, 9, some false⟩] := by
  refine ⟨lateDt (runs [] (ab 0 0) fun t => { t with waits := [⟨1, 0, 20, none⟩, ⟨2, 0, 9, none⟩] }), ?_⟩; decide +kernel

def crr (imm : Nat) : Nat := 0x28 * 2 ^ 26 + 3 * 2 ^ 21 + imm
def crw (imm : Nat) : Nat := 0x29 * 2 ^ 26 + 3 * 2 ^ 21 + imm
def g3 (v : Dword) : Regs := { ab 0 0 with g := (ab 0 0).g.set 3 v }

theorem test_crr : Stands (runs [crr 0x40] (ab 0 0) id) 3 1 0xA00 (crr 0x40) (ab 0 0) ∧ bitAt (crr 0x440) 10 = true ∧
    (threadOf (after (.seqCrr 3 1) (runs [crr 0x40] (ab 0 0) id)) 3 1).regs.get 3 = BitVec.ofNat 64 (coreReg (runs [] (ab 0 0) id) 3 0x100) ∧
    kindOf (after (.seqCrr 3 1) (runs [crr 0x440] (ab 0 0) id)) = 1 := by decide +kernel

theorem test_crw : Stands (runs [crw 0x61] (g3 0x17) id) 3 1 0xA40 (crw 0x61) (g3 0x17) ∧
    (bankOf (after (.seqCrw 3 1) (runs [crw 0x61] (g3 0x17) id)) 3 33).pend = some 0x17 ∧
    (bankOf (after (.seqCrw 3 1) (bank0 (runs [crw 0x40] (g3 1) id) ⟨0x12, 0, none, false, none, 0⟩)) 3 0).reclaim = true := by decide +kernel

/-! ### 10 and 11: coprocessor operations -/

/-- A descriptor: KIND and LEN, no signal, no status word, and the fields `l`. -/
def desc (kind len : Nat) (l : List (Nat × Nat × Nat)) : Bytes :=
  layout len ([(0, 2, kind), (2, 2, len), (4, 2, 0xFFFF)] ++ l)

/-- Core 3 has operation `o` in its queue, and `m` in its scratchpad. -/
def opOn (m : Bytes) (o : CopOp) : State := staged fun c => { c with cops := [o], nextOp := 7, spad := memWrite [] 0 m }

def q (unit : Nat) (d : Bytes) : CopOp := cop 6 unit d .queued
def deep1 (o : CopOp) : CopOp := { o with depth := 1 }

/-- Operation 6 of core 3, and its STATUS and DETAIL once formed. -/
def formed (s : State) : Option (Nat × Nat) := (opOf s 3 6).bind fun o => if o.phase = .ready then some (o.status.toNat, o.detail.toNat) else none

def vadd : Bytes := desc 0x0101 64 [(32, 4, 0x10), (36, 4, 0x20), (40, 4, 0x30), (44, 4, 0x40), (48, 4, 1), (52, 1, 11), (53, 1, 11)]
def copWord (unit : Nat) : Nat := 0x38 * 2 ^ 26 + unit * 2 ^ 22 + 1 * 2 ^ 17

theorem test_cop : ∃ s d, Stands s 3 1 0xE00 (copWord 1) (ab 0x100 0) ∧ (threadOf s 3 1).stores = [] ∧
    readDesc s 3 1 0x100 = .ok d ∧ opSide s 3 1 d = 1 ∧ copCount s 3 < 128 ∧
    ((coreOf (after (.seqCop 3 1) s) 3).cops.map fun o => (o.unit, o.side, o.thread)) = [(1, 1, 1)] := by
  refine ⟨coreOn (runs [copWord 1] (ab 0x100 0) id) 3 fun c => { c with spad := memWrite [] 0x100 vadd }, vadd, ?_⟩
  decide +kernel

/-- MM_LOAD of one row of two INT8 weights. -/
def mmld : Bytes := desc 1 64 [(36, 4, 16), (44, 2, 1), (46, 2, 2), (48, 1, 2)]

theorem test_mm_load : OpGo (opOn [3, 5] (q 0 mmld)) 3 6 1 (q 0 mmld) (mmLoadRanges mmld) ∧ loadsDone (opOn [3, 5] (q 0 mmld)) 3 6 = true ∧
    formed (after (.mmLoad 3 6) (opOn [3, 5] (q 0 mmld))) = some (0, 0) ∧
    ((coreOf (after (.mmLoad 3 6) (opOn [3, 5] (q 0 mmld))) 3).shadow.cols.map fun c => c.codes.take 2) = [[3, 0], [5, 0]] := by
  decide +kernel

/-- MM_RUN of one token, its elements from SPA 0, its INT32 columns to SPA 0x1000. -/
def mmrun (af flags : Nat) : Bytes := desc 2 80 [(36, 4, 256), (44, 4, 1), (48, 4, 0x1000), (52, 4, 16), (60, 4, 0xFFFFFFFF),
  (68, 4, 0x3F800000), (72, 1, af), (75, 1, flags)]

def tiled (m : Bytes) (d : Bytes) (t u : Tile) : State := coreOn (opOn m (q 0 d)) 3 fun c => { c with active := t, shadow := u }
def tile2 : Tile := ⟨2, 2, [⟨[3, 0xFF], []⟩, ⟨[5, 2], []⟩]⟩

theorem test_mm_run : ∃ s, OpGo s 3 6 2 (q 0 (mmrun 2 0)) (mmReads s 3 (mmrun 2 0)) ∧ mmSwaps (q 0 (mmrun 2 0)) = false ∧
    runBusy s 3 6 = false ∧
    rangesHeld s 3 6 (mmRunWrites s 3 (mmrun 2 0) (coreOf s 3).active.n) = false ∧
    rangesFault s 3 6 (mmRunWrites s 3 (mmrun 2 0) (coreOf s 3).active.n) = none ∧
    fmtsMeet (coreOf s 3).active.fmt.toNat 2 = true ∧ faultCol s 3 none = none ∧ formed (after (.mmRun 3 6 none) s) = some (0, 0) ∧
    spadRead (after (.mmRun 3 6 none) s) 3 0x1000 8 = leBytes 4 13 ++ leBytes 4 51 := by
  refine ⟨tiled [7, 8] (mmrun 2 0) tile2 tile2, ?_⟩; decide +kernel

theorem test_mm_formats : ∃ s, OpGo s 3 6 2 (q 0 (mmrun 3 0)) (mmReads s 3 (mmrun 3 0)) ∧ fmtsMeet (coreOf s 3).active.fmt.toNat 3 = false ∧
    runBusy s 3 6 = false ∧
    rangesHeld s 3 6 (mmRunWrites s 3 (mmrun 3 0) (coreOf s 3).active.n) = false ∧
    formed (after (.mmRun 3 6 none) s) = some (0x12, 2) := by
  refine ⟨tiled [] (mmrun 3 0) tile2 tile2, ?_⟩; decide +kernel

theorem test_mm_column : ∃ s, OpGo s 3 6 2 (q 0 (mmrun 2 0)) (mmReads s 3 (mmrun 2 0)) ∧ faultCol s 3 (some (1, 259)) = some (3, 1, 259) ∧
    runBusy s 3 6 = false ∧
    (coreOf (after (.mmRun 3 6 (some (1, 259))) s) 3).badCols = [(1, 259)] ∧
    formed (after (.mmRun 3 6 (some (1, 259))) s) = some (0x10, 1 + 65536 * 259) := by
  refine ⟨tiled [7, 8] (mmrun 2 0) tile2 tile2, ?_⟩; decide +kernel

theorem test_mm_swap : ∃ s, OpGo s 3 6 2 (q 0 (mmrun 3 1)) (mmReads s 3 (mmrun 3 1)) ∧ mmSwaps (q 0 (mmrun 3 1)) = true ∧ loadsDone s 3 6 = true ∧
    runBusy s 3 6 = false ∧
    rangesHeld s 3 6 (mmRunWrites s 3 (mmrun 3 1) (coreOf s 3).shadow.n) = false ∧ fmtsMeet (coreOf s 3).shadow.fmt.toNat 3 = false ∧
    (coreOf (after (.mmRun 3 6 none) s) 3).active.n = 2 ∧ (coreOf (after (.mmRun 3 6 none) s) 3).shadow.n = 9 := by
  refine ⟨tiled [] (mmrun 3 1) ⟨2, 9, []⟩ tile2, ?_⟩; decide +kernel

/-- A run whose OFMT 2 meets N = 2 is refused: FMT at the address of its descriptor (R255). -/
def mmgroup : Bytes := putAt (mmrun 2 0) 73 [2]

theorem test_mm_groups : ∃ s, opReady s 3 6 2 = some (q 0 mmgroup) ∧ runBusy s 3 6 = false ∧ mmSwaps (q 0 mmgroup) = false ∧
    groupsFit ((coreOf s 3).active.n, (coreOf s 3).shadow.n) mmgroup = false ∧ (coreOf s 3).stage.isSome = true ∧
    (threadOf s 3 1).state ≠ .faulted ∧ kindOf (after (.mmRun 3 6 none) s) = 0x0A := by
  refine ⟨tiled [] mmgroup tile2 tile2, ?_⟩; decide +kernel

/-- A vector operation of one FP32 element from SPA 0x10, 0x20 and 0x30, its result to 0x40. -/
def vec1 (kind : Nat) : Bytes := desc kind 64 [(32, 4, 0x10), (36, 4, 0x20), (40, 4, 0x30), (44, 4, 0x40), (48, 4, 1), (52, 1, 11), (53, 1, 11)]

/-- a = 1.0, b = 2.0, c = 3.0. -/
def abc : Bytes := zeros 16 ++ leBytes 16 0x3F800000 ++ leBytes 16 0x40000000 ++ leBytes 16 0x40400000
def vecOn (o : CopOp) : State := opOn abc o

theorem test_vec_results : ∀ x ∈ [(0x0101, Instr.vecAdd 3 6, 0x40400000), (0x0102, .vecSub 3 6, 0xBF800000), (0x0103, .vecMul 3 6, 0x40000000),
      (0x0104, .vecFma 3 6, 0x40A00000), (0x0105, .vecMin 3 6, 0x3F800000), (0x0106, .vecMax 3 6, 0x40000000),
      (0x0107, .vecDiv 3 6, 0x3F000000), (0x0108, .vecSqrt 3 6, 0x3F800000), (0x010F, .vecRelu 3 6, 0x3F800000),
      (0x0110, .vecRsum 3 6, 0x3F800000), (0x0111, .vecRmax 3 6, 0x3F800000), (0x0120, .vecConvert 3 6, 0x3F800000)],
    OpGo (vecOn (q 1 (vec1 x.1))) 3 6 x.1 (q 1 (vec1 x.1)) (vecReads (vec1 x.1) ++ vecWrites (vec1 x.1)) ∧
    leNat (spadRead (after x.2.1 (vecOn (q 1 (vec1 x.1)))) 3 0x40 4) = x.2.2 := by decide +kernel

theorem test_vec_approx : ∀ x ∈ [(0x0109, Instr.vecRsqrt 3 6), (0x010A, .vecExp 3 6), (0x010B, .vecLog 3 6), (0x010C, .vecTanh 3 6),
      (0x010D, .vecSigmoid 3 6), (0x010E, .vecGelu 3 6)],
    OpGo (vecOn (q 2 (vec1 x.1))) 3 6 x.1 (q 2 (vec1 x.1)) (vecReads (vec1 x.1) ++ vecWrites (vec1 x.1)) ∧
    formed (after x.2 (vecOn (q 2 (vec1 x.1)))) = some (0, 0) := by decide +kernel

theorem test_vec_staged : OpGo (vecOn (deep1 (q 1 (vec1 0x0101)))) 3 6 0x0101 (deep1 (q 1 (vec1 0x0101))) (vecReads (vec1 0x0101)) ∧
    spadRead (after (.vecAdd 3 6) (vecOn (deep1 (q 1 (vec1 0x0101))))) 3 0x40 4 = zeros 4 ∧
    ((opOf (after (.vecAdd 3 6) (vecOn (deep1 (q 1 (vec1 0x0101))))) 3 6).map fun o => o.staging.map fun b => b.2.toNat)
      = some [0, 0, 0x40, 0x40] := by decide +kernel

/-- A CONVERT of 16,385 elements has 65,540 bytes of results: before its confirmation it waits (R237). -/
def vecBig : Bytes := desc 0x0120 64 [(44, 4, 0x40), (48, 4, 16385), (52, 1, 11), (53, 1, 11)]

theorem test_vec_paused : OpGo (vecOn (deep1 (q 1 vecBig))) 3 6 0x0120 (deep1 (q 1 vecBig)) (vecReads vecBig) ∧
    65536 < (spread (vecOutput (deep1 (q 1 vecBig)) (vecA (vecOn (deep1 (q 1 vecBig))) 3 vecBig))).length := by
  refine ⟨by decide +kernel, ?_⟩
  have f : fieldAt (deep1 (q 1 vecBig)).desc 53 1 = 11 ∧ fieldAt vecBig 52 1 = 11 ∧ fieldAt vecBig 48 4 = 16385 := by decide +kernel
  rw [vecOutput, spread_length, f.1, pack_length (by decide), List.length_map, listIdx_length, vecA, f.2.1, f.2.2,
    vecIn_fp32_length]
  decide

/-- The example of R266: INT32 sums to INT8, SCALAR 2^30, SHIFT 32, ZP 5. -/
def rq : Bytes := desc 0x0122 64 [(44, 4, 0x40), (48, 4, 4), (52, 1, 12), (53, 1, 2), (55, 1, 32), (56, 4, 0x40000000), (60, 2, 5)]
def sums : Bytes := leBytes 4 250 ++ leBytes 4 254 ++ leBytes 4 (2 ^ 32 - 250) ++ leBytes 4 600

theorem test_requant : OpGo (opOn sums (q 1 rq)) 3 6 0x0122 (q 1 rq) (vecReads rq ++ vecWrites rq) ∧
    spadRead (after (.vecRequant 3 6) (opOn sums (q 1 rq))) 3 0x40 4 = [67, 69, 0xC7, 127] ∧
    formed (after (.vecRequant 3 6) (opOn sums (q 1 rq))) = some (0x11, 1) := by decide +kernel

/-- QUANT of 1.0 with SCALAR 2.5 and ZP 3 (2.5 rounds to 2). -/
def qt : Bytes := desc 0x0121 64 [(32, 4, 0x10), (44, 4, 0x40), (48, 4, 1), (52, 1, 11), (53, 1, 2), (56, 4, 0x40200000), (60, 2, 3)]

theorem test_quant : OpGo (vecOn (q 1 qt)) 3 6 0x0121 (q 1 qt) (vecReads qt ++ vecWrites qt) ∧
    spadRead (after (.vecQuant 3 6) (vecOn (q 1 qt))) 3 0x40 1 = [5] ∧ 1 ≤ elemBits 1 := by decide +kernel

/-- MXQUANT of 1.0 to E4M3: X is 0 − 8, the element 1 × 2^8 = 256. -/
def mxq : Bytes := desc 0x0123 64 [(32, 4, 0x10), (40, 4, 0x60), (44, 4, 0x40), (48, 4, 1), (52, 1, 11), (53, 1, 6)]
def dqt : Bytes := desc 0x0124 64 [(32, 4, 0x10), (36, 4, 0x20), (44, 4, 0x40), (48, 4, 1), (52, 1, 6), (53, 1, 11)]

theorem test_mxquant : OpGo (vecOn (q 1 mxq)) 3 6 0x0123 (q 1 mxq) (vecReads mxq ++ vecWrites mxq) ∧
    spadRead (after (.vecMxquant 3 6) (vecOn (q 1 mxq))) 3 0x60 1 = [119] ∧
    spadRead (after (.vecMxquant 3 6) (vecOn (q 1 mxq))) 3 0x40 1 = [0x78] := by decide +kernel

/-- An E4M3 256 with scale byte 119 is 1.0. -/
theorem test_dequant : ∃ s, OpGo s 3 6 0x0124 (q 1 dqt) (vecReads dqt ++ vecWrites dqt) ∧
    leNat (spadRead (after (.vecDequant 3 6) s) 3 0x40 4) = 0x3F800000 := by
  refine ⟨opOn (zeros 16 ++ leBytes 16 0x78 ++ [119]) (q 1 dqt), ?_⟩; decide +kernel

/-- DMA_COPY of two rows of 8 bytes from DVA 0, no address of context 5. -/
def dmad : Bytes := desc 0x0201 64 [(40, 4, 0x40), (48, 4, 8), (52, 4, 2), (56, 4, 64), (60, 4, 16)]
def ran (unit prog : Nat) (d : Bytes) : CopOp := { cop 6 unit d .running with prog := prog }
def fin (st det : Nat) (d : Bytes) : CopOp := { cop 6 1 d .ready with status := BitVec.ofNat 16 st, detail := BitVec.ofNat 32 det }

/-- Every vector operation stages its results before its confirmation (R237). -/
theorem test_vec_staged_all : ∀ x ∈ [(0x0102, Instr.vecSub 3 6, vec1 0x0102), (0x0103, .vecMul 3 6, vec1 0x0103), (0x0104, .vecFma 3 6, vec1 0x0104),
      (0x0105, .vecMin 3 6, vec1 0x0105), (0x0106, .vecMax 3 6, vec1 0x0106), (0x0107, .vecDiv 3 6, vec1 0x0107),
      (0x0108, .vecSqrt 3 6, vec1 0x0108), (0x0109, .vecRsqrt 3 6, vec1 0x0109), (0x010A, .vecExp 3 6, vec1 0x010A),
      (0x010B, .vecLog 3 6, vec1 0x010B), (0x010C, .vecTanh 3 6, vec1 0x010C), (0x010D, .vecSigmoid 3 6, vec1 0x010D),
      (0x010E, .vecGelu 3 6, vec1 0x010E), (0x010F, .vecRelu 3 6, vec1 0x010F), (0x0110, .vecRsum 3 6, vec1 0x0110),
      (0x0111, .vecRmax 3 6, vec1 0x0111), (0x0120, .vecConvert 3 6, vec1 0x0120), (0x0121, .vecQuant 3 6, qt),
      (0x0122, .vecRequant 3 6, rq), (0x0123, .vecMxquant 3 6, mxq), (0x0124, .vecDequant 3 6, dqt)],
    OpGo (vecOn (deep1 (q 1 x.2.2))) 3 6 x.1 (deep1 (q 1 x.2.2)) (vecReads x.2.2) ∧
    (formed (after x.2.1 (vecOn (deep1 (q 1 x.2.2))))).isSome = true ∧
    ((opOf (after x.2.1 (vecOn (deep1 (q 1 x.2.2)))) 3 6).any fun o => o.staging.isEmpty) = false ∧
    (coreOf (after x.2.1 (vecOn (deep1 (q 1 x.2.2)))) 3).spad = (coreOf (vecOn (deep1 (q 1 x.2.2))) 3).spad := by decide +kernel

theorem test_dma_copy : OpGo (opOn [] (q 4 dmad)) 3 6 0x0201 (q 4 dmad) (dmaRanges dmad) ∧ channelFree (opOn [] (q 4 dmad)) 3 (q 4 dmad) = true ∧
    ((opOf (after (.dmaCopy 3 6) (opOn [] (q 4 dmad))) 3 6).map fun o => o.prog) = some 2 ∧
    (after (.dmaCopy 3 6) (opOn [] (q 4 dmad))).acc.length = 2 := by decide +kernel

theorem test_dma_waits : ∃ s, OpGo s 3 6 0x0201 (q 4 dmad) (dmaRanges dmad) ∧ channelFree s 3 (q 4 dmad) = false := by
  refine ⟨coreOn (opOn [] (q 4 dmad)) 3 fun c => { c with cops := [cop 5 4 dmad .running, q 4 dmad] }, ?_⟩; decide +kernel

theorem test_complete : opOf (opOn [] (fin 0 0 vadd)) 3 6 = some (fin 0 0 vadd) ∧ dStatusWr vadd = false ∧ dSync vadd = 0xFFFF ∧
    opOf (after (.copOperationComplete 3 6) (opOn [] (fin 0 0 vadd))) 3 6 = none ∧
    (coreOf (after (.copOperationComplete 3 6) (opOn [] (fin 0 0 vadd))) 3).copDone = 1 := by decide +kernel

def vsig : Bytes := layout 64 [(0, 2, 0x0101), (2, 2, 64), (4, 2, 900), (6, 2, 1), (8, 8, 5), (16, 4, 0x80)]

theorem test_complete_signal : ∃ s, syncOf s (dSync vsig) = some ⟨5, false, 100⟩ ∧ dStatusWr vsig = true ∧
    rangesFault s 3 6 [(dStatusSpa vsig, 8)] = none ∧ opOf s 3 6 = some (fin 0x11 3 vsig) ∧
    spadRead (after (.copOperationComplete 3 6) s) 3 0x80 8 = [0x11, 0, 0, 0, 3, 0, 0, 0] ∧
    syncOf (after (.copOperationComplete 3 6) s) 900 = some ⟨5, false, 105⟩ := by
  refine ⟨obj (opOn [] (fin 0x11 3 vsig)), ?_⟩; decide +kernel

/-- An ended read of 2 bytes for row 0 of operation 6, at SPA 0x40. -/
def rd (st : AccStage) (p : Bool) : Access := { mkAccess (.dma 3 6 0) (.dma 3 0) 0 5 0x1000 2 .read [] with
  dest := 0x40, data := [8, 9], stage := st, poison := p }
def accsOn (s : State) (l : List (Nat × Access)) : State := { s with acc := l, nextAcc := 50 }
def dma1 : Bytes := desc 0x0201 64 [(40, 4, 0x40), (48, 4, 2), (52, 4, 1)]

theorem test_dma_complete : ∃ s, accsOf s (dmaOwns 3 6) = [(9, rd .done false)] ∧ opOf s 3 6 = some (ran 4 1 dma1) ∧
    opOf (after (.copOperationComplete 3 6) s) 3 6 = none ∧ accsOf (after (.copOperationComplete 3 6) s) (dmaOwns 3 6) = [] ∧
    spadRead (after (.copOperationComplete 3 6) s) 3 0x40 2 = [8, 9] := by
  refine ⟨accsOn (opOn [] (ran 4 1 dma1)) [(9, rd .done false)], ?_⟩; decide +kernel

theorem test_dma_fault : ∃ s, opOf s 3 6 = some (ran 4 1 dma1) ∧ (coreOf s 3).stage.isSome = true ∧ (threadOf s 3 1).state ≠ .faulted ∧
    dmaFault (ran 4 1 dma1) (accsOf s (dmaOwns 3 6)) = some (6, 1, 0x1000) ∧
    kindOf (after (.copOperationComplete 3 6) s) = 6 ∧ (threadOf (after (.copOperationComplete 3 6) s) 3 1).fault.detail = 1 := by
  refine ⟨accsOn (opOn [] (ran 4 1 dma1)) [(9, rd (.failed (.xlate 1)) false)], ?_⟩; decide +kernel

/-- A write of the operation is in flight: the fault waits for its end (06 R129, R432). -/
theorem test_dma_fault_waits : ∃ s, opOf s 3 6 = some (ran 4 1 dma1) ∧ (coreOf s 3).stage.isSome = true ∧
    dmaFault (ran 4 1 dma1) (accsOf s (dmaOwns 3 6)) = some (6, 1, 0x1000) ∧ writeInFlight (accsOf s (dmaOwns 3 6)) = true ∧
    opOf (after (.copOperationComplete 3 6) s) 3 6 = some (ran 4 1 dma1) ∧
    (threadOf (after (.copOperationComplete 3 6) s) 3 1).state = .running := by
  refine ⟨accsOn (coreOn (opOn [] (ran 4 1 dma1)) 3 fun c => { c with
      threads := c.threads.set 1 { Thread.reset with state := .running } })
    [(9, rd (.failed (.xlate 1)) false), (10, { rd (.tower 64) false with kind := .write })], ?_⟩; decide +kernel

/-! ### 12: tables, lookups and updates -/

/-- An FP32 table of context 5: 100 rows of two elements at DVA 0x10000, at home on engine 2, updatable. -/
def tbl : TableD := {
  ctx := 5, fmt := 11, rowBytes := 32, elems := 2, flags := 4, home := 2, shard := 0, rows := 100, missing := 0,
  base := 0x10000, ballast := 0, owners := [], epoch := 8, pend := none, prevBase := 0, prevBallast := 0, lastAt := none,
  prevBusy := false, lookups := 0, ballasts := 0, updApplied := 0, updDup := 0, updStale := 0, updDropped := 0, dying := false, created := [] }

def te (s : State) (f : Tables → Tables) : State := { s with te := f s.te }
def tabled (s : State) (t : TableD) : State := te s fun x => { x with tables := [(7, t)] }
def engOn (s : State) (f : Engine → Engine) : State := te s fun x => { x with engines := x.engines.set 2 (f x.engines[2]) }

/-- LOOKUP of one index (at SPA 0) in one bag (OFFS at 0x10), summed, its FP32 output at 0x40. -/
def lkd : Bytes := desc 0x0301 80 [(32, 2, 7), (34, 1, 2), (35, 1, 0), (36, 1, 11), (40, 4, 1), (44, 4, 1), (48, 4, 0), (52, 4, 0x10),
  (60, 4, 0x40), (64, 4, 16), (72, 8, 0xFFFFFFFFFFFFFFFF)]

def lkOn : State := tabled (opOn [3] (q 3 lkd)) tbl

theorem test_lookup : OpGo lkOn 3 6 0x0301 (q 3 lkd) (lookupReads lkd) ∧ lookupTable lkOn (stageCtx lkOn 3) lkd = some tbl ∧
    offsOk (bagStarts lkOn 3 lkd) 1 = true ∧ ((lookupWrites lkOn 3 lkd).all fun r => inSpad lkOn 3 r.1 r.2) = true ∧
    ((engineOf (after (.lookup 3 6) lkOn) 2).intake.map fun l => l.pos.map fun p => (p.idx, p.bag)) = [[(3, 0)]] ∧
    (coreOf (after (.lookup 3 6) lkOn) 3).lookups = 1 := by decide +kernel

/-- A lookup at engine 2 of row 3, for operation 6 of core 3. -/
def lk (f : Lookup → Lookup) : Lookup := f {
  id := 1, src := .core 3 6, table := 7, pool := 0, ofmt := 11, retBank := true, nBags := 1,
  outSpa := 0x40, outStride := 16, banks := [(3, 0)], deadline := 0xFFFFFFFFFFFFFFFF, epoch := 8, base := 0x10000, ballast := 0,
  pos := [⟨0, 3, some 0, 3, 0⟩], fetch := [⟨0, 3, 5, 0x10060, 8, true, false, []⟩], parts := [], status := 0, metAt := 0, isOver := false, poison := false,
  subst := 0 }

def lkState (f : Lookup → Lookup) : State := engOn (tabled (opOn [] (ran 3 0 lkd)) tbl) fun e => { e with active := [lk f] }

def bare (l : Lookup) : Lookup := { l with fetch := [], epoch := 0, base := 0 }

theorem test_lookup_accept : ∃ s, (engineOf s 2).intake = [lk bare] ∧ (engineOf s 2).active = [] ∧ tableOf (applySwitch s 7) 7 = some tbl ∧
    ((engineOf (after (.lookupAccept 2) s) 2).active.map fun l => (l.epoch, l.fetch.map fun r => (r.dva, r.len))) = [(8, [(0x10060, 8)])] ∧
    (tableOf (after (.lookupAccept 2) s) 7).map (fun x => x.lookups) = some 1 := by
  refine ⟨engOn (tabled on tbl) fun e => { e with intake := [lk bare] }, ?_⟩
  decide +kernel

theorem test_lookup_full : ∃ s l r, (engineOf s 2).intake = l :: r ∧ 64 ≤ (engineOf s 2).active.length := by
  refine ⟨engOn on fun e => { e with intake := [lk id], active := List.replicate 64 (lk id) }, lk id, [], ?_⟩; decide +kernel

/-- The row's access has its bytes: 1.0 and 2.0. -/
def rowAcc (st : AccStage) : Access := { mkAccess (.lookup 2 1 0) (.engine 2) 2 5 0x10060 8 .read [] with
  data := leBytes 4 0x3F800000 ++ leBytes 4 0x40000000, stage := st }

theorem test_row_return : ∃ s, lookupOf s 2 1 = some (lk id) ∧ accOf s 9 = some (rowAcc .done) ∧
    accsOf s (fun w => lkOwns 2 1 w && rowIdx w == 0) = [(9, rowAcc .done)] ∧
    ((lookupOf (after (.lookupRowReturn 2 1 9) s) 2 1).map fun l => l.fetch.map fun r => (r.isOver, r.data)) = some [(true, (rowAcc .done).data)] := by
  refine ⟨accsOn (lkState id) [(9, rowAcc .done)], ?_⟩; decide +kernel

def over_ (l : Lookup) : Lookup := { l with fetch := [⟨0, 3, 5, 0x10060, 8, true, true, (rowAcc .done).data⟩] }

def bank12 (s : State) : State := bank0 s ⟨0x12, 0, none, false, none, 0⟩

theorem test_lookup_complete : ∃ s, lookupOf s 2 1 = some (lk over_) ∧ lookupDone (lk over_) = true ∧
    (writeOuts 2 3 ((List.range 1).map fun i => (0x40 + i * 16, outBytes (lk over_) tbl i)) s true).2 = true ∧
    spadRead (after (.lookupComplete 2 1) s) 3 0x40 8 = leBytes 4 0x3F800000 ++ leBytes 4 0x40000000 ∧
    lookupOf (after (.lookupComplete 2 1) s) 2 1 = none ∧ opOf (after (.lookupComplete 2 1) s) 3 6 = none ∧
    (bankOf s 3 0).ownerB = ownEngine 2 ∧ (bankOf (after (.lookupComplete 2 1) s) 3 0).ownerB = 1 := by
  refine ⟨bank12 (lkState over_), ?_⟩; decide +kernel

/-- Bank 0 is still on its way to engine 2: the outputs are held (09 R197). -/
theorem test_lookup_held : ∃ s, lookupOf s 2 1 = some (lk over_) ∧ lookupDone (lk over_) = true ∧ outHeld s 2 (lk over_) = true ∧
    lookupOf (after (.lookupComplete 2 1) s) 2 1 = some (lk over_) := by
  refine ⟨bank0 (lkState over_) ⟨1, 0, some 0x12, false, some (3, 0), 0⟩, ?_⟩; decide +kernel

/-- An output of 8 bytes needs no completion to words, and one at 0x42 begins inside a word (09 R195). -/
theorem test_lookup_words : takeFreeBytes on (0x40 % 4) = ([], on) ∧
    (wordPads (lk over_) tbl []).all (fun x => x.2.isEmpty) = true ∧
    (wordPads (lk fun l => { over_ l with outSpa := 0x42 }) tbl [1, 2]).map (fun x => (x.1, x.2)) = [(0x40, [1, 2]), (0x4A, [0, 0])] := by
  decide +kernel

def serving (s : State) : State := { s with fab := { s.fab with serving := [{
  op := 1, flags := 0, route := 0, tclass := 0, destChip := 2,
  destInc := 1, srcChip := 3, srcInc := 1, tag := 77, part := 0, nparts := 1, status := 0, gaddr := 0, deadline := 9, len := 0, payload := [], more := false, vc := 0,
  link := none, flits := 0, out := none, num := 5 }] } }

theorem test_lookup_refused : ∃ s l, lookupOf s 2 1 = some l ∧ lookupDone l = true ∧ l.isOver = false ∧ l.src = .peer 5 ∧ l.status ≠ 0 ∧
    (servingOf s 5).isSome = true ∧ (after (.lookupComplete 2 1) s).fab.router.map (fun p => (p.op, p.destChip, p.tag)) = [(0x8E, 3, 77)] := by
  refine ⟨serving (lkState fun l => { over_ l with src := .peer 5, status := 0x32 }), _, rfl, ?_⟩; decide +kernel

def soon (l : Lookup) : Lookup := { l with deadline := 9 }

theorem test_lookup_deadline : ∃ s, lookupOf s 2 1 = some (lk soon) ∧ late s 9 = true ∧
    ((lookupOf (after (.lookupDeadline 2 1) s) 2 1).map fun l => (l.isOver, l.status)) = some (true, 0x34) := by
  refine ⟨lateDt (lkState soon), ?_⟩; decide +kernel

theorem test_lookup_deadline_peer : ∃ s l, lookupOf s 2 1 = some l ∧ l.isOver = false ∧ late s l.deadline = true ∧ l.src = .peer 5 ∧
    lookupOf (after (.lookupDeadline 2 1) s) 2 1 = none := by
  refine ⟨lateDt (lkState fun l => { soon l with src := .peer 5 }), _, rfl, ?_⟩; decide +kernel

/-- An update record of stream 4, SEQ 6, for row 3. -/
def upd : Bytes := layout 64 [(0, 2, 7), (2, 2, 4), (8, 8, 6), (16, 8, 3), (24, 8, 0xFFFFFFFFFFFFFFFF), (32, 4, 0x3F800000)]
def upd1 : Bytes := desc 0x0302 48 [(36, 4, 1)]
def updOn : State := tabled (opOn upd (q 3 upd1)) tbl

theorem test_te_update : OpGo updOn 3 6 0x0302 (q 3 upd1) (updateReads updOn 3 upd1) ∧ recordsSplit updOn 3 upd1 = false ∧
    tableOf updOn (leNat (spadRead updOn 3 0 2)) = some tbl ∧ stageCtx updOn 3 = 5 ∧ badIndex tbl 3 = false ∧
    ((engineOf (after (.teUpdate 3 6) updOn) 2).arriving.map fun r => (r.seq, r.delta.length)) = [(6, 32)] := by decide +kernel

def strm (f : UpdStream → UpdStream) : UpdStream := f {
  source := 0, stream := 4, ctx := 5, engine := 2, next := 6, window := BitVec.allOnes 1024,
  ring := true, log2 := 4, ringDva := 0x10000, slotLog2 := 6, tail := 3, head := 1 }
def streamed (s : State) (f : UpdStream → UpdStream) : State := te s fun x => { x with streams := [(0, strm f)] }
def urec : UpdRec := { recOf 8 (.core 3 6) 0 5 upd with gctx := 5 }
def arriving (s : State) : State := engOn s fun e => { e with arriving := [urec] }

def Judged (s : State) (a : Arrival → Bool) : Prop := a (judge s urec) = true

theorem test_arrival_applied : ∃ s, (engineOf s 2).arriving = [urec] ∧ (match judge s urec with | .accept 0 _ 0x10060 => true | _ => false) = true ∧
    ((tget (after (.updateRecordArrival 2) s).te.streams 0).map fun x => x.next) = some 7 ∧
    (after (.updateRecordArrival 2) s).acc.length = 1 := by
  refine ⟨arriving (tabled (streamed ctx5 id) tbl), ?_⟩; decide +kernel

theorem test_arrival_dup : ∃ s, (match judge s urec with | .dup => true | _ => false) = true ∧
    (tableOf (after (.updateRecordArrival 2) s) 7).map (fun x => x.updDup) = some 1 := by
  refine ⟨arriving (tabled (streamed ctx5 fun x => { x with next := 7 }) tbl), ?_⟩; decide +kernel

theorem test_arrival_stale : ∃ s, (match judge s urec with | .stale => true | _ => false) = true ∧
    (tableOf (after (.updateRecordArrival 2) s) 7).map (fun x => x.updStale) = some 1 := by
  refine ⟨arriving (tabled (streamed ctx5 fun x => { x with next := 1031 }) tbl), ?_⟩; decide +kernel

theorem test_arrival_dropped : ∃ s, (match judge s urec with | .dropped 0x33 => true | _ => false) = true ∧
    (tableOf (after (.updateRecordArrival 2) s) 7).map (fun x => x.updDropped) = some 1 := by
  refine ⟨arriving (tabled (streamed on fun x => { x with ctx := 6 }) tbl), ?_⟩; decide +kernel

/-- At next = 6, window full: 6 is new, 5 a duplicate; the distance 1,024 is stale. -/
theorem test_window : windowSays (strm id) 6 = .accept ∧ windowSays (strm id) 5 = .dup ∧
    windowSays (strm fun x => { x with next := 1030 }) 6 = .dup ∧ windowSays (strm fun x => { x with next := 1031 }) 6 = .stale ∧
    windowSays (windowMark (strm id) 8) 7 = .accept ∧ windowSays (windowMark (strm id) 8) 5 = .dup := by decide +kernel

theorem test_upd_tail : hostDecode (streamed on id) = true ∧ ((9 : Word) - 1).toNat ≤ 2 ^ 4 ∧
    ((tget (after (.rqUpdTailWrite 0 9) (streamed on id)).te.streams 0).map fun x => x.tail) = some 9 ∧
    ((tget (after (.rqUpdTailWrite 0 17) (streamed on id)).te.streams 0).map fun x => x.tail) = some 17 ∧
    ((tget (after (.rqUpdTailWrite 0 18) (streamed on id)).te.streams 0).map fun x => x.tail) = some 3 ∧
    ((tget (after (.rqUpdTailWrite 0 2) (streamed on id)).te.streams 0).map fun x => x.tail) = some 3 := by decide +kernel

theorem test_ring_record : NoUpdates (streamed on id) ∧ AccDistinct (streamed on id) ∧ ringBusy (streamed on id) 0 = false ∧
    accsOf (streamed on id) (ringOwns 0) = [] ∧
    ((after (.updateRingRecord 0) (streamed on id)).acc.map fun a => (a.2.dva, a.2.len)) = [(0x10040, 64)] := by decide +kernel

theorem test_ring_record_bad : ∃ s a, NoUpdates s ∧ accsOf s (ringOwns 0) = [(9, a)] ∧ a.stage = .failed .memory ∧
    ((tget (after (.updateRingRecord 0) s).te.streams 0).map fun x => x.head) = some 2 := by
  refine ⟨accsOn (streamed on id) [(9, { rowAcc (.failed .memory) with owner := .ring 0 })], _, ?_, rfl, ?_⟩ <;> decide +kernel

def pendTbl : TableD := { tbl with pend := some ⟨9, 0x20000, 0x30000⟩ }

theorem test_epoch_switch : (lateDt (tabled on pendTbl)).tb.valid = true ∧ (9 : Dword) ≤ dtNs (lateDt (tabled on pendTbl)) ∧
    (tableOf (after (.epochSwitch 7) (lateDt (tabled on pendTbl))) 7).map (fun t => (t.epoch, t.base, t.prevBase, t.prevBusy))
      = some (9, 0x20000, 0x10000, true) ∧
    (tableOf (after (.epochSwitch 7) (tabled on pendTbl)) 7).map (fun t => t.epoch) = some 8 := by decide +kernel

def busyTbl : TableD := { tbl with lastAt := some 9, prevBusy := true }

theorem test_prev_busy : ∃ s, tableOf s 7 = some busyTbl ∧ 9 + s.fab.longestUs * 1000 < (dtNs s).toNat ∧ namesEpoch s 7 7 = false ∧
    (tableOf (after (.prevBusyClear 7) s) 7).map (fun t => t.prevBusy) = some false := by
  refine ⟨{ lateDt (tabled on busyTbl) with tb := { on.tb with valid := true, count := 10 ^ 12 * 2 ^ 32 } }, ?_⟩; decide +kernel

theorem test_prev_busy_held : ∃ s, tableOf s 7 = some busyTbl ∧ namesEpoch s 7 7 = true := by
  refine ⟨engOn (tabled on busyTbl) fun e => { e with active := [lk fun l => { l with epoch := 7 }] }, ?_⟩; decide +kernel

/-! ### The table opcodes -/

def createReq : Bytes := layout 64 [(0, 2, 7), (2, 1, 5), (3, 1, 11), (4, 2, 32), (6, 2, 2), (8, 2, 4), (10, 1, 2), (16, 8, 100), (32, 8, 0x10000)]
def updReq : Bytes := putAt createReq 8 [20]

theorem test_table_create : HasCmd (cmd ctx5 0x0601 createReq) 0 0x0601 (held 0x0601 createReq) ∧ OthersIdle (cmd ctx5 0x0601 createReq) 0 ∧
    firstFail (chan (cmd ctx5 0x0601 createReq) 0) (tableCreateChk (cmd ctx5 0x0601 createReq) (held 0x0601 createReq)) = none ∧
    (tableOf (after (.opTableCreate 0) (cmd ctx5 0x0601 createReq)) 7).map (fun t => (t.rowBytes, t.home)) = some (32, 2) := by decide +kernel

theorem test_table_owners : ∃ s, HasCmd s 0 0x0601 (held 0x0601 updReq) ∧ bitAt ((held 0x0601 updReq).f 8 2) 4 = true ∧
    firstFail (chan s 0) (tableCreateChk s (held 0x0601 updReq)) = none ∧ status (after (.opTableCreate 0) s) = some 0 := by
  refine ⟨cmd (tabled ctx5 { tbl with created := createdBytes (held 0x0601 createReq) }) 0x0601 updReq, ?_⟩; decide +kernel

theorem test_table_destroy : HasCmd (cmd (tabled ctx5 tbl) 0x0602 [7, 0, 0, 0]) 0 0x0602 (held 0x0602 [7, 0, 0, 0]) ∧
    lookupsOn (tabled ctx5 tbl) 7 = false ∧ tableOf (after (.opTableDestroy 0) (cmd (tabled ctx5 tbl) 0x0602 [7, 0, 0, 0])) 7 = none := by
  decide +kernel

theorem test_table_dying : ∃ s, lookupsOn s 7 = true ∧ HasCmd s 0 0x0602 (held 0x0602 [7, 0, 0, 0]) ∧
    (tableOf (after (.opTableDestroy 0) s) 7).map (fun t => t.dying) = some true ∧ (chan (after (.opTableDestroy 0) s) 0).done = false := by
  refine ⟨cmd (engOn (tabled ctx5 tbl) fun e => { e with active := [lk id] }) 0x0602 [7, 0, 0, 0], ?_⟩; decide +kernel

def atReq (flags t : Nat) : Bytes := layout 32 [(0, 2, 7), (2, 1, flags), (8, 8, t), (16, 8, 0x20000)]

theorem test_epoch_at : ∃ s, HasCmd s 0 0x0603 (held 0x0603 (atReq 0 1000010)) ∧ (dtNs s).toNat + 1000000 ≤ 1000010 ∧
    resp (after (.opTableEpochAt 0) s) 0 4 = 9 ∧
    (tableOf (after (.opTableEpochAt 0) s) 7).bind (fun t => t.pend.map fun p => p.at_) = some 1000010 := by
  refine ⟨cmd (lateDt (tabled ctx5 tbl)) 0x0603 (atReq 0 1000010), ?_⟩; decide +kernel

theorem test_epoch_cancel : ∃ s, HasCmd s 0 0x0603 (held 0x0603 (atReq 1 11)) ∧
    (tableOf s 7).bind (fun t => t.pend.map fun p => p.at_) = some 11 ∧ dtNs s < 11 ∧
    (tableOf (after (.opTableEpochAt 0) s) 7).map (fun t => t.pend) = some none := by
  refine ⟨cmd (lateDt (tabled ctx5 { tbl with pend := some ⟨11, 0, 0⟩ })) 0x0603 (atReq 1 11), ?_⟩; decide +kernel

/-- A CANCEL of the switch taken at 9, and one that matches nothing. -/
theorem test_epoch_cancel_none : ∀ x ∈ [((9 : Nat), stBadState), (8, 0)],
    HasCmd (cmd (lateDt (tabled ctx5 { tbl with lastAt := some 9 })) 0x0603 (atReq 1 x.1)) 0 0x0603 (held 0x0603 (atReq 1 x.1)) ∧
    status (after (.opTableEpochAt 0) (cmd (lateDt (tabled ctx5 { tbl with lastAt := some 9 })) 0x0603 (atReq 1 x.1))) = some x.2 := by
  decide +kernel

theorem test_table_stats_pending :
    HasCmd (cmd (tabled ctx5 { tbl with pend := some ⟨11, 0, 0⟩ }) 0x0606 [7, 0, 0, 0]) 0 0x0606 (held 0x0606 [7, 0, 0, 0]) ∧
    resp (after (.opTableStats 0) (cmd (tabled ctx5 { tbl with pend := some ⟨11, 0, 0⟩ }) 0x0606 [7, 0, 0, 0])) 4 4 = 1 ∧
    resp (after (.opTableStats 0) (cmd (tabled ctx5 { tbl with pend := some ⟨11, 0, 0⟩ }) 0x0606 [7, 0, 0, 0])) 8 8 = 11 := by
  decide +kernel

def openReq : Bytes := layout 32 [(2, 2, 4), (4, 1, 5), (6, 1, 2), (8, 8, 6)]

theorem test_stream_open : HasCmd (cmd ctx5 0x0604 openReq) 0 0x0604 (held 0x0604 openReq) ∧
    firstFail (chan (cmd ctx5 0x0604 openReq) 0) { streamOpenChk (cmd ctx5 0x0604 openReq) (held 0x0604 openReq) with full := false } = none ∧
    ((tget (after (.opUpdateStreamOpen 0) (cmd ctx5 0x0604 openReq)).te.streams 0).map fun x => x.next) = some 6 := by decide +kernel

theorem test_stream_close : HasCmd (cmd (streamed ctx5 id) 0x0605 [0, 0, 0, 0]) 0 0x0605 (held 0x0605 [0, 0, 0, 0]) ∧
    (after (.opUpdateStreamClose 0) (cmd (streamed ctx5 id) 0x0605 [0, 0, 0, 0])).te.streams = [] := by decide +kernel

theorem test_table_stats : HasCmd (cmd (tabled ctx5 tbl) 0x0606 [7, 0, 0, 0]) 0 0x0606 (held 0x0606 [7, 0, 0, 0]) ∧
    status (after (.opTableStats 0) (cmd (tabled ctx5 tbl) 0x0606 [7, 0, 0, 0])) = some 0 ∧
    resp (after (.opTableStats 0) (cmd (tabled ctx5 tbl) 0x0606 [7, 0, 0, 0])) 0 4 = 8 := by decide +kernel

/-! ### 13: requests -/

def rq0 : Queue := {
  ctx := 5, source := 3, log2 := 4, sqAddr := 0x4000, cqAddr := 0x8000, vector := 1, irq := false, fabric := false, pretrans := false,
  sqSync := 0, cqSync := 0, notifyChip := 0, notifyObj := 0, notifyInc := 0, sqTail := 3, sqHead := 1, cqHead := 0, cqTail := 2, reserved := 1,
  stopping := false, ptrErr := false, notifyErr := true, notes := 0 }

def sch (s : State) (f : Sched → Sched) : State := { s with sch := f s.sch }
def queued (s : State) (q : Queue) : State := sch s fun x => { x with queues := [(2, q)] }
def sqTail (v : Word) : Option (Word × Bool) := (queueOf (after (.rqSqTailWrite 2 v) (queued on rq0)) 2).map fun x => (x.sqTail, x.ptrErr)
def cqHead (v : Word) : Option (Word × Bool) := (queueOf (after (.rqCqHeadWrite 2 v) (queued on rq0)) 2).map fun x => (x.cqHead, x.ptrErr)

/-- SQ_TAIL: from 3 up to SQ_HEAD 1 + 16; 18 is too far and 2 goes back. -/
theorem test_sq_tail : hostDecode (queued on rq0) = true ∧ sqTail 17 = some (17, false) ∧ sqTail 3 = some (3, false) ∧
    sqTail 18 = some (3, true) ∧ sqTail 2 = some (3, true) := by decide +kernel

/-- CQ_HEAD: from 0 to CQ_TAIL 2. -/
theorem test_cq_head : cqHead 2 = some (2, false) ∧ cqHead 0 = some (0, false) ∧ cqHead 3 = some (0, true) := by decide +kernel

theorem test_q_pointers_fabric : (queueOf (after (.rqSqTailWrite 2 17) (queued on { rq0 with fabric := true })) 2).map (fun x => x.sqTail) = some 3 ∧
    (queueOf (after (.rqCqHeadWrite 2 2) (queued on { rq0 with fabric := true })) 2).map (fun x => x.cqHead) = some 0 := by decide +kernel

theorem test_q_status : (queueOf (after (.rqQStatusClear 2 8) (queued on { rq0 with ptrErr := true })) 2).map (fun x => (x.ptrErr, x.notifyErr))
    = some (true, false) := by decide +kernel

theorem test_sync_sel : syncOf (obj on) (900 % 8192) = some ⟨5, false, 100⟩ ∧
    (after (.rqSyncSelWrite 63 (8192 + 900)) (obj on)).sch.readSets[63] = ⟨900, 100, 0⟩ := by decide +kernel

/-- A descriptor of context 5, TOKEN 0x11, plan 7. -/
def dsc (flags plan : Nat) : Bytes := layout 128 [(0, 8, 0x11), (8, 8, 9), (16, 2, plan), (18, 1, 5), (19, 1, flags), (56, 8, 0x22)]
def plan7 : Plan := ⟨5, 128, [⟨[1, 2, 3, 4], [0, 0xFFFFFFFF, 8, 0xFFFFFFFF], 0x100, 0xFFFFFFFF, false, 0xFF⟩]⟩
def planned (s : State) : State := sch s fun x => { x with plans := [(7, plan7)] }
def rqOn : State := planned (queued on rq0)

theorem test_desc_slot : nextQueue rqOn = some (2, rq0) ∧ hostUp rqOn = true ∧ atcFind rqOn (pasidOf rqOn 5) rq0.descAt false = .ok 0x4080 ∧
    cacheFind rqOn 3 0x11 = none ∧ late rqOn 9 = false ∧ freeSlot rqOn = some 0 ∧ descBad rqOn rq0 (dsc 0 7) (descOf (dsc 0 7)) = none ∧
    (slotOf (after (.descriptorRead (some (dsc 0 7)) []) rqOn) 0).map (fun y => (y.queue, y.desc.user, y.order)) = some (2, 0x22, 0) ∧
    (queueOf (after (.descriptorRead (some (dsc 0 7)) []) rqOn) 2).map (fun x => (x.sqHead, x.reserved)) = some (2, 2) := by decide +kernel

theorem test_desc_bad : descBad rqOn rq0 (dsc 0 6) (descOf (dsc 0 6)) = some 3 ∧ descBad rqOn rq0 (dsc 8 7) (descOf (dsc 8 7)) = some 1 ∧
    (slotOf (after (.descriptorRead (some (dsc 0 6)) []) rqOn) 0).bind (fun y => y.fin.map fun e => (e.status, e.detail)) = some (6, 3) := by
  decide +kernel

theorem test_desc_shed : late (lateDt rqOn) 9 = true ∧ (queueOf (after (.descriptorRead (some (dsc 0 7)) []) (lateDt rqOn)) 2).map (fun x => (x.cqTail, x.reserved))
    = some (3, 1) ∧ (after (.descriptorRead (some (dsc 0 7)) []) (lateDt rqOn)).sch.slots = [] := by decide +kernel

theorem test_desc_unread : (queueOf (after (.descriptorRead none []) rqOn) 2).map (fun x => (x.sqHead, x.cqTail)) = some (2, 3) := by decide +kernel

def slot (st : SlotState) (f : Slot → Slot) : Slot := f {
  queue := 2, source := 3, desc := descOf (dsc 0 7), state := st, stage := 0, core := none, cancelled := false, order := 0, attached := [],
  fin := none, outFail := false, flushFail := false, flushed := false, flushing := false, lastHost := none, pages := [] }
def slotted (s : State) (y : Slot) : State := sch s fun x => { x with slots := [(4, y)], nextOrder := 1 }

theorem test_desc_attached : ∃ s, (s.sch.slots.find? fun z => z.2.source = 3 && z.2.desc.token = 0x11) = some (4, slot .waiting id) ∧
    attachCount s < 4096 ∧ slotOf s 4 = some (slot .waiting id) ∧ nextQueue s = some (2, rq0) ∧
    (slotOf (after (.descriptorRead (some (dsc 0 7)) []) s) 4).map (fun y => y.attached) = some [⟨2, 0x22⟩] := by
  refine ⟨slotted rqOn (slot .waiting id), ?_⟩; decide +kernel

def waiting1 : State := slotted rqOn (slot .waiting id)

theorem test_dispatch_ready : dispatchNext waiting1 = some (4, slot .waiting id) ∧ late waiting1 9 = false ∧
    (nextStage waiting1 (slot .waiting id)).isSome = true ∧ kindExists waiting1 false = true := by decide +kernel

/-- Every other core is held, so the free choice falls on core 3. -/
def only3 (s : State) : State := { s with cores := Vector.ofFn fun i : Fin 32 => { s.cores[i] with held := i.val != 3 } }

theorem test_dispatch : idleCores (only3 waiting1) false = [3] := by decide +kernel

def ended (f : Core → Core) : State := slotted (planned (queued (coreOn on 3 fun c => f { c with
  stage := some ⟨4, 7, 0, 5, true⟩
  threads := c.threads.set 0 { Thread.reset with state := .halted, app := 0x77 } }) rq0)) (slot .running id)

theorem test_stage_end : ∃ s g y, (coreOf s 3).stage = some g ∧ stageDone s 3 [3] = true ∧ slotOf s g.slot = some y ∧ y.fin = none ∧
    late s y.desc.deadline = false ∧ nextStage s { y with stage := y.stage + 1 } = none ∧
    (coreOf (after (.stageEnd 3) s) 3).stage = none ∧
    (slotOf (after (.stageEnd 3) s) 4).bind (fun y => y.fin.map fun e => (e.status, e.app, e.stagesDone)) = some (0, 0x77, 1) := by
  refine ⟨ended id, ⟨4, 7, 0, 5, true⟩, slot .running id, ?_⟩; decide +kernel

theorem test_stage_more : ∃ s h, nextStage s { slot .running id with stage := 1 } = some h ∧ kindExists s h.pair = true ∧ stageDone s 3 [3] = true ∧
    (slotOf (after (.stageEnd 3) s) 4).map (fun y => (y.stage, y.state)) = some (1, .waiting) := by
  refine ⟨sch (ended id) fun x => { x with plans := [(7, { plan7 with stages := plan7.stages ++ plan7.stages })] },
    ⟨[1, 2, 3, 4], [0, 0xFFFFFFFF, 8, 0xFFFFFFFF], 0x100, 0xFFFFFFFF, false, 0xFF⟩, ?_⟩; decide +kernel

theorem test_stage_late : late (lateDt (ended id)) (slot .running id).desc.deadline = true ∧
    (slotOf (after (.stageEnd 3) (lateDt (ended id))) 4).bind (fun y => y.fin.map fun e => (e.status, e.detail)) = some (3, 1) := by decide +kernel

def fin0 : ReqEnd := ⟨0, 0, 1, 0x77, false, 5⟩
def posting : State := slotted rqOn (slot .completing fun y => { y with fin := some fin0 })

theorem test_record_post : slotOf posting 4 = some (slot .completing fun y => { y with fin := some fin0 }) ∧ queueOf posting 2 = some rq0 ∧
    (Desc.noReplay (descOf (dsc 0 7))) = false ∧ rq0.recordAt % 32 = 0 ∧ posting.hl.posts = [] ∧
    slotOf (after (.completionRecordPost 4 []) posting) 4 = none ∧
    (after (.completionRecordPost 4 []) posting).sch.cache = [⟨3, 0x11, fin0⟩] ∧
    (after (.completionRecordPost 4 []) posting).out = [.hostWrite 0x8040 (recordBytes 0x11 0x22 fin0 1 false false) false false (.plain false) none] := by
  decide +kernel

theorem test_record_noreplay : Desc.noReplay (descOf (dsc 2 7)) = true ∧ (descOf (dsc 5 7)).noReplay = false := by decide

/-! ### The opcodes of area 0x05 -/

/-- A plan image of one stage: 4 bytes of code at offset 64. -/
def image : Bytes := layout 68 [(0, 4, 0x4E414C50), (4, 1, 1), (8, 4, 68), (16, 4, 64), (20, 4, 4), (28, 4, 0xFFFFFFFF), (32, 4, 0xFFFFFFFF),
  (36, 4, 0xFFFFFFFF), (40, 4, 0x100), (44, 4, 0xFFFFFFFF), (49, 1, 0xFF), (64, 4, 0x12345678)]
def loadReq : Bytes := layout 16 [(0, 2, 7), (2, 1, 5), (4, 4, 68)] ++ image

theorem test_plan_load : HasCmd (cmd ctx5 0x0501 loadReq) 0 0x0501 (held 0x0501 loadReq) ∧ CtxOk ctx5 0 5 ∧
    Reserved (held 0x0501 loadReq) ([3] ++ span 8 16) ∧ ((imageChk (held 0x0501 loadReq)).all fun x => !x.1) = true ∧
    planBytes ctx5 + 68 ≤ 2 ^ 28 ∧
    (planOf (after (.opPlanLoad 0) (cmd ctx5 0x0501 loadReq)) 7).map (fun p => p.stages.map fun g => g.code) = some [[0x78, 0x56, 0x34, 0x12]] := by
  decide +kernel

theorem test_plan_unload : HasCmd (cmd (planned ctx5) 0x0502 [7, 0, 0, 0]) 0 0x0502 (held 0x0502 [7, 0, 0, 0]) ∧ planBusy (planned ctx5) 7 = false ∧
    planOf (after (.opPlanUnload 0) (cmd (planned ctx5) 0x0502 [7, 0, 0, 0])) 7 = none ∧
    status (after (.opPlanUnload 0) (cmd (planned ctx5) 0x0502 [7, 0, 0, 0])) = some 0 := by decide +kernel

def queueReq : Bytes := layout 40 [(0, 1, 2), (1, 1, 5), (4, 1, 4), (6, 2, 3), (8, 8, 0x4000), (16, 8, 0x8000)]
def cohOn (s : State) : State := { s with hl := { s.hl with cohMode := 1 }, tb := { s.tb with valid := true } }

theorem test_queue_create : ∃ s, HasCmd s 0 0x0503 (held 0x0503 queueReq) ∧ firstFail (chan s 0) (queueChk s (held 0x0503 queueReq)) = none ∧
    OthersIdle s 0 ∧ (queueOf (after (.opQueueCreate 0) s) 2).map (fun x => (x.log2, x.source)) = some (4, 3) := by
  refine ⟨cmd (cohOn ctx5) 0x0503 queueReq, ?_⟩; decide +kernel

theorem test_queue_destroy : HasCmd (cmd (queued ctx5 rq0) 0x0504 [2, 0, 0, 0]) 0 0x0504 (held 0x0504 [2, 0, 0, 0]) ∧ remaining (queued ctx5 rq0) 2 = 0 ∧
    queueOf (after (.opQueueDestroy 0) (cmd (queued ctx5 rq0) 0x0504 [2, 0, 0, 0])) 2 = none := by decide +kernel

theorem test_queue_stopping : ∃ s, s.sch.slots = [(4, slot .waiting id)] ∧ HasCmd s 0 0x0504 (held 0x0504 [2, 0, 0, 0]) ∧
    (queueOf (after (.opQueueDestroy 0) s) 2).map (fun x => x.stopping) = some true ∧
    (slotOf (after (.opQueueDestroy 0) s) 4).bind (fun y => y.fin.map fun e => e.status) = some 5 := by
  refine ⟨cmd (slotted (queued ctx5 rq0) (slot .waiting id)) 0x0504 [2, 0, 0, 0], ?_⟩; decide +kernel

theorem test_replay_window : HasCmd (st 0x0505 [0xE8, 3, 0, 0]) 0 0x0505 (held 0x0505 [0xE8, 3, 0, 0]) ∧
    (after (.opReplayWindow 0) (st 0x0505 [0xE8, 3, 0, 0])).sch.replayMs = 1000 := by decide +kernel

def cancelReq : Bytes := layout 16 [(0, 2, 3), (8, 8, 0x11)]

theorem test_req_cancel : ∃ s, HasCmd s 0 0x0506 (held 0x0506 cancelReq) ∧ inFlight s 3 0x11 = some (4, slot .running id) ∧
    (slotOf (after (.opReqCancel 0) s) 4).map (fun y => y.cancelled) = some true ∧ status (after (.opReqCancel 0) s) = some 0 := by
  refine ⟨cmd (slotted (queued ctx5 rq0) (slot .running id)) 0x0506 cancelReq, ?_⟩; decide +kernel

def allocReq : Bytes := [5, 3, 0, 1, 1, 0, 0, 0]

theorem test_sync_alloc : HasCmd (cmd ctx5 0x0507 allocReq) 0 0x0507 (held 0x0507 allocReq) ∧ freeRuns ctx5 3 256 = [768] ∧
    freeRuns sync5 0 256 = [] := by decide +kernel

theorem test_sync_free : HasCmd (cmd sync5 0x0508 [9, 0, 1, 0]) 0 0x0508 (held 0x0508 [9, 0, 1, 0]) ∧ armedOn sync5 9 = false ∧
    (after (.opSyncFree 0) (cmd sync5 0x0508 [9, 0, 1, 0])).sch.sync = [] := by decide +kernel

/-! ### 14: the fabric -/

def fab (s : State) (f : Fabric → Fabric) : State := { s with fab := f s.fab }
def upLink : Link := { Link.reset with state := .up, peerChip := 3, peerInc := 2, rxSeq := 6, credits := Vector.replicate 8 64 }

/-- Chip 2 in a torus of 4 × 4 × 4; link 0 (X plus) is `k`. -/
def fabOn (k : Link) : State := fab on fun x => { x with
  chipId := some 2, inc := 1, topo := 1, dims := (4, 4, 4), links := x.links.set 0 k }

/-- A flit: FTYPE, VC byte, SEQ, ACK and a payload. -/
def flit (ft vc sq ack : Nat) (p : Bytes) : Bytes := mkFlit ft vc sq ack 0 0 0 0 p

/-- A packet from chip 3 to this one. -/
def pkt (op : Byte) (f : Packet → Packet) : Packet := f {
  op := op, flags := 0, route := 0, tclass := 0, destChip := 2, destInc := 1, srcChip := 3, srcInc := 2, tag := 77, part := 0, nparts := 1,
  status := 0, gaddr := 0, deadline := 9, len := 0, payload := [], more := false, vc := 0, link := none, flits := 0, out := none, num := 5 }

def linkAfter (i : Instr) (k : Link) : Link := linkOf (after i (fabOn k)) 0

theorem test_flit_crc : (flit 1 24 6 0 []).length = 256 ∧ (linkAfter (.dataFlit 0 (flit 1 24 6 0 []) false) upLink).rxSeq = 6 ∧
    (after (.dataFlit 0 (flit 1 24 6 0 []) false) (fabOn upLink)).out.map (fun x => match x with | .flit 0 b => fieldAt b 0 1 | _ => 9) = [3] := by
  decide +kernel

/-- 43 bytes of a WRITE of 4 bytes to chip 2: the last byte comes with the next flit. -/
def begins : Bytes := layout 43 [(0, 1, 2), (4, 2, 2), (14, 2, 4), (40, 3, 0x030201)]
def openOn (k : Link) : State := after (.dataFlit 0 (flit 1 8 6 0 begins) true) (fabOn k)

theorem test_data_flit : fieldAt (flit 1 24 6 0 [4]) 0 1 = 1 ∧ bitAt (fieldAt (flit 1 24 6 0 [4]) 1 1) 3 = true ∧
    bitAt (fieldAt (flit 1 24 6 0 [4]) 1 1) 4 = true ∧ (linkAfter (.dataFlit 0 (flit 1 24 6 0 [4]) true) upLink).rxSeq = 7 ∧
    (after (.dataFlit 0 (flit 1 24 6 0 [4]) true) (fabOn upLink)).fab.router.map (fun p => p.op) = [4] ∧
    (after (.dataFlit 0 (flit 1 24 5 0 [4]) true) (fabOn upLink)).fab.router = [] := by decide +kernel

theorem test_packet_begins : 40 ≤ (flitPayload (flit 1 8 6 0 begins)).length ∧ bitAt (fieldAt (flit 1 8 6 0 begins) 1 1) 3 = true ∧
    bitAt (fieldAt (flit 1 8 6 0 begins) 1 1) 4 = false ∧
    (openOn upLink).fab.router.map (fun p => (p.op, p.more, p.len, p.payload)) = [(2, true, 4, [1, 2, 3])] := by decide +kernel

theorem test_packet_grows : bitAt (fieldAt (flit 1 16 7 0 [4]) 1 1) 3 = false ∧ ((openOn upLink).fab.router.any fun p => p.openOn 0 0) = true ∧
    (linkOf (openOn upLink) 0).rxSeq = 7 ∧
    (after (.dataFlit 0 (flit 1 16 7 0 [4]) true) (openOn upLink)).fab.router.map (fun p => (p.more, p.payload)) = [(false, [1, 2, 3, 4])] := by
  decide +kernel

theorem test_ctrl_flit : (linkAfter (.linkCtrlFlit 0 (flit 2 0 6 0 [9, 0, 8, 0, 1]) true) upLink).peerChip = 9 ∧
    (linkAfter (.linkCtrlFlit 0 (flit 2 0 6 0 [9, 0, 8, 0, 1]) true) upLink).peerInc = 8 := by decide +kernel

def replaying (n : Nat) : Link := { upLink with replay := [(4, [1]), (5, [2])], naks := n, nakSeq := 5 }

theorem test_nak_flit : (linkAfter (.nakFlit 0 (flit 3 0 0 4 []) true) (replaying 14)).replays = 1 ∧
    (linkAfter (.nakFlit 0 (flit 3 0 0 4 []) true) (replaying 14)).replay = [(5, [2])] := by decide +kernel

theorem test_nak_down : (linkOf (fabOn { replaying 15 with replay := [(5, [2])] }) 0).nakSeq = BitVec.ofNat 16 (fieldAt (flit 3 0 0 4 []) 4 2) + 1 ∧
    seqLe 5 4 = false ∧ (linkAfter (.nakFlit 0 (flit 3 0 0 4 []) true) { replaying 15 with replay := [(5, [2])] }).cause = 2 ∧
    (linkAfter (.nakFlit 0 (flit 3 0 0 4 []) true) { replaying 15 with replay := [(5, [2])] }).downCount = 1 := by decide +kernel

theorem test_idle_flit : (linkAfter (.idleFlit 0 (flit 0 0 0 4 []) true) (replaying 0)).replay = [(5, [2])] ∧
    (after (.idleFlit 0 (flit 0 0 0 4 []) true) (fabOn (replaying 0))).out = [] := by decide +kernel

theorem test_timesync_flit : (linkAfter (.timesyncFlit 0 (flit 4 0 0 0 (List.replicate 32 7)) true) upLink).frame.map (fun f => f.1)
      = some (List.replicate 32 7) ∧
    (linkAfter (.timesyncFlit 0 (flit 4 0 0 0 []) false) upLink).tsFail = 1 := by decide +kernel

def routed1 (p : Packet) (k : Link) : State := fab (fabOn k) fun x => { x with router := [p], nextNum := 8 }

theorem test_forward_here : nextHop (routed1 (pkt 1 id) upLink) (pkt 1 id) = .here ∧ knownOps.contains 1 = true ∧
    (after (.packetForward 0) (routed1 (pkt 1 id) upLink)).fab.intake.map (fun p => p.num) = [8] ∧
    (after (.packetForward 0) (routed1 (pkt 1 fun p => { p with more := true }) upLink)).fab.intake = [] := by decide +kernel

theorem test_forward_reset : ∃ s, s.hlt.warmBegun = true ∧ nextHop s (pkt 1 id) = .here ∧ s.fab.router[0]? = some (pkt 1 id) ∧
    (after (.packetForward 0) s).fab.router = [] := by
  refine ⟨{ routed1 (pkt 1 id) upLink with hlt := { (routed1 (pkt 1 id) upLink).hlt with warmBegun := true } }, ?_⟩; decide +kernel

/-- Chip 19 (X 3, Y 1) is one X hop on from chip 2. -/
def away : Packet := pkt 1 fun p => { p with destChip := 19 }

/-- A packet of three flits, of which two have arrived. -/
def long : Packet := { away with op := 2, len := 600, payload := zeros 428, more := true }
def hop (k : Nat) : Egress := ⟨0, 0, 0, k⟩

theorem test_forward_on : nextHop (routed1 away upLink) away = .on [0] false 0 ∧ bestLink (routed1 away upLink) 0 [0] = some 0 ∧ flitCount away = 1 ∧
    channelBusy (routed1 away upLink) 0 0 = false ∧ mayLeave (routed1 away upLink) away (hop 0) = true ∧
    (linkOf (after (.packetForward 0) (routed1 away upLink)) 0).txSeq = 1 ∧
    vget (linkOf (after (.packetForward 0) (routed1 away upLink)) 0).credits 0 0 = 63 ∧
    (after (.packetForward 0) (routed1 away upLink)).fab.router = [] := by decide +kernel

/-- Cut through: the first two flits leave before the third has arrived, and the third waits for it. -/
theorem test_forward_cut : flitCount long = 3 ∧ mayLeave (routed1 long upLink) long (hop 0) = true ∧
    (after (.packetForward 0) (routed1 long upLink)).fab.router = [{ long with out := some (hop 1) }] ∧
    vget (linkOf (after (.packetForward 0) (routed1 long upLink)) 0).credits 0 0 = 61 ∧
    (∃ p, p = { long with out := some (hop 1) } ∧ mayLeave (routed1 p upLink) p (hop 1) = true ∧
      (after (.packetForward 0) (routed1 p upLink)).fab.router = [{ long with out := some (hop 2) }]) ∧
    (∃ p, p = { long with out := some (hop 2) } ∧ mayLeave (routed1 p upLink) p (hop 2) = false ∧
      (linkOf (after (.packetForward 0) (routed1 p upLink)) 0).txSeq = 0) ∧
    (∃ p, p = { long with payload := zeros 600, more := false, out := some (hop 2) } ∧ mayLeave (routed1 p upLink) p (hop 2) = true ∧
      (after (.packetForward 0) (routed1 p upLink)).fab.router = []) := by
  refine ⟨?_, ?_, ?_, ?_, ⟨_, rfl, ?_⟩, ⟨_, rfl, ?_⟩, ⟨_, rfl, ?_⟩⟩ <;> decide +kernel

theorem test_forward_waits : vget (linkOf (routed1 away { upLink with credits := Vector.replicate 8 0 }) 0).credits 0 0 < flitCount away ∧
    (after (.packetForward 0) (routed1 away { upLink with credits := Vector.replicate 8 0 })).fab.router = [away] := by decide +kernel

theorem test_forward_behind : ∃ s, channelBusy s 0 0 = true ∧ s.fab.router[0]? = some away ∧ bestLink s 0 [0] = some 0 ∧
    (linkOf (after (.packetForward 0) s) 0).txSeq = 0 := by
  refine ⟨fab (routed1 away upLink) fun x => { x with router := [away, { long with out := some (hop 1) }] }, ?_⟩; decide +kernel

theorem test_forward_drop : nextHop (routed1 away Link.reset) away = .drop ∧
    (after (.packetForward 0) (routed1 away Link.reset)).fab.routeDrop = 1 := by decide +kernel

/-- The intake holds one packet, of number 5. -/
def took (s : State) (p : Packet) : State := fab s fun x => { x with chipId := some 2, inc := 1, intake := [p], nextNum := 8 }
def answer (i : Instr) (s : State) : List (Nat × Nat) := (after i s).fab.router.map fun r => (r.op.toNat, r.status.toNat)

theorem test_served_late : late (lateDt (took ctx5 (pkt 1 id))) 9 = true ∧ answer (.ratlineRead 5) (lateDt (took ctx5 (pkt 1 id))) = [] ∧
    (after (.ratlineRead 5) (lateDt (took ctx5 (pkt 1 id)))).fab.intake = [] := by decide +kernel

theorem test_served_stale : ∀ x ∈ [((1 : Byte), Instr.ratlineRead 5), (2, .ratlineWrite 5), (3, .ratlineAdd 5), (4, .ratlineSignal 5), (5, .ratlineLookup 5)],
    answer x.2 (took ctx5 (pkt x.1 fun p => { p with destInc := 4 })) = [(0x8E, 1)] := by decide +kernel

theorem test_served_denied : remoteMay (took ctx5 (pkt 1 id)) 0 0 4 1 = false ∧
    answer (.ratlineRead 5) (took ctx5 (pkt 1 fun p => { p with payload := [4, 0, 0, 0] })) = [(0x8E, 2)] ∧
    answer (.ratlineWrite 5) (took ctx5 (pkt 2 fun p => { p with payload := [4] })) = [(0x8E, 2)] ∧
    answer (.ratlineAdd 5) (took ctx5 (pkt 3 fun p => { p with payload := [4] })) = [(0x8E, 2)] := by decide +kernel

/-- Context 5's page with REMOTE_OK. -/
def w0Rem : Nat := w0Full + 32
def remOn : State := { ctx5 with xl := { ctx5.xl with maps := [page w0Rem], l2 := on.xl.l2 } }
def g5 : Dword := BitVec.ofNat 64 (5 * 2 ^ 46 + 0x10000)

theorem test_served : ∀ x ∈ [((1 : Byte), Instr.ratlineRead 5, ([4, 0, 0, 0] : Bytes), (0 : Byte)), (2, .ratlineWrite 5, [4], 0), (3, .ratlineAdd 5, [0, 0, 0, 0], 0xB0)],
    (match intakeOf (took remOn (pkt x.1 fun p => { p with gaddr := g5, payload := x.2.2.1, flags := x.2.2.2 })) 5 with
      | some p => remoteMay remOn (gCtx p.gaddr) (gDva p) 4 1 && remoteMay remOn (gCtx p.gaddr) (gDva p) 4 2 && domainOn remOn (6 + intakeOct p)
      | none => false) = true ∧
    (after x.2.1 (took remOn (pkt x.1 fun p => { p with gaddr := g5, payload := x.2.2.1, flags := x.2.2.2 }))).fab.serving.map (fun p => p.tag) = [77] := by
  decide +kernel

theorem test_served_update : ∃ s p, intakeOf s 5 = some p ∧ p.flags.getLsbD 1 = true ∧ tableOf s (fieldAt p.payload 0 2) = some tbl ∧
    32 + rowLen tbl ≤ p.payload.length ∧ p.payload.length ≤ 32 + tbl.rowBytes ∧
    ((engineOf (after (.ratlineAddUpdateForm 5) s) 2).arriving.map fun r => (r.source, r.seq)) = [(3, 6)] := by
  refine ⟨took (tabled ctx5 tbl) (pkt 3 fun p => { p with flags := 2, payload := upd }), _, rfl, ?_⟩; decide +kernel

theorem test_served_signal : ∃ s p, intakeOf s 5 = some p ∧ p.payload.length = 8 ∧ syncOf s (p.gaddr.toNat % 8192) = some ⟨5, true, 100⟩ ∧
    gCtx p.gaddr = 5 ∧ syncOf (after (.ratlineSignal 5) s) 900 = some ⟨5, true, 107⟩ ∧ answer (.ratlineSignal 5) s = [(0x80, 0)] := by
  refine ⟨took (sch on fun x => { x with sync := [(900, ⟨5, true, 100⟩)] })
    (pkt 4 fun p => { p with gaddr := BitVec.ofNat 64 (5 * 2 ^ 46 + 900), payload := leBytes 8 7 }), _, rfl, ?_⟩; decide +kernel

/-- A LOOKUP of row 3 in bag 0, from a table with LOOKUP_OK. -/
def lkPay : Bytes := layout 32 [(0, 2, 7), (4, 4, 8), (8, 4, 1), (16, 8, 3)]
def okTbl : TableD := { tbl with flags := 8 }

theorem test_served_lookup : ∃ s p, intakeOf s 5 = some p ∧ wholeOp s p = some lkPay ∧ peerLookupOk s p lkPay = some okTbl ∧
    ((engineOf (after (.ratlineLookup 5) s) 2).intake.map fun l => (l.src, l.pos.map fun x => x.row)) = [(.peer 5, [3])] := by
  refine ⟨took (tabled ctx5 okTbl) (pkt 5 fun p => { p with gaddr := g5, payload := lkPay }), _, rfl, ?_⟩; decide +kernel

def peerAcc (k : AccKind) (d : Bytes) : Access := { mkAccess (.remote 5) (.remote 0) 0 5 0x10000 4 k d with data := d, stage := .done }
def servedOn (op : Byte) (k : AccKind) (d p : Bytes) : State :=
  accsOn (fab on fun x => { x with chipId := some 2, inc := 1, serving := [pkt op fun q => { q with payload := p }] }) [(9, peerAcc k d)]

theorem test_served_answers : (∀ x ∈ accsOf (servedOn 1 .read [6, 7, 8, 9] [4, 0, 0, 0]) (peerOwns 5), x.2.stage = .done ∧ x.2.poison = false ∧
      x.2.dest + x.2.data.length ≤ 4) ∧
    (after (.ratlineRead 5) (servedOn 1 .read [6, 7, 8, 9] [4, 0, 0, 0])).fab.router.map (fun r => (r.op, r.payload)) = [(0x81, [6, 7, 8, 9])] ∧
    answer (.ratlineWrite 5) (servedOn 2 .write [6, 7, 8, 9] [6, 7, 8, 9]) = [(0x80, 0)] ∧
    answer (.ratlineAdd 5) (servedOn 3 (.add 11) [6, 7, 8, 9] [6, 7, 8, 9]) = [(0x80, 0)] := by decide +kernel

/-- Tracker 77 serves access 4, a read of 4 bytes. -/
def remAcc : Access := acc4 (.remote 77)
def tracked : State := accOn (fab on fun x => { x with chipId := some 2, inc := 1, trackers := [(77, ⟨0, .access 4, 3, 1, 9, true⟩)] }) remAcc
def came (op st : Byte) (p : Bytes) : State := fab tracked fun x => { x with intake := [pkt op fun q => { q with payload := p, status := st, srcInc := 1 }] }
def stageAfter (i : Instr) (s : State) : Option AccStage := (accOf (after i s) 4).map fun a => a.stage

theorem test_responses : AccDistinct (came 0x81 0 [1, 2, 3, 4]) ∧ Owned (came 0x81 0 [1, 2, 3, 4]) 4 remAcc ∧
    (trackerOf (came 0x81 0 [1, 2, 3, 4]) (pkt 0x81 fun q => { q with srcInc := 1 })).isSome = true ∧
    stageAfter (.readData 5) (came 0x81 0 [1, 2, 3, 4]) = some .done ∧
    (accOf (after (.readData 5) (came 0x81 0 [1, 2, 3, 4])) 4).map (fun a => a.data) = some [1, 2, 3, 4] ∧
    stageAfter (.ack 5) (came 0x80 4 []) = some (.failed .memory) ∧ stageAfter (.ack 5) (came 0x80 0 []) = some .done ∧
    stageAfter (.pooled 5) (came 0x85 0 []) = some .done ∧
    stageAfter (.refused 5) (came 0x8E 2 []) = some (.failed (.xlate 6)) ∧ (after (.refused 5) (came 0x8E 2 [])).fab.trackers = [] := by
  decide +kernel

theorem test_response_unknown : ∃ s p, intakeOf s 5 = some p ∧ trackerOf s p = none ∧ (after (.ack 5) s).fab.intake = [] ∧
    (after (.ack 5) s).fab.trackers.length = 1 := by
  refine ⟨fab tracked fun x => { x with intake := [pkt 0x80 fun q => { q with tag := 78, srcInc := 1 }] }, _, rfl, ?_⟩; decide +kernel

/-- SRC_INC of a response is the origin's number: one with another number is of an earlier start of this chip. -/
theorem test_response_stale : trackerOf tracked (pkt 0x80 id) = none := by decide +kernel

theorem test_remote_timeout : passed (lateDt tracked) 9 = true ∧ stageAfter (.remoteTimeoutFire 77) (lateDt tracked) = some (.failed .timeout) ∧
    passed tracked 9 = false ∧ stageAfter (.remoteTimeoutFire 77) tracked = some (.remote 77) := by decide +kernel

/-! ### Links and the fabric opcodes -/

theorem test_link_loss : mpServes (fabOn upLink) = true ∧ (linkAfter (.ratlineLinkLoss 0 .signal) upLink).state = .training ∧
    (linkAfter (.ratlineLinkLoss 0 .serdesOff) upLink).state = .down ∧ (linkAfter (.ratlineLinkLoss 0 .serdesOff) upLink).cause = 3 ∧
    (linkAfter (.ratlineLinkLoss 0 .signal) upLink).downCount = 1 := by decide +kernel

def retraining : Link := { upLink with state := .training, retrain := true }

theorem test_link_retrain : domainOn (fabOn retraining) (linkDomain 0) = true ∧
    (linkAfter (.ratlineLinkRetrainDone 0 (.trained 3 9 0)) retraining).state = .up ∧
    (linkAfter (.ratlineLinkRetrainDone 0 (.trained 3 9 0)) retraining).rxSeq = 0 ∧
    (linkAfter (.ratlineLinkRetrainDone 0 (.trained 4 9 0)) retraining).cause = 4 ∧
    (linkAfter (.ratlineLinkRetrainDone 0 .failed) retraining).state = .fault := by decide +kernel

def upReq : Bytes := [0, 0, 0, 0]
def trainOn : State := { fabOn { Link.reset with state := .training, chan := some 0 } with
  mbx := { on.mbx with chans := on.mbx.chans.set 0 { MbxChan.reset 0 with busy := true, ack := true, cmd := some { held 0x0702 upReq with begun := true } } } }

/-- Chip 3 is X plus of chip 2; chip 4 is not. -/
theorem test_training_end : peerExpected trainOn 0 3 = true ∧ peerExpected trainOn 0 4 = false ∧
    status (after (.linkTrainingEnd 0 (.trained 3 9 0)) trainOn) = some 0 ∧ resp (after (.linkTrainingEnd 0 (.trained 3 9 0)) trainOn) 0 4 = 0x90003 ∧
    (linkOf (after (.linkTrainingEnd 0 (.trained 4 9 0)) trainOn) 0).cause = 4 ∧
    status (after (.linkTrainingEnd 0 .failed) (upBy (msUp 500) trainOn)) = some 0x0B ∧
    status (after (.linkTrainingEnd 0 .failed) (upBy (msUp 499) trainOn)) = none := by decide +kernel

theorem test_link_up : HasCmd (cmd (fabOn Link.reset) 0x0702 upReq) 0 0x0702 (held 0x0702 upReq) ∧
    (linkOf (after (.opLinkUp 0) (cmd (fabOn Link.reset) 0x0702 upReq)) 0).state = .training ∧
    (linkOf (after (.opLinkUp 0) (cmd (fabOn { Link.reset with state := .fault }) 0x0702 upReq)) 0).chan = some 0 := by decide +kernel

theorem test_op_link_down : (linkOf (after (.opLinkDown 0) (cmd (fabOn upLink) 0x0703 upReq)) 0).state = .down ∧
    status (after (.opLinkDown 0) (cmd (fabOn upLink) 0x0703 upReq)) = some 0 ∧
    (linkOf (after (.opLinkDown 0) (cmd (fabOn { Link.reset with state := .fault }) 0x0703 upReq)) 0).state = .down := by decide +kernel

theorem test_chip_id : linksBusy on = false ∧ linksBusy (fabOn upLink) = true ∧ (after (.opChipIdSet 0) (st 0x0701 [0xFF, 0xF, 0, 0])).fab.chipId = some 0xFFF ∧
    status (after (.opChipIdSet 0) (cmd (fabOn upLink) 0x0701 [9, 0, 0, 0])) = some 5 := by decide +kernel

def torusReq : Bytes := [1, 16, 16, 16] ++ zeros 108
def fullReq : Bytes := [3, 1, 1, 1] ++ zeros 12 ++ leBytes 2 9 ++ List.replicate 46 0xFF ++ List.replicate 48 0xFF

theorem test_route_set : ((torusChk (held 0x0704 torusReq)).all fun x => !x.1) = true ∧
    (after (.opRouteSet 0) (st 0x0704 torusReq)).fab.dims = (16, 16, 16) ∧
    ((fullChk (st 0x0704 fullReq) (held 0x0704 fullReq)).all fun x => !x.1) = true ∧
    (after (.opRouteSet 0) (st 0x0704 fullReq)).fab.peers[0] = 9 ∧ (after (.opRouteSet 0) (st 0x0704 fullReq)).fab.peers[1] = 0xFFFF ∧
    (after (.opRouteSet 0) (st 0x0704 (zeros 112))).fab.topo = 0 ∧ status (after (.opRouteSet 0) (st 0x0704 (zeros 112))) = some 0 := by decide +kernel

theorem test_remote_timeout_set : ∀ t ∈ [0, 1, 2], HasCmd (st 0x0705 (leBytes 4 t ++ leBytes 4 100000)) 0 0x0705 (held 0x0705 (leBytes 4 t ++ leBytes 4 100000)) ∧
    remoteUs (after (.opRemoteTimeout 0) (st 0x0705 (leBytes 4 t ++ leBytes 4 100000))) (BitVec.ofNat 8 t) = 100000 ∧
    status (after (.opRemoteTimeout 0) (st 0x0705 (leBytes 4 t ++ leBytes 4 9))) = some 4 := by decide +kernel

theorem test_fabric_status : status (after (.opFabricStatus 0) (cmd (fabOn upLink) 0x0706 [])) = some 0 ∧
    resp (after (.opFabricStatus 0) (cmd (fabOn upLink) 0x0706 [])) 0 6 = 2 + 2 ^ 16 + 2 ^ 32 + 2 ^ 40 ∧
    resp (after (.opFabricStatus 0) (cmd (fabOn upLink) 0x0706 [])) 16 1 = 2 := by decide +kernel

/-! ### 15: resets, health and the dump -/

def hlt (s : State) (f : Health → Health) : State := { s with hlt := f s.hlt }
def sec_ (s : State) (f : Security → Security) : State := { s with sec := f s.sec }

/-- A queue, a thread that runs, a tracker and a command: what a warm reset ends. -/
def busyOn : State := fab (queued (cmd (runs [0] (ab 0 0) id) 0x0002 []) rq0) fun x => { x with trackers := [(77, ⟨0, .access 4, 3, 1, 9, true⟩)] }

theorem test_flr : busyOn.hl.link.speed ≠ 0 ∧ busyOn.sec.phase = 4 ∧ mpServes busyOn = true ∧ (after .flr busyOn).hlt.warm = some .flr ∧
    (after .flr busyOn).hl.cfg.bme = false ∧ (after .flr busyOn).hl.link.speed = 5 ∧ (after .flr busyOn).fab.trackers = [] ∧
    (coreOf (after .flr busyOn) 3).stage.isNone = true ∧ (chan (after .flr busyOn) 0).cmd.isNone = true ∧
    status (after .flr busyOn) = some 12 := by
  decide +kernel

theorem test_perst : (after .perstNAssert busyOn).hlt.warm = some .perst ∧ (after .perstNAssert busyOn).hl.link.speed = 0 ∧
    (after .perstNAssert (hlt busyOn fun h => { h with warm := some .flr })).hlt.warm = some .flr := by decide +kernel

/-- Firmware runs from before READY on, and an FLR then is a warm reset too; PERST_N is one only once READY. -/
def early (b : Bool) : State := sec_ busyOn fun x => { x with phase := 3, fwStarted := b }

theorem test_flr_early : NoFills (early true) ∧ mpServes (early true) = true ∧ (after .flr (early true)).hlt.warm = some .flr ∧
    (after .flr (early true)).fab.trackers = [] ∧ mpServes (early false) = false ∧ (after .flr (early false)).hlt.warm = none ∧
    (after .flr (early false)).fab.trackers.length = 1 ∧ (after .perstNAssert (early true)).hlt.warm = none ∧
    (after .perstNAssert (early true)).hl.link.speed = 0 := by decide +kernel

theorem test_flr_hung : mpServes (hlt busyOn fun h => { h with mpHung := true }) = false ∧
    (after .flr (hlt busyOn fun h => { h with mpHung := true })).hlt.warm = some .flr ∧
    (coreOf (after .flr (hlt busyOn fun h => { h with mpHung := true })) 3).stage.isSome = true := by decide +kernel

theorem test_flr_no_link : (hlOn fun h => { h with link := { h.link with speed := 0 } }).hl.link.speed = 0 ∧
    (after .flr (hlOn fun h => { h with link := { h.link with speed := 0 } })).hlt.warm = none := by decide +kernel

def resetReq : State := cmd busyOn 0x0902 [0, 0, 0, 0]

theorem test_chip_reset : HasCmd resetReq 0 0x0902 (held 0x0902 [0, 0, 0, 0]) ∧ resetReq.hlt.warm = none ∧ resetReq.hl.reads = [] ∧
    (after (.opChipReset 0) resetReq).hlt.warm = some (.command 0) ∧ (after (.opChipReset 0) resetReq).hl.cfg.bme = true ∧
    (chan (after (.opChipReset 0) resetReq) 0).cmd.isSome = true := by decide +kernel

/-- The warm reset of an OP_CHIP_RESET. -/
def warmed : State := hlt (withCmd (queued on rq0) { held 0x0902 [0, 0, 0, 0] with begun := true }) fun h => { h with warm := some (.command 0), warmBegun := true }

theorem test_warm_reset : warmed.hlt.warm = some (.command 0) ∧ warmed.hlt.warmBegun = true ∧ mpServes warmed = true ∧ (after .warmReset warmed).hlt.warm = none ∧
    (after .warmReset warmed).hlt.warmResets = 1 ∧ (after .warmReset warmed).sch.queues = [] ∧ (after .warmReset warmed).fab.inc = 2 ∧
    status (after .warmReset warmed) = some 0 ∧ resp (after .warmReset warmed) 0 4 = 2 ∧
    (after .warmReset (fab warmed fun x => { x with inc := 0xFFFF })).fab.inc = 1 := by decide +kernel

theorem test_cold_reset : ∀ i ∈ [Instr.coldReset (.pin 10), .coldReset .rail, .coldReset .debug, .dbgColdReqWrite 0xC01D,
      .railUndervoltage .vddAon 1000, .railUndervoltage .vddSerdes 1000],
    (after i busyOn).sec.cold = true ∧ (after i busyOn).sch.queues = [] ∧ (after i busyOn).sec.phase = 0 ∧
    (after i (sec_ busyOn fun x => { x with svnMin := 7, incRec := 9 })).sec.svnMin = 7 ∧
    (after i (sec_ busyOn fun x => { x with svnMin := 7, incRec := 9 })).fab.inc = busyOn.fab.inc := by decide +kernel

theorem test_cold_short : ∀ i ∈ [Instr.coldReset (.pin 9), .dbgColdReqWrite 0xC01E, .railUndervoltage .vddAon 999],
    (after i busyOn).sec.cold = false ∧ (after i busyOn).sch.queues.length = 1 := by decide +kernel

theorem test_heartbeat : on.sec.fwStarted = true ∧ on.hlt.mpHung = false ∧ on.hlt.beatAt + msUp 10 ≤ (upBy (msUp 10) on).tb.up ∧
    (after (.heartbeat none) (upBy (msUp 10) on)).hlt.heartbeat = 1 ∧ (after (.heartbeat none) (upBy (msUp 9) on)).hlt.heartbeat = 0 := by
  decide +kernel

/-- Unit 2 reports code 7: an FW_ERROR of SUBTYPE 0x0600 in the log. -/
theorem test_heartbeat_check : on.sec.fwStarted = true ∧ on.hlt.mpHung = false ∧ on.mbx.ring = none ∧ on.hl.posts = [] ∧
    (after (.heartbeat (some (2, 7))) on).mbx.log.map (fun e => (e.typ, e.sev, e.seq, e.data)) =
      [(0x0009, 2, 1, layout 16 [(0, 2, 0x0600), (2, 1, 2), (4, 4, 7)])] := by decide +kernel

theorem test_heartbeat_config : HasCmd (st 0x0903 [100, 0, 0, 0]) 0 0x0903 (held 0x0903 [100, 0, 0, 0]) ∧
    (after (.opHeartbeatConfig 0) (st 0x0903 [100, 0, 0, 0])).hlt.hbPeriod = 100 ∧
    resp (after (.opHeartbeatConfig 0) (st 0x0903 [100, 0, 0, 0])) 0 4 = 10 ∧
    status (after (.opHeartbeatConfig 0) (st 0x0903 [101, 0, 0, 0])) = some 4 := by decide +kernel

theorem test_capture : hostDecode on = true ∧ (after .capture on).hlt.dbgBusy = true ∧ (after .capture (after .capture on)).hlt.dbgBusy = true ∧
    (after .captureDone (after .capture on)).hlt.dbgDone = true ∧ (after .captureDone (after .capture on)).hlt.captures = 1 ∧
    (after .captureDone on).hlt.captures = 0 ∧ (after .freeze on).sch.frozen = true := by decide +kernel

def dumpReq : Bytes := layout 16 [(0, 8, 0x100000), (8, 4, 323840)]
def dumpOn (p : Nat) : State := withCmd on { held 0x0901 dumpReq with begun := p != 0, progress := p }

theorem test_dump : HasCmd (dumpOn 0) 0 0x0901 (held 0x0901 dumpReq) ∧ dumpReach (dumpOn 0) 0x100100 8192 = true ∧ dumpReach (dumpOn 7) (0x100000 + 0x3F100) 65536 = true ∧
    (chan (after (.opDump 0) (dumpOn 0)) 0).cmd.map (fun k => k.progress) = some 2 ∧
    status (after (.opDump 0) (dumpOn 8)) = some 0 ∧ resp (after (.opDump 0) (dumpOn 8)) 0 4 = 323840 := by decide +kernel

theorem test_dump_fault : ∃ s, hostUp s = false ∧ HasCmd s 0 0x0901 (held 0x0901 dumpReq) ∧ status (after (.opDump 0) s) = some 9 := by
  refine ⟨cmd (hlOn fun h => { h with cfg := { h.cfg with bme := false } }) 0x0901 dumpReq, ?_⟩; decide +kernel

/-! ### 16: power and reefing -/

def pwr (f : Power → Power) : State := { on with pwr := f on.pwr }
def oct0 (f : Octant → Octant) : State := pwr fun p => { p with octs := p.octs.set 0 (f p.octs[0]) }

/-- Demand 1 from 105 °C, 7 from 112.5 °C; a level leaves 2 degrees below where it began. -/
theorem test_hotspot : (octState (after (.hotspotTemperatureChange 0 1679) on) 0).hotDemand = 0 ∧
    (octState (after (.hotspotTemperatureChange 0 1680) on) 0).hotDemand = 1 ∧
    (octState (after (.hotspotTemperatureChange 0 1800) on) 0).hotDemand = 7 ∧
    (octState (after (.hotspotTemperatureChange 0 1648) (oct0 fun o => { o with hotDemand := 1 })) 0).hotDemand = 1 ∧
    (octState (after (.hotspotTemperatureChange 0 1647) (oct0 fun o => { o with hotDemand := 1 })) 0).hotDemand = 0 ∧
    (octState (after (.hotspotTemperatureChange 0 1840) (oct0 fun o => { o with level := 7 })) 0).hotHold = true ∧
    (octState (after (.hotspotTemperatureChange 0 1759) (oct0 fun o => { o with hotHold := true })) 0).hotHold = false ∧
    (octState (after (.hotspotTemperatureChange 0 1760) (oct0 fun o => { o with hotHold := true })) 0).hotHold = true := by decide +kernel

theorem test_power_sample : (after (.powerSample 1301) on).pwr.powerDemand = 1 ∧ (after (.powerSample 1300) on).pwr.powerDemand = 0 ∧
    (after (.powerSample 1260) (pwr fun p => { p with lowMs := 9, powerDemand := 2 })).pwr.powerDemand = 1 ∧
    (after (.powerSample 1261) (pwr fun p => { p with lowMs := 9, powerDemand := 2 })).pwr.lowMs = 0 ∧
    (after (.powerSample 1260) (pwr fun p => { p with lowMs := 8 })).pwr.lowMs = 9 := by decide +kernel

theorem test_pwr_cap : on.pwr.capLevel = 4 ∧ octDemand (after (.pwrCapNChange true) on) 7 = 4 ∧ octDemand (after (.pwrCapNChange false) on) 7 = 0 := by
  decide +kernel

theorem test_overcurrent : (after (.overcurrent 1401) on).pwr.iccDemand = 1 ∧
    (after (.overcurrent 1401) (upBy (usUp 10) (pwr fun p => { p with iccAt := some 0, iccDemand := 1 }))).pwr.iccDemand = 2 ∧
    (after (.overcurrent 1401) (upBy (usUp 9) (pwr fun p => { p with iccAt := some 0, iccDemand := 1 }))).pwr.iccDemand = 1 ∧
    (after (.overcurrent 1357) (upBy (msUp 10) (pwr fun p => { p with iccLow := some 0, iccDemand := 1 }))).pwr.iccDemand = 0 ∧
    (after (.overcurrent 1358) (upBy (msUp 10) (pwr fun p => { p with iccLow := some 0, iccDemand := 1 }))).pwr.iccDemand = 1 := by decide +kernel

theorem test_reef_step : octDemand (oct0 fun o => { o with hotDemand := 5 }) 0 = 5 ∧
    (octState (after (.reefLevelStep 0) (oct0 fun o => { o with hotDemand := 5 })) 0).level = 5 ∧
    (octState (after (.reefLevelStep 0) (upBy (msUp 10) (oct0 fun o => { o with level := 5, lowerSince := some 0 }))) 0).level = 4 ∧
    (octState (after (.reefLevelStep 0) (upBy (msUp 9) (oct0 fun o => { o with level := 5, lowerSince := some 0 }))) 0).level = 5 ∧
    (octState (after (.reefLevelStep 0) (pwr fun p => { p with boostEn := 1 })) 0).boosted = true ∧
    (octState (after (.reefLevelStep 0) (oct0 fun o => { o with boosted := true })) 0).boosted = false := by decide +kernel

def limitReq : Bytes := layout 8 [(0, 2, 300), (2, 1, 7), (4, 2, 1500)]

theorem test_power_limit : HasCmd (st 0x0801 limitReq) 0 0x0801 (held 0x0801 limitReq) ∧ Reserved (held 0x0801 limitReq) [3, 6, 7] ∧
    (after (.opPowerLimit 0) (st 0x0801 limitReq)).pwr.limitW = 300 ∧ resp (after (.opPowerLimit 0) (st 0x0801 limitReq)) 0 2 = 1300 ∧
    (after (.opPowerLimit 0) (st 0x0801 limitReq)).pwr.capLevel = 7 := by decide +kernel

theorem test_reef_status : status (after (.opReefStatus 0) (cmd (oct0 fun o => { o with level := 5 }) 0x0802 [])) = some 0 ∧
    resp (after (.opReefStatus 0) (cmd (oct0 fun o => { o with level := 5 }) 0x0802 [])) 0 4 = 5 ∧
    resp (after (.opReefStatus 0) (cmd on 0x0802 [])) 36 4 = 1300 * 65536 := by decide +kernel

theorem test_domain : mayOff on 29 = true ∧ mayOff on 6 = false ∧ domainOn (after (.opDomainPower 0 []) (st 0x0803 [29, 0, 0, 0])) 29 = false ∧
    resp (after (.opDomainPower 0 []) (st 0x0803 [29, 0, 0, 0])) 0 4 = 2 ^ 29 - 1 ∧ status (after (.opDomainPower 0 []) (st 0x0803 [6, 0, 0, 0])) = some 5 ∧
    status (after (.opDomainPower 0 []) (st 0x0803 [2, 0, 0, 0])) = some 4 ∧
    domainOn (after (.opDomainPower 0 []) (cmd (pwr fun p => { p with domains := 0x1FFFFFFF }) 0x0803 [29, 1, 0, 0])) 29 = true := by decide +kernel

theorem test_boost : (after (.opBoost 0) (st 0x0804 [0xFF, 0, 0, 0])).pwr.boostEn = 0xFF ∧ status (after (.opBoost 0) (st 0x0804 [0xFF, 0, 0, 0])) = some 0 := by
  decide +kernel

theorem test_thermal_read : HasCmd (cmd (oct0 fun o => { o with towerT := -16, hotT := 1680 }) 0x0805 []) 0 0x0805 (held 0x0805 []) ∧
    pwrTemp (oct0 fun o => { o with towerT := -16, hotT := 1680 }) 0 = 1680 * 65536 + 0xFFF0 := by decide +kernel

/-! ### 17: boot, update, life cycle -/

theorem test_boot : ∀ f ∈ [true, false], State.reset.sec.cold = true ∧
    (after (.boot ⟨true, f, 2, false⟩) State.reset).sec.cold = false ∧ (after (.boot ⟨true, f, 2, false⟩) State.reset).sec.addrSel = 2 ∧
    (after (.boot ⟨true, f, 2, false⟩) State.reset).sec.phase = (if f then 0 else 9) ∧ (after (.boot ⟨false, f, 2, false⟩) State.reset).sec.cold = true := by
  decide +kernel

def pending1 : State := sec_ State.reset fun x => { x with lifecycle := 0, lcPending := true, lcTarget := 1, lcKeyHash := [7], dik := [1] }

theorem test_boot_pending : (after (.boot ⟨true, true, 0, false⟩) pending1).sec.lifecycle = 1 ∧ (after (.boot ⟨true, true, 0, false⟩) pending1).sec.ownerHash = [7] ∧
    (after (.boot ⟨true, true, 0, false⟩) pending1).sec.dik = [] ∧ (after (.boot ⟨true, true, 0, false⟩) pending1).sec.lcPending = false := by decide +kernel

/-- An image of one body byte. What its authentication rests on beyond the header is cryptographic. -/
def img : Bytes := layout 4097 [(0, 4, 0x50464E59), (12, 4, 1)]
def offState : State := sec_ State.reset fun x => { x with cold := false }

theorem test_image : imageOk (sec_ offState fun x => { x with lifecycle := 0 }) img =
    (decide (Config.sha384 (cut img 64 96) = Config.ubtenKeyHash) && Config.ecdsaVerify (cut img 64 96) (Config.sha384 (img.take 160)) (cut img 160 96)
      && decide (Config.sha384 (cut img 4096 1) = cut img 16 48)) := by
  simp only [imageOk, authHash, sec_, offState]
  simp [show fieldAt img 12 4 = 1 by decide +kernel, show fieldAt img 0 4 = 0x50464E59 by decide +kernel]

theorem test_recovery : Awake offState ∧ offState.sec.phase = 0 ∧ offState.hlt.mpHung = false ∧ (∀ b : Bool, imageOk offState (slotBytes offState b) = false) ∧
    (after .firmwareStart offState).sec.phase = 8 ∧ (after .firmwareStart offState).sec.fwStarted = false := by decide +kernel

def training : State := sec_ offState fun x => { x with fwStarted := true, loopDone := true, phase := 3 }

theorem test_tower_training : (after (.towerTrainingDone false []) training).sec.failCode = 1 ∧ (after (.towerTrainingDone true []) training).fab.inc = 2 ∧
    (after (.towerTrainingDone true []) training).sec.incRec = 2 ∧ (after (.towerTrainingDone true []) training).tw.ports[3].enabled = true := by decide +kernel

theorem test_boot_ready : (after .bootReady (sec_ training fun x => { x with calDone := true, towersUp := true })).sec.phase = 4 ∧
    (after .bootReady (sec_ training fun x => { x with towersUp := true })).sec.phase = 3 := by decide +kernel

def beginReq : Bytes := layout 8 [(0, 4, 2 ^ 24)]
def session (s : State) (x : FwSession) : State := { s with mbx := { s.mbx with session := some x } }

theorem test_fw_begin : HasCmd (st 0x0A01 beginReq) 0 0x0A01 (held 0x0A01 beginReq) ∧ resp (after (.opFwUpdateBegin 0) (st 0x0A01 beginReq)) 0 4 = 1 ∧
    (after (.opFwUpdateBegin 0) (st 0x0A01 beginReq)).mbx.session = some ⟨0, true, 2 ^ 24, 0, 0⟩ ∧
    status (after (.opFwUpdateBegin 0) (session (st 0x0A01 beginReq) ⟨1, true, 5000, 0, 0⟩)) = some 1 := by decide +kernel

def dataReq : Bytes := layout 8 [(0, 4, 3), (4, 2, 2)] ++ [8, 9]

theorem test_fw_data : ∃ s, s.mbx.session = some ⟨0, true, 5, 3, 0⟩ ∧ HasCmd s 0 0x0A02 (held 0x0A02 dataReq) ∧
    slotBytes (after (.opFwUpdateData 0) s) true = [0, 0, 0, 8, 9] ∧ slotBytes (after (.opFwUpdateData 0) s) false = [] ∧
    (after (.opFwUpdateData 0) s).mbx.session = some ⟨0, true, 5, 5, 0⟩ := by
  refine ⟨session (sec_ (st 0x0A02 dataReq) fun x => { x with flashB := [0, 0, 0] }) ⟨0, true, 5, 3, 0⟩, ?_⟩; decide +kernel

theorem test_fw_commit : (∀ n ∈ [3, 5], imageOk (session (st 0x0A03 [1, 0, 0, 0]) ⟨0, true, 5, n, 0⟩) [] = false) ∧
    status (after (.opFwUpdateCommit 0) (session (st 0x0A03 [1, 0, 0, 0]) ⟨0, true, 5, 3, 0⟩)) = some 5 ∧
    status (after (.opFwUpdateCommit 0) (session (st 0x0A03 [1, 0, 0, 0]) ⟨0, true, 5, 5, 0⟩)) = some 10 := by decide +kernel

/-- ADVANCE from DEPLOYED to RETURNED; a nonce of 9 stands. -/
def advReq (n : Nat) : Bytes := layout 256 [(0, 1, 3), (8, 8, n)]
def advOn (n : Nat) : State := cmd (sec_ on fun x => { x with nonce := some 9, ak := [4] }) 0x0A04 (advReq n)

theorem test_advance : HasCmd (advOn 8) 0 0x0A04 (held 0x0A04 (advReq 8)) ∧ advanceOk (advOn 8) (held 0x0A04 (advReq 8)) = false ∧
    status (after (.opLifecycleAdvance 0) (advOn 8)) = some 10 ∧ (after (.opLifecycleAdvance 0) (advOn 8)).sec.nonce = none ∧
    status (after (.opLifecycleAdvance 0) (st 0x0A04 (layout 256 [(0, 1, 2)]))) = some 4 := by decide +kernel

def completing : State := withCmd (sec_ on fun x => { x with lcPending := true, lcTarget := 3, ak := [4], sealedValid := true })
  { held 0x0A04 (advReq 9) with begun := true }

theorem test_advance_end : completing.sec.lcPending = true ∧ (after (.opLifecycleAdvance 0) completing).sec.lifecycle = 3 ∧
    (after (.opLifecycleAdvance 0) completing).sec.ak = [] ∧ status (after (.opLifecycleAdvance 0) completing) = some 0 := by decide +kernel

theorem test_lifecycle_status : HasCmd (st 0x0A05 []) 0 0x0A05 (held 0x0A05 []) ∧ (after (.opLifecycleStatus 0) (st 0x0A05 [])).sec.nonce.isSome = true := by decide +kernel

theorem test_attest : (sec_ on fun x => { x with sealedValid := true }).sec.lifecycle ≠ 3 ∧
    HasCmd (cmd (sec_ on fun x => { x with sealedValid := true }) 0x0A06 (zeros 32)) 0 0x0A06 (held 0x0A06 (zeros 32)) ∧
    status (after (.opAttest 0) (st 0x0A06 (zeros 32))) = some 5 := by decide +kernel

theorem test_tamper : on.sec.tamperNow = false ∧ (after (.tamper 1000) (sec_ on fun x => { x with dik := [1], tamperFuses := 31 })).sec.dik = [] ∧
    (after (.tamper 1000) (sec_ on fun x => { x with tamperFuses := 31 })).sec.tamperFuses = 32 ∧
    (after (.tamper 1000) (sec_ on fun x => { x with tamperFuses := 32 })).sec.tamperFuses = 32 ∧
    (after (.tamper 1000) on).mbx.log.length = 1 ∧ (after (.tamper 99) on).sec.tamperNow = false ∧
    (after .tamperNRelease (after (.tamper 1000) on)).sec.tamperNow = false := by decide +kernel

theorem test_jtag : (after (.jtagInstruction .extest) on).sec.jtag = .extest ∧ (after (.jtagInstruction (.other 9)) on).sec.jtag = .bypass ∧
    (after (.jtagInstruction (.other 9)) (sec_ on fun x => { x with lifecycle := 3 })).sec.jtag = .other 9 := by decide +kernel

/-! ### What every state keeps -/

theorem test_memory_frame : Memory.wf mem3.tw.cells = true ∧ cellOf mem3 3 = some 3 ∧ cellOf mem3 0 = some 0 ∧
    (after (.bar4Write 3 [some 1, none] false [(0, .corrected)]) mem3).tw.cells = [(3, 1)] ∧
    memGet (after (.cxlMemWrite 0 (List.replicate 64 (some 5)) false .none) mem3).tw.cells 64 = 0 ∧
    (after (.bar4Write 63 [some 1] false []) mem3).tw.cells = [(3, 9), (63, 1)] := by decide +kernel

theorem test_reset_inv : Inv State.reset := by decide +kernel
theorem test_reset_memories : MemoriesOk State.reset := by decide +kernel
end Sys2Proof.Tests
end

/-! ## 00, 05, 06: host writes of BAR0 (the statement of O11) -/

namespace Sys2Proof.Machine

/-! ### A host access with decode on and off (06 R434) -/

theorem runs_barWrite {i : Instr} {s : State} {P : State → Prop} {f : State → State} (e : exec i s = barWrite s f)
    (h : Awake s) (d : hostDecode s = true) (p : P (f s)) : Runs i s P :=
  ⟨f s, e.trans (barWrite_on h d f), p⟩

theorem runs_barWrite_off {i : Instr} {s : State} {f : State → State} (e : exec i s = barWrite s f)
    (d : hostDecode s = false) : Runs i s fun t => t = s :=
  ⟨s, e.trans (barWrite_off d f), rfl⟩

theorem runs_barRead_off {i : Instr} {s : State} {f : State → State} (e : exec i s = barRead s f)
    (h : Awake s) (d : hostDecode s = false) : Runs i s fun t => t = { s with out := s.out ++ [.unsupported] } :=
  ⟨emit s .unsupported, e.trans (barRead_off h d f), rfl⟩

/-! ### Bytes and channels -/

theorem leBytes_add (m n v : Nat) : leBytes (m + n) v = leBytes m v ++ leBytes n (v / 256 ^ m) := by
  induction m generalizing v with
  | zero => simp [leBytes]
  | succ m ih => rw [Nat.succ_add_eq_add_succ, Nat.add_succ, leBytes, ih, leBytes, Nat.div_div_eq_div_mul, Nat.pow_succ']; rfl

theorem leBytes_mod_pow (n v : Nat) : leBytes n (v % 256 ^ n) = leBytes n v := by
  induction n generalizing v with
  | zero => rfl
  | succ n ih =>
    have low : BitVec.ofNat 8 (v % 256 ^ (n + 1)) = BitVec.ofNat 8 v := by
      apply BitVec.eq_of_toNat_eq
      simp [Nat.pow_succ']
    have high : v % 256 ^ (n + 1) / 256 = v / 256 % 256 ^ n := by
      rw [Nat.pow_succ', Nat.mod_mul_right_div_self]
    rw [leBytes, leBytes, low, high, ih]

/-- A 64-bit value is its two 32-bit words, the lower one first (00 R6). -/
theorem leBytes_words (v : Dword) :
    leBytes 4 (v.setWidth 32).toNat ++ leBytes 4 (v.extractLsb' 32 32).toNat = leBytes 8 v.toNat := by
  have low := leBytes_mod_pow 4 v.toNat
  have high := leBytes_mod_pow 4 (v.toNat / 2 ^ 32)
  rw [leBytes_add 4 4, ← low, show (256 : Nat) ^ 4 = 2 ^ 32 from rfl, ← high]
  simp [Nat.shiftRight_eq_div_pow]

theorem memWrite_append (m : Mem) (a : Nat) (x y : Bytes) :
    memWrite m a (x ++ y) = memWrite (memWrite m a x) (a + x.length) y := by
  induction x generalizing m a with
  | nil => rfl
  | cons b r ih => simp only [List.cons_append, memWrite, ih, List.length_cons, Nat.add_assoc, Nat.add_comm 1]

@[simp] theorem chan_modChan (s : State) (c : Chan) (f : MbxChan → MbxChan) : chan (modChan s c f) c = f (chan s c) := by
  simp [chan, modChan]

theorem modChan_modChan (s : State) (c : Chan) (f g : MbxChan → MbxChan) :
    modChan (modChan s c f) c g = modChan s c fun ch => g (f ch) := by
  simp [modChan]

/-! ### The registers a plain write reaches (05 R116, 06 R137, R142) -/

/-- The bytes `b` written from offset `o` of a channel's request area. -/
def putReq (s : State) (c : Chan) (o : Nat) (b : Bytes) : State :=
  modChan s c fun ch => { ch with req := memWrite ch.req o b }

theorem chan_putReq (s : State) (c : Chan) (o : Nat) (b : Bytes) :
    chan (putReq s c o b) c = { chan s c with req := memWrite (chan s c).req o b } :=
  chan_modChan s c _

theorem putReq_putReq (s : State) (c : Chan) (o : Nat) (x y : Bytes) :
    putReq (putReq s c o x) c (o + x.length) y = putReq s c o (x ++ y) := by
  simp only [putReq, modChan_modChan, memWrite_append]

/-- The written bytes of a request area read back, and the others are as they were. -/
theorem putReq_reads {s : State} {c : Chan} (w : Memory.wf (chan s c).req = true) (o : Nat) (b : Bytes) :
    memRead (chan (putReq s c o b) c).req o b.length = b ∧
      ∀ a, (a < o ∨ o + b.length ≤ a) → memGet (chan (putReq s c o b) c).req a = memGet (chan s c).req a := by
  rw [chan_putReq]
  exact ⟨memRead_memWrite w o b, memGet_memWrite_other w o b⟩

/-- Offset `o` of host channel `c`'s page of BAR0. -/
def mbxOff (c : Fin 16) (o : Nat) : Nat := 0x10000 + 0x1000 * c.val + o

/-- An offset inside a channel's page lies in the MBX block and names the channel and the place. -/
theorem mbxOff_parts (c : Fin 16) {o : Nat} (h : o < 0x1000) :
    0x10000 ≤ mbxOff c o ∧ mbxOff c o < 0x20000 ∧ (mbxOff c o - 0x10000) / 0x1000 = c.val ∧ mbxOff c o % 0x1000 = o := by
  have hc := c.isLt
  unfold mbxOff
  omega

/-- In a channel's page a plain write reaches MBX_CTRL and the request area, and nothing else. -/
theorem writePlain_mbx (s : State) (c : Fin 16) {o : Nat} (h : o < 0x1000) (v : Word) :
    writePlain s (mbxOff c o) v =
      if o = 8 then modChan s (hostChan c) fun ch => { ch with irqEn := v.getLsbD 0, vector := v.extractLsb' 8 8 }
      else if 0x400 ≤ o ∧ o < 0x800 then putReq s (hostChan c) (o - 0x400) (leBytes 4 v.toNat)
      else s := by
  obtain ⟨lo, hi, hc, ho⟩ := mbxOff_parts c h
  have hch : (⟨(mbxOff c o - 0x10000) / 0x1000 % 17, Nat.mod_lt _ (by decide)⟩ : Chan) = hostChan c := by
    apply Fin.ext
    show (mbxOff c o - 0x10000) / 0x1000 % 17 = c.val
    omega
  simp only [writePlain, lo, hi, ho, hch, decide_true, Bool.and_self, if_true, Bool.and_eq_true, decide_eq_true_eq, putReq]

theorem writePlain_reqWord (s : State) (c : Fin 16) {o : Nat} (h : o < 0x400) (v : Word) :
    writePlain s (mbxOff c (0x400 + o)) v = putReq s (hostChan c) o (leBytes 4 v.toNat) := by
  rw [writePlain_mbx s c (by omega), if_neg (by omega), if_pos (by omega), Nat.add_sub_cancel_left]

theorem writePlain_intMod (s : State) (n : Fin 256) (v : Word) :
    writePlain s (0x30100 + 4 * n.val) v =
      { s with hl := { s.hl with vecs := vmod s.hl.vecs n.val fun x => { x with gapUs := v.setWidth 10 } } } := by
  have hn := n.isLt
  have hi : (0x30100 + 4 * n.val - 0x30100) / 4 = n.val := by omega
  unfold writePlain
  rw [if_neg (by simp; omega), if_neg (by omega), if_pos (by simp; omega), hi]

/-- No register of MBX or INT lies there: a plain write is ignored (00 R8, R11). -/
theorem writePlain_ignored {off : Nat} (h : off < 0x10000 ∨ 0x30500 ≤ off) (s : State) (v : Word) :
    writePlain s off v = s := by
  unfold writePlain
  rw [if_neg (by simp; omega), if_neg (by omega), if_neg (by simp; omega)]

/-! ### The registers a 64-bit write reaches (00 R5, R11) -/

theorem writeReg_mbx (s : State) (c : Fin 16) {o : Nat} (h : o < 0x1000) (v : Word) :
    writeReg s (mbxOff c o) v =
      if o = 0 then resState s (execMbxDoorbell c v s)
      else if o = 4 then resState s (execMbxStatusClear c v s)
      else writePlain s (mbxOff c o) v := by
  obtain ⟨lo, hi, hc, ho⟩ := mbxOff_parts c h
  have hch : (⟨(mbxOff c o - 0x10000) / 0x1000 % 16, Nat.mod_lt _ (by decide)⟩ : Fin 16) = c := by
    apply Fin.ext
    show (mbxOff c o - 0x10000) / 0x1000 % 16 = c.val
    omega
  simp only [writeReg, writeMbx, lo, hi, ho, hch, decide_true, Bool.and_self, if_true]

theorem writeReg_reqWord (s : State) (c : Fin 16) {o : Nat} (h : o < 0x400) (v : Word) :
    writeReg s (mbxOff c (0x400 + o)) v = putReq s (hostChan c) o (leBytes 4 v.toNat) := by
  rw [writeReg_mbx s c (by omega), if_neg (by omega), if_neg (by omega), writePlain_reqWord s c h]

/-- A word outside the blocks MBX, INT, RQ and DBG (log 2). -/
theorem writeReg_ignored {off : Nat}
    (h : off < 0x10000 ∨ 0x30500 ≤ off ∧ off < 0x40000 ∨ 0x50000 ≤ off ∧ off < 0xC0000 ∨ 0x100000 ≤ off)
    (s : State) (v : Word) : writeReg s off v = s := by
  unfold writeReg
  rw [if_neg (by simp; omega), if_neg (by omega), if_neg (by omega), if_neg (by simp; omega), if_neg (by simp; omega),
    writePlain_ignored (by omega)]

/-! ### BAR0_WRITE_PLAIN -/

theorem exec_bar0WritePlain {s : State} (h : Awake s) (d : hostDecode s = true) (off : Nat) (wide : Bool) (v : Dword) :
    exec (.bar0WritePlain off wide v) s = .next (
      if off % (if wide then 8 else 4) != 0 then s
      else if wide then writeReg (writeReg s off (v.setWidth 32)) (off + 4) (v.extractLsb' 32 32)
      else writePlain s off (v.setWidth 32)) :=
  show execBar0WritePlain off wide v s = _ from barWrite_on h d _

theorem exec_writeNarrow {s : State} (h : Awake s) (d : hostDecode s = true) {off : Nat} (a : off % 4 = 0) (v : Dword) :
    exec (.bar0WritePlain off false v) s = .next (writePlain s off (v.setWidth 32)) := by
  rw [exec_bar0WritePlain h d]; simp [a]

theorem exec_writeWide {s : State} (h : Awake s) (d : hostDecode s = true) {off : Nat} (a : off % 8 = 0) (v : Dword) :
    exec (.bar0WritePlain off true v) s =
      .next (writeReg (writeReg s off (v.setWidth 32)) (off + 4) (v.extractLsb' 32 32)) := by
  rw [exec_bar0WritePlain h d]; simp [a]

theorem exec_write_misaligned {s : State} (h : Awake s) (d : hostDecode s = true) {off : Nat} {wide : Bool}
    (a : off % (if wide then 8 else 4) ≠ 0) (v : Dword) : exec (.bar0WritePlain off wide v) s = .next s := by
  rw [exec_bar0WritePlain h d, if_pos (by simpa using a)]

section PlainWrites
variable {s : State} (h : Awake s) (d : hostDecode s = true)
include h d

theorem runs_write_reqWord (c : Fin 16) {o : Nat} (v : Dword) (a : o % 4 = 0) (l : o < 0x400)
    (w : Memory.wf (chan s (hostChan c)).req = true) :
    Runs (.bar0WritePlain (0x10000 + 0x1000 * c.val + 0x400 + o) false v) s fun t =>
      memRead (chan t (hostChan c)).req o 4 = leBytes 4 (v.toNat % 2 ^ 32) ∧
        ∀ a, (a < o ∨ o + 4 ≤ a) → memGet (chan t (hostChan c)).req a = memGet (chan s (hostChan c)).req a := by
  have e := (exec_writeNarrow h d (off := mbxOff c (0x400 + o)) (by unfold mbxOff; omega) v).trans
    (congrArg _ (writePlain_reqWord s c l _))
  rw [Nat.add_assoc]
  refine ⟨_, e, ?_⟩
  simpa using putReq_reads w o (leBytes 4 (v.setWidth 32).toNat)

theorem runs_write_mbxCtrl (c : Fin 16) (v : Dword) :
    Runs (.bar0WritePlain (0x10000 + 0x1000 * c.val + 8) false v) s fun t =>
      chan t (hostChan c) = { chan s (hostChan c) with irqEn := v.getLsbD 0, vector := v.extractLsb' 8 8 } := by
  have e := (exec_writeNarrow h d (off := mbxOff c 8) (by unfold mbxOff; omega) v).trans
    (congrArg _ (writePlain_mbx s c (by decide) _))
  refine ⟨_, e, ?_⟩
  have hv : (v.setWidth 32).extractLsb' 8 8 = v.extractLsb' 8 8 := by ext i; simp; omega
  simp [hv]

theorem runs_write_intCtrl (v : Dword) :
    Runs (.bar0WritePlain 0x30008 false v) s fun t => t.hl.intVector = v.setWidth 8 :=
  ⟨_, exec_writeNarrow h d (by decide) v, by simp [writePlain]⟩

theorem runs_write_intMod (n : Fin 256) (v : Dword) :
    Runs (.bar0WritePlain (0x30100 + 4 * n.val) false v) s fun t =>
      t.hl.vecs[n] = { s.hl.vecs[n] with gapUs := v.setWidth 10 } := by
  refine ⟨_, (exec_writeNarrow h d (by omega) v).trans (congrArg _ (writePlain_intMod s n _)), ?_⟩
  simp [vmod]

/-- A 32-bit write where no plain register lies leaves the state (00 R8; log 2). -/
theorem runs_writeNarrow_ignored {off : Nat} (v : Dword) (o : off + 8 ≤ 0x10000 ∨ 0x30500 ≤ off) :
    Runs (.bar0WritePlain off false v) s fun t => t = s := by
  by_cases a : off % 4 = 0
  · exact ⟨_, exec_writeNarrow h d a v, writePlain_ignored (by omega) s _⟩
  · exact ⟨s, exec_write_misaligned h d a v, rfl⟩

/-- A 64-bit write leaves the state where both its words are outside the blocks with registers, or if misaligned. -/
theorem runs_writeWide_ignored {off : Nat} (v : Dword)
    (o : off + 8 ≤ 0x10000 ∨ 0x30500 ≤ off ∧ off + 8 ≤ 0x40000 ∨ 0x50000 ≤ off ∧ off + 8 ≤ 0xC0000 ∨ 0x100000 ≤ off ∨
      off % 8 ≠ 0) :
    Runs (.bar0WritePlain off true v) s fun t => t = s := by
  by_cases a : off % 8 = 0
  · refine ⟨_, exec_writeWide h d a v, ?_⟩
    rw [writeReg_ignored (by omega), writeReg_ignored (by omega)]
  · exact ⟨s, exec_write_misaligned h d a v, rfl⟩

theorem runs_writeWide_req (c : Fin 16) {o : Nat} (v : Dword) (a : o % 8 = 0) (l : o < 0x400)
    (w : Memory.wf (chan s (hostChan c)).req = true) :
    Runs (.bar0WritePlain (0x10000 + 0x1000 * c.val + 0x400 + o) true v) s fun t =>
      memRead (chan t (hostChan c)).req o 8 = leBytes 8 v.toNat ∧
        ∀ a, (a < o ∨ o + 8 ≤ a) → memGet (chan t (hostChan c)).req a = memGet (chan s (hostChan c)).req a := by
  have e := exec_writeWide h d (off := mbxOff c (0x400 + o)) (by unfold mbxOff; omega) v
  have both : writeReg (writeReg s (mbxOff c (0x400 + o)) (v.setWidth 32)) (mbxOff c (0x400 + o) + 4) (v.extractLsb' 32 32)
      = putReq s (hostChan c) o (leBytes 8 v.toNat) := by
    rw [writeReg_reqWord s c l, show mbxOff c (0x400 + o) + 4 = mbxOff c (0x400 + (o + 4)) from rfl,
      writeReg_reqWord _ c (by omega), ← leBytes_words]
    simpa using putReq_putReq s (hostChan c) o (leBytes 4 (v.setWidth 32).toNat) (leBytes 4 (v.extractLsb' 32 32).toNat)
  rw [both] at e
  rw [Nat.add_assoc]
  refine ⟨_, e, ?_⟩
  simpa using putReq_reads w o (leBytes 8 v.toNat)

/-- The wide write of MBX_DOORBELL and MBX_STATUS is the two registers' own commands, the doorbell first. -/
theorem runs_writeWide_doorbell (c : Fin 16) (v : Dword) :
    Runs (.bar0WritePlain (0x10000 + 0x1000 * c.val) true v) s fun t => ∃ u,
      exec (.mbxDoorbell c (v.setWidth 32)) s = .next u ∧ exec (.mbxStatusClear c (v.extractLsb' 32 32)) u = .next t := by
  have e := exec_writeWide h d (off := mbxOff c 0) (by unfold mbxOff; omega) v
  rw [show mbxOff c 0 + 4 = mbxOff c 4 from rfl, writeReg_mbx s c (by decide), writeReg_mbx _ c (by decide)] at e
  exact ⟨_, e, _, rfl, rfl⟩

end PlainWrites

/-! ### INT_STATUS, and BAR0_BAD_ACCESS (00 R8; 06 R142) -/

/-- A trigger on a vector touches no field of the host link but the vectors' own. -/
theorem msixNow_hl (s : State) (v : Nat) : ∃ x, (msixNow s v).hl = { s.hl with vecs := x } := by
  unfold msixNow
  split
  · exact ⟨_, rfl⟩
  · split
    · exact ⟨_, rfl⟩
    · unfold msixSend
      dsimp only
      split <;> exact ⟨_, rfl⟩

/-- A bit of INT_STATUS that was clear sets; nothing else of the host link changes but the vectors. -/
theorem setInt_hl {s : State} {b : Fin 6} (c : s.hl.intStatus.getLsbD b = false) :
    ∃ x, (setInt s b).hl = { s.hl with intStatus := s.hl.intStatus ||| BitVec.ofNat 6 (2 ^ b.val), vecs := x } := by
  unfold setInt
  rw [if_neg (by rw [c]; decide)]
  dsimp only
  split
  · exact msixNow_hl _ _
  · exact ⟨_, rfl⟩

/-- INT_BAD_ACCESS holds the access. -/
def badCaptured (off : Nat) (w : Bool) (z : AccessSize) (s : State) : State :=
  { s with hl := { s.hl with badOff := BitVec.ofNat 26 off, badWrite := w, badKind := badKind z, badValid := true } }

/-- The answer to a bad access: none to a write, all ones to a read. -/
def badAnswer (w : Bool) (z : AccessSize) (s : State) : State :=
  if w then s else emit s (.readData (List.replicate (sizeOf_ z) 0xFF) false)

theorem badAnswer_hl (w : Bool) (z : AccessSize) (s : State) : (badAnswer w z s).hl = s.hl := by
  cases w <;> rfl

theorem badAnswer_read_out (z : AccessSize) (s : State) :
    (badAnswer false z s).out.getLast? = some (.readData (List.replicate (sizeOf_ z) 0xFF) false) := by
  simp [badAnswer, emit]

/-- The first bad access since BAD_ACCESS was clear is captured, sets the bit and is answered. -/
theorem exec_bar0BadAccess_first {s : State} (h : Awake s) (d : hostDecode s = true) {off : Nat} {w : Bool} {z : AccessSize}
    (l : off < 2 ^ 26) (b : isBad off w z = true) (c : s.hl.intStatus.getLsbD 0 = false) :
    exec (.bar0BadAccess off w z) s = .next (badAnswer w z (setInt (badCaptured off w z s) 0)) := by
  show execBar0BadAccess off w z s = _
  refine (live_awake h _).trans (congrArg _ ?_)
  rw [if_neg (by simp [b]; omega), if_neg (by simp [d])]
  simp only [c, Bool.false_eq_true, if_false]
  rfl

theorem runs_bar0BadAccess {s : State} (h : Awake s) (d : hostDecode s = true) {off : Nat} {w : Bool} {z : AccessSize}
    (l : off < 2 ^ 26) (b : isBad off w z = true) (c : s.hl.intStatus.getLsbD 0 = false) :
    Runs (.bar0BadAccess off w z) s fun t =>
      t.hl.intStatus.getLsbD 0 = true ∧ t.hl.badValid = true ∧ t.hl.badOff.toNat = off ∧ t.hl.badWrite = w ∧
        t.hl.badKind = badKind z ∧
        (w = false → t.out.getLast? = some (.readData (List.replicate (sizeOf_ z) 0xFF) false)) := by
  refine ⟨_, exec_bar0BadAccess_first h d l b c, ?_⟩
  obtain ⟨x, e⟩ := setInt_hl (s := badCaptured off w z s) (b := 0) c
  rw [badAnswer_hl, e]
  refine ⟨by simp, rfl, Nat.mod_eq_of_lt l, rfl, rfl, ?_⟩
  rintro rfl
  exact badAnswer_read_out z _

/-- With decode off a bad access is a read or a write like any other. -/
theorem exec_bar0BadAccess_off {s : State} (h : Awake s) (d : hostDecode s = false) (off : Nat) (w : Bool) (z : AccessSize) :
    exec (.bar0BadAccess off w z) s =
      .next (if !isBad off w z || 2 ^ 26 ≤ off then s else if w then s else emit s .unsupported) := by
  show execBar0BadAccess off w z s = _
  refine (live_awake h _).trans (congrArg _ ?_)
  simp [d]

/-! ### INT_ENABLE_WRITE (06 R142) -/

theorem runs_intEnableWrite {s : State} (h : Awake s) (d : hostDecode s = true) (v : Word) :
    Runs (.intEnableWrite v) s fun t =>
      t.hl.intEnable = v.setWidth 6 ∧ t.hl.intStatus = s.hl.intStatus ∧
        (s.hl.intStatus &&& v.setWidth 6 &&& ~~~s.hl.intEnable = 0 → t.out = s.out) := by
  refine runs_barWrite (show execIntEnableWrite v s = _ from rfl) h d ?_
  dsimp only
  by_cases r : s.hl.intStatus &&& v.setWidth 6 &&& ~~~s.hl.intEnable = 0
  · rw [if_pos r]
    exact ⟨rfl, rfl, fun _ => rfl⟩
  · rw [if_neg r]
    obtain ⟨x, e⟩ := msixNow_hl { s with hl := { s.hl with intEnable := v.setWidth 6 } } s.hl.intVector.toNat
    rw [e]
    exact ⟨rfl, rfl, fun z => absurd z r⟩

/-! ### The statement -/

/-- Settles O11: by the register that each offset names, and by the two ways a host access goes with decode off. -/
theorem registerWrites : Obligations.RegisterWrites := by
  unfold Obligations.RegisterWrites
  refine ⟨fun s h d => ⟨fun c o v => runs_write_reqWord h d c v, runs_write_mbxCtrl h d, runs_write_intCtrl h d,
    runs_write_intMod h d, fun _ => runs_writeNarrow_ignored h d, fun _ => runs_writeWide_ignored h d,
    fun c o v => runs_writeWide_req h d c v, runs_writeWide_doorbell h d, fun _ _ _ => runs_bar0BadAccess h d,
    fun v => runs_barWrite (show execIntStatusClear v s = _ from rfl) h d rfl, runs_intEnableWrite h d⟩, fun s h d => ⟨?reads, ?writes⟩⟩
  case reads =>
    rintro i (⟨n, w, rfl⟩ | ⟨o, n, l, rfl⟩ | ⟨o, z, l, b, rfl⟩)
    · exact runs_barRead_off (by unfold exec; rfl) h d
    · exact runs_barRead_off (by unfold exec; rfl) h d
    · refine ⟨_, exec_bar0BadAccess_off h d o false z, ?_⟩
      rw [if_neg (by simp [b]; omega)]
      rfl
  case writes =>
    rintro i (⟨o, w, v, rfl⟩ | ⟨o, z, rfl⟩ | rest)
    · exact runs_barWrite_off (by unfold exec; rfl) d
    · exact ⟨_, exec_bar0BadAccess_off h d o true z, by simp⟩
    · rcases rest with ⟨c, v, rfl⟩ | ⟨c, v, rfl⟩ | ⟨o, b, p, e, rfl⟩ | ⟨v, rfl⟩ | ⟨v, rfl⟩ | ⟨q, v, rfl⟩ | ⟨q, v, rfl⟩ |
        ⟨q, v, rfl⟩ | ⟨n, v, rfl⟩ | ⟨n, v, rfl⟩ | rfl | rfl | ⟨v, rfl⟩ <;>
      exact runs_barWrite_off (by unfold exec; rfl) d

end Sys2Proof.Machine

/-! ## 13: queue registers and the admission of descriptors (the statement of O35) -/

namespace Sys2Proof.Machine

/-! ### What goes to the host leaves the scheduler as it is (06 R129, R136, R141) -/

@[simp] theorem atsAsk_sch (s : State) (w : AtsWhy) (p : Option (BitVec 20)) (a : Nat) (b : Bool) :
    (atsAsk s w p a b).sch = s.sch := rfl

@[simp] theorem msixSend_sch (s : State) (v : Nat) : (msixSend s v).sch = s.sch := by
  unfold msixSend
  dsimp only
  split <;> rfl

@[simp] theorem msixNow_sch (s : State) (v : Nat) : (msixNow s v).sch = s.sch := by
  unfold msixNow
  split
  · rfl
  · split
    · rfl
    · exact msixSend_sch s v

@[simp] theorem setInt_sch (s : State) (b : Fin 6) : (setInt s b).sch = s.sch := by
  unfold setInt
  split
  · rfl
  · dsimp only
    split
    · exact msixNow_sch _ _
    · rfl

@[simp] theorem postOut_sch (s : State) (a : Nat) (d : Bytes) (ro : Bool) (ctx : Nat) : (postOut s a d ro ctx).sch = s.sch := by
  unfold postOut
  split <;> rfl

@[simp] theorem eventQuiet_sch (s : State) (t : Half) (v : Byte) (d : Bytes) : (eventQuiet s t v d).1.sch = s.sch := by
  unfold eventQuiet
  split
  · rfl
  · dsimp only
    split <;> rfl

@[simp] theorem postDenied_sch (s : State) (a ctx : Nat) : (postDenied s a ctx).sch = s.sch := by
  simp [postDenied]

@[simp] theorem eventDenied_sch (s : State) (a : Nat) : (eventDenied s a).sch = s.sch := by
  simp [eventDenied]

@[simp] theorem drainPosts_sch (n : Nat) (s : State) : (drainPosts n s).sch = s.sch := by
  induction n generalizing s with
  | zero => rfl
  | succ n ih =>
    unfold drainPosts
    split
    · rfl
    · dsimp only
      split
      · simp [ih]
      all_goals
        split
        · simp [ih]
        · simp [ih]
        · split
          · simp [ih]
          · split <;> rfl

@[simp] theorem post_sch (s : State) (p : Post) : (post s p).sch = s.sch := drainPosts_sch _ _

@[simp] theorem msix_sch (s : State) (v : Nat) : (msix s v).sch = s.sch := post_sch _ _

@[simp] theorem postPages_sch (n : Nat) (s : State) (a : Nat) (d : Bytes) (ro : Bool) (ctx : Nat) :
    (postPages n s a d ro ctx).sch = s.sch := by
  induction n generalizing s a d with
  | zero => rfl
  | succ n ih =>
    unfold postPages
    dsimp only
    split
    · exact post_sch _ _
    · rw [ih, post_sch]

@[simp] theorem hostWrite_sch (s : State) (a : Nat) (d : Bytes) (ro : Bool) (ctx : Nat) :
    (hostWrite s a d ro ctx).sch = s.sch := postPages_sch _ _ _ _ _ _

/-! ### Queues and slots after an update -/

@[simp] theorem queueOf_modQueue (s : State) (q : Nat) (f : Queue → Queue) : queueOf (modQueue s q f) q = (queueOf s q).map f := by
  simp [queueOf, modQueue, tget_tmod]

@[simp] theorem slotOf_modSlot (s : State) (i : Nat) (f : Slot → Slot) : slotOf (modSlot s i f) i = (slotOf s i).map f := by
  simp [slotOf, modSlot, tget_tmod]

@[simp] theorem queueOf_modSlot (s : State) (i q : Nat) (f : Slot → Slot) : queueOf (modSlot s i f) q = queueOf s q := rfl

/-- A request with no outcome yet ends with the one given (13 R309, R312). -/
theorem slotOf_endRequest {s : State} {i : Nat} {y : Slot} (h : slotOf s i = some y) (n : y.fin = none) (st d app : Half) :
    slotOf (endRequest s i st d app) i =
      some { y with fin := some (outcome s y st d app), state := .completing, core := none } := by
  simp [endRequest, decideEnd, h, n]

/-! ### The registers of a queue (13 R298, R301, R322, R325) -/

section Registers
variable {s : State} (h : Awake s) (d : hostDecode s = true)
include h d

/-- A register write that acts on queue `q` alone. -/
theorem runs_queueWrite {i : Instr} {q : Nat} {x y : Queue} {f : Queue → Queue}
    (e : exec i s = barWrite s fun s => modQueue s q f) (g : queueOf s q = some x) (v : f x = y) :
    Runs i s fun t => queueOf t q = some y :=
  runs_barWrite e h d (by simp [g, v])

theorem runs_rqSqTailWrite {q : Fin 256} {x y : Queue} {v : Word} (g : queueOf s q = some x)
    (e : (if x.fabric then x else sqTailTo x v) = y) : Runs (.rqSqTailWrite q v) s fun t => queueOf t q = some y :=
  runs_queueWrite h d (show execRqSqTailWrite q v s = _ from rfl) g e

theorem runs_rqCqHeadWrite {q : Fin 256} {x y : Queue} {v : Word} (g : queueOf s q = some x)
    (e : (if x.fabric then x else cqHeadTo x v) = y) : Runs (.rqCqHeadWrite q v) s fun t => queueOf t q = some y :=
  runs_queueWrite h d (show execRqCqHeadWrite q v s = _ from rfl) g e

theorem runs_rqSyncSelWrite (n : Fin 64) {v : Word} {y : SyncObj} (g : syncOf s (v.toNat % 8192) = some y) :
    Runs (.rqSyncSelWrite n v) s fun t =>
      t.sch.readSets[n] = ⟨v.setWidth 13, y.counter.extractLsb' 0 32, y.counter.extractLsb' 32 32⟩ ∧
        (∀ m : Fin 64, m ≠ n → t.sch.readSets[m] = s.sch.readSets[m]) ∧ t.sch.sync = s.sch.sync := by
  have c : counterOf s (v.toNat % 8192) = y.counter := by rw [counterOf, g]
  refine runs_barWrite (show execRqSyncSelWrite n v s = _ from rfl) h d ⟨?_, fun m ne => ?_, rfl⟩
  · simp [c, BitVec.setWidth_eq_extractLsb']
  · have ne' : n.val ≠ m.val := fun e => ne (Fin.ext e.symm)
    simp [ne']

end Registers

theorem sqTailTo_inside {x : Queue} {v : Word} (near : (v - x.sqHead).toNat ≤ 2 ^ x.log2)
    (fwd : (x.sqTail - x.sqHead).toNat ≤ (v - x.sqHead).toNat) : sqTailTo x v = { x with sqTail := v } := by
  simp only [sqTailTo, Queue.entries, near, fwd, decide_true, Bool.and_self, if_true]

theorem sqTailTo_outside {x : Queue} {v : Word}
    (o : 2 ^ x.log2 < (v - x.sqHead).toNat ∨ (v - x.sqHead).toNat < (x.sqTail - x.sqHead).toNat) :
    sqTailTo x v = { x with ptrErr := true } := by
  rw [sqTailTo, Queue.entries, if_neg]
  simp only [Bool.and_eq_true, decide_eq_true_eq]
  omega

/-! ### The reading of a descriptor in host memory (13 R299, R300; 06 R119) -/

/-- The slot of `s` in use for the source and TOKEN of descriptor `b` of queue `x`. -/
def sameRequest (s : State) (x : Queue) (b : Bytes) : Option (Nat × Slot) :=
  s.sch.slots.find? fun z => z.2.source = x.source && z.2.desc.token = (descOf b).token

/-- The read of the descriptor goes to the host at `a` for queue `q`, which counts it read and holds an entry for its
record. -/
def descTaken (s : State) (q : Nat) (x : Queue) (a : Nat) : State :=
  let sent := emit s (.hostRead s.hl.nextTag a 128 (readHow s) (if s.hl.cfg.pasidEn then pasidOf s x.ctx else none))
  modQueue { sent with hl := { s.hl with nextTag := s.hl.nextTag + 1 }, sch := { s.sch with rr := q } } q fun x =>
    { x with
      sqHead := x.sqHead + 1
      reserved := x.reserved + 1 }

section Taken
variable (s : State) (q : Nat) (x : Queue) (a : Nat)

@[simp] theorem descTaken_slots : (descTaken s q x a).sch.slots = s.sch.slots := rfl
@[simp] theorem slotOf_descTaken (i : Nat) : slotOf (descTaken s q x a) i = slotOf s i := rfl
@[simp] theorem sameRequest_descTaken (y : Queue) (b : Bytes) :
    sameRequest (descTaken s q x a) y b = sameRequest s y b := rfl
@[simp] theorem attachCount_descTaken : attachCount (descTaken s q x a) = attachCount s := rfl
@[simp] theorem cacheFind_descTaken (source : Half) (token : Dword) :
    cacheFind (descTaken s q x a) source token = cacheFind s source token := rfl
@[simp] theorem late_descTaken (d : Dword) : late (descTaken s q x a) d = late s d := rfl
@[simp] theorem freeSlot_descTaken : freeSlot (descTaken s q x a) = freeSlot s := rfl
@[simp] theorem descBad_descTaken (y : Queue) (b : Bytes) (d : Desc) :
    descBad (descTaken s q x a) y b d = descBad s y b d := rfl

@[simp] theorem queueOf_descTaken : queueOf (descTaken s q x a) q =
    (queueOf s q).map fun x => { x with sqHead := x.sqHead + 1, reserved := x.reserved + 1 } :=
  queueOf_modQueue _ _ _

end Taken

/-- The scheduler reads next, at host address `a`, a descriptor of queue `q` (13 R299, R300; 06 R117, R139, R432). -/
structure ReadsAt (s : State) (q : Nat) (x : Queue) (a : Nat) : Prop where
  awake : Awake s
  thawed : s.sch.frozen = false
  warm : s.hlt.warmBegun = false
  next : nextQueue s = some (q, x)
  host : x.fabric = false
  up : hostUp s = true
  room : readsSent s < 1024
  known : atcFind s (pasidOf s x.ctx) x.descAt false = .ok a

namespace ReadsAt
variable {s : State} {q a : Nat} {x : Queue} (r : ReadsAt s q x a) (errs : List (Nat × LineErr))
include r

theorem exec_read (b : Bytes) :
    exec (.descriptorRead (some b) errs) s = .next (admission (descTaken s q x a) q x b errs) := by
  refine (show execDescriptorRead (some b) errs s = _ from live_awake r.awake _).trans (congrArg _ ?_)
  simp only [r.thawed, r.warm, r.next, r.host, hostDesc, r.up, Nat.not_le.mpr r.room, r.known, Bool.or_self, Bool.not_true,
    Bool.false_eq_true, if_false]
  rfl

/-- One that the host does not give has its record all the same (01 R18; log 49). -/
theorem exec_unread :
    exec (.descriptorRead none errs) s = .next (postRecord (descTaken s q x a) q 0 0
      (plainEnd (descTaken s q x a) rqBadDesc 0) false false errs) := by
  refine (show execDescriptorRead none errs s = _ from live_awake r.awake _).trans (congrArg _ ?_)
  simp only [r.thawed, r.warm, r.next, r.host, hostDesc, r.up, Nat.not_le.mpr r.room, r.known, Bool.or_self, Bool.not_true,
    Bool.false_eq_true, if_false]
  rfl

end ReadsAt

/-! ### A record posted to host memory (13 R297, R299) -/

/-- The queue once a record has gone to its next entry. -/
def recordPosted (x : Queue) : Queue := { x with
  cqTail := x.cqTail + 1
  reserved := x.reserved - 1 }

theorem postRecord_host_sch {s : State} {q : Nat} {x : Queue} (g : queueOf s q = some x) (host : x.fabric = false)
    (token user : Dword) (e : ReqEnd) (dup cached : Bool) (errs : List (Nat × LineErr)) :
    (postRecord s q token user e dup cached errs).sch = (modQueue s q recordPosted).sch := by
  simp only [postRecord, g, host, Bool.false_eq_true, if_false]
  split
  · rw [msix_sch, hostWrite_sch]; rfl
  · rw [hostWrite_sch]; rfl

/-- The record of a descriptor that gets no slot takes the entry held for it, and no slot changes. -/
theorem postRecord_descTaken {s : State} {q a : Nat} {x : Queue} (g : queueOf s q = some x) (host : x.fabric = false)
    (token user : Dword) (e : ReqEnd) (dup cached : Bool) (errs : List (Nat × LineErr)) :
    (postRecord (descTaken s q x a) q token user e dup cached errs).sch.slots = s.sch.slots ∧
      queueOf (postRecord (descTaken s q x a) q token user e dup cached errs) q = some { x with
        sqHead := x.sqHead + 1, cqTail := x.cqTail + 1, reserved := x.reserved + 1 - 1 } := by
  have taken : queueOf (descTaken s q x a) q = some { x with sqHead := x.sqHead + 1, reserved := x.reserved + 1 } := by
    simp [g]
  have sch := postRecord_host_sch taken host token user e dup cached errs
  refine ⟨(congrArg Sched.slots sch).trans (descTaken_slots s q x a), ?_⟩
  calc queueOf (postRecord (descTaken s q x a) q token user e dup cached errs) q
      = queueOf (modQueue (descTaken s q x a) q recordPosted) q := congrArg (fun c : Sched => tget c.queues q) sch
    _ = _ := by rw [queueOf_modQueue, taken]; rfl

/-! ### Admission, check by check (01 R17; 13 R304, R314) -/

theorem admission_attaches {s : State} {x : Queue} {b : Bytes} {i : Nat} {y : Slot} (f : sameRequest s x b = some (i, y))
    (room : attachCount s < 4096) (q : Nat) (errs : List (Nat × LineErr)) :
    admission s q x b errs = modSlot s i fun y => { y with attached := y.attached ++ [⟨q, (descOf b).user⟩] } := by
  rw [sameRequest] at f
  simp only [admission, f, Nat.not_le.mpr room, if_false]

section New
variable {s : State} {x : Queue} {b : Bytes} (f : sameRequest s x b = none)
  (c : cacheFind s x.source (descOf b).token = none) (q : Nat) (errs : List (Nat × LineErr))
include f c

theorem admission_sheds (l : late s (descOf b).deadline = true) :
    admission s q x b errs =
      postRecord s q (descOf b).token (descOf b).user (plainEnd s rqShed 0) false false errs := by
  rw [sameRequest] at f
  simp only [admission, f, c, l, if_true]

theorem admission_admits (l : late s (descOf b).deadline = false) {i : Nat} (free : freeSlot s = some i) :
    admission s q x b errs = admitSlot s i q x b (descOf b) := by
  rw [sameRequest] at f
  simp only [admission, f, c, l, free, Bool.false_eq_true, if_false]

end New

/-! ### The slot of a new request (13 R304, R314) -/

/-- A request of queue `q` as it is admitted. -/
def newSlot (s : State) (q : Nat) (x : Queue) (d : Desc) : Slot :=
  { queue := q, source := x.source, desc := d, state := .waiting, stage := 0, core := none, cancelled := false,
    order := s.sch.nextOrder, attached := [], fin := none, outFail := false, flushFail := false, flushed := false,
    flushing := false, lastHost := none, pages := [] }

/-- The slot taken for it. -/
def takeSlot (s : State) (i q : Nat) (x : Queue) (d : Desc) : State :=
  { s with sch := { s.sch with
    slots := tput s.sch.slots i (newSlot s q x d)
    nextOrder := s.sch.nextOrder + 1 } }

@[simp] theorem slotOf_takeSlot (s : State) (i q : Nat) (x : Queue) (d : Desc) :
    slotOf (takeSlot s i q x d) i = some (newSlot s q x d) :=
  tget_tput _ _ _

@[simp] theorem queueOf_takeSlot (s : State) (i q : Nat) (x : Queue) (d : Desc) (r : Nat) :
    queueOf (takeSlot s i q x d) r = queueOf s r := rfl

@[simp] theorem descBad_takeSlot (s : State) (i q : Nat) (x : Queue) (d : Desc) (y : Queue) (b : Bytes) (e : Desc) :
    descBad (takeSlot s i q x d) y b e = descBad s y b e := rfl

theorem admitSlot_good {s : State} {x : Queue} {b : Bytes} {d : Desc} (ok : descBad s x b d = none) (p : x.pretrans = false)
    (i q : Nat) : admitSlot s i q x b d = takeSlot s i q x d := by
  have ok' := (descBad_takeSlot s i q x d x b d).trans ok
  unfold takeSlot newSlot at ok' ⊢
  simp only [admitSlot, ok', p, Bool.not_false, if_true]

theorem admitSlot_bad {s : State} {x : Queue} {b : Bytes} {d : Desc} {k : Nat} (bad : descBad s x b d = some k) (i q : Nat) :
    admitSlot s i q x b d = endRequest (takeSlot s i q x d) i rqBadDesc (BitVec.ofNat 16 k) 0 := by
  have bad' := (descBad_takeSlot s i q x d x b d).trans bad
  unfold takeSlot newSlot at bad' ⊢
  simp only [admitSlot, bad']

/-! ### DESCRIPTOR_READ, outcome by outcome (01 R17, R18; 13 R304, R314) -/

namespace ReadsAt
variable {s : State} {q a : Nat} {x : Queue} (r : ReadsAt s q x a) (g : queueOf s q = some x) (errs : List (Nat × LineErr))
include r g

theorem runs_attaches {b : Bytes} {i : Nat} {y : Slot} (f : sameRequest s x b = some (i, y)) (room : attachCount s < 4096)
    (at_ : slotOf s i = some y) :
    Runs (.descriptorRead (some b) errs) s fun t =>
      slotOf t i = some { y with attached := y.attached ++ [⟨q, (descOf b).user⟩] } ∧
        (queueOf t q).map (fun z => z.sqHead) = some (x.sqHead + 1) := by
  refine ⟨_, r.exec_read errs b, ?_⟩
  rw [admission_attaches (by simpa using f) (by simpa using room)]
  simp [at_, g]

theorem runs_unread :
    Runs (.descriptorRead none errs) s fun t => t.sch.slots = s.sch.slots ∧ queueOf t q = some { x with
      sqHead := x.sqHead + 1, cqTail := x.cqTail + 1, reserved := x.reserved + 1 - 1 } :=
  ⟨_, r.exec_unread errs, postRecord_descTaken g r.host _ _ _ _ _ _⟩

section New
variable {b : Bytes} (f : sameRequest s x b = none) (c : cacheFind s x.source (descOf b).token = none)
include f c

theorem runs_sheds (l : late s (descOf b).deadline = true) :
    Runs (.descriptorRead (some b) errs) s fun t => t.sch.slots = s.sch.slots ∧ queueOf t q = some { x with
      sqHead := x.sqHead + 1, cqTail := x.cqTail + 1, reserved := x.reserved + 1 - 1 } := by
  refine ⟨_, r.exec_read errs b, ?_⟩
  rw [admission_sheds (by simpa using f) (by simpa using c) q errs (by simpa using l)]
  exact postRecord_descTaken g r.host _ _ _ _ _ _

omit g in
/-- With a slot free, the descriptor is admitted to it. -/
theorem exec_admits (l : late s (descOf b).deadline = false) {i : Nat} (free : freeSlot s = some i) :
    exec (.descriptorRead (some b) errs) s = .next (admitSlot (descTaken s q x a) i q x b (descOf b)) := by
  rw [r.exec_read, admission_admits (by simpa using f) (by simpa using c) q errs (by simpa using l) (by simpa using free)]

theorem runs_waits {i : Nat} (l : late s (descOf b).deadline = false) (free : freeSlot s = some i)
    (ok : descBad s x b (descOf b) = none) (p : x.pretrans = false) :
    Runs (.descriptorRead (some b) errs) s fun t => ∃ y, slotOf t i = some y ∧ y.state = .waiting ∧ y.desc = descOf b ∧
      y.queue = q ∧ y.stage = 0 ∧ y.fin = none ∧
      queueOf t q = some { x with sqHead := x.sqHead + 1, reserved := x.reserved + 1 } := by
  refine ⟨_, r.exec_admits errs f c l free, newSlot (descTaken s q x a) q x (descOf b), ?_⟩
  rw [admitSlot_good (by simpa using ok) p]
  exact ⟨slotOf_takeSlot _ _ _ _ _, rfl, rfl, rfl, rfl, rfl, by simp [g]⟩

omit g in
theorem runs_badDescriptor {i k : Nat} (l : late s (descOf b).deadline = false) (free : freeSlot s = some i)
    (bad : descBad s x b (descOf b) = some k) :
    Runs (.descriptorRead (some b) errs) s fun t => ∃ y e, slotOf t i = some y ∧ y.state = .completing ∧ y.fin = some e ∧
      e.status = 6 ∧ e.detail = BitVec.ofNat 16 k := by
  refine ⟨_, r.exec_admits errs f c l free, ?_⟩
  rw [admitSlot_bad (by simpa using bad)]
  exact ⟨_, _, slotOf_endRequest (slotOf_takeSlot _ _ _ _ _) rfl _ _ _, rfl, rfl, rfl, rfl⟩

end New
end ReadsAt

/-! ### The statement -/

/-- Settles O35: the registers by what each makes of the queue, DESCRIPTOR_READ by the checks of admission in their order. -/
theorem queuesAdmitDescriptors : Obligations.QueuesAdmitDescriptors := by
  unfold Obligations.QueuesAdmitDescriptors
  refine ⟨fun s q x v h d g => ⟨?tailIn, ?tailOut, ?headIn, ?headOut, ?fabric, ?clear, fun n y => runs_rqSyncSelWrite h d n⟩, ?reads⟩
  case tailIn => exact fun host near fwd => runs_rqSqTailWrite h d g ((if_neg (by simp [host])).trans (sqTailTo_inside near fwd))
  case tailOut => exact fun host o => runs_rqSqTailWrite h d g ((if_neg (by simp [host])).trans (sqTailTo_outside o))
  case headIn => exact fun host le => runs_rqCqHeadWrite h d g ((if_neg (by simp [host])).trans (if_pos le))
  case headOut => exact fun host lt => runs_rqCqHeadWrite h d g ((if_neg (by simp [host])).trans (if_neg (Nat.not_le.mpr lt)))
  case fabric => exact fun fab => ⟨runs_rqSqTailWrite h d g (if_pos fab), runs_rqCqHeadWrite h d g (if_pos fab)⟩
  case clear => exact runs_queueWrite h d (show execRqQStatusClear q v s = _ from rfl) g rfl
  case reads =>
    intro s q a x b errs awake thawed warm next g host up room known
    have r : ReadsAt s q x a := ⟨awake, thawed, warm, next, host, up, room, known⟩
    exact ⟨fun _ _ => r.runs_attaches g errs, fun f c => ⟨r.runs_sheds g errs f c, fun _ => r.runs_waits g errs f c,
      fun _ _ => r.runs_badDescriptor errs f c⟩, r.runs_unread g errs⟩

end Sys2Proof.Machine

/-! ## The step, deadlines and reset (the statements of O1, O50 and O53) -/

namespace Sys2Proof.Machine

/-- Settles O1: `step` on the two forms of the queue. -/
theorem stepRunsFrontCommand : Obligations.StepRunsFrontCommand := by
  unfold Obligations.StepRunsFrontCommand
  refine ⟨fun c r s h => ?front, fun s h => ?empty⟩
  case front => rw [step, h]
  case empty => rw [step, h]

/-! ### Deadlines (02 R44, R45; 14 R347) -/

theorem passed_iff (s : State) (d : Dword) : passed s d = true ↔ d ≠ noDeadline ∧ d.toNat < (dtNs s).toNat := by
  simp [passed, BitVec.lt_def]

/-- Queuing packets for the router leaves every tracker. -/
theorem foldl_toRouter_trackers {α : Type} (mk : α → Packet) (l : List α) (s : State) :
    (l.foldl (fun s k => toRouter s (mk k)) s).fab.trackers = s.fab.trackers := by
  induction l generalizing s with
  | nil => rfl
  | cons x l ih => rw [List.foldl_cons, ih]; rfl

/-- Now plus the remote timeout, where it does not wrap, is that many nanoseconds later. -/
theorem timeout_toNat {s : State} {tc : Byte} (h : (dtNs s).toNat + remoteUs s tc * 1000 < 2 ^ 64 - 1) :
    (dtNs s + BitVec.ofNat 64 (remoteUs s tc * 1000)).toNat = (dtNs s).toNat + remoteUs s tc * 1000 := by
  rw [BitVec.toNat_add, BitVec.toNat_ofNat]
  omega

/-- A request whose issuer sets no deadline carries now plus the remote timeout of its class (14 R347). -/
theorem sendRequest_deadline {s u : State} {op fl tc : Byte} {chip inc : Half} {g : Dword} {l : List Bytes} {w : TrackWhy}
    {i : Nat} (e : sendRequest s op fl tc chip inc g noDeadline l w = (.sent i, u))
    (h : (dtNs s).toNat + remoteUs s tc * 1000 < 2 ^ 64 - 1) :
    ∃ tr, tget u.fab.trackers i = some tr ∧ tr.deadline.toNat = (dtNs s).toNat + remoteUs s tc * 1000 := by
  unfold sendRequest at e
  split at e
  · cases e
  · split at e
    · cases e
    · simp only [ite_self, timeout_toNat h, Prod.mk.injEq, SendRes.sent.injEq] at e
      obtain ⟨rfl, rfl⟩ := e
      rw [foldl_toRouter_trackers]
      refine ⟨_, tget_tput _ _ _, ?_⟩
      have lt : (dtNs s).toNat + remoteUs s tc * 1000 < noDeadline.toNat := h
      simp only [lt, if_true, timeout_toNat h]

/-- Settles O50: the comparison itself, that it reads DT's nanoseconds alone, and the tracker of a request with a timeout only. -/
theorem deadlinesPass : Obligations.DeadlinesPass := by
  unfold Obligations.DeadlinesPass
  refine ⟨passed_iff, fun s t d h => ?_, fun s u op fl tc chip inc g l w i e h => sendRequest_deadline e h⟩
  rw [passed, passed, h]

/-! ### Reset (02 R46; 04 R89; 05 R95, R116; 06 R142; 15 R375; 16 R391; 17 R410) -/

theorem reset_inv : Inv State.reset := by decide +kernel

theorem reset_memories : MemoriesOk State.reset := by decide +kernel

theorem reset_registers : tbStatus State.reset.tb = 0 ∧ tbConfig State.reset.tb.cfg = 277344804 ∧ calStatus State.reset = 9 ∧
    pwrPower State.reset = 85196800 ∧ pwrStatus State.reset = 0 := by decide +kernel

theorem reset_channels_enabled : ∀ c : Fin 16, (chan State.reset (hostChan c)).enabled = (c.val == 0) := by decide +kernel

theorem reset_cores : ∀ n : Fin 32,
    (State.reset.cores[n]).fenced = false ∧ ∀ b : Fin 34, ((State.reset.cores[n]).banks[b]).ownerB = 1 := by
  intro n
  have e : State.reset.cores[n] = Core.reset := Vector.getElem_replicate _
  rw [e]
  exact ⟨rfl, fun b => congrArg Bank.ownerB (Vector.getElem_ofFn (f := fun i : Fin 34 => Bank.reset i.val) b.isLt)⟩

/-- Settles O53: the registers that are computed, the channels and the cores; the rest is what the reset state lists. -/
theorem resetState : Obligations.ResetState := by
  unfold Obligations.ResetState
  obtain ⟨status, config, cal, power, pwr⟩ := reset_registers
  exact ⟨reset_inv, reset_memories, rfl, rfl, status, config, cal, power, rfl, rfl, rfl, pwr, rfl, rfl, rfl, rfl,
    reset_channels_enabled, rfl, rfl, rfl, rfl, rfl, rfl, rfl, rfl, rfl, rfl, rfl, rfl, rfl, rfl, reset_cores⟩

end Sys2Proof.Machine

/-! ## 10: sequencer instructions of registers alone (the statement of O22) -/

namespace Sys2Proof.Machine

/-! ### Cores and threads by their numbers -/

theorem vmod_fin {α : Type} {n : Nat} (v : Vector α n) (i : Fin n) (f : α → α) : vmod v i.val f = v.set i (f v[i]) := by
  simp [vmod]

theorem vget_fin {α : Type} {n : Nat} (v : Vector α n) (i : Fin n) (d : α) : vget v i.val d = v[i] := by
  simp [vget]

theorem threadOf_fin (s : State) (n : Fin 32) (t : Fin 4) : threadOf s n t = (s.cores[n]).threads[t] := by
  rw [threadOf, coreOf, vget_fin, vget_fin]

/-- Thread `t` of core `n` is `x`, and the core's progress counts are `p` and `i`; nothing else changes. -/
def setThread (s : State) (n : Fin 32) (t : Fin 4) (p : Dword) (i : Nat) (x : Thread) : State :=
  { s with cores := s.cores.set n { s.cores[n] with
    progress := p
    instrs := i
    threads := (s.cores[n]).threads.set t x } }

section Threads
variable (s : State) (n : Fin 32) (t : Fin 4) (p : Dword) (i : Nat) (x : Thread)

@[simp] theorem threadOf_setThread : threadOf (setThread s n t p i x) n t = x := by
  simp [threadOf_fin, setThread]

theorem setThread_setThread (q : Dword) (j : Nat) (y : Thread) :
    setThread (setThread s n t p i x) n t q j y = setThread s n t q j y := by
  simp [setThread]

theorem setThread_onlyThread : OnlyThread s (setThread s n t p i x) n t := by
  refine ⟨fun m h => ?others, ⟨p, i, (s.cores[n]).threads.set t x, by simp [setThread]⟩, fun k h => ?threads⟩
  case others => simp [setThread, Ne.symm (Fin.val_ne_of_ne h)]
  case threads => simp [setThread, Ne.symm (Fin.val_ne_of_ne h)]

theorem modThread_eq_setThread (f : Thread → Thread) :
    modThread s n t f = setThread s n t (s.cores[n]).progress (s.cores[n]).instrs (f (threadOf s n t)) := by
  simp only [modThread, modCore, vmod_fin, setThread, threadOf_fin]

/-- Instructions of the core, this thread's newly confirmed ones among them, since its progress last counted. -/
def instrsNow (s : State) (n : Fin 32) (t : Fin 4) : Nat :=
  (s.cores[n]).instrs + (confirmedNum (threadOf s n t) - (threadOf s n t).confirmed)

theorem account_eq_setThread : account s n t =
    setThread s n t ((s.cores[n]).progress + BitVec.ofNat 64 (instrsNow s n t / 1024)) (instrsNow s n t % 1024)
      { threadOf s n t with confirmed := confirmedNum (threadOf s n t) } := by
  simp only [account, modThread_eq_setThread]
  simp only [modCore, setThread, instrsNow, vmod_fin, Fin.getElem_fin, Vector.getElem_set_self, Vector.set_set]

end Threads

/-! ### An instruction executes (10 R221, R234) -/

/-- A retired instruction changes its thread's registers, and makes it run. -/
theorem retire_executed (s : State) (n : Fin 32) (t : Fin 4) (r : Regs) (old : Nat) {pc : Nat} (h : pc < istoreSize) :
    Executed s (retire s n t r old pc) n t (r.at_ pc) := by
  rw [retire, if_neg (Nat.not_le.mpr h), modThread_eq_setThread, account_eq_setThread, setThread_setThread,
    threadOf_setThread]
  refine ⟨?_, setThread_onlyThread _ _ _ _ _ _, rfl⟩
  rw [ThreadNow, threadOf_setThread]
  exact ⟨rfl, rfl, rfl, rfl, rfl, rfl, rfl⟩

section Instructions
variable {i : Instr} {s : State} {n : Fin 32} {t : Fin 4} {key w : Nat} {r : Regs}

/-- The instruction that stands at the PC is the one executed. -/
theorem seqDo_stands (h : Stands s n t key w r) (f : Nat → Regs → State → SeqRes) :
    seqDo s n t key f = match f w r s with
      | .wait s => s
      | .fault k d a => seqFault s n t k d r.pc a
      | .next s r' => retire s n t r' r.pc (r.pc + 4)
      | .goto s r' p => retire s n t r' r.pc p
      | .branch s r' a o => branchTo s n t r' r.pc a o := by
  obtain ⟨_, can, land, aligned, _, word, legal, hkey⟩ := h
  simp [seqDo, can, land, aligned, word, legal, hkey] <;> rfl

theorem seqAlu_stands (h : Stands s n t key w r) (f : Nat → Regs → Regs) :
    seqAlu s n t key f = retire s n t (f w r) r.pc (r.pc + 4) := by
  rw [seqAlu, seqDo_stands h]

/-- An instruction of registers alone leaves the registers it computes, at the next word. -/
theorem runs_seqAlu {f : State → Nat → Regs → Regs} (e : exec i s = live s fun u => seqAlu u n t key (f u))
    (h : Stands s n t key w r) : Runs i s fun u => Executed s u n t ((f s w r).at_ (r.pc + 4)) := by
  refine runs_live e h.1 ?_
  rw [seqAlu_stands h]
  obtain ⟨_, _, _, _, room, _⟩ := h
  exact retire_executed s n t (f s w r) r.pc room

theorem writes_seqPut {f : Nat → Regs → Dword} {v : Dword} (e : exec i s = live s fun u => seqPut u n t key f)
    (hv : f w r = v) (h : Stands s n t key w r) : Writes i s n t r (wRd w) v := by
  subst hv
  exact runs_seqAlu (f := fun _ w r => r.put (wRd w) (f w r)) e h

end Instructions

/-! ### Immediates (10 R224) -/

theorem wRd_lt (w : Nat) : wRd w < 32 := Nat.mod_lt _ (by decide)

theorem wRb_lt (w : Nat) : wRb w < 32 := Nat.mod_lt _ (by decide)

theorem wImm_eq (w : Nat) : wImm w = w % 2 ^ 16 := by simp [wImm, bitsAt]

theorem wImm_mod_64 (w : Nat) : wImm w % 64 = w % 64 := by rw [wImm_eq]; omega

/-- The two's-complement reading of the low bits is the reading of the bit vector. -/
theorem toSigned_mod (k w : Nat) : toSigned (k + 1) (w % 2 ^ (k + 1)) = (BitVec.ofNat (k + 1) w).toInt := by
  have hk : 2 ^ (k + 1) = 2 * 2 ^ k := Nat.pow_succ'
  rw [toSigned, BitVec.toInt_eq_toNat_cond, BitVec.toNat_ofNat, Nat.add_sub_cancel]
  by_cases h : w % 2 ^ (k + 1) < 2 ^ k
  · rw [if_pos h, if_pos (by omega)]
  · rw [if_neg h, if_neg (by omega)]

theorem wImm_zeroExtend (w : Nat) : BitVec.ofNat 64 (wImm w) = (BitVec.ofNat 16 w).setWidth 64 := by
  apply BitVec.eq_of_toNat_eq
  simp [wImm_eq]

theorem wSimm_signExtend (w : Nat) : dword (wSimm w) = (BitVec.ofNat 16 w).signExtend 64 := by
  rw [dword, wSimm, wImm_eq, toSigned_mod 15]
  rfl

theorem wImm_upper (w : Nat) : dword (toSigned 32 (wImm w * 65536)) = (BitVec.ofNat 16 w ++ (0 : BitVec 16)).signExtend 64 := by
  have e : BitVec.ofNat 32 (wImm w * 65536) = BitVec.ofNat 16 w ++ (0 : BitVec 16) := by
    apply BitVec.eq_of_toNat_eq
    rw [BitVec.toNat_append, wImm_eq]
    simp [Nat.shiftLeft_eq]
    omega
  have m : wImm w * 65536 % 2 ^ 32 = wImm w * 65536 := Nat.mod_eq_of_lt (by rw [wImm_eq]; omega)
  rw [dword, ← m, toSigned_mod 31, e]
  rfl

/-! ### Results by their formulas (10 R222, R225) -/

section Values
variable (a b : Dword)

theorem boolD_slt : boolD (a.toInt < b.toInt) = if a.slt b then 1 else 0 := by
  simp [boolD, BitVec.slt]

theorem boolD_ult : boolD (a.toNat < b.toNat) = if a < b then 1 else 0 := by
  simp [boolD, BitVec.lt_def]

theorem max_toInt : (if b.toInt ≤ a.toInt then a else b) = if a.slt b then b else a := by
  simp only [BitVec.slt, decide_eq_true_eq, ← not_lt, ite_not]

theorem max_toNat : (if b.toNat ≤ a.toNat then a else b) = if a < b then b else a := by
  simp only [BitVec.lt_def, ← not_lt, ite_not]

/-- Of equal values either is the smaller: signed. -/
theorem min_toInt : (if a.toInt ≤ b.toInt then a else b) = if a.slt b then a else b := by
  rcases eq_or_ne a b with rfl | ne
  · simp
  · simp only [BitVec.slt, decide_eq_true_eq, lt_iff_le_and_ne, ne_eq, BitVec.toInt_inj, ne, not_false_eq_true, and_true]

/-- Of equal values either is the smaller: unsigned. -/
theorem min_toNat : (if a.toNat ≤ b.toNat then a else b) = if a < b then a else b := by
  rcases eq_or_ne a b with rfl | ne
  · simp
  · simp only [BitVec.lt_def, lt_iff_le_and_ne, ne_eq, BitVec.toNat_inj, ne, not_false_eq_true, and_true]

/-- The two halves of a 128-bit product. -/
theorem halves (p : BitVec 128) : BitVec.ofNat 64 (p.toNat / 2 ^ 64) = p.extractLsb' 64 64 ∧
    BitVec.ofNat 64 p.toNat = p.extractLsb' 0 64 := by
  constructor <;> apply BitVec.eq_of_toNat_eq <;> simp [Nat.shiftRight_eq_div_pow]

theorem signed_product : (a.signExtend 128 * b.signExtend 128).toNat = (a.toInt * b.toInt % (2 ^ 128 : Nat)).toNat := by
  rw [BitVec.signExtend, BitVec.signExtend, ← BitVec.ofInt_mul, BitVec.toNat_ofInt]

theorem unsigned_product : (a.setWidth 128 * b.setWidth 128).toNat = a.toNat * b.toNat := by
  have ha := a.isLt
  have hb := b.isLt
  have h : a.toNat * b.toNat < 2 ^ 128 := lt_of_lt_of_eq (Nat.mul_lt_mul'' ha hb) (Nat.pow_add 2 64 64).symm
  rw [BitVec.toNat_mul, BitVec.toNat_setWidth, BitVec.toNat_setWidth, Nat.mod_eq_of_lt (a := a.toNat) (by omega),
    Nat.mod_eq_of_lt (a := b.toNat) (by omega), Nat.mod_eq_of_lt h]

end Values

/-- A product of 128 bits is queued by its two halves, due at the fourth instruction after its own (10 R222, R223). -/
theorem mulInto_at (p : BitVec 128) (r : Regs) (pc : Nat) :
    (mulInto p.toNat r).at_ pc = Regs.at_ ⟨r.g, r.lk, r.ph, r.pl, r.pc, r.num, r.prods ++
      [⟨r.num + 4, p.extractLsb' 64 64, p.extractLsb' 0 64⟩]⟩ pc := by
  obtain ⟨hi, lo⟩ := halves p
  rw [mulInto, hi, lo]

/-! ### Products land (10 R222, R223) -/

theorem landDue_due {r : Regs} {p : Product} (h : r.prods = [p]) (d : p.landAt ≤ r.num) :
    landDue r = ⟨r.g, r.lk, p.ph, p.pl, r.pc, r.num, []⟩ := by
  simp [landDue, h, d]

theorem landDue_early {r : Regs} {p : Product} (h : r.prods = [p]) (d : r.num < p.landAt) : landDue r = r := by
  obtain ⟨g, lk, ph, pl, pc, num, prods⟩ := r
  subst h
  simp [landDue, Nat.not_le.mpr d]

theorem runs_productLand {s : State} (h : Awake s) (n : Fin 32) (t : Fin 4) :
    Runs (.productLand n t) s fun u => (threadOf u n t).regs = landDue (threadOf s n t).regs ∧ OnlyThread s u n t := by
  refine runs_live (show execProductLand n t s = _ from rfl) h ?_
  rw [modThread_eq_setThread]
  exact ⟨by rw [threadOf_setThread], setThread_onlyThread _ _ _ _ _ _⟩

/-! ### RDTIME (02 R29; 10 R225) -/

/-- Two different registers written: each reads its own value, and every other as before. -/
theorem Regs.get_put_put {r : Regs} {i j : Nat} (ne : i ≠ j) (hi : i < 32) (hj : j < 32) (v x : Dword) :
    (i ≠ 0 → ((r.put i v).put j x).get i = v) ∧ (j ≠ 0 → ((r.put i v).put j x).get j = x) ∧
      ∀ k : Nat, k ≠ i → k ≠ j → ((r.put i v).put j x).get k = r.get k := by
  refine ⟨fun h => ?_, fun h => Regs.get_put _ _ h hj, fun k hki hkj => ?_⟩
  · rw [Regs.get_put_other _ _ ne, Regs.get_put _ _ h hi]
  · rw [Regs.get_put_other _ _ hkj, Regs.get_put_other _ _ hki]

@[simp] theorem Regs.get_at (r : Regs) (pc i : Nat) : (r.at_ pc).get i = r.get i := rfl

/-! ### The statement -/

section Statement
variable {s : State} {n : Fin 32} {t : Fin 4} {w : Nat} {r : Regs}

theorem runs_seqMul {a b : Dword} (ha : r.get (wRa w) = a) (hb : r.get (wRb w) = b) (h : Stands s n t 0x200 w r) :
    Runs (.seqMul n t) s fun u => Executed s u n t (Regs.at_ ⟨r.g, r.lk, r.ph, r.pl, r.pc, r.num, r.prods ++
      [⟨r.num + 4, (a.signExtend 128 * b.signExtend 128).extractLsb' 64 64,
        (a.signExtend 128 * b.signExtend 128).extractLsb' 0 64⟩]⟩ (r.pc + 4)) := by
  rw [← mulInto_at, signed_product, ← ha, ← hb]
  exact runs_seqAlu (f := fun _ w r => mulInto ((r.get (wRa w)).toInt * (r.get (wRb w)).toInt % (2 ^ 128 : Nat)).toNat r)
    (show execSeqMul n t s = _ from rfl) h

theorem runs_seqMulu {a b : Dword} (ha : r.get (wRa w) = a) (hb : r.get (wRb w) = b) (h : Stands s n t 0x201 w r) :
    Runs (.seqMulu n t) s fun u => Executed s u n t (Regs.at_ ⟨r.g, r.lk, r.ph, r.pl, r.pc, r.num, r.prods ++
      [⟨r.num + 4, (a.setWidth 128 * b.setWidth 128).extractLsb' 64 64,
        (a.setWidth 128 * b.setWidth 128).extractLsb' 0 64⟩]⟩ (r.pc + 4)) := by
  rw [← mulInto_at, unsigned_product, ← ha, ← hb]
  exact runs_seqAlu (f := fun _ w r => mulInto ((r.get (wRa w)).toNat * (r.get (wRb w)).toNat) r)
    (show execSeqMulu n t s = _ from rfl) h

theorem runs_seqRdtime (h : Stands s n t 0x247 w r) (ne : wRd w ≠ wRb w) :
    Runs (.seqRdtime n t) s fun u => ∃ q : Regs, Executed s u n t (q.at_ (r.pc + 4)) ∧
      (wRd w ≠ 0 → q.get (wRd w) = dtNs s) ∧ (wRb w ≠ 0 → q.get (wRb w) = (dtFrac s).setWidth 64) ∧
        ∀ i : Nat, i ≠ wRd w → i ≠ wRb w → q.get i = r.get i := by
  obtain ⟨u, e, done⟩ := runs_seqAlu
    (f := fun s w r => (r.put (wRd w) (dtNs s)).put (wRb w) ((dtFrac s).setWidth 64))
    (show exec (.seqRdtime n t) s = _ from rfl) h
  exact ⟨u, e, _, done, Regs.get_put_put ne (wRd_lt w) (wRb_lt w) _ _⟩

end Statement

/-- Settles O22: each instruction of registers alone retires with the registers it computes; products by their halves. -/
theorem registerArithmetic : Obligations.RegisterArithmetic := by
  unfold Obligations.RegisterArithmetic
  refine ⟨fun s n t w r a b ha hb => ?registers, fun s n t w r a b ha hb => ?products⟩
  case registers =>
    subst ha hb
    have imm := wImm_zeroExtend w
    have simm := wSimm_signExtend w
    have sh := wImm_mod_64 w
    refine ⟨writes_seqPut (show execSeqAdd n t s = _ from rfl) rfl, writes_seqPut (show execSeqSub n t s = _ from rfl) rfl,
      writes_seqPut (show execSeqAnd n t s = _ from rfl) rfl, writes_seqPut (show execSeqOr n t s = _ from rfl) rfl,
      writes_seqPut (show execSeqXor n t s = _ from rfl) rfl, writes_seqPut (show execSeqSll n t s = _ from rfl) rfl,
      writes_seqPut (show execSeqSrl n t s = _ from rfl) rfl, writes_seqPut (show execSeqSra n t s = _ from rfl) rfl,
      writes_seqPut (show execSeqSlt n t s = _ from rfl) (boolD_slt _ _),
      writes_seqPut (show execSeqSltu n t s = _ from rfl) (boolD_ult _ _),
      writes_seqPut (show execSeqMin n t s = _ from rfl) (min_toInt _ _),
      writes_seqPut (show execSeqMax n t s = _ from rfl) (max_toInt _ _),
      writes_seqPut (show execSeqMinu n t s = _ from rfl) (min_toNat _ _),
      writes_seqPut (show execSeqMaxu n t s = _ from rfl) (max_toNat _ _),
      writes_seqPut (show execSeqAddi n t s = _ from rfl) (by rw [simm]),
      writes_seqPut (show execSeqAndi n t s = _ from rfl) (by rw [imm]),
      writes_seqPut (show execSeqOri n t s = _ from rfl) (by rw [imm]),
      writes_seqPut (show execSeqXori n t s = _ from rfl) (by rw [imm]),
      writes_seqPut (show execSeqSlli n t s = _ from rfl) (by rw [sh]),
      writes_seqPut (show execSeqSrli n t s = _ from rfl) (by rw [sh]),
      writes_seqPut (show execSeqSrai n t s = _ from rfl) (by rw [sh]),
      writes_seqPut (show execSeqLui n t s = _ from rfl) (wImm_upper w), fun v => ⟨Regs.put_zero r v, Regs.get_zero _⟩⟩
  case products =>
    refine ⟨runs_seqMul ha hb, runs_seqMulu ha hb, fun p awake hr hp due => ?due, fun p awake hr hp early => ?early,
      writes_seqPut (show execSeqMfpl n t s = _ from rfl) rfl, writes_seqPut (show execSeqMfph n t s = _ from rfl) rfl,
      writes_seqPut (show execSeqMflk n t s = _ from rfl) rfl, fun h => ?mtlk, runs_seqRdtime⟩
    case due =>
      rw [← landDue_due hp due, ← hr]
      exact runs_productLand awake n t
    case early =>
      obtain ⟨u, e, regs, _⟩ := runs_productLand awake n t
      exact ⟨u, e, regs.trans (by rw [hr, landDue_early hp early])⟩
    case mtlk =>
      rw [← ha]
      exact runs_seqAlu (f := fun _ w r => { r with lk := r.get (wRa w) }) (show execSeqMtlk n t s = _ from rfl) h

end Sys2Proof.Machine

/-! ## What goes to the host, and events: what they leave (05 R110, R111; 06 R129, R136 to R141) -/

namespace Sys2Proof.Machine

/-- `t` is `s` once events are raised and the host is written: only the number and the log of events, the host link and what
has been sent, which grows, may differ. -/
def Announced (s t : State) : Prop :=
  ∃ n l h o, t = { s with mbx := { s.mbx with evtSeq := n, log := l }, hl := h, out := s.out ++ o }

theorem Announced.refl (s : State) : Announced s s := ⟨s.mbx.evtSeq, s.mbx.log, s.hl, [], by simp⟩

theorem Announced.trans {s t u : State} (h : Announced s t) (k : Announced t u) : Announced s u := by
  obtain ⟨n, l, hl, o, rfl⟩ := h
  obtain ⟨n', l', hl', o', rfl⟩ := k
  exact ⟨n', l', hl', o ++ o', by simp⟩

namespace Announced
variable (s : State)

theorem ofEmit (o : Out) : Announced s (emit s o) := ⟨s.mbx.evtSeq, s.mbx.log, s.hl, [o], rfl⟩

theorem ofLink (h : HostLink) : Announced s { s with hl := h } := ⟨s.mbx.evtSeq, s.mbx.log, h, [], by simp⟩

theorem ofIte {c : Bool} {a b : State} (ha : Announced s a) (hb : Announced s b) : Announced s (if c then a else b) := by
  cases c
  · exact hb
  · exact ha

theorem ofMsixSend (v : Nat) : Announced s (msixSend s v) := by
  unfold msixSend
  exact ofIte s ((ofLink s _).trans (ofEmit _ _)) (ofLink s _)

theorem ofMsixNow (v : Nat) : Announced s (msixNow s v) :=
  ofIte s (ofLink s _) (ofIte s (ofLink s _) (ofMsixSend s v))

theorem ofSetInt (b : Fin 6) : Announced s (setInt s b) :=
  ofIte s (refl s) (ofIte s ((ofLink s _).trans (ofMsixNow _ _)) (ofLink s _))

theorem ofPostOut (a : Nat) (d : Bytes) (ro : Bool) (ctx : Nat) : Announced s (postOut s a d ro ctx) :=
  ofIte s (ofEmit s _) (refl s)

theorem ofAtsAsk (w : AtsWhy) (p : Option (BitVec 20)) (a : Nat) (b : Bool) : Announced s (atsAsk s w p a b) :=
  (ofEmit s _).trans (ofLink _ _)

theorem ofEventQuiet (t : Half) (v : Byte) (d : Bytes) : Announced s (eventQuiet s t v d).1 := by
  unfold eventQuiet
  split
  · exact refl s
  · dsimp only
    split <;> exact ⟨_, _, s.hl, [], by rw [List.append_nil]⟩

theorem ofEnqueue (l : List Post) : Announced s (enqueue s l) := ofLink s _

theorem ofPostDenied (a ctx : Nat) : Announced s (postDenied s a ctx) :=
  ((ofSetInt s 3).trans (ofEventQuiet _ _ _ _)).trans (ofEnqueue _ _)

theorem ofEventDenied (a : Nat) : Announced s (eventDenied s a) := (ofSetInt s 3).trans (ofEventQuiet _ _ _ _)

theorem ofDrainPosts (n : Nat) : Announced s (drainPosts n s) := by
  induction n generalizing s with
  | zero => exact refl s
  | succ n ih =>
    unfold drainPosts
    split
    · exact refl s
    · dsimp only
      split
      · exact ((ofLink s _).trans (ofMsixNow _ _)).trans (ih _)
      · split
        · exact ((ofLink s _).trans (ofPostOut _ _ _ _ _)).trans (ih _)
        · exact ((ofLink s _).trans (ofPostDenied _ _ _)).trans (ih _)
        · exact ofIte s ((ofLink s _).trans (ih _)) (ofIte s (refl s) (ofAtsAsk s _ _ _ _))
      · split
        · exact ((ofLink s _).trans (ofPostOut _ _ _ _ _)).trans (ih _)
        · exact ((ofLink s _).trans (ofEventDenied _ _)).trans (ih _)
        · exact ofIte s ((ofLink s _).trans (ih _)) (ofIte s (refl s) (ofAtsAsk s _ _ _ _))

theorem ofPost (p : Post) : Announced s (post s p) := (ofEnqueue s [p]).trans (ofDrainPosts _ _)

theorem ofMsix (v : Nat) : Announced s (msix s v) := ofPost s _

theorem ofEvent (t : Half) (v : Byte) (d : Bytes) : Announced s (event s t v d) :=
  ((ofEventQuiet s t v d).trans (ofEnqueue _ _)).trans (ofDrainPosts _ _)

theorem ofFwError (n : Nat) (v : Byte) (d : Bytes) : Announced s (fwError s n v d) := ofEvent s _ _ _

theorem ofNorWrite (n : Nat) : Announced s (norWrite s n) := ofIte s (refl s) (ofFwError s _ _ _)

end Announced
end Sys2Proof.Machine

/-! ## 02: the steps of the timebase (the statement of O2) -/

namespace Sys2Proof.Machine

/-! ### What the timebase unit leaves of the other units -/

/-- A step of the timebase or of the calibration leaves every mailbox channel, the state of every link and the health registers,
and takes back nothing that was sent. -/
structure TimeOnly (s t : State) : Prop where
  chans : t.mbx.chans = s.mbx.chans
  links : t.fab.links = s.fab.links
  hlt : t.hlt = s.hlt
  out : s.out <+: t.out

theorem TimeOnly.refl (s : State) : TimeOnly s s := ⟨rfl, rfl, rfl, List.prefix_rfl⟩

theorem TimeOnly.trans {s t u : State} (h : TimeOnly s t) (k : TimeOnly t u) : TimeOnly s u :=
  ⟨k.chans.trans h.chans, k.links.trans h.links, k.hlt.trans h.hlt, h.out.trans k.out⟩

theorem TimeOnly.chan {s t : State} (h : TimeOnly s t) (c : Chan) : chan t c = chan s c := by
  rw [Machine.chan, h.chans, Machine.chan]

theorem TimeOnly.linkOf {s t : State} (h : TimeOnly s t) (l : Nat) : linkOf t l = linkOf s l := by
  rw [Machine.linkOf, h.links, Machine.linkOf]

/-- Neither the timebase nor the calibration is among what `TimeOnly` keeps. -/
theorem TimeOnly.ofTime {s : State} (b : Timebase) (c : Calib) : TimeOnly s { s with tb := b, cal := c } :=
  ⟨rfl, rfl, rfl, List.prefix_rfl⟩

namespace Announced
variable {s t : State}

theorem timeOnly (h : Announced s t) : TimeOnly s t := by
  obtain ⟨n, l, hl, o, rfl⟩ := h
  exact ⟨rfl, rfl, rfl, List.prefix_append _ _⟩

theorem tb (h : Announced s t) : t.tb = s.tb := by
  obtain ⟨n, l, hl, o, rfl⟩ := h
  rfl

theorem cal (h : Announced s t) : t.cal = s.cal := by
  obtain ⟨n, l, hl, o, rfl⟩ := h
  rfl

theorem ofTimeEvent (b : Timebase) (s : State) : Announced s (timeEvent b s) := by
  unfold timeEvent
  split
  · exact refl s
  · exact ofEvent s _ _ _

theorem ofCalFailEvent (s : State) (r m : Nat) : Announced s (calFailEvent s r m) := ofEvent s _ _ _

end Announced

@[simp] theorem timeStep_tb (f : State → State) (s : State) : (timeStep f s).tb = (f s).tb := (Announced.ofTimeEvent _ _).tb

@[simp] theorem timeStep_cal (f : State → State) (s : State) : (timeStep f s).cal = (f s).cal := (Announced.ofTimeEvent _ _).cal

theorem timeStep_timeOnly {f : State → State} {s : State} (h : TimeOnly s (f s)) : TimeOnly s (timeStep f s) :=
  h.trans (Announced.ofTimeEvent _ _).timeOnly

/-! ### The calibration record (03 R55, R61) -/

/-- An item without what the record takes of it and what first lock gives it. -/
def unrecorded (i : CalItem) : CalItem :=
  { i with last := 0, bootPass := false, stored := none, recCount := 0, recLast := 0 }

/-- The calibration without the record: results, values and targets of the items, and the run. -/
def results (c : Calib) : Calib := { c with items := c.items.map unrecorded, thermRec := none, recFail := false }

/-- Equal results have every item equal but for its record. -/
theorem unrecorded_of_results {c d : Calib} (h : results c = results d) (n : Fin 28) :
    unrecorded c.items[n] = unrecorded d.items[n] := by
  have e : c.items.map unrecorded = d.items.map unrecorded := congrArg Calib.items h
  simpa using congrArg (fun v : Vector CalItem 28 => v[n]) e

/-- An update of every item that its record alone sees. -/
theorem results_items {c : Calib} {v : Vector CalItem 28} (r : Option (List Word)) (f : Bool)
    (h : ∀ n : Fin 28, unrecorded v[n] = unrecorded c.items[n]) :
    results { c with items := v, thermRec := r, recFail := f } = results c := by
  have e : v.map unrecorded = c.items.map unrecorded := by
    apply Vector.ext
    intro n hn
    simpa using h ⟨n, hn⟩
  simp only [results, e]

section Record
variable (s : State) (m : Nat)

theorem calRecord_cases :
    (∃ v r, calRecord s m = { s with cal := { s.cal with items := v, thermRec := r, recFail := false } } ∧
      ∀ n : Fin 28, unrecorded v[n] = unrecorded s.cal.items[n]) ∨
    Announced { s with cal := { s.cal with recFail := true } } (calRecord s m) := by
  unfold calRecord
  split
  · refine .inl ⟨_, _, rfl, fun n => ?_⟩
    simp only [Fin.getElem_fin, Vector.getElem_ofFn]
    split <;> rfl
  · refine .inr ?_
    dsimp only
    split
    · exact Announced.ofNorWrite _ _
    · exact (Announced.ofNorWrite _ _).trans (Announced.ofCalFailEvent _ _ _)

theorem calRecord_timeOnly : TimeOnly s (calRecord s m) := by
  rcases calRecord_cases s m with ⟨v, r, e, _⟩ | a
  · rw [e]; exact .ofTime _ _
  · exact TimeOnly.trans (.ofTime s.tb _) a.timeOnly

@[simp] theorem calRecord_tb : (calRecord s m).tb = s.tb := by
  rcases calRecord_cases s m with ⟨v, r, e, _⟩ | a
  · rw [e]
  · exact a.tb

@[simp] theorem calRecord_results : results (calRecord s m).cal = results s.cal := by
  rcases calRecord_cases s m with ⟨v, r, e, h⟩ | a
  · rw [e]; exact results_items r false h
  · rw [a.cal]; rfl

/-- First lock dates the items of the power-up run and writes the record: `calFirstLock` is that record of dated items. -/
theorem calFirstLock_cases : ∃ v : Vector CalItem 28, (∀ n : Fin 28, unrecorded v[n] = unrecorded s.cal.items[n]) ∧
    (calFirstLock s = { s with cal := { s.cal with items := v } } ∨
      ∃ k, calFirstLock s = calRecord { s with cal := { s.cal with items := v } } k) := by
  unfold calFirstLock
  refine ⟨s.cal.items.map fun i => if i.bootPass then { i with last := dtNs s, bootPass := false } else i, fun n => ?_, ?_⟩
  · simp only [Fin.getElem_fin, Vector.getElem_map]
    split <;> rfl
  · dsimp only
    split
    · exact .inl rfl
    · exact .inr ⟨_, rfl⟩

theorem calFirstLock_timeOnly : TimeOnly s (calFirstLock s) := by
  obtain ⟨v, _, e | ⟨k, e⟩⟩ := calFirstLock_cases s <;> rw [e]
  · exact .ofTime _ _
  · exact TimeOnly.trans (.ofTime s.tb _) (calRecord_timeOnly _ _)

@[simp] theorem calFirstLock_tb : (calFirstLock s).tb = s.tb := by
  obtain ⟨v, _, e | ⟨k, e⟩⟩ := calFirstLock_cases s <;> rw [e]
  exact calRecord_tb _ _

@[simp] theorem calFirstLock_results : results (calFirstLock s).cal = results s.cal := by
  obtain ⟨v, h, e | ⟨k, e⟩⟩ := calFirstLock_cases s <;> rw [e]
  · exact results_items _ _ h
  · rw [calRecord_results]; exact results_items _ _ h

end Record

/-! ### Choosing and following a source (02 R31 to R34, R37, R39) -/

/-- The timebase without DT and its lock: what the choice of a source, the discipline by it and first lock leave. -/
def unlocked (tb : Timebase) : Timebase :=
  { tb with
    count := 0, valid := false, source := .none, holdover := false, lock24h := false, tookAt := none, lockSince := none,
    holdEst := 0, holdAt := 0, phaseErr := 0, errAt := 0, gnssOff := 0, extOff := 0, fabOff := 0, freq := 0, calAt := 0,
    exch := none, exchOld := [], timeSet := none, utc := ⟨0, false, 0, false, 0⟩ }

/-- The timebase without which source is followed: what following another source leaves. -/
def unfollowed (tb : Timebase) : Timebase :=
  { tb with
    source := .none, holdover := false, lock24h := false, tookAt := none, lockSince := none,
    holdEst := 0, holdAt := 0, phaseErr := 0, errAt := 0 }

/-- A field that a view of the timebase shows is equal where the views are. -/
theorem field_eq {α : Type} (view : Timebase → Timebase) (f : Timebase → α) (shown : ∀ b, f (view b) = f b) {b c : Timebase}
    (h : view b = view c) : f b = f c := by
  rw [← shown b, h, shown c]

theorem unlocked_of_unfollowed {b c : Timebase} (h : unfollowed b = unfollowed c) : unlocked b = unlocked c :=
  field_eq unfollowed unlocked (fun _ => rfl) h

@[simp] theorem updLock_unfollowed (tb : Timebase) : unfollowed (updLock tb) = unfollowed tb := by
  unfold updLock
  split <;> rfl

@[simp] theorem follow_unfollowed (tb : Timebase) (x : Source) : unfollowed (follow tb x) = unfollowed tb := by
  unfold follow
  split <;> rw [updLock_unfollowed] <;> rfl

theorem updLock_source (tb : Timebase) : (updLock tb).source = tb.source ∧ (updLock tb).holdover = tb.holdover := by
  unfold updLock
  split <;> exact ⟨rfl, rfl⟩

/-- Following a source is no holdover (02 R39). -/
theorem follow_source (tb : Timebase) {x : Source} (h : x ≠ .none) : (follow tb x).source = x ∧ (follow tb x).holdover = false := by
  rw [follow, if_neg h]
  exact updLock_source _

/-- How the exchanges in progress of `b` stand in `c`: moved with DT, those not yet asked as they were (02 R34, log 55). -/
def ExchMoved (b c : Timebase) : Prop :=
  ∃ f : Exchange → Exchange, (∀ e, (f e).seq = e.seq) ∧ (∀ e, e.asked = false → f e = e) ∧
    c.exch = b.exch.map f ∧ c.exchOld = b.exchOld.map fun x => (f x.1, x.2)

theorem ExchMoved.refl (b : Timebase) : ExchMoved b b := ⟨id, fun _ => rfl, fun _ _ => rfl, by simp, by simp⟩

theorem ExchMoved.trans {b c d : Timebase} (h : ExchMoved b c) (k : ExchMoved c d) : ExchMoved b d := by
  obtain ⟨f, fs, fa, fe, fo⟩ := h
  obtain ⟨g, gs, ga, ge, go⟩ := k
  refine ⟨g ∘ f, fun e => (gs _).trans (fs e), fun e a => ?_, by simp [ge, fe], by simp [go, fo]⟩
  rw [Function.comp_apply, fa e a, ga e a]

theorem shiftExch_seq (d : Int) (e : Exchange) : (shiftExch d e).seq = e.seq := by
  unfold shiftExch
  dsimp only
  split <;> rfl

theorem shiftExch_unasked (d : Int) {e : Exchange} (h : e.asked = false) : shiftExch d e = e := by
  simp [shiftExch, h]

/-- First lock steps DT to `now` in the timebase, and dates the calibration (02 R34; 03 R61). -/
theorem firstLock_spec (s : State) (x : Source) (now : BitVec 96) : ∃ f b,
    firstLock s x now = calFirstLock { s with fab := f, tb := b } ∧ f.links = s.fab.links ∧ unlocked b = unlocked s.tb ∧
      ExchMoved s.tb b ∧ b.valid = true ∧ b.source = x ∧ b.count = now := by
  unfold firstLock
  refine ⟨_, _, rfl, rfl, ?_, ?_, ?_⟩
  · exact (unlocked_of_unfollowed (updLock_unfollowed _)).trans rfl
  · refine ⟨shiftExch ((now.toNat : Int) - s.tb.count.toNat), shiftExch_seq _, fun e h => shiftExch_unasked _ h, ?_, ?_⟩ <;>
      (unfold updLock; split <;> rfl)
  · unfold updLock
    split <;> exact ⟨rfl, rfl, rfl⟩

theorem firstLock_timeOnly (s : State) (x : Source) (now : BitVec 96) : TimeOnly s (firstLock s x now) := by
  obtain ⟨f, b, e, links, _⟩ := firstLock_spec s x now
  rw [e]
  have h : TimeOnly s { s with fab := f, tb := b } := ⟨rfl, links, rfl, List.prefix_rfl⟩
  exact h.trans (calFirstLock_timeOnly _)

/-- What first lock makes of the timebase. -/
theorem firstLock_tb (s : State) (x : Source) (now : BitVec 96) :
    unlocked (firstLock s x now).tb = unlocked s.tb ∧ ExchMoved s.tb (firstLock s x now).tb ∧
      (firstLock s x now).tb.valid = true ∧ (firstLock s x now).tb.source = x ∧ (firstLock s x now).tb.count = now := by
  obtain ⟨f, b, e, _, h⟩ := firstLock_spec s x now
  rw [e, calFirstLock_tb]
  exact h

@[simp] theorem firstLock_results (s : State) (x : Source) (now : BitVec 96) :
    results (firstLock s x now).cal = results s.cal := by
  obtain ⟨f, b, e, _⟩ := firstLock_spec s x now
  rw [e, calFirstLock_results]

/-- A source is followed or not, or the choice is first lock (02 R31, R32, R34). -/
theorem reselect_cases (lost : Bool) (s : State) :
    (∃ b, reselect lost s = { s with tb := b } ∧ unfollowed b = unfollowed s.tb) ∨
      (s.tb.valid = false ∧ ∃ x now, reselect lost s = firstLock s x now) := by
  have stay : ∃ b, s = { s with tb := b } ∧ unfollowed b = unfollowed s.tb := ⟨s.tb, rfl, rfl⟩
  have go (x : Source) : ∃ b, { s with tb := follow s.tb x } = { s with tb := b } ∧ unfollowed b = unfollowed s.tb :=
    ⟨_, rfl, follow_unfollowed _ _⟩
  have atOnce (x : Source) : ∃ b, { s with tb := { follow s.tb x with tookAt := some s.tb.up } } = { s with tb := b } ∧
      unfollowed b = unfollowed s.tb := ⟨_, rfl, (follow_unfollowed s.tb x).trans rfl⟩
  have same : ∃ b, { s with tb := updLock s.tb } = { s with tb := b } ∧ unfollowed b = unfollowed s.tb :=
    ⟨_, rfl, updLock_unfollowed _⟩
  unfold reselect
  dsimp only
  split
  case isTrue v =>
    split
    · exact .inl stay
    · split
      · exact .inl stay
      · exact .inr ⟨by simpa using v, _, _, rfl⟩
  case isFalse =>
    refine .inl ?_
    split
    · split
      · exact stay
      · exact atOnce _
    · split
      · exact stay
      · exact atOnce _
    · split
      · exact go _
      · split
        · exact same
        · split
          · exact atOnce _
          · split
            · exact go _
            · exact same

section Reselect
variable (lost : Bool) (s : State)

theorem reselect_timeOnly : TimeOnly s (reselect lost s) := by
  rcases reselect_cases lost s with ⟨b, e, _⟩ | ⟨_, x, now, e⟩ <;> rw [e]
  · exact .ofTime b s.cal
  · exact firstLock_timeOnly _ _ _

@[simp] theorem reselect_unlocked : unlocked (reselect lost s).tb = unlocked s.tb := by
  rcases reselect_cases lost s with ⟨b, e, h⟩ | ⟨_, x, now, e⟩ <;> rw [e]
  · exact unlocked_of_unfollowed h
  · exact (firstLock_tb s x now).1

theorem reselect_exchMoved : ExchMoved s.tb (reselect lost s).tb := by
  rcases reselect_cases lost s with ⟨b, e, h⟩ | ⟨_, x, now, e⟩ <;> rw [e]
  · have h1 : b.exch = s.tb.exch := field_eq unfollowed Timebase.exch (fun _ => rfl) h
    have h2 : b.exchOld = s.tb.exchOld := field_eq unfollowed Timebase.exchOld (fun _ => rfl) h
    exact ⟨id, fun _ => rfl, fun _ _ => rfl, by simp [h1], by simp [h2]⟩
  · exact (firstLock_tb s x now).2.1

@[simp] theorem reselect_results : results (reselect lost s).cal = results s.cal := by
  rcases reselect_cases lost s with ⟨b, e, _⟩ | ⟨_, x, now, e⟩ <;> rw [e]
  exact firstLock_results _ _ _

/-- Once locked, a choice changes which source is followed and no more (02 R34). -/
theorem reselect_valid (v : s.tb.valid = true) : ∃ b, reselect lost s = { s with tb := b } ∧ unfollowed b = unfollowed s.tb := by
  rcases reselect_cases lost s with h | ⟨f, _⟩
  · exact h
  · rw [v] at f; cases f

variable {α : Type} (f : Timebase → α) (shown : ∀ b, f (unlocked b) = f b)
include shown

/-- Whatever of the timebase is not DT or its lock, the choice of a source keeps. -/
theorem reselect_keeps : f (reselect lost s).tb = f s.tb := field_eq unlocked f shown (reselect_unlocked lost s)

end Reselect

/-! ### The sources qualify and disqualify (02 R30) -/

theorem sinceOpt_some {s : State} {x n : Nat} (h : x + n ≤ s.tb.up) : sinceOpt s (some x) n = true := by
  simpa [sinceOpt, since] using h

section Sources
variable {s : State}

theorem gnssQualify_qualifies {x : Nat} (q : s.tb.gnssQual = false) (v : s.tb.solValidSince = some x)
    (h : x + nsUp 10000000000 ≤ s.tb.up) :
    (gnssQualify s).tb.gnssQual = true ∧ (gnssQualify s).tb.gnssSince = some s.tb.up := by
  have d : (!s.tb.gnssQual && sinceOpt s s.tb.solValidSince (nsUp 10000000000)) = true := by
    simp [q, v, sinceOpt_some h]
  rw [gnssQualify, timeStep_tb, if_pos d, gnssDue, if_pos d]
  exact ⟨reselect_keeps _ _ Timebase.gnssQual fun _ => rfl, reselect_keeps _ _ Timebase.gnssSince fun _ => rfl⟩

theorem gnssDisqualify_disqualifies {x : Nat} (q : s.tb.gnssQual = true) (v : s.tb.solInvalidSince = some x)
    (h : x + nsUp 3000000000 ≤ s.tb.up) : (gnssDisqualify s).tb.gnssQual = false := by
  rw [gnssDisqualify, timeStep_tb, if_pos (by simp [q, v, sinceOpt_some h])]
  exact reselect_keeps _ _ Timebase.gnssQual fun _ => rfl

/-- EXT is not qualified once dropped, its edges count anew, and its last edge and reference stay as they were. -/
theorem extDrop_spec (s : State) : (extDrop s).tb.extQual = false ∧ (extDrop s).tb.ppsGood = 0 ∧
    (extDrop s).tb.ppsAt = s.tb.ppsAt ∧ (extDrop s).tb.refOk = s.tb.refOk := by
  unfold extDrop
  split
  case isTrue =>
    exact ⟨reselect_keeps _ _ Timebase.extQual fun _ => rfl, reselect_keeps _ _ Timebase.ppsGood fun _ => rfl,
      reselect_keeps _ _ Timebase.ppsAt fun _ => rfl, reselect_keeps _ _ Timebase.refOk fun _ => rfl⟩
  case isFalse h => exact ⟨by simpa using h, rfl, rfl, rfl⟩

@[simp] theorem disciplined_unlocked (x : Source) (s : State) : unlocked (disciplined x s).tb = unlocked s.tb := by
  unfold disciplined
  split <;> rfl

theorem modChan_finish_tb (irq : Bool) (s : State) (c : Chan) (st d : Nat) (p : Bytes) : (finishWith irq s c st d p).tb = s.tb := by
  unfold finishWith
  split
  · rfl
  · split
    · rfl
    · dsimp only
      split
      · exact (Announced.ofMsix _ _).tb
      · rfl

@[simp] theorem finishCmd_tb (s : State) (c : Chan) (st d : Nat) (p : Bytes) : (finishCmd s c st d p).tb = s.tb :=
  modChan_finish_tb true s c st d p

@[simp] theorem edgeTimeSet_unlocked (s : State) : unlocked (edgeTimeSet s).tb = unlocked s.tb := by
  unfold edgeTimeSet
  split
  · rfl
  · dsimp only
    split
    · rw [finishCmd_tb]; rfl
    · rw [finishCmd_tb, reselect_unlocked, (firstLock_tb _ _ _).1]; rfl

@[simp] theorem gateEdge_tb (n : Nat) (s : State) : (gateEdge n s).tb = s.tb := by
  unfold gateEdge
  split
  · split <;> rfl
  · split <;> rfl
  · rfl

theorem gnssDue_ext (s : State) : (gnssDue s).tb.ppsGood = s.tb.ppsGood ∧ (gnssDue s).tb.ppsAt = s.tb.ppsAt := by
  unfold gnssDue
  split <;> exact ⟨rfl, rfl⟩

/-- What an edge means for the qualification of EXT: dropped when far off, qualified at the tenth good one (02 R30). -/
def edgeJudged (dev : Int) (good : Nat) (s : State) : State :=
  if 1000 < dev.natAbs then extDrop s
  else if !s.tb.extQual && 10 ≤ good then
    reselect false { gnssDue s with tb := { (gnssDue s).tb with extQual := true, extSince := some s.tb.up } }
  else s

/-- The edge, counted: what it shows of EXT and of the reference. -/
def edgeSeen (dev refPpb : Int) (n : Nat) (s : State) : State :=
  let ok := refPpb.natAbs ≤ 10000
  let good := if dev.natAbs ≤ 50 && ok then (if n ≤ 15000000 then s.tb.ppsGood + 1 else 1) else 0
  { s with tb := { s.tb with refOk := ok, ppsGood := good, ppsAt := some s.tb.up, extOff := edgeOff s } }

theorem ppsEdge_eq (dev ppb : Int) (n : Nat) (s : State) : ppsEdge dev ppb n s = timeStep (fun s =>
    let u := edgeSeen dev ppb n (gateEdge n s)
    edgeTimeSet (disciplined .ext (edgeJudged dev u.tb.ppsGood u))) s := rfl

/-- After an edge is judged, discipline and a waiting OP_TIME_SET touch DT and its lock alone. -/
theorem ppsEdge_keeps {α : Type} (f : Timebase → α) (shown : ∀ b, f (unlocked b) = f b) (dev ppb : Int) (n : Nat) (s : State) :
    f (ppsEdge dev ppb n s).tb =
      f (edgeJudged dev (edgeSeen dev ppb n (gateEdge n s)).tb.ppsGood (edgeSeen dev ppb n (gateEdge n s))).tb := by
  rw [ppsEdge_eq, timeStep_tb]
  exact field_eq unlocked f shown ((edgeTimeSet_unlocked _).trans (disciplined_unlocked _ _))

theorem edgeJudged_near {dev : Int} (h : dev.natAbs ≤ 50) (s : State) :
    (edgeJudged dev s.tb.ppsGood s).tb.ppsGood = s.tb.ppsGood ∧ (edgeJudged dev s.tb.ppsGood s).tb.ppsAt = s.tb.ppsAt ∧
      (10 ≤ s.tb.ppsGood → (edgeJudged dev s.tb.ppsGood s).tb.extQual = true) := by
  have due := gnssDue_ext s
  rw [edgeJudged, if_neg (by omega)]
  split
  case isTrue =>
    refine ⟨(reselect_keeps _ _ Timebase.ppsGood fun _ => rfl).trans due.1,
      (reselect_keeps _ _ Timebase.ppsAt fun _ => rfl).trans due.2, fun _ => ?_⟩
    exact reselect_keeps _ _ Timebase.extQual fun _ => rfl
  case isFalse no =>
    refine ⟨rfl, rfl, fun ten => ?_⟩
    simpa [ten] using no

theorem ppsEdge_good {dev ppb : Int} {n : Nat} (hd : dev.natAbs ≤ 50) (hp : ppb.natAbs ≤ 10000) (hn : n ≤ 15000000) :
    (ppsEdge dev ppb n s).tb.ppsGood = s.tb.ppsGood + 1 ∧ (ppsEdge dev ppb n s).tb.ppsAt = some s.tb.up ∧
      (10 ≤ s.tb.ppsGood + 1 → (ppsEdge dev ppb n s).tb.extQual = true) := by
  have good : (edgeSeen dev ppb n (gateEdge n s)).tb.ppsGood = s.tb.ppsGood + 1 := by simp [edgeSeen, hd, hp, hn]
  have at_ : (edgeSeen dev ppb n (gateEdge n s)).tb.ppsAt = some s.tb.up := by simp [edgeSeen]
  obtain ⟨g, a, q⟩ := edgeJudged_near hd (edgeSeen dev ppb n (gateEdge n s))
  exact ⟨(ppsEdge_keeps Timebase.ppsGood (fun _ => rfl) _ _ _ _).trans (g.trans good),
    (ppsEdge_keeps Timebase.ppsAt (fun _ => rfl) _ _ _ _).trans (a.trans at_),
    fun ten => (ppsEdge_keeps Timebase.extQual (fun _ => rfl) _ _ _ _).trans (q (good ▸ ten))⟩

theorem ppsEdge_far {dev : Int} (ppb : Int) (n : Nat) (h : 1000 < dev.natAbs) :
    (ppsEdge dev ppb n s).tb.extQual = false ∧ (ppsEdge dev ppb n s).tb.ppsAt = some s.tb.up := by
  have at_ : (edgeSeen dev ppb n (gateEdge n s)).tb.ppsAt = some s.tb.up := by simp [edgeSeen]
  obtain ⟨q, _, a, _⟩ := extDrop_spec (edgeSeen dev ppb n (gateEdge n s))
  have far (k : Nat) : edgeJudged dev k (edgeSeen dev ppb n (gateEdge n s)) = extDrop _ := if_pos h
  exact ⟨(ppsEdge_keeps Timebase.extQual (fun _ => rfl) _ _ _ _).trans (by rw [far, q]),
    (ppsEdge_keeps Timebase.ppsAt (fun _ => rfl) _ _ _ _).trans (by rw [far, a, at_])⟩

theorem refLoss_drops : (refLoss s).tb.refOk = false ∧ (refLoss s).tb.extQual = false ∧ (refLoss s).tb.ppsGood = 0 := by
  obtain ⟨q, g, _, r⟩ := extDrop_spec { s with tb := { s.tb with refOk := false } }
  rw [refLoss, timeStep_tb]
  exact ⟨r, q, g⟩

theorem ppsMissing_drops {x : Nat} (q : s.tb.extQual = true) (a : s.tb.ppsAt = some x) (h : x + nsUp 3000000000 ≤ s.tb.up) :
    (ppsMissing s).tb.extQual = false := by
  rw [ppsMissing, timeStep_tb, if_pos (by simp [q, a, sinceOpt_some h])]
  exact (extDrop_spec s).1

theorem fabDrop_spec (s : State) : (fabDrop s).tb.fabQual = false ∧ ExchMoved s.tb (fabDrop s).tb := by
  unfold fabDrop
  dsimp only
  split
  case isTrue =>
    exact ⟨reselect_keeps _ _ Timebase.fabQual fun _ => rfl, reselect_exchMoved _ _⟩
  case isFalse h => exact ⟨by simpa using h, .refl _⟩

theorem exchMissed8_drops (q : s.tb.fabQual = true) (e : s.tb.exch.isSome = true) (m : 7 ≤ s.tb.exchMissed)
    (h : s.tb.exchAt + s.tb.exchIv ≤ s.tb.up) : (exchMissed8 s).tb.fabQual = false ∧ (exchMissed8 s).tb.exch = none := by
  obtain ⟨f, g, _, _, none, _⟩ := fabDrop_spec { s with tb := { s.tb with exchMissed := 0, exch := none } }
  rw [exchMissed8, timeStep_tb, if_pos (by simp [q, m, exchOver, e, since, h])]
  exact ⟨f, none⟩

/-! ### Takeover, lock, leap second and slew (02 R22, R32, R37, R38, R40) -/

theorem takeover_follows {b : Source} (v : s.tb.valid = true) (q : srcQual s.tb s.tb.source = true)
    (p : pickSource s.tb (fun x => x == s.tb.source ||
      (srcQual s.tb x && sinceOpt s (srcSince s.tb x) (nsUp 60000000000))) = b) (n : b ≠ s.tb.source) (m : b ≠ .none) :
    (takeover s).tb.source = b ∧ (takeover s).tb.holdover = false := by
  rw [takeover, timeStep_tb, if_neg (by simp [v, q])]
  simp only [p, n, m, decide_false, Bool.or_self, Bool.false_eq_true, if_false]
  exact follow_source _ m

theorem lock24_sets {x : Nat} (l : s.tb.lockSince = some x) (h : x + nsUp 86400000000000 ≤ s.tb.up)
    (o : s.tb.holdover = false) : (lock24 s).tb.lock24h = true := by
  rw [lock24, timeStep_tb, if_pos (by simp [l, o, sinceOpt_some h])]

theorem leapNow_moves (p : s.tb.utc.pending = true) (h : s.tb.utc.leapAt ≤ dtNs s) :
    (leapNow s).tb.utc.pending = false ∧ (leapNow s).tb.utc.nextDelta = 0 ∧
      (s.tb.utc.nextDelta = 1 → (leapNow s).tb.utc.seconds = s.tb.utc.seconds + 1) ∧
      (s.tb.utc.nextDelta = 3 → (leapNow s).tb.utc.seconds = s.tb.utc.seconds - 1) := by
  rw [leapNow, timeStep_tb, if_pos (by simp [p, h])]
  exact ⟨rfl, rfl, fun e => by simp [e], fun e => by simp [e]⟩

theorem slewingClear_clears {e : Word} (l : tbSlewing s.tb = true) (n : e.toInt.natAbs ≤ 100)
    (q : srcQual s.tb s.tb.source = true)
    (h : (phaseMag s.tb - 100) * 1000000 * 2 ^ 32 ≤ s.tb.cfg.slewPpm.toNat * (s.tb.up - s.tb.errAt)) :
    (slewingClear e s).tb.phaseErr = e ∧ tbSlewing (slewingClear e s).tb = false := by
  rw [slewingClear, timeStep_tb, if_pos (by simp only [l, n, q, h, decide_true, Bool.and_self])]
  exact ⟨rfl, decide_eq_false (Nat.not_lt.mpr n)⟩

end Sources

/-- Settles O2: each step by what it makes of the timebase; the choice of a source keeps all but DT and its lock. -/
theorem timeSourcesAndLock : Obligations.TimeSourcesAndLock := by
  unfold Obligations.TimeSourcesAndLock
  refine ⟨fun s h => ⟨fun x q v l => ?qualify, fun x q v l => ?disqualify, fun dev ppb n hd hp hn => ?edge,
    fun dev ppb n far => ?far, ?loss, fun x q a l => ?missing, fun q e m l => ?exchange⟩,
    fun s h => ⟨fun b v q p n m => ?takeover, fun x l a o => ?lock, fun p l => ?leap, fun e l n q r => ?slew⟩⟩
  case qualify => exact runs_live (f := gnssQualify) rfl h (gnssQualify_qualifies q v l)
  case disqualify => exact runs_live (f := gnssDisqualify) rfl h (gnssDisqualify_disqualifies q v l)
  case edge => exact runs_live (f := ppsEdge dev ppb n) rfl h (ppsEdge_good hd hp hn)
  case far => exact runs_live (f := ppsEdge dev ppb n) rfl h (ppsEdge_far ppb n far)
  case loss => exact runs_live (f := refLoss) rfl h refLoss_drops
  case missing => exact runs_live (f := ppsMissing) rfl h (ppsMissing_drops q a l)
  case exchange => exact runs_live (f := exchMissed8) rfl h (exchMissed8_drops q e m l)
  case takeover => exact runs_live (f := takeover) rfl h (takeover_follows v q p n m)
  case lock => exact runs_live (f := lock24) rfl h (lock24_sets l a o)
  case leap => exact runs_live (f := leapNow) rfl h (leapNow_moves p l)
  case slew => exact runs_live (f := slewingClear e) rfl h (slewingClear_clears l n q r)

end Sys2Proof.Machine

/-! ## 02: snapshots, PPS_OUT and the TIMESYNC exchange (the statement of O3) -/

namespace Sys2Proof.Machine

/-! ### Fields of structures (00 R6, R7) -/

theorem leNat_leBytes (n v : Nat) : leNat (leBytes n v) = v % 256 ^ n := by
  induction n generalizing v with
  | zero => rw [Nat.pow_zero, Nat.mod_one]; rfl
  | succ n ih => rw [leBytes, leNat, ih, BitVec.toNat_ofNat, Nat.pow_succ' (m := 256)]; exact Nat.mod_mul.symm

theorem fieldAt_append_left {a b : Bytes} {off n : Nat} (h : off + n ≤ a.length) : fieldAt (a ++ b) off n = fieldAt a off n := by
  rw [fieldAt, fieldAt, List.drop_append_of_le_length (by omega), List.take_append_of_le_length (by simp; omega)]

theorem fieldAt_append_right {a b : Bytes} {off n : Nat} (h : a.length ≤ off) :
    fieldAt (a ++ b) off n = fieldAt b (off - a.length) n := by
  obtain ⟨k, rfl⟩ := Nat.exists_eq_add_of_le h
  rw [fieldAt, fieldAt, List.drop_length_add_append, Nat.add_sub_cancel_left]

theorem putAt_length {b : Bytes} {off : Nat} {x : Bytes} (h : off + x.length ≤ b.length) : (putAt b off x).length = b.length := by
  simp [putAt]
  omega

theorem fieldAt_putAt_same {b : Bytes} {off n : Nat} (h : off + n ≤ b.length) (v : Nat) :
    fieldAt (putAt b off (leBytes n v)) off n = v % 256 ^ n := by
  have l : (b.take off).length = off := List.length_take_of_le (by omega)
  rw [putAt, List.append_assoc, fieldAt_append_right l.le, l, Nat.sub_self, fieldAt_append_left (by simp), fieldAt,
    List.drop_zero, List.take_of_length_le (by simp), leNat_leBytes]

theorem fieldAt_putAt_other {b x : Bytes} {off o n : Nat} (h : off + x.length ≤ b.length)
    (d : o + n ≤ off ∨ off + x.length ≤ o) : fieldAt (putAt b off x) o n = fieldAt b o n := by
  rcases d with before | after
  · have l : (b.take off).length = off := List.length_take_of_le (by omega)
    calc fieldAt (putAt b off x) o n = fieldAt (b.take off) o n := by
          rw [putAt, List.append_assoc, fieldAt_append_left (by omega)]
      _ = fieldAt (b.take off ++ b.drop off) o n := (fieldAt_append_left (by omega)).symm
      _ = fieldAt b o n := by rw [List.take_append_drop]
  · have l : (b.take (off + x.length)).length = off + x.length := List.length_take_of_le h
    have m : (b.take off ++ x).length = off + x.length := by simp; omega
    calc fieldAt (putAt b off x) o n = fieldAt (b.drop (off + x.length)) (o - (off + x.length)) n := by
          rw [putAt, fieldAt_append_right (by omega), m]
      _ = fieldAt (b.take (off + x.length) ++ b.drop (off + x.length)) o n := by rw [fieldAt_append_right (by omega), l]
      _ = fieldAt b o n := by rw [List.take_append_drop]

/-- Two fields (offset, size, value) share no byte. -/
abbrev Apart (f g : Nat × Nat × Nat) : Prop := f.1 + f.2.1 ≤ g.1 ∨ g.1 + g.2.1 ≤ f.1

/-- Fields written later and elsewhere leave a field as it is. -/
theorem fieldAt_foldl_putAt {len : Nat} {f : Nat × Nat × Nat} (l : List (Nat × Nat × Nat)) (b : Bytes) (hb : b.length = len)
    (fit : ∀ g ∈ l, g.1 + g.2.1 ≤ len) (d : ∀ g ∈ l, Apart f g) :
    fieldAt (l.foldl (fun b f => putAt b f.1 (leBytes f.2.1 f.2.2)) b) f.1 f.2.1 = fieldAt b f.1 f.2.1 := by
  induction l generalizing b with
  | nil => rfl
  | cons g l ih =>
    have hg := fit g List.mem_cons_self
    have dg := d g List.mem_cons_self
    rw [List.foldl_cons, ih _ (by rw [putAt_length (by simpa [hb] using hg), hb]) (fun x m => fit x (List.mem_cons_of_mem _ m))
      (fun x m => d x (List.mem_cons_of_mem _ m)), fieldAt_putAt_other (by simpa [hb] using hg) (by simpa using dg)]

/-- A field of a structure reads back, where no two of its fields share a byte. -/
theorem fieldAt_layout {len off n v : Nat} {fs : List (Nat × Nat × Nat)} (m : (off, n, v) ∈ fs)
    (fit : ∀ g ∈ fs, g.1 + g.2.1 ≤ len) (d : fs.Pairwise Apart) : fieldAt (layout len fs) off n = v % 256 ^ n := by
  obtain ⟨pre, post, rfl⟩ := List.append_of_mem m
  have hpre : (layout len pre).length = len := layout_length len pre fun g m => fit g (List.mem_append_left _ m)
  have here : off + n ≤ len := fit _ m
  have later : ∀ g ∈ post, Apart (off, n, v) g := (List.pairwise_cons.mp (List.pairwise_append.mp d).2.1).1
  have e : layout len (pre ++ (off, n, v) :: post) =
      post.foldl (fun b f => putAt b f.1 (leBytes f.2.1 f.2.2)) (putAt (layout len pre) off (leBytes n v)) := by
    simp [layout]
  rw [e, fieldAt_foldl_putAt (f := (off, n, v)) post _ (by rw [putAt_length (by simpa [hpre] using here), hpre])
    (fun g m => fit g (by simp [m])) later, fieldAt_putAt_same (by omega)]

/-! ### Flits (14 R329) and TIMESYNC payloads (02, TIMESYNC payload) -/

theorem mkFlit_type (ftype vc seq ack va ca vb cb : Nat) (p : Bytes) :
    fieldAt (mkFlit ftype vc seq ack va ca vb cb p) 0 1 = ftype % 256 := by
  have l := layout_length 14 [(0, 1, ftype), (1, 1, vc), (2, 2, seq), (4, 2, ack), (6, 1, va), (7, 1, ca), (8, 1, vb),
    (9, 1, cb), (10, 1, p.length)] (by simp)
  rw [mkFlit, fieldAt_append_left (by simp [l]; omega), List.append_assoc, fieldAt_append_left (by omega),
    fieldAt_layout (v := ftype) (by simp) (by simp) (by simp [Apart]), Nat.pow_one]

/-- The payload of a flit stands from offset 14 on. -/
theorem mkFlit_payload {ftype vc seq ack va ca vb cb off n : Nat} {p : Bytes} (h : off + n ≤ p.length) :
    fieldAt (mkFlit ftype vc seq ack va ca vb cb p) (14 + off) n = fieldAt p off n := by
  have l := layout_length 14 [(0, 1, ftype), (1, 1, vc), (2, 2, seq), (4, 2, ack), (6, 1, va), (7, 1, ca), (8, 1, vb),
    (9, 1, cb), (10, 1, p.length)] (by simp)
  rw [mkFlit, fieldAt_append_left (by simp [l]; omega), List.append_assoc, fieldAt_append_right (by omega), l,
    Nat.add_sub_cancel_left, fieldAt_append_left h]

theorem tsFrame_length (s : State) (typ seq ts : Nat) : (tsFrame s typ seq ts).length = 32 :=
  layout_length 32 _ (by simp)

theorem tsFrame_fields (s : State) (typ seq ts : Nat) :
    fieldAt (tsFrame s typ seq ts) 0 1 = typ % 256 ∧ fieldAt (tsFrame s typ seq ts) 4 2 = seq % 256 ^ 2 ∧
      fieldAt (tsFrame s typ seq ts) 16 8 = ts / 65536 % 256 ^ 8 ∧
      fieldAt (tsFrame s typ seq ts) 24 2 = ts % 65536 % 256 ^ 2 := by
  refine ⟨?_, ?_, ?_, ?_⟩ <;> exact fieldAt_layout (by simp) (by simp) (by simp [Apart])

/-- The flit that carries a TIMESYNC payload of this chip on link `l`. -/
def tsFlit (s : State) (l typ seq ts : Nat) : Bytes := (sendFlit s l 4 0 0 (tsFrame s typ seq ts)).2

theorem tsFlit_eq (s : State) (l typ seq ts : Nat) : ∃ ack va ca vb cb,
    tsFlit s l typ seq ts = mkFlit 4 0 0 ack va ca vb cb (tsFrame s typ seq ts) := ⟨_, _, _, _, _, rfl⟩

theorem tsFlit_fields (s : State) (l typ seq ts : Nat) :
    fieldAt (tsFlit s l typ seq ts) 0 1 = 4 ∧ fieldAt (tsFlit s l typ seq ts) 14 1 = typ % 256 ∧
      fieldAt (tsFlit s l typ seq ts) 18 2 = seq % 256 ^ 2 ∧
      fieldAt (tsFlit s l typ seq ts) 30 8 = ts / 65536 % 256 ^ 8 ∧
      fieldAt (tsFlit s l typ seq ts) 38 2 = ts % 65536 % 256 ^ 2 := by
  obtain ⟨ack, va, ca, vb, cb, e⟩ := tsFlit_eq s l typ seq ts
  obtain ⟨ht, hs, hn, hf⟩ := tsFrame_fields s typ seq ts
  have len := tsFrame_length s typ seq ts
  rw [e]
  exact ⟨mkFlit_type _ _ _ _ _ _ _ _ _, (mkFlit_payload (off := 0) (by omega)).trans ht,
    (mkFlit_payload (off := 4) (by omega)).trans hs, (mkFlit_payload (off := 16) (by omega)).trans hn,
    (mkFlit_payload (off := 24) (by omega)).trans hf⟩

/-! ### Links, and the frame on one (14 R351) -/

theorem linkOf_modLink (s : State) (l : Fin 24) (f : Link → Link) : linkOf (modLink s l f) l = f (linkOf s l) := by
  simp [linkOf, modLink, vget_vmod]

/-- A TIMESYNC payload leaves in one flit, and only the credits that it returns change on the link. -/
theorem sendTs_eq (s : State) (l : Fin 24) (typ seq ts : Nat) : ∃ owed, sendTs s l typ seq ts =
    emit (modLink s l fun k => { k with owed := owed }) (.flit l (tsFlit s l typ seq ts)) := ⟨_, rfl⟩

theorem sendTs_tb (s : State) (l : Fin 24) (typ seq ts : Nat) : (sendTs s l typ seq ts).tb = s.tb := rfl

theorem sendTs_out (s : State) (l : Fin 24) (typ seq ts : Nat) :
    (sendTs s l typ seq ts).out = s.out ++ [.flit l (tsFlit s l typ seq ts)] := rfl

theorem sendTs_frame (s : State) (l : Fin 24) (typ seq ts : Nat) :
    (linkOf (sendTs s l typ seq ts) l).frame = (linkOf s l).frame := by
  obtain ⟨owed, e⟩ := sendTs_eq s l typ seq ts
  rw [e]
  exact (congrArg Link.frame (linkOf_modLink s l fun k => { k with owed := owed })).trans rfl

theorem dropFrame_frame (s : State) (l : Fin 24) : (linkOf (dropFrame s l) l).frame = none := by
  rw [dropFrame, linkOf_modLink]

theorem dropFrame_peerLinkD (s : State) (l : Fin 24) : (linkOf (dropFrame s l) l).peerLinkD = (linkOf s l).peerLinkD := by
  rw [dropFrame, linkOf_modLink]

theorem upOk_dropFrame (s : State) (l : Fin 24) : upOk (dropFrame s l) = upOk s := by
  have e (m : Nat) : (linkOf (dropFrame s l) m).state = (linkOf s m).state := by
    simp only [dropFrame, linkOf, modLink, vget_vmod]
    split <;> rfl
  simp only [upOk, e]
  rfl

theorem takeFrame_some {s : State} {l typ t : Nat} {f : Bytes} (h : (linkOf s l).frame = some (f, t))
    (ht : fieldAt f 0 1 = typ) : takeFrame s l typ = some (f, t) := by
  simp [takeFrame, h, ht]

/-! ### Snapshots and PPS_OUT (02 R25, R26, R43) -/

/-- The low half of a 32-bit word, and the bit above it. -/
theorem halfAndBit (frac : Half) (v : Bool) (r : Nat) :
    (BitVec.ofNat 32 (frac.toNat + 65536 * (b2n v + 2 * r))).extractLsb' 0 16 = frac ∧
      (BitVec.ofNat 32 (frac.toNat + 65536 * (b2n v + 2 * r))).getLsbD 16 = v := by
  have hf := frac.isLt
  constructor
  · apply BitVec.eq_of_toNat_eq
    simp only [BitVec.extractLsb'_toNat, BitVec.toNat_ofNat, Nat.shiftRight_zero]
    omega
  · have q : (frac.toNat + 65536 * (b2n v + 2 * r)) / 2 ^ 16 = b2n v + 2 * r := by omega
    rw [BitVec.getLsbD_ofNat, Nat.testBit_eq_decide_div_mod_eq, q, Nat.add_mul_mod_self_left]
    cases v <;> rfl

theorem bitsOf_cons (i v : Nat) (fs : List (Nat × Nat)) : bitsOf ((i, v) :: fs) = v * 2 ^ i + bitsOf fs := by
  have shift : ∀ (fs : List (Nat × Nat)) (a : Nat), fs.foldl (fun a f => a + f.2 * 2 ^ f.1) a = a + bitsOf fs := by
    intro fs
    induction fs with
    | nil => exact fun a => rfl
    | cons f fs ih =>
      intro a
      have e : bitsOf (f :: fs) = fs.foldl (fun a f => a + f.2 * 2 ^ f.1) (f.2 * 2 ^ f.1) := by
        rw [bitsOf, List.foldl_cons, Nat.zero_add]
      rw [List.foldl_cons, e, ih, ih, Nat.add_assoc]
  rw [bitsOf, List.foldl_cons, shift, Nat.zero_add]

/-- TB_SNAP_W2: the fraction stands in its low half and VALID in bit 16. -/
theorem snapWord (frac : Half) (v : Bool) (a b c d : Nat) :
    ∃ r, bitsOf [(0, frac.toNat), (16, b2n v), (17, a), (18, b), (21, c), (22, d)] = frac.toNat + 65536 * (b2n v + 2 * r) := by
  refine ⟨a + 2 * b + 16 * c + 32 * d, ?_⟩
  have nil : bitsOf [] = 0 := rfl
  rw [bitsOf_cons, bitsOf_cons, bitsOf_cons, bitsOf_cons, bitsOf_cons, bitsOf_cons, nil]
  ring

theorem snapLatch_spec (s : State) (n : Fin 64) (wide : Bool) :
    ((snapLatch n wide s).tb.snaps[n]).w0 = (dtNs s).extractLsb' 0 32 ∧
      ((snapLatch n wide s).tb.snaps[n]).w1 = (dtNs s).extractLsb' 32 32 ∧
      ((snapLatch n wide s).tb.snaps[n]).w2.extractLsb' 0 16 = dtFrac s ∧
      ((snapLatch n wide s).tb.snaps[n]).w2.getLsbD 16 = s.tb.valid ∧
      (snapLatch n wide s).out = s.out ++ [.readData (leBytes (if wide then 8 else 4) (dtNs s).toNat) false] ∧
      ∀ m : Fin 64, m ≠ n → (snapLatch n wide s).tb.snaps[m] = s.tb.snaps[m] := by
  have low : BitVec.ofNat 32 (dtNs s).toNat = (dtNs s).extractLsb' 0 32 := by
    apply BitVec.eq_of_toNat_eq; simp
  have high : BitVec.ofNat 32 ((dtNs s).toNat / 2 ^ 32) = (dtNs s).extractLsb' 32 32 := by
    apply BitVec.eq_of_toNat_eq; simp [Nat.shiftRight_eq_div_pow]
  have here : (snapLatch n wide s).tb.snaps[n] = ⟨BitVec.ofNat 32 (dtNs s).toNat, BitVec.ofNat 32 ((dtNs s).toNat / 2 ^ 32), _⟩ :=
    Vector.getElem_set_self n.isLt
  obtain ⟨r, word⟩ := snapWord (dtFrac s) s.tb.valid (b2n (tbTraceable s.tb)) (srcCode s.tb.source)
    (b2n s.tb.holdover) (b2n (tbSlewing s.tb))
  obtain ⟨frac, valid⟩ := halfAndBit (dtFrac s) s.tb.valid r
  rw [here, word]
  exact ⟨low, high, frac, valid, rfl, fun m ne => Vector.getElem_set_ne n.isLt m.isLt (Fin.val_ne_of_ne ne.symm)⟩

theorem ppsRise_rises {s : State} (v : s.tb.valid = true) (o : s.tb.ppsOut = false)
    (d : ((dtNs s).toNat + s.tb.cfg.ppsAdv.toInt) % 1000000000 = 0) (g : s.tb.cfg.ppsGate = true → tbTraceable s.tb = true) :
    (ppsRise s).tb.ppsOut = true ∧
      (ppsRise s).tb.ppsFall = dtNs s + BitVec.ofNat 64 (ppsWidthNs s.tb.cfg.ppsWidth.toNat) := by
  have gate : (!s.tb.cfg.ppsGate || tbTraceable s.tb) = true := by
    cases h : s.tb.cfg.ppsGate
    · rfl
    · simp [g h]
  rw [ppsRise, if_pos (by simp [v, o, ppsDue, d, gate])]
  exact ⟨rfl, rfl⟩

theorem ppsFallStep_falls {s : State} (o : s.tb.ppsOut = true) (h : s.tb.ppsFall ≤ dtNs s) : (ppsFallStep s).tb.ppsOut = false := by
  rw [ppsFallStep, if_pos (by simp [o, h])]

/-! ### What the report of the upstream leaves of the exchanges (02 R30, R41, R42) -/

/-- What of the timebase a locked chip's exchanges stand on. -/
def exchanges (tb : Timebase) : Bool × Option Exchange × List (Exchange × Nat) × Nat × Int :=
  (tb.valid, tb.exch, tb.exchOld, tb.exchMissed, tb.fabOff)

section Exchanges
variable (f : Bytes) (lost : Bool) (s : State)

theorem fabDrop_timeOnly : TimeOnly s (fabDrop s) := by
  unfold fabDrop
  dsimp only
  split
  · exact TimeOnly.trans (.ofTime _ s.cal) (reselect_timeOnly _ _)
  · exact .ofTime _ s.cal

theorem takeReport_timeOnly : TimeOnly s (takeReport f s) := by
  unfold takeReport
  dsimp only
  split
  · exact TimeOnly.trans (.ofTime _ s.cal) (fabDrop_timeOnly _)
  · split
    · exact TimeOnly.trans (.ofTime _ s.cal) (reselect_timeOnly _ _)
    · exact .ofTime _ s.cal

theorem takeReport_exchMoved : ExchMoved s.tb (takeReport f s).tb := by
  unfold takeReport
  dsimp only
  split
  · exact (fabDrop_spec _).2
  · split
    · exact reselect_exchMoved _ _
    · exact .refl _

section Locked
variable {s} (v : s.tb.valid = true)
include v

theorem reselect_exchanges : exchanges (reselect lost s).tb = exchanges s.tb := by
  obtain ⟨b, e, h⟩ := reselect_valid lost s v
  rw [e]
  exact field_eq unfollowed exchanges (fun _ => rfl) h

theorem fabDrop_exchanges : exchanges (fabDrop s).tb = exchanges s.tb := by
  unfold fabDrop
  dsimp only
  split
  · exact reselect_exchanges false (s := { s with tb := { s.tb with exchGood := 0, fabQual := false, fabSince := none } }) v
  · rfl

theorem takeReport_exchanges : exchanges (takeReport f s).tb = exchanges s.tb := by
  unfold takeReport
  dsimp only
  split
  · exact fabDrop_exchanges (s := { s with tb := { s.tb with upstream := _ } }) v
  · split
    · exact reselect_exchanges _ (s := { s with tb := { s.tb with upstream := _ } }) v
    · rfl

end Locked

theorem disciplined_exchanges (x : Source) : exchanges (disciplined x s).tb = exchanges s.tb := by
  unfold disciplined
  split <;> rfl

theorem gnssDue_exchanges : exchanges (gnssDue s).tb = exchanges s.tb := by
  unfold gnssDue
  split <;> rfl

end Exchanges

/-! ### The start of an exchange (02 R41, R48) -/

/-- Missed intervals leave the interval, the clock and an exchange not yet asked as they are. -/
theorem exchMiss_spec (n : Nat) (s : State) : ExchMoved s.tb (exchMiss n s).tb ∧ (exchMiss n s).tb.up = s.tb.up ∧
    (exchMiss n s).tb.exchAt = s.tb.exchAt ∧ (exchMiss n s).tb.exchSeq = s.tb.exchSeq := by
  have drop (u : State) : (fabDrop u).tb.up = u.tb.up ∧ (fabDrop u).tb.exchAt = u.tb.exchAt ∧
      (fabDrop u).tb.exchSeq = u.tb.exchSeq := by
    unfold fabDrop
    dsimp only
    split
    · exact ⟨reselect_keeps _ _ Timebase.up fun _ => rfl, reselect_keeps _ _ Timebase.exchAt fun _ => rfl,
        reselect_keeps _ _ Timebase.exchSeq fun _ => rfl⟩
    · exact ⟨rfl, rfl, rfl⟩
  unfold exchMiss
  dsimp only
  split
  · exact ⟨.refl _, rfl, rfl, rfl⟩
  · split
    · exact ⟨(fabDrop_spec _).2, drop _⟩
    · exact ⟨.refl _, rfl, rfl, rfl⟩

theorem exchExpire_spec (s : State) : (exchExpire s).tb.up = s.tb.up ∧ (exchExpire s).tb.exchSeq = s.tb.exchSeq :=
  have h := exchMiss_spec (s.tb.exchOld.length - (s.tb.exchOld.filter fun e => s.tb.up < e.2).length)
    { s with tb := { s.tb with exchOld := s.tb.exchOld.filter fun e => s.tb.up < e.2 } }
  ⟨h.2.1, h.2.2.2⟩

theorem exchStart_starts {s : State} (u : upOk s = true) (h : s.tb.exchAt = 0 ∨ s.tb.exchAt + exchLen s ≤ s.tb.up) :
    (exchStart s).tb.exchAt = s.tb.up ∧ (exchStart s).tb.exch = some ⟨s.tb.exchSeq + 1, 0, 0, 0, false⟩ := by
  obtain ⟨up, seq⟩ := exchExpire_spec s
  have begins : (s.tb.exchAt = 0 || since s s.tb.exchAt (exchLen s)) = true := by simpa [since] using h
  rw [exchStart, timeStep_tb, if_pos (by simp only [u, begins, Bool.and_self])]
  dsimp only
  rw [up, seq]
  generalize hw : ({ exchExpire s with tb := _ } : State) = w
  have at_ : w.tb.exchAt = s.tb.up := by rw [← hw]
  have exch : w.tb.exch = some ⟨s.tb.exchSeq + 1, 0, 0, 0, false⟩ := by rw [← hw]
  obtain ⟨⟨f, _, unasked, moved, _⟩, _, same, _⟩ := exchMiss_spec (b2n (exchOver (exchExpire s))) w
  exact ⟨same.trans at_, by rw [moved, exch, Option.map_some, unasked _ rfl]⟩

theorem syncSend_sends {s : State} {l : Fin 24} (up : (linkOf s l).state = .up) (seq : Half) :
    ∃ b, (syncSend l seq s).out = s.out ++ [.flit l b] ∧ fieldAt b 0 1 = 4 ∧ fieldAt b 14 1 = 1 ∧
      fieldAt b 18 2 = seq.toNat ∧ fieldAt b 30 8 = (dt80 s).toNat / 65536 ∧ fieldAt b 38 2 = (dt80 s).toNat % 65536 := by
  obtain ⟨four, type, number, ns, frac⟩ := tsFlit_fields s l 1 seq.toNat (dt80 s).toNat
  have hs := seq.isLt
  have ht := (dt80 s).isLt
  rw [syncSend, if_pos up, sendTs_out]
  exact ⟨_, rfl, four, type, by rw [number]; omega, by rw [ns]; omega, by rw [frac]; omega⟩

/-! ### SYNC (02 R41) -/

section Sync
variable {s : State} {l : Fin 24} {f : Bytes} {t2 : Nat}

/-- The timestamps that SYNC `f`, received at `t2`, gives its exchange, DELAY_REQ leaving when DT is that of `u`. -/
def syncExch (f : Bytes) (t2 : Nat) (u : State) : Exchange :=
  ⟨BitVec.ofNat 16 (fieldAt f 4 2), fieldAt f 16 8 * 65536 + fieldAt f 24 2, t2, (dt80 u).toNat, true⟩

/-- The state in which DELAY_REQ leaves: the report is taken, and the exchange has its timestamps. -/
def synced (l : Nat) (f : Bytes) (t2 : Nat) (s : State) : State :=
  let u := takeReport f (dropFrame s l)
  { u with tb := exchSync u.tb (syncExch f t2 u) }

theorem syncStep_eq (h : (linkOf s l).frame = some (f, t2)) (ht : fieldAt f 0 1 = 1) (hl : l.val = upLink s) (u : upOk s = true) :
    syncStep l s = timeEvent s.tb (sendTs (synced l f t2 s) l 2 (fieldAt f 4 2) 0) := by
  have other : (l.val != upLink (dropFrame s l) || !upOk (dropFrame s l)) = false := by
    have same : upLink (dropFrame s l) = upLink s := rfl
    rw [upOk_dropFrame, same, u, hl]; simp
  rw [syncStep, timeStep, takeFrame_some h ht]
  dsimp only
  rw [other]
  rfl

theorem exchSync_count (tb : Timebase) (e : Exchange) : (exchSync tb e).count = tb.count := by
  unfold exchSync
  split <;> rfl

/-- What SYNC leaves on the link and sends, and the timebase it leaves. -/
theorem syncStep_spec (h : (linkOf s l).frame = some (f, t2)) (ht : fieldAt f 0 1 = 1) (hl : l.val = upLink s)
    (u : upOk s = true) : (linkOf (syncStep l s) l).frame = none ∧ (∃ b, .flit l b ∈ (syncStep l s).out.drop s.out.length) ∧
      (syncStep l s).tb = exchSync (takeReport f (dropFrame s l)).tb (syncExch f t2 (syncStep l s)) := by
  have report := takeReport_timeOnly f (dropFrame s l)
  have event := (Announced.ofTimeEvent s.tb (sendTs (synced l f t2 s) l 2 (fieldAt f 4 2) 0))
  rw [syncStep_eq h ht hl u]
  refine ⟨?frame, ?sent, ?timebase⟩
  case frame =>
    rw [event.timeOnly.linkOf, sendTs_frame]
    exact (congrArg Link.frame (report.linkOf l)).trans (dropFrame_frame s l)
  case sent =>
    obtain ⟨x, hx⟩ := report.out
    obtain ⟨y, hy⟩ := event.timeOnly.out
    have out : (synced l f t2 s).out = s.out ++ x := hx.symm
    rw [← hy, sendTs_out, out, List.append_assoc, List.append_assoc, List.drop_left]
    exact ⟨tsFlit (synced l f t2 s) l 2 (fieldAt f 4 2) 0, by simp⟩
  case timebase =>
    have tb := event.tb.trans (sendTs_tb _ _ _ _ _)
    have dt : (dt80 (timeEvent s.tb (sendTs (synced l f t2 s) l 2 (fieldAt f 4 2) 0))) = dt80 (takeReport f (dropFrame s l)) := by
      rw [dt80, tb]
      exact congrArg (BitVec.extractLsb' 16 80) (exchSync_count _ _)
    rw [tb, syncExch, dt]
    rfl

/-- A SYNC of no earlier exchange gives the present one its timestamps. -/
theorem syncStep_present (h : (linkOf s l).frame = some (f, t2)) (ht : fieldAt f 0 1 = 1) (hl : l.val = upLink s)
    (u : upOk s = true) (new : ∀ x ∈ s.tb.exchOld, x.1.seq ≠ BitVec.ofNat 16 (fieldAt f 4 2)) :
    (syncStep l s).tb.exch = some (syncExch f t2 (syncStep l s)) := by
  obtain ⟨g, seq, _, _, old⟩ := takeReport_exchMoved f (dropFrame s l)
  have none_ : ((takeReport f (dropFrame s l)).tb.exchOld.any fun x => x.1.seq == BitVec.ofNat 16 (fieldAt f 4 2)) = false := by
    rw [old, List.any_eq_false]
    intro x hx
    obtain ⟨y, hy, rfl⟩ := List.mem_map.mp hx
    simpa [seq] using new y hy
  rw [(syncStep_spec h ht hl u).2.2, exchSync, if_neg (by rw [syncExch, none_]; decide)]

/-- A SYNC of an earlier exchange gives that one its timestamps. -/
theorem syncStep_old (h : (linkOf s l).frame = some (f, t2)) (ht : fieldAt f 0 1 = 1) (hl : l.val = upLink s)
    (u : upOk s = true) (v : s.tb.valid = true) {x : Exchange × Nat} (m : x ∈ s.tb.exchOld)
    (q : x.1.seq = BitVec.ofNat 16 (fieldAt f 4 2)) :
    (syncStep l s).tb.exch = s.tb.exch ∧ (syncExch f t2 (syncStep l s), x.2) ∈ (syncStep l s).tb.exchOld := by
  have same := takeReport_exchanges f (s := dropFrame s l) v
  simp only [exchanges, Prod.mk.injEq] at same
  obtain ⟨_, exch, old, _⟩ := same
  have m' : x ∈ (takeReport f (dropFrame s l)).tb.exchOld := by rw [old]; exact m
  have some_ : ((takeReport f (dropFrame s l)).tb.exchOld.any fun x => x.1.seq == BitVec.ofNat 16 (fieldAt f 4 2)) = true :=
    List.any_eq_true.mpr ⟨x, m', by simpa using q⟩
  generalize he : syncExch f t2 (syncStep l s) = e
  have eseq : e.seq = BitVec.ofNat 16 (fieldAt f 4 2) := by rw [← he]; rfl
  rw [(syncStep_spec h ht hl u).2.2, he, exchSync, if_pos (by rw [eseq]; exact some_)]
  exact ⟨exch, List.mem_map.mpr ⟨x, m', by simp [q, eseq]⟩⟩

end Sync

/-! ### DELAY_REQ and DELAY_RESP (02 R30, R41) -/

theorem delayReq_answers {s : State} {l : Fin 24} {f : Bytes} {t4 : Nat} (h : (linkOf s l).frame = some (f, t4))
    (ht : fieldAt f 0 1 = 2) : (linkOf (delayReq l s) l).frame = none ∧ ∃ b, (delayReq l s).out = s.out ++ [.flit l b] := by
  rw [delayReq, takeFrame_some h ht]
  exact ⟨(sendTs_frame _ _ _ _ _).trans (dropFrame_frame s l), _, sendTs_out _ _ _ _ _⟩

/-- FABRIC qualifies at the sixteenth good exchange (02 R30). -/
def exchJudged (s : State) : State :=
  if !s.tb.fabQual && 16 ≤ s.tb.exchGood then
    reselect false { gnssDue s with tb := { (gnssDue s).tb with fabQual := true, fabSince := some s.tb.up } }
  else s

theorem exchJudged_exchanges {s : State} (v : s.tb.valid = true) : exchanges (exchJudged s).tb = exchanges s.tb := by
  have valid : (gnssDue s).tb.valid = true := (congrArg Prod.fst (gnssDue_exchanges s)).trans v
  unfold exchJudged
  split
  · exact (reselect_exchanges false
      (s := { gnssDue s with tb := { (gnssDue s).tb with fabQual := true, fabSince := some s.tb.up } }) valid).trans
      (gnssDue_exchanges s)
  · rfl

/-- A completed exchange, reported and counted (02 R30, R37). -/
def exchCounted (f : Bytes) (s : State) : State :=
  let u := takeReport f s
  { u with tb := { u.tb with exchGood := if u.tb.upstream.valid && u.tb.upstream.hops.toNat ≤ 29 then u.tb.exchGood + 1 else 0 } }

theorem exchCompleted_exchanges {s : State} (f : Bytes) (v : s.tb.valid = true) :
    exchanges (exchJudged (disciplined .fabric (exchCounted f s))).tb = exchanges s.tb := by
  have same : exchanges (disciplined .fabric (exchCounted f s)).tb = exchanges s.tb :=
    (disciplined_exchanges _ _).trans (takeReport_exchanges f v)
  exact (exchJudged_exchanges ((congrArg Prod.fst same).trans v)).trans same

section DelayResp
variable {s : State} {l : Fin 24} {f : Bytes} {x : Nat} {e : Exchange}

theorem linkAsym_dropFrame (s : State) (l : Fin 24) : linkAsym (dropFrame s l) l = linkAsym s l := by
  have d : linkD (dropFrame s l) l = linkD s l := rfl
  rw [linkAsym, dropFrame_peerLinkD, d, linkAsym]

/-- DELAY_RESP ends the exchange it names, with the offset of 02 R41; nothing later in the step changes either. -/
theorem delayResp_completes {tb : Timebase} (h : (linkOf s l).frame = some (f, x)) (ht : fieldAt f 0 1 = 3)
    (taken : exchTake s.tb (fieldAt f 4 2) = some (e, tb)) (valid : tb.valid = true) (hl : l.val = upLink s) (u : upOk s = true) :
    exchanges (delayResp l s).tb = (true, tb.exch, tb.exchOld, 0,
      exchOffset e (fieldAt f 16 8 * 65536 + fieldAt f 24 2) (linkAsym s l)) := by
  have other : (l.val != upLink (dropFrame s l) || !upOk (dropFrame s l)) = false := by
    have same : upLink (dropFrame s l) = upLink s := rfl
    rw [upOk_dropFrame, same, u, hl]; simp
  have taken' : exchTake (dropFrame s l).tb (fieldAt f 4 2) = some (e, tb) := taken
  rw [delayResp, timeStep_tb, takeFrame_some h ht]
  dsimp only
  rw [taken']
  dsimp only
  rw [other, linkAsym_dropFrame]
  have done := exchCompleted_exchanges f (s := { dropFrame s l with tb := { tb with
    exchMissed := 0, fabOff := exchOffset e (fieldAt f 16 8 * 65536 + fieldAt f 24 2) (linkAsym s l) } }) valid
  refine done.trans ?_
  rw [exchanges, valid]

end DelayResp

theorem exchTake_present {tb : Timebase} {e : Exchange} {n : Nat} (h : tb.exch = some e) (a : e.asked = true) (q : n = e.seq.toNat) :
    exchTake tb n = some (e, { tb with exch := none }) := by
  simp [exchTake, Option.filter, h, a, q]

theorem exchTake_old {tb : Timebase} {e : Exchange} {n x : Nat} (h : tb.exch = none) (o : tb.exchOld = [(e, x)])
    (a : e.asked = true) (q : n = e.seq.toNat) : exchTake tb n = some (e, { tb with exchOld := [] }) := by
  simp [exchTake, h, o, a, q]

/-- Settles O3: each step by what it records and sends; what a report of the upstream means keeps the exchanges. -/
theorem snapshotsAndTimesync : Obligations.SnapshotsAndTimesync := by
  unfold Obligations.SnapshotsAndTimesync
  refine ⟨fun s h => ⟨fun n wide d => ?latch, fun n wide d => ?undecoded, fun v o d g => ?rise, fun o d => ?fall⟩,
    fun s h => ⟨fun u r => ?start, fun l seq up => ?send, fun l f t2 fr ty hl u new => ?sync,
      fun l f t2 fr ty hl u x m q v => ?older, fun l f t4 fr ty => ?request, fun l f x e fr ty p a q hl u v => ?response,
      fun l f x n e fr ty p o a q hl u v => ?late⟩⟩
  case latch => exact ⟨_, barRead_on h d _, snapLatch_spec s n wide⟩
  case undecoded => exact ⟨_, barRead_off h d _, rfl, rfl⟩
  case rise => exact runs_live (f := ppsRise) rfl h (ppsRise_rises v o d g)
  case fall => exact runs_live (f := ppsFallStep) rfl h (ppsFallStep_falls o d)
  case start => exact runs_live (f := exchStart) rfl h (exchStart_starts u r)
  case send => exact runs_live (f := syncSend l seq) rfl h (syncSend_sends up seq)
  case sync =>
    obtain ⟨frame, sent, _⟩ := syncStep_spec fr ty hl u
    exact runs_live (f := syncStep l) rfl h ⟨frame, sent, syncStep_present fr ty hl u new⟩
  case older =>
    obtain ⟨exch, old⟩ := syncStep_old fr ty hl u v m q
    rw [syncExch, ← q] at old
    exact runs_live (f := syncStep l) rfl h ⟨(syncStep_spec fr ty hl u).1, exch, old⟩
  case request => exact runs_live (f := delayReq l) rfl h (delayReq_answers fr ty)
  case response =>
    have done := delayResp_completes fr ty (exchTake_present p a q) v hl u
    simp only [exchanges, Prod.mk.injEq] at done
    obtain ⟨_, exch, _, missed, off⟩ := done
    exact runs_live (f := delayResp l) rfl h ⟨exch, missed, off.trans rfl⟩
  case late =>
    have done := delayResp_completes fr ty (exchTake_old p o a q) v hl u
    simp only [exchanges, Prod.mk.injEq] at done
    obtain ⟨_, _, old, missed, off⟩ := done
    exact runs_live (f := delayResp l) rfl h ⟨old, missed, off⟩

end Sys2Proof.Machine

/-! ## 05: the completion of a command, and the opcodes that name no object (R97, R104, R430) -/

namespace Sys2Proof.Machine

/-! ### Completion (05 R97) -/

/-- The channel of a command that completed. -/
def completed (k : CmdHeld) (st d : Nat) (p : Bytes) (ch : MbxChan) : MbxChan :=
  { ch with
    resp := memWrite ch.resp 0 (respHeader k st d p.length ++ p)
    lastSeq := k.seq
    done := true
    busy := false
    cmd := none }

theorem respHeader_length (k : CmdHeld) (st d n : Nat) : (respHeader k st d n).length = 16 := layout_length 16 _ (by simp)

/-- DETAIL 0 is a field left at zero. -/
theorem respHeader_detail (k : CmdHeld) (st n : Nat) : respHeader k st 0 n =
    layout 16 [(0, 2, k.opcode.toNat), (2, 2, k.seq.toNat), (4, 2, n), (7, 1, 1), (8, 2, st)] := rfl

theorem memRead_header {m : Mem} (w : Memory.wf m = true) {x : Bytes} (len : x.length = 16) (p : Bytes) :
    memRead (memWrite m 0 (x ++ p)) 0 (16 + p.length) = x ++ p := by
  have read := memRead_memWrite w 0 (x ++ p)
  rwa [List.length_append, len] at read

theorem completed_resp (k : CmdHeld) (st d : Nat) (p : Bytes) (ch : MbxChan) :
    (completed k st d p ch).resp = memWrite ch.resp 0 (respHeader k st d p.length ++ p) := by
  rw [completed]

section Completion
variable {s : State} {c : Chan} {k : CmdHeld} (h : (chan s c).cmd = some k) (g : s.hlt.mpHung = false)
include h g

/-- A completion writes the channel and may send an interrupt. -/
theorem finishCmd_announced (st d : Nat) (p : Bytes) :
    Announced (modChan s c (completed k st d p)) (finishCmd s c st d p) := by
  simp only [finishCmd, finishWith, h, g, Bool.false_eq_true, if_false]
  exact Announced.ofIte _ (Announced.ofMsix _ _) (Announced.refl (modChan s c (completed k st d p)))

theorem finishCmd_answered (w : Memory.wf (chan s c).resp = true) (st : Nat) (p : Bytes) :
    Answered (finishCmd s c st 0 p) c k st p := by
  have e : chan (finishCmd s c st 0 p) c = completed k st 0 p (chan s c) :=
    ((finishCmd_announced h g st 0 p).timeOnly.chan c).trans (chan_modChan s c _)
  have read := memRead_header w (respHeader_length k st 0 p.length) p
  rw [Answered, e, completed_resp, read, respHeader_detail]
  exact ⟨rfl, rfl, rfl, rfl, rfl⟩

end Completion

theorem finishCmd_cal (s : State) (c : Chan) (st d : Nat) (p : Bytes) : (finishCmd s c st d p).cal = s.cal := by
  unfold finishCmd finishWith
  split
  · rfl
  · split
    · rfl
    · dsimp only
      split
      · exact (Announced.ofMsix _ _).cal
      · rfl

/-! ### The checks of step 5 (05 R430) -/

theorem lowestBad_none {l : List (Bool × Nat)} (h : ∀ x ∈ l, x.1 = false) : lowestBad l = none := by
  induction l with
  | nil => rfl
  | cons x l ih =>
    obtain ⟨b, o⟩ := x
    have hb : b = false := h _ List.mem_cons_self
    simp [lowestBad, ih fun y m => h y (List.mem_cons_of_mem _ m), hb]

theorem rsv_none {k : CmdHeld} {l : List Nat} (h : Reserved k l) {lo hi : Nat} (sub : span lo hi ⊆ l) :
    ∀ x ∈ k.rsv lo hi, x.1 = false := by
  intro x m
  obtain ⟨o, ho, rfl⟩ := List.mem_map.mp m
  simpa using h o (sub ho)

/-! ### A held command goes -/

/-- No channel and no health register differs. -/
abbrev MailboxKept (s t : State) : Prop := t.mbx.chans = s.mbx.chans ∧ t.hlt = s.hlt

theorem TimeOnly.mailbox {s t : State} (h : TimeOnly s t) : MailboxKept s t := ⟨h.chans, h.hlt⟩

theorem MailboxKept.chan {s t : State} (h : MailboxKept s t) (c : Chan) : chan t c = chan s c := by
  rw [Machine.chan, h.1, Machine.chan]

section Held
variable {s : State} {c : Chan} {op : Nat} {k : CmdHeld} (h : HasCmd s c op k)
include h

theorem HasCmd.opCmd : opCmd s c op = some k := by
  obtain ⟨_, serves, cmd, code, ready, _⟩ := h
  simp [Machine.opCmd, serves, cmd, code, ready]

theorem HasCmd.running : s.hlt.mpHung = false := by
  obtain ⟨_, serves, _⟩ := h
  simp only [mpServes, Bool.and_eq_true, Bool.not_eq_true'] at serves
  exact serves.1

omit h in
/-- A command that names no object is held behind none (05 R104). -/
theorem unordered_of_unnamed (n : namedObjs k = []) {chk : Chk} (x : chk.ctxs = []) : orderHeld s c k chk = false := by
  have apart (q : CmdHeld) : sameObject q k chk = false := by simp [sameObject, clash, n, x]
  simp [orderHeld, apart]

/-- It goes when its payload and the state let it. -/
theorem HasCmd.goes {chk : CmdHeld → Chk} (n : namedObjs k = []) {l : List (Bool × Nat)} (e : chk k = { param := l })
    (p : ∀ x ∈ l, x.1 = false) : Goes s c op chk k := by
  refine ⟨h.opCmd, .inr ⟨unordered_of_unnamed n (by rw [e]), ?_⟩⟩
  simp [firstFail, e, lowestBad_none p]

variable {t : State} (u : MailboxKept s t)
include u

/-- The effect having left the channels alone, the command is answered. -/
theorem HasCmd.answers (st : Nat) (p : Bytes) : Answered (finishCmd t c st 0 p) c k st p := by
  have running := h.running
  obtain ⟨_, _, cmd, _, _, _, wf⟩ := h
  exact finishCmd_answered (by rw [u.chan, cmd]) (u.2 ▸ running) (by rw [u.chan, wf]) st p

end Held

section Opcodes
variable {i : Instr} {s t : State} {c : Chan} {op : Nat} {k : CmdHeld} {chk : CmdHeld → Chk} {resp : CmdHeld → State → Bytes}
  {P : State → Prop} (h : HasCmd s c op k) (g : Goes s c op chk k)
include h g

/-- An opcode whose effect touches the timebase and the calibration alone completes with ST_OK. -/
theorem runs_plainOp {eff : CmdHeld → State → State} (e : exec i s = live s fun s => plainOp s c op chk resp eff)
    (u : MailboxKept s (eff k s))
    (p : ∀ t, Answered t c k 0 (resp k (eff k s)) → t.tb = (eff k s).tb → t.cal = (eff k s).cal → P t) : Runs i s P := by
  have begun : k.begun = false := h.2.2.2.2.2.1
  have pass : orderHeld s c k (chk k) = false ∧ firstFail (chan s c) (chk k) = none := by
    obtain ⟨_, b | pass⟩ := g
    · rw [begun] at b; cases b
    · exact pass
  refine runs_live e h.1 ?_
  rw [plainOp_ok resp eff g.1 pass.1 pass.2]
  exact p _ (h.answers u _ _) (finishCmd_tb _ _ _ _ _) (finishCmd_cal _ _ _ _ _)

theorem runs_runOp {eff : CmdHeld → State → Done} {r : Bytes} (e : exec i s = live s fun s => runOp s c op chk resp eff)
    (d : eff k s = .ok t r) (u : MailboxKept s t)
    (p : ∀ v, Answered v c k 0 r → v.tb = t.tb → v.cal = t.cal → P v) : Runs i s P := by
  refine runs_live e h.1 ?_
  rw [runOp_ok g d]
  exact p _ (h.answers u _ _) (finishCmd_tb _ _ _ _ _) (finishCmd_cal _ _ _ _ _)

end Opcodes

end Sys2Proof.Machine

/-! ## 02, 03: the time opcodes and the steps of a calibration run (the statement of O4) -/

namespace Sys2Proof.Machine

/-! ### The time opcodes (02 R47, R48) -/

section TimeOpcodes
variable {s : State} {c : Chan} {k : CmdHeld}

theorem unnamed_of_opcode {op : Nat} (h : HasCmd s c op k) (m : op ∈ [0x0101, 0x0102, 0x0103, 0x0104, 0x0105]) : namedObjs k = [] := by
  have code : k.opcode.toNat = op := h.2.2.2.1
  simp only [List.mem_cons, List.not_mem_nil, or_false] at m
  rcases m with rfl | rfl | rfl | rfl | rfl <;> simp [namedObjs, code]

theorem timeConfigEff_timeOnly : TimeOnly s (timeConfigEff k s) := by
  refine timeStep_timeOnly ?_
  dsimp only
  split
  · exact .refl s
  · split
    · exact (TimeOnly.trans (.ofTime _ s.cal) (fabDrop_timeOnly _)).trans (reselect_timeOnly _ _)
    · exact TimeOnly.trans (.ofTime _ s.cal) (reselect_timeOnly _ _)

/-- The configuration an applied OP_TIME_CONFIG sets. -/
def timeConfigured (k : CmdHeld) (g : TbConfig) : TbConfig := { g with
  prio := BitVec.ofNat 6 (k.f 1 1)
  slewPpm := BitVec.ofNat 8 (k.f 2 1)
  upstream := BitVec.ofNat 5 (k.f 3 1)
  exchRate := BitVec.ofNat 7 (k.f 4 1)
  ppsWidth := BitVec.ofNat 3 (k.f 5 1)
  ppsGate := k.f 6 1 = 1
  ppsAdv := BitVec.ofNat 16 (k.f 8 2)
  ppsInDly := BitVec.ofNat 16 (k.f 10 2) }

theorem fabDrop_cfg (s : State) : (fabDrop s).tb.cfg = s.tb.cfg := by
  unfold fabDrop
  dsimp only
  split
  · exact reselect_keeps _ _ Timebase.cfg fun _ => rfl
  · rfl

theorem timeConfigEff_cfg (a : k.f 0 1 = 1) : (timeConfigEff k s).tb.cfg = timeConfigured k s.tb.cfg := by
  have apply : (!bitAt (k.f 0 1) 0) = false := by rw [a]; rfl
  rw [timeConfigEff, timeStep_tb, apply, if_neg Bool.false_ne_true]
  dsimp only
  rw [reselect_keeps _ _ Timebase.cfg fun _ => rfl]
  split
  · exact fabDrop_cfg _
  · rfl

theorem timeConfigEff_unapplied (a : k.f 0 1 = 0) : (timeConfigEff k s).tb = s.tb := by
  have apply : (!bitAt (k.f 0 1) 0) = true := by rw [a]; rfl
  rw [timeConfigEff, timeStep_tb, apply]
  rfl

theorem leNat_lt (b : Bytes) : leNat b < 256 ^ b.length := by
  induction b with
  | nil => decide
  | cons x b ih =>
    have := x.isLt
    rw [leNat, List.length_cons, Nat.pow_succ']
    omega

theorem fieldAt_lt (b : Bytes) (o n : Nat) : fieldAt b o n < 256 ^ n :=
  (leNat_lt _).trans_le (Nat.pow_le_pow_right (by decide) (by simp))

theorem dtNs_of_count {t : State} {n : Nat} (h : t.tb.count = BitVec.ofNat 96 (nsUp n)) : dtNs t = BitVec.ofNat 64 n := by
  apply BitVec.eq_of_toNat_eq
  rw [dtNs, h, nsUp, BitVec.extractLsb'_toNat, BitVec.toNat_ofNat, BitVec.toNat_ofNat, Nat.shiftRight_eq_div_pow]
  omega

theorem timeConfigResp_length (k : CmdHeld) (s : State) : (timeConfigResp k s).length = 16 := layout_length 16 _ (by simp)

theorem opTimeConfig_applies (h : HasCmd s c 0x0101 k) (a : k.f 0 1 = 1) (p : k.f 1 1 ≤ 63) (po : prioOk (k.f 1 1) = true)
    (sl : 1 ≤ k.f 2 1) (sh : k.f 2 1 ≤ 200) (u : k.f 3 1 ≤ 23 ∨ k.f 3 1 = 31) (el : 1 ≤ k.f 4 1) (eh : k.f 4 1 ≤ 64)
    (w : k.f 5 1 ≤ 5) (g : k.f 6 1 ≤ 1) (r : Reserved k [7, 12, 13, 14, 15]) :
    Runs (.opTimeConfig c) s fun t => AnsweredLen t c k 0 16 ∧ t.tb.cfg.prio.toNat = k.f 1 1 ∧ t.tb.cfg.slewPpm.toNat = k.f 2 1 ∧
      t.tb.cfg.upstream.toNat = k.f 3 1 ∧ t.tb.cfg.exchRate.toNat = k.f 4 1 ∧ t.tb.cfg.ppsWidth.toNat = k.f 5 1 ∧
      t.tb.cfg.ppsAdv.toNat = k.f 8 2 ∧ t.tb.cfg.ppsInDly.toNat = k.f 10 2 := by
  have goes : Goes s c 0x0101 timeConfigChk k := by
    refine h.goes (unnamed_of_opcode h (by simp)) rfl fun x m => ?_
    simp only [List.append_assoc, List.mem_append] at m
    rcases m with m | m | m
    · simp only [bad, po, List.mem_cons, List.not_mem_nil, or_false] at m
      rcases m with rfl | rfl | rfl | rfl | rfl | rfl | rfl | rfl <;> simp <;> omega
    · exact rsv_none r (by decide) x m
    · exact rsv_none r (by decide) x m
  refine runs_plainOp h goes rfl timeConfigEff_timeOnly.mailbox fun t answered tb _ => ⟨⟨_, timeConfigResp_length _ _, answered⟩, ?_⟩
  have adv : k.f 8 2 < 65536 := fieldAt_lt _ _ _
  have dly : k.f 10 2 < 65536 := fieldAt_lt _ _ _
  rw [tb, timeConfigEff_cfg a]
  simp only [timeConfigured, BitVec.toNat_ofNat]
  omega

theorem opTimeConfig_reads (h : HasCmd s c 0x0101 k) (a : k.f 0 1 = 0) (p : k.f 1 1 ≤ 63) (r : Reserved k [7, 12, 13, 14, 15]) :
    Runs (.opTimeConfig c) s fun t => AnsweredLen t c k 0 16 ∧ t.tb = s.tb := by
  have unapplied : bitAt (k.f 0 1) 0 = false := by rw [a]; rfl
  have goes : Goes s c 0x0101 timeConfigChk k := by
    refine h.goes (unnamed_of_opcode h (by simp)) rfl fun x m => ?_
    simp only [List.append_assoc, List.mem_append] at m
    rcases m with m | m | m
    · simp only [bad, unapplied, Bool.false_and, List.mem_cons, List.not_mem_nil, or_false] at m
      rcases m with rfl | rfl | rfl | rfl | rfl | rfl | rfl | rfl <;> simp <;> omega
    · exact rsv_none r (by decide) x m
    · exact rsv_none r (by decide) x m
  exact runs_plainOp h goes rfl timeConfigEff_timeOnly.mailbox fun t answered tb _ =>
    ⟨⟨_, timeConfigResp_length _ _, answered⟩, tb.trans (timeConfigEff_unapplied a)⟩

/-- First lock to HOST at second `n`, as OP_TIME_SET does at once (02 R34, R48). -/
def timeSetLock (k : CmdHeld) (n : Nat) (s : State) : State :=
  let u := BitVec.ofNat 16 (k.f 8 2)
  let utc := if u = 0xFFFF then s.tb.utc else { s.tb.utc with seconds := u, fromNav := false }
  firstLock { s with tb := { s.tb with utc := utc } } .host (BitVec.ofNat 96 (nsUp n))

theorem timeSetLock_timeOnly (n : Nat) : TimeOnly s (timeSetLock k n s) :=
  TimeOnly.trans (.ofTime _ s.cal) (firstLock_timeOnly _ _ _)

theorem timeSetLock_locks (n : Nat) : (timeSetLock k n s).tb.valid = true ∧ (timeSetLock k n s).tb.source = .host ∧
    dtNs (timeSetLock k n s) = BitVec.ofNat 64 n :=
  have ⟨_, _, valid, source, count⟩ := firstLock_tb _ _ _
  ⟨valid, source, dtNs_of_count count⟩

theorem timeSetEff_now (b : k.begun = false) (q : s.tb.extQual = false) : timeSetEff c k s =
    .ok (timeStep (timeSetLock k (k.f 0 8 * 1000000000)) s) (layout 16 [(0, 8, k.f 0 8 * 1000000000), (8, 1, 4)]) := by
  rw [timeSetEff, b, q, if_neg Bool.false_ne_true]
  dsimp only
  rw [if_neg Bool.false_ne_true]
  unfold timeSetLock
  rfl

section TimeSet
variable (h : HasCmd s c 0x0102 k) (n : k.f 0 8 ≤ 18446744073) (r : Reserved k [10, 11, 12, 13, 14, 15])
  (v : s.tb.valid = false) (w : s.tb.timeSet = none)
include h n r v w

theorem timeSet_goes : Goes s c 0x0102 (fun k => timeSetChk k s) k := by
  refine h.goes (unnamed_of_opcode h (by simp)) (l := bad (18446744073 < k.f 0 8) 0 :: k.rsv 10 16) (by simp [timeSetChk, v, w])
    fun x m => ?_
  rcases List.mem_cons.mp m with rfl | m
  · simpa [bad] using n
  · exact rsv_none r (by decide) x m

theorem opTimeSet_locks (q : s.tb.extQual = false) : Runs (.opTimeSet c) s fun t =>
    Answered t c k 0 (layout 16 [(0, 8, k.f 0 8 * 1000000000), (8, 1, 4)]) ∧ t.tb.valid = true ∧ t.tb.source = .host ∧
      dtNs t = BitVec.ofNat 64 (k.f 0 8 * 1000000000) := by
  have begun : k.begun = false := h.2.2.2.2.2.1
  obtain ⟨valid, source, dt⟩ := timeSetLock_locks (s := s) (k := k) (k.f 0 8 * 1000000000)
  refine runs_runOp h (timeSet_goes h n r v w) rfl (timeSetEff_now begun q) (timeStep_timeOnly (timeSetLock_timeOnly _)).mailbox
    fun t answered tb _ => ⟨answered, ?_⟩
  rw [timeStep_tb] at tb
  exact ⟨by rw [tb, valid], by rw [tb, source], by rw [dtNs, tb]; exact dt⟩

theorem opTimeSet_waits (q : s.tb.extQual = true) : Runs (.opTimeSet c) s fun t =>
    (∃ w, t.tb.timeSet = some w ∧ w.chan = c ∧ w.taiNs = BitVec.ofNat 64 (k.f 0 8 * 1000000000)) ∧
      (chan t c).busy = (chan s c).busy ∧ (chan t c).cmd = some { k with begun := true } := by
  have cmd : (chan s c).cmd = some k := h.2.2.1
  have begun : k.begun = false := h.2.2.2.2.2.1
  refine runs_live (f := fun s => runOp s c 0x0102 (fun k => timeSetChk k s) timeSetRefused (timeSetEff c)) rfl h.1 ?_
  have waits : timeSetEff c k s = .wait { s with tb := { s.tb with timeSet := (some
      ⟨c, BitVec.ofNat 64 (k.f 0 8 * 1000000000), BitVec.ofNat 16 (k.f 8 2), s.tb.up + nsUp 1500000000⟩ : Option TimeSetWait) } } := by
    rw [timeSetEff, begun, q, if_neg Bool.false_ne_true]
    rfl
  rw [runOp_wait (timeSet_goes h n r v w) waits, setBegun, chan_modChan]
  exact ⟨⟨_, rfl, rfl, rfl⟩, rfl, congrArg (Option.map fun k => { k with begun := true }) cmd⟩

end TimeSet

theorem timeSetTimeout_answers {w : TimeSetWait} (g : s.hlt.mpHung = false) (t : s.tb.timeSet = some w) (l : w.limit ≤ s.tb.up)
    (cmd : (chan s w.chan).cmd = some k) (wf : Memory.wf (chan s w.chan).resp = true) :
    Answered (timeSetTimeout s) w.chan k 0x000B (zeros 16) ∧ (timeSetTimeout s).tb.timeSet = none := by
  have e : timeSetTimeout s = finishCmd { s with tb := { s.tb with timeSet := none } } w.chan stTimeout 0 (zeros 16) := by
    simp [timeSetTimeout, t, l]
  rw [e, finishCmd_tb]
  exact ⟨finishCmd_answered (s := { s with tb := { s.tb with timeSet := none } }) cmd g wf _ _, rfl⟩

end TimeOpcodes

end Sys2Proof.Machine

/-! ## 03: what the judging of a calibration item leaves (R53 to R64) -/

namespace Sys2Proof.Machine

/-! ### Views of a run -/

/-- What the judging of an item leaves: the other units, and of the calibration all but items and the run's list. -/
def aside (s : State) :=
  (s.tb, s.gn, s.sec, s.hlt, s.mbx.chans, s.cal.refPresent, s.cal.ppsUsed, s.cal.running,
    s.cal.run.map fun r => (r.chan, r.mask, r.ovr, r.gate))

/-- Item `n` of the run is still to be done. -/
def left (s : State) (n : Nat) : Bool := s.cal.run.any fun r => r.todo.getLsbD n

section Aside
variable {s t : State} (h : aside t = aside s)
include h

theorem aside_tb : t.tb = s.tb := congrArg (fun a => a.1) h
theorem aside_gn : t.gn = s.gn := congrArg (fun a => a.2.1) h
theorem aside_sec : t.sec = s.sec := congrArg (fun a => a.2.2.1) h
theorem aside_hlt : t.hlt = s.hlt := congrArg (fun a => a.2.2.2.1) h
theorem aside_chans : t.mbx.chans = s.mbx.chans := congrArg (fun a => a.2.2.2.2.1) h
theorem aside_refPresent : t.cal.refPresent = s.cal.refPresent := congrArg (fun a => a.2.2.2.2.2.1) h
theorem aside_ppsUsed : t.cal.ppsUsed = s.cal.ppsUsed := congrArg (fun a => a.2.2.2.2.2.2.1) h
theorem aside_running : t.cal.running = s.cal.running := congrArg (fun a => a.2.2.2.2.2.2.2.1) h

/-- The run is the same but for the items left. -/
theorem aside_run {r : CalRun} (e : s.cal.run = some r) :
    ∃ q, t.cal.run = some q ∧ q.chan = r.chan ∧ q.mask = r.mask ∧ q.ovr = r.ovr ∧ q.gate = r.gate := by
  have runs : t.cal.run.map (fun r => (r.chan, r.mask, r.ovr, r.gate)) = s.cal.run.map fun r => (r.chan, r.mask, r.ovr, r.gate) :=
    congrArg (fun a => a.2.2.2.2.2.2.2.2) h
  rw [e, Option.map_some, Option.map_eq_some_iff] at runs
  obtain ⟨q, run, eq⟩ := runs
  simp only [Prod.mk.injEq] at eq
  exact ⟨q, run, eq⟩

end Aside

theorem Announced.aside {s t : State} (h : Announced s t) : aside t = aside s := by
  obtain ⟨n, l, hl, o, rfl⟩ := h
  rfl

/-- Item `m` is judged on the way from `s` to `t`. -/
structure Judged (m : Nat) (s t : State) : Prop where
  aside : aside t = aside s
  run : t.cal.run = s.cal.run
  therm : t.cal.therm = s.cal.therm
  items : ∀ n : Fin 28, n.val ≠ m → unrecorded t.cal.items[n] = unrecorded s.cal.items[n]

theorem Judged.refl (m : Nat) (s : State) : Judged m s s := ⟨rfl, rfl, rfl, fun _ _ => rfl⟩

theorem Judged.trans {m : Nat} {s t u : State} (h : Judged m s t) (k : Judged m t u) : Judged m s u :=
  ⟨k.aside.trans h.aside, k.run.trans h.run, k.therm.trans h.therm, fun n ne => (k.items n ne).trans (h.items n ne)⟩

/-! ### One item -/

theorem calItem_eq (s : State) (n : Fin 28) : calItem s n = s.cal.items[n] := by simp [calItem, vget]

theorem getElem_vmod {α : Type} {N : Nat} (v : Vector α N) (m : Nat) (f : α → α) (n : Fin N) :
    (vmod v m f)[n] = if n.val = m then f v[n] else v[n] := by
  unfold vmod
  split
  · simp only [Fin.getElem_fin, Vector.getElem_set, eq_comm]
    split
    case isTrue h => subst h; rfl
    case isFalse => rfl
  · next h => rw [if_neg (by have := n.isLt; omega)]

theorem modItem_here (s : State) (n : Fin 28) (f : CalItem → CalItem) :
    (modItem s n f).cal.items[n] = f s.cal.items[n] := by
  simp only [modItem, getElem_vmod, if_pos]

section Item
variable (s : State) (m : Nat)

theorem modItem_judged (f : CalItem → CalItem) : Judged m s (modItem s m f) :=
  ⟨rfl, rfl, rfl, fun n ne => by simp only [modItem, getElem_vmod, if_neg ne]⟩

/-- A LINK_CTRL changes its link alone. -/
theorem sendCtrl_eq (l : Nat) : ∃ f o, sendCtrl s l = { s with fab := f, out := o } := by
  unfold sendCtrl
  split
  · exact ⟨_, _, rfl⟩
  · exact ⟨_, s.out, rfl⟩

theorem sendCtrl_cal (l : Nat) : (sendCtrl s l).cal = s.cal := by
  obtain ⟨f, o, e⟩ := sendCtrl_eq s l
  rw [e]

theorem sendCtrl_judged (l : Nat) : Judged m s (sendCtrl s l) := by
  obtain ⟨f, o, e⟩ := sendCtrl_eq s l
  rw [e]
  exact ⟨rfl, rfl, rfl, fun _ _ => rfl⟩

theorem calApply_judged (v : Word) : Judged m s (calApply s m v) := by
  unfold calApply
  dsimp only
  split
  · exact (modItem_judged s m _).trans (sendCtrl_judged _ _ _)
  · exact modItem_judged s m _

theorem calApply_cal (v : Word) : (calApply s m v).cal = (modItem s m fun i => { i with value := v }).cal := by
  unfold calApply
  dsimp only
  split
  · exact sendCtrl_cal _ _
  · rfl

theorem calSettle_judged : Judged m s (calSettle m s) := by
  unfold calSettle
  dsimp only
  split
  · exact .refl m s
  · split
    · subst m; exact calApply_judged s 1 _
    · have free : Judged m s (takeFree s).2 := ⟨rfl, rfl, rfl, fun _ _ => rfl⟩
      exact (free.trans (calApply_judged _ m _)).trans (modItem_judged _ m _)

theorem calPass_judged (r : Word) : Judged m s (calPass s m r) := by
  unfold calPass
  dsimp only
  split
  · exact (calApply_judged s m _).trans (modItem_judged _ m _)
  · exact (calSettle_judged s m).trans (modItem_judged _ m _)

theorem calRecord_judged (x : Nat) : Judged m s (calRecord s x) := by
  have same := calRecord_results s x
  refine ⟨?_, (congrArg Calib.run same :), (congrArg Calib.therm same :), fun n _ => unrecorded_of_results same n⟩
  rcases calRecord_cases s x with ⟨v, r, e, _⟩ | a
  · rw [e]; rfl
  · rw [a.aside]; rfl

/-- Where OSC_FREQ passes, DT is no longer untraced. -/
def calTraced : State := if m = 0 then { s with cal := { s.cal with untraced := false } } else s

/-- After first lock a passing result goes to the record (03 R55). -/
def calFiled : State := if s.tb.valid then calRecord s (2 ^ m) else s

theorem calTraced_judged : Judged m s (calTraced s m) := by
  unfold calTraced
  split <;> exact ⟨rfl, rfl, rfl, fun _ _ => rfl⟩

theorem calTraced_items : (calTraced s m).cal.items = s.cal.items := by
  unfold calTraced
  split <;> rfl

theorem calFiled_judged : Judged m s (calFiled s m) := by
  unfold calFiled
  split
  · exact calRecord_judged _ _ _
  · exact .refl _ _

theorem calFiled_unrecorded (n : Fin 28) : unrecorded (calFiled s m).cal.items[n] = unrecorded s.cal.items[n] := by
  unfold calFiled
  split
  · exact unrecorded_of_results (calRecord_results _ _) n
  · rfl

theorem calJudge_true (powerUp : Bool) (r : Word) :
    calJudge s powerUp true m r = calFiled (calTraced (calPass s m r) m) m := rfl

theorem calJudge_judged (powerUp ok : Bool) (r : Word) : Judged m s (calJudge s powerUp ok m r) := by
  cases ok
  case true =>
    rw [calJudge_true]
    exact ((calPass_judged s m r).trans (calTraced_judged _ m)).trans (calFiled_judged _ m)
  case false =>
    have untraced : Judged m s (if m = 0 && powerUp then { s with cal := { s.cal with untraced := true } } else s) := by
      split <;> exact ⟨rfl, rfl, rfl, fun _ _ => rfl⟩
    exact untraced.trans (modItem_judged _ m _)

end Item

theorem calPass_passes (s : State) (n : Fin 28) (r : Word) :
    (calPass s n r).cal.items[n].result = 1 ∧ (calPass s n r).cal.items[n].target = r := by
  unfold calPass
  generalize (if calAtOnce s then calApply s n r else calSettle n s) = u
  dsimp only
  rw [modItem_here]
  split <;> exact ⟨rfl, rfl⟩

/-- A result that passes is the item's target (03 R64). -/
theorem calJudge_passes (s : State) (powerUp : Bool) (n : Fin 28) (r : Word) :
    (calJudge s powerUp true n r).cal.items[n].result = 1 ∧ (calJudge s powerUp true n r).cal.items[n].target = r := by
  have same := calFiled_unrecorded (calTraced (calPass s n r) n) n n
  rw [calTraced_items] at same
  rw [calJudge_true]
  exact ⟨(congrArg CalItem.result same).trans (calPass_passes s n r).1, (congrArg CalItem.target same).trans (calPass_passes s n r).2⟩

/-! ### An item of the run (03 R57, R62) -/

/-- Item `m`, where the run has still to do it, is done on the way from `s` to `t`; nothing happens where it has not. -/
structure Took (m : Nat) (s t : State) : Prop where
  aside : aside t = aside s
  items : ∀ n : Fin 28, n.val ≠ m → unrecorded t.cal.items[n] = unrecorded s.cal.items[n]
  others : ∀ n : Fin 28, n.val ≠ m → left t n = left s n
  done : m < 28 → left t m = false
  idle : left s m = false → t = s

theorem left_calDone (s : State) (m : Nat) {n : Nat} (h : n < 28) : left (calDone s m) n = (left s n && decide (n ≠ m)) := by
  have bit (b : BitVec 28) : (b &&& ~~~BitVec.ofNat 28 (2 ^ m)).getLsbD n = (b.getLsbD n && decide (n ≠ m)) := by
    rw [BitVec.getLsbD_and, BitVec.getLsbD_not, BitVec.getLsbD_ofNat, Nat.testBit_two_pow]
    simp [h, eq_comm]
  simp only [left, calDone, Option.any_map, bit]
  cases s.cal.run <;> rfl

theorem took_calDone {m : Nat} {s t : State} (l : List Word) (h : Judged m { s with cal := { s.cal with therm := l } } t)
    (todo : left s m = true) : Took m s (calDone t m) := by
  have same (n : Nat) : left t n = left s n := by rw [left, h.run, left]
  refine ⟨?_, h.items, fun n ne => ?_, fun lt => ?_, fun no => ?_⟩
  · have runs : (calDone t m).cal.run.map (fun r => (r.chan, r.mask, r.ovr, r.gate)) =
        t.cal.run.map fun r => (r.chan, r.mask, r.ovr, r.gate) := by
      simp only [calDone, Option.map_map, Function.comp_def]
    have done : aside (calDone t m) = aside t := by
      unfold aside
      rw [runs]
      rfl
    exact done.trans h.aside
  · rw [left_calDone t m n.isLt, same]; simp [ne]
  · rw [left_calDone t m lt]; simp
  · rw [todo] at no; cases no

theorem took_refl {m : Nat} {s : State} (h : left s m = false) : Took m s s :=
  ⟨rfl, fun _ _ => rfl, fun _ _ => rfl, fun _ => h, fun _ => rfl⟩

section Steps
variable (s : State) (m : Nat)

theorem took_of_run {r : CalRun} {a b : State} (h : s.cal.run = some r) (done : left s m = true → Took m s a)
    (not : left s m = false → b = s) : Took m s (if r.todo.getLsbD m then a else b) := by
  have e : left s m = r.todo.getLsbD m := by rw [left, h, Option.any_some]
  rw [← e]
  split
  case isTrue todo => exact done todo
  case isFalse no => rw [not (by simpa using no)]; exact took_refl (by simpa using no)

theorem took_of_none (h : s.cal.run = none) : Took m s s := took_refl (by rw [left, h, Option.any_none])

theorem calTake_took (r : Word) : Took m s (calTake s m r) := by
  unfold calTake
  split
  · next run e => exact took_of_run s m e (took_calDone s.cal.therm (calJudge_judged s m _ _ _)) fun _ => rfl
  · next e => exact took_of_none s m e

theorem calSkip_took (x : BitVec 3) : Took m s (calSkip s m x) := by
  unfold calSkip
  split
  · next run e => exact took_of_run s m e (took_calDone s.cal.therm (modItem_judged s m _)) fun _ => rfl
  · next e => exact took_of_none s m e

theorem calNoRef_took : Took m s (calNoRef s m) := by
  unfold calNoRef
  split
  · next run e => exact took_of_run s m e (took_calDone s.cal.therm (modItem_judged s m _)) fun _ => rfl
  · next e => exact took_of_none s m e

theorem calTherm_took (l : List Word) : Took 3 s (calTherm s l) := by
  unfold calTherm
  split
  · next run e => exact took_of_run s 3 e (took_calDone _ (calJudge_judged _ 3 _ _ _)) fun _ => rfl
  · next e => exact took_of_none s 3 e

end Steps

theorem aside_foldl {α : Type} {f : State → α → State} (h : ∀ s x, aside (f s x) = aside s) (l : List α) (s : State) :
    aside (l.foldl f s) = aside s := by
  induction l generalizing s with
  | nil => rfl
  | cons x l ih => exact (ih _).trans (h s x)

end Sys2Proof.Machine

/-! ## 03: the steps of a calibration run (R50, R51, R57, R59, R62, R64, R66), and the statement of O4 -/

namespace Sys2Proof.Machine

/-- A fold whose steps reach `B` from `A` at `x`, and keep `A` elsewhere and `B` everywhere, reaches `B` on a list with `x`. -/
theorem foldl_reaches {α β : Type} {A B : β → Prop} {f : β → α → β} {x : α}
    (other : ∀ s y, y ≠ x → A s → A (f s y)) (here : ∀ s, A s → B (f s x)) (keeps : ∀ s y, B s → B (f s y))
    {l : List α} (m : x ∈ l) {s : β} (h : A s) : B (l.foldl f s) := by
  have kept : ∀ (l : List α) (s : β), B s → B (l.foldl f s) := by
    intro l
    induction l with
    | nil => exact fun s b => b
    | cons y l ih => exact fun s b => ih _ (keeps s y b)
  induction l generalizing s with
  | nil => cases m
  | cons y l ih =>
    by_cases e : y = x
    · subst e; exact kept l _ (here s h)
    · exact ih ((List.mem_cons.mp m).resolve_left (Ne.symm e)) (other s y e h)

/-! ### The end of a run, and first lock after it (03 R57, R62) -/

section Ends
variable {s : State}

/-- A run with an item left goes on. -/
theorem calEnd_goes {r : CalRun} (h : s.cal.run = some r) (t : r.todo ≠ 0) : calEnd s = s := by
  rw [calEnd, h]
  exact if_pos (by simpa using t)

/-- The run is over, and CAL_FAIL raised where an item failed (03 R67). -/
theorem calEnd_over {r : CalRun} (h : s.cal.run = some r) (t : r.todo = 0) : ∃ u,
    Announced { s with cal := { s.cal with run := none, running := false } } u ∧ calEnd s = match r.chan with
      | none => { u with sec := { u.sec with calDone := true } }
      | some c => match (chan u c).cmd with
        | some k => finishCmd u c stOk 0 (calRunResp { k with begun := true } u)
        | none => u := by
  refine ⟨if calMask { s with cal := { s.cal with run := none, running := false } } r.mask.toNat [2, 3] = 0
    then { s with cal := { s.cal with run := none, running := false } }
    else calFailEvent { s with cal := { s.cal with run := none, running := false } } (b2n r.chan.isSome) r.mask.toNat, ?_, ?_⟩
  · split
    · exact .refl _
    · exact .ofCalFailEvent _ _ _
  · rw [calEnd, h]
    exact if_neg (by simpa using t)

/-- The end of a run leaves the items. -/
theorem calEnd_cal : (calEnd s).cal = s.cal ∨ (calEnd s).cal = { s.cal with run := none, running := false } := by
  cases h : s.cal.run with
  | none => left; simp [calEnd, h]
  | some r =>
    by_cases t : r.todo = 0
    · obtain ⟨u, a, e⟩ := calEnd_over h t
      right
      rw [e]
      split
      · exact a.cal
      · split
        · exact (finishCmd_cal _ _ _ _ _).trans a.cal
        · exact a.cal
    · left; rw [calEnd_goes h t]

variable {f : State → State}

/-- First lock after the run leaves what the step measured. -/
theorem calThenLock_results : results (calThenLock f s).cal = results (f s).cal := by
  rw [calThenLock, timeStep_cal]
  dsimp only
  split
  · exact reselect_results _ _
  · rfl

/-- While the power-up run goes on no source is looked at. -/
theorem calThenLock_holds (h : calHolds (f s) = true) : Announced (f s) (calThenLock f s) := by
  have e : calThenLock f s = timeEvent s.tb (f s) := by simp [calThenLock, timeStep, h]
  rw [e]
  exact .ofTimeEvent _ _

end Ends

/-! ### The reference (03 R50, R59) -/

section Reference
variable {s : State} {d : Int}

theorem calEnd_refPresent : (calEnd s).cal.refPresent = s.cal.refPresent := by
  rcases calEnd_cal (s := s) with e | e <;> rw [e]

theorem calEnd_items : (calEnd s).cal.items = s.cal.items := by
  rcases calEnd_cal (s := s) with e | e <;> rw [e]

theorem refPresence_near (h : d.natAbs ≤ 100) : (calThenLock (refPresence d) s).cal.refPresent = true := by
  have shown : (calThenLock (refPresence d) s).cal.refPresent = (refPresence d s).cal.refPresent :=
    (congrArg Calib.refPresent (calThenLock_results (s := s) (f := refPresence d)) :)
  rw [shown, refPresence]
  simp [h]

/-- The power-up run, item `n` still to be done, whose factory value is `v`. -/
def Awaits (n : Fin 28) (v : Word) (s : State) : Prop :=
  (∃ r, s.cal.run = some r ∧ r.chan = none) ∧ left s n = true ∧ s.cal.items[n].factory = v

/-- Item `n` has ended NO_REF with its factory value `v` in force (03 R59). -/
def FellBack (n : Fin 28) (v : Word) (s : State) : Prop :=
  left s n = false ∧ s.cal.items[n].result = 3 ∧ s.cal.items[n].value = v

theorem calNoRef_awaits {n : Fin 28} {v : Word} {m : Nat} (ne : m ≠ n) (h : Awaits n v s) : Awaits n v (calNoRef s m) := by
  obtain ⟨⟨r, run, boot⟩, todo, factory⟩ := h
  obtain ⟨same, items, others, _, _⟩ := calNoRef_took s m
  refine ⟨?_, (others n (Ne.symm ne)).trans todo, (congrArg CalItem.factory (items n (Ne.symm ne)) : _).trans factory⟩
  obtain ⟨q, e, chan, _⟩ := aside_run same run
  exact ⟨q, e, chan.trans boot⟩

theorem calNoRef_fallsBack {n : Fin 28} {v : Word} (h : Awaits n v s) : FellBack n v (calNoRef s n) := by
  obtain ⟨⟨r, run, boot⟩, todo, factory⟩ := h
  have bit : r.todo.getLsbD n = true := by simpa [left, run] using todo
  refine ⟨(calNoRef_took s n).done n.isLt, ?_⟩
  have e : (calNoRef s n).cal.items[n] =
      { s.cal.items[n] with result := 3, inForce := 0, target := s.cal.items[n].factory, value := s.cal.items[n].factory } := by
    rw [calNoRef, run]
    dsimp only
    rw [if_pos bit, boot]
    exact modItem_here s n _
  rw [e]
  exact ⟨rfl, factory⟩

theorem calNoRef_keeps {n : Fin 28} {v : Word} (m : Nat) (h : FellBack n v s) : FellBack n v (calNoRef s m) := by
  have took := calNoRef_took s m
  by_cases e : m = n
  · subst e; rw [took.idle h.1]; exact h
  · obtain ⟨done, result, value⟩ := h
    have same := took.items n (Ne.symm e)
    exact ⟨(took.others n (Ne.symm e)).trans done, (congrArg CalItem.result same : _).trans result,
      (congrArg CalItem.value same : _).trans value⟩

theorem refPresence_far {r : CalRun} {n : Fin 28} (far : 100 < d.natAbs) (h : s.cal.run = some r) (boot : r.chan = none)
    (todo : r.todo.getLsbD n.val = true) (ne : n.val ≠ 3) :
    (calThenLock (refPresence d) s).cal.refPresent = false ∧
      (calThenLock (refPresence d) s).cal.items[n].result = 3 ∧
      (calThenLock (refPresence d) s).cal.items[n].value = s.cal.items[n].factory := by
  have same := calThenLock_results (s := s) (f := refPresence d)
  have absent : Awaits n s.cal.items[n].factory { s with cal := { s.cal with refPresent := false } } :=
    ⟨⟨r, h, boot⟩, by simpa [left, h] using todo, rfl⟩
  have e : refPresence d s = calEnd (calRefItems.foldl calNoRef { s with cal := { s.cal with refPresent := false } }) := by
    have no : ¬ d.natAbs ≤ 100 := by omega
    simp [refPresence, no]
  have listed : n.val ∈ calRefItems := List.mem_filter.mpr ⟨List.mem_range.mpr n.isLt, by simpa using ne⟩
  obtain ⟨_, result, value⟩ := foldl_reaches (fun _ _ => calNoRef_awaits) (fun _ => calNoRef_fallsBack)
    (fun _ => calNoRef_keeps) listed absent
  have item := unrecorded_of_results same n
  rw [e, calEnd_items] at item
  refine ⟨(congrArg Calib.refPresent same : _).trans ?_, (congrArg CalItem.result item : _).trans result,
    (congrArg CalItem.value item : _).trans value⟩
  have kept : (refPresence d s).cal.refPresent = false := by
    rw [e, calEnd_refPresent, aside_refPresent (aside_foldl (fun s m => (calNoRef_took s m).aside) _ _)]
  exact kept

end Reference

/-! ### Loopbacks and the gate (03 R51, R57) -/

section Gate
variable {s : State} {m : CalMeas} {r : CalRun}

/-- The items that the loopbacks measure, judged. -/
def looped (m : CalMeas) (s : State) : State :=
  (List.range 24).foldl (fun s k => calTake s (4 + k) (m.linkD.getD k 0)) (calTherm (calTake s 2 m.gnssIfb) m.therm)

theorem aside_looped : aside (looped m s) = aside s :=
  (aside_foldl (fun s k => (calTake_took s (4 + k) _).aside) _ _).trans
    ((calTherm_took _ _).aside.trans (calTake_took s 2 _).aside)

/-- TRAINING, acquisition and the wait for an edge begin once the loopbacks are judged. -/
def loopedUp (s : State) : State :=
  let v := gnStart { s with sec := { s.sec with loopDone := true, phase := if s.sec.phase = 1 then 3 else s.sec.phase } }
  if v.cal.refPresent then modGate v (.waiting v.tb.up) else calEnd v

theorem loopbacksDone_eq (h : s.cal.run = some r) (boot : r.chan = none) (gate : r.gate = .idle) (l : s.sec.loopDone = false)
    (f : s.sec.fwStarted = true) (p : s.cal.refPresent = true) : loopbacksDone m s = loopedUp (looped m s) := by
  obtain ⟨chan, mask, ovr, g, todo⟩ := r
  obtain rfl : chan = none := boot
  obtain rfl : g = .idle := gate
  rw [loopbacksDone, h]
  dsimp only
  rw [l, f, p]
  rfl

theorem loopbacksDone_done (h : s.cal.run = some r) (boot : r.chan = none) (gate : r.gate = .idle) (l : s.sec.loopDone = false)
    (f : s.sec.fwStarted = true) (p : s.cal.refPresent = true) :
    let t := calThenLock (loopbacksDone m) s
    t.sec.loopDone = true ∧ (s.sec.phase = 1 → t.sec.phase = 3) ∧ t.gn.mode = (if s.gn.position.isSome then 2 else 1) ∧
      ∃ q, t.cal.run = some q ∧ q.gate = .waiting s.tb.up := by
  have same := aside_looped (m := m) (s := s)
  obtain ⟨q, run, chan, _⟩ := aside_run same h
  have ref : (looped m s).cal.refPresent = true := (aside_refPresent same).trans p
  have tb : (looped m s).tb = s.tb := aside_tb same
  have gn : (looped m s).gn = s.gn := aside_gn same
  have sec : (looped m s).sec = s.sec := aside_sec same
  have e : loopbacksDone m s = modGate (gnStart { looped m s with sec := { s.sec with
      loopDone := true, phase := if s.sec.phase = 1 then 3 else s.sec.phase } }) (.waiting s.tb.up) := by
    rw [loopbacksDone_eq h boot gate l f p, ← sec, ← tb]
    exact if_pos ref
  have runs : (loopbacksDone m s).cal.run = some { q with gate := .waiting s.tb.up } := by
    rw [e]
    exact congrArg (Option.map fun r => { r with gate := .waiting s.tb.up }) run
  have holds : calHolds (loopbacksDone m s) = true := by simp [calHolds, runs, chan, boot]
  obtain ⟨n, lg, hl, o, eq⟩ := calThenLock_holds holds
  intro t
  have t_eq : t = _ := eq
  rw [t_eq]
  refine ⟨by rw [e]; rfl, fun one => by rw [e]; exact if_pos one, ?_, _, runs, rfl⟩
  rw [e, ← gn]
  rfl

theorem gateStart_edge {x : Nat} (h : s.cal.run = some r) (g : r.gate = .waiting x) (p : s.tb.ppsAt = some s.tb.up)
    (w : s.tb.up < x + nsUp 1000000001) :
    (gateStart s).cal.run = some { r with gate := .running s.tb.up true 0 } := by
  obtain ⟨chan, mask, ovr, gate, todo⟩ := r
  obtain rfl : gate = .waiting x := g
  have within : since s x (nsUp 1000000001) = false := by simpa [since] using w
  rw [gateStart, h]
  dsimp only
  rw [within, if_pos (by simp [p])]
  simp only [modGate, h, Option.map_some]

theorem gateStart_noEdge {x : Nat} (h : s.cal.run = some r) (g : r.gate = .waiting x) (p : s.tb.ppsAt ≠ some s.tb.up)
    (w : x + nsUp 1000000000 ≤ s.tb.up) :
    (gateStart s).cal.run = some { r with gate := .running s.tb.up false 0 } := by
  obtain ⟨chan, mask, ovr, gate, todo⟩ := r
  obtain rfl : gate = .waiting x := g
  have waited : since s x (nsUp 1000000000) = true := by simpa [since] using w
  rw [gateStart, h]
  dsimp only
  rw [if_neg (by simp [p]), if_pos waited]
  simp only [modGate, h, Option.map_some]

theorem gateOver_eq {x e : Nat} {p : Bool} (h : s.cal.run = some r) (g : r.gate = .running x p e) (edges : p = true → e = 2)
    (w : p = false → x + nsUp 2000000000 ≤ s.tb.up) : gateOver s = some p := by
  obtain ⟨chan, mask, ovr, gate, todo⟩ := r
  obtain rfl : gate = .running x p e := g
  rw [gateOver, h]
  cases p
  case true => simp [edges rfl]
  case false => simp [since, w rfl]

/-- The item of a run that passes has its result as target. -/
theorem calTake_passes {n : Fin 28} {v : Word} (h : s.cal.run = some r) (todo : r.todo.getLsbD n.val = true)
    (p : calPasses n s.cal.items[n] v r.ovr = true) :
    (calTake s n v).cal.items[n].result = 1 ∧ (calTake s n v).cal.items[n].target = v := by
  have e : calTake s n v = calDone (calJudge s r.chan.isNone true n v) n := by
    rw [calTake, h]
    dsimp only
    rw [if_pos todo, calItem_eq, p]
  rw [e]
  exact calJudge_passes s _ n v

theorem gateEnd_judges {osc tc : Word} {span : Nat} {p : Bool} (ended : gateOver s = some p) (h : s.cal.run = some r) :
    (calThenLock (gateEnd osc tc span) s).cal.ppsUsed = p ∧
      (r.todo.getLsbD 0 = true → calPasses 0 s.cal.items[0] osc r.ovr = true →
        (calThenLock (gateEnd osc tc span) s).cal.items[0].result = 1 ∧
          (calThenLock (gateEnd osc tc span) s).cal.items[0].target = osc) := by
  have same := calThenLock_results (s := s) (f := gateEnd osc tc span)
  have second (u : State) : Took 1 u (if 150 ≤ span then calTake u 1 tc else calSkip u 1 5) := by
    split
    · exact calTake_took u 1 tc
    · exact calSkip_took u 1 5
  have e : gateEnd osc tc span s = calEnd (if 150 ≤ span
      then calTake (calTake (modGate { s with cal := { s.cal with ppsUsed := p } } .idle) 0 osc) 1 tc
      else calSkip (calTake (modGate { s with cal := { s.cal with ppsUsed := p } } .idle) 0 osc) 1 5) := by
    rw [gateEnd, ended]
  have both := second (calTake (modGate { s with cal := { s.cal with ppsUsed := p } } .idle) 0 osc)
  constructor
  · have used : (gateEnd osc tc span s).cal.ppsUsed = p := by
      rw [e]
      have := aside_ppsUsed (both.aside.trans (calTake_took _ 0 osc).aside)
      rcases calEnd_cal with c | c <;> (rw [c]; exact this)
    exact (congrArg Calib.ppsUsed same : _).trans used
  · intro todo passes
    have run : (modGate { s with cal := { s.cal with ppsUsed := p } } .idle).cal.run = some { r with gate := .idle } := by
      simp only [modGate, h, Option.map_some]
    obtain ⟨result, target⟩ := calTake_passes (n := 0) run todo passes
    have item := unrecorded_of_results same 0
    rw [e, calEnd_items] at item
    have first := item.trans (both.items 0 (by decide))
    exact ⟨(congrArg CalItem.result first : _).trans result, (congrArg CalItem.target first : _).trans target⟩

end Gate

end Sys2Proof.Machine

/-! ## 03: the slew, and the opcodes of calibration (R62, R64, R66); O4 is settled -/

namespace Sys2Proof.Machine

/-! ### The slew ends (03 R64) -/

section Slew
variable {s : State}

/-- One item reaches its target. -/
def reach (s : State) (m : Nat) : State :=
  if (calItem s m).value = (calItem s m).target then s else calApply s m (calItem s m).target

theorem reach_other {m : Nat} {n : Fin 28} (h : m ≠ n) : unrecorded (reach s m).cal.items[n] = unrecorded s.cal.items[n] := by
  unfold reach
  split
  · rfl
  · exact (calApply_judged s m _).items n (Ne.symm h)

theorem reach_here (n : Fin 28) : (reach s n).cal.items[n].value = s.cal.items[n].target ∧
    (reach s n).cal.items[n].target = s.cal.items[n].target := by
  unfold reach
  rw [calItem_eq]
  split
  · next h => exact ⟨h, rfl⟩
  · have item : (calApply s n s.cal.items[n].target).cal.items[n] = { s.cal.items[n] with value := s.cal.items[n].target } :=
      (congrArg (fun c : Calib => c.items[n]) (calApply_cal s n _)).trans (modItem_here s n _)
    rw [item]
    exact ⟨rfl, rfl⟩

theorem calSlewEnd_reaches {n : Fin 28} (l : calSlewing s = true) (r : (List.range 28).all (calCanReach s) = true) :
    (calSlewEnd s).cal.items[n].value = s.cal.items[n].target := by
  have e : calSlewEnd s = (List.range 28).foldl reach s := if_pos (by rw [l, r]; rfl)
  have reached : ((List.range 28).foldl reach s).cal.items[n].value = s.cal.items[n].target ∧
      ((List.range 28).foldl reach s).cal.items[n].target = s.cal.items[n].target := by
    refine foldl_reaches (A := fun u : State => u.cal.items[n].target = s.cal.items[n].target)
      (B := fun u : State => u.cal.items[n].value = s.cal.items[n].target ∧ u.cal.items[n].target = s.cal.items[n].target)
      (fun u m ne same => ?_) (fun u same => ?_) (fun u m there => ?_) (List.mem_range.mpr n.isLt) rfl
    · exact (congrArg CalItem.target (reach_other ne) : _).trans same
    · rw [← same]; exact reach_here n
    · obtain ⟨value, target⟩ := there
      by_cases eq : m = n
      · subst eq; rw [← target]; exact reach_here n
      · have other := reach_other (s := u) eq
        exact ⟨(congrArg CalItem.value other : _).trans value, (congrArg CalItem.target other : _).trans target⟩
  rw [e]
  exact reached.1

end Slew

/-! ### OP_CAL_RUN (03 R62, R66) -/

section CalRun
variable {s : State} {c : Chan} {k : CmdHeld} {m : CalMeas}

theorem modGate_run {r : CalRun} {g : Gate} (h : s.cal.run = some r) : (modGate s g).cal.run = some { r with gate := g } := by
  simp only [modGate, h, Option.map_some]

theorem calRunResp_length (k : CmdHeld) (s : State) : (calRunResp k s).length = 16 := layout_length 16 _ (by simp)

/-- A run that an OP_CAL_RUN asked for answers it at its end. -/
theorem calEnd_answers {r : CalRun} (h : s.cal.run = some r) (t : r.todo = 0) (asked : r.chan = some c)
    (cmd : (chan s c).cmd = some k) (g : s.hlt.mpHung = false) (wf : Memory.wf (chan s c).resp = true) :
    AnsweredLen (calEnd s) c k 0 16 ∧ (calEnd s).cal.run = none ∧ (calEnd s).cal.running = false ∧
      (calEnd s).cal.therm = s.cal.therm ∧ (calEnd s).cal.items = s.cal.items := by
  obtain ⟨u, a, e⟩ := calEnd_over h t
  have kept : chan u c = chan s c := a.timeOnly.chan c
  have hung : u.hlt.mpHung = false := (congrArg Health.mpHung a.timeOnly.hlt).trans g
  have cmd' : (chan u c).cmd = some k := by rw [kept, cmd]
  rw [asked] at e
  dsimp only at e
  rw [cmd'] at e
  rw [e, finishCmd_cal, a.cal]
  exact ⟨⟨_, calRunResp_length _ _, finishCmd_answered cmd' hung (by rw [kept, wf]) _ _⟩, rfl, rfl, rfl, rfl⟩

/-- The run that an OP_CAL_RUN starts. -/
def calStarted (c : Chan) (k : CmdHeld) (s : State) : State :=
  let s := setBegun s c
  { s with cal := { s.cal with
    running := true
    run := some ⟨some c, BitVec.ofNat 28 (k.f 0 4), k.f 4 1 = 1, .idle, BitVec.ofNat 28 (k.f 0 4)⟩ } }

/-- Items that cannot be measured are skipped (03 R63). -/
def calSkipped (s : State) : State :=
  (List.range 24).foldl (fun s j => if linkIdle s j then s else calSkip s (4 + j) 4) (if pdTopOff s then s else calSkip s 3 4)

/-- What needs the reference is measured, or ends NO_REF (03 R59). -/
def calLooped (m : CalMeas) (s : State) : State :=
  if s.cal.refPresent then
    (List.range 24).foldl (fun s j => calTake s (4 + j) (m.linkD.getD j 0)) (calTake s 2 m.gnssIfb)
  else calRefItems.foldl calNoRef s

/-- What is measured of a run at once. -/
def calMeasured (m : CalMeas) (s : State) : State := calLooped m (calTherm (calSkipped s) m.therm)

theorem calRunEff_eq {r : CalRun} (b : k.begun = false) (h : (calMeasured m (calStarted c k s)).cal.run = some r) :
    calRunEff m c k s = if r.todo = 0 then .wait (calMeasured m (calStarted c k s))
      else .wait (modGate (calMeasured m (calStarted c k s)) (.waiting (calMeasured m (calStarted c k s)).tb.up)) := by
  rw [calRunEff, b, if_neg Bool.false_ne_true]
  dsimp only
  unfold calMeasured calLooped calSkipped calStarted at *
  dsimp only at h
  rw [h]

theorem modGate_running (g : Gate) : (modGate s g).cal.running = s.cal.running := rfl

theorem calStarted_running : (calStarted c k s).cal.running = true := by
  rw [calStarted]

theorem calStarted_tb : (calStarted c k s).tb = s.tb := by
  rw [calStarted, setBegun_tb]

theorem calStarted_hlt : (calStarted c k s).hlt = s.hlt := by
  rw [calStarted, setBegun_hlt]

theorem calStarted_chan : (calStarted c k s).mbx.chans = (setBegun s c).mbx.chans := by
  rw [calStarted]

theorem calStarted_run : (calStarted c k s).cal.run =
    some ⟨some c, BitVec.ofNat 28 (k.f 0 4), k.f 4 1 = 1, .idle, BitVec.ofNat 28 (k.f 0 4)⟩ := by
  rw [calStarted]

theorem aside_calSkipped : aside (calSkipped s) = aside s := by
  unfold calSkipped
  refine (aside_foldl (fun s j => ?_) _ _).trans ?_
  · split
    · rfl
    · exact (calSkip_took s _ _).aside
  · split
    · rfl
    · exact (calSkip_took s _ _).aside

theorem aside_calLooped : aside (calLooped m s) = aside s := by
  unfold calLooped
  split
  · exact (aside_foldl (fun s j => (calTake_took s (4 + j) _).aside) _ _).trans (calTake_took s 2 _).aside
  · exact aside_foldl (fun s j => (calNoRef_took s j).aside) _ _

theorem aside_calMeasured : aside (calMeasured m s) = aside s :=
  aside_calLooped.trans ((calTherm_took _ _).aside.trans aside_calSkipped)

theorem calRun_goes (h : HasCmd s c 0x0104 k) (n : k.f 0 4 ≠ 0) (l : k.f 0 4 < 2 ^ 28) (o : k.f 4 1 ≤ 1)
    (r : Reserved k [5, 6, 7]) (free : s.cal.run = none) : Goes s c 0x0104 (fun k => calRunChk k s) k := by
  refine h.goes (unnamed_of_opcode h (by simp)) (l := [bad (k.f 0 4 = 0) 0, bad (k.f 0 4 / 2 ^ 28 != 0) 0, bad (1 < k.f 4 1) 4] ++
    k.rsv 5 8) (by simp [calRunChk, free]) fun x m => ?_
  rcases List.mem_append.mp m with m | m
  · simp only [bad, List.mem_cons, List.not_mem_nil, or_false] at m
    rcases m with rfl | rfl | rfl
    · simpa using n
    · simp only [Nat.div_eq_of_lt l]; rfl
    · simpa using o
  · exact rsv_none r (by decide) x m

/-- The channel of a command that has begun. -/
theorem chan_begun {u : State} (cmd : (chan s c).cmd = some k) (e : u.mbx.chans = (setBegun s c).mbx.chans) :
    chan (setBegun u c) c = { chan s c with cmd := some { k with begun := true } } := by
  have kept : chan u c = chan (setBegun s c) c := by rw [chan, e, chan]
  have begun : chan (setBegun s c) c = { chan s c with cmd := some { k with begun := true } } := by
    rw [setBegun, chan_modChan, cmd, Option.map_some]
  rw [setBegun, chan_modChan, kept, begun, Option.map_some]

theorem calMeasured_chans : (calMeasured m (calStarted c k s)).mbx.chans = (setBegun s c).mbx.chans :=
  (aside_chans aside_calMeasured).trans calStarted_chan

/-- The run over, OP_CAL_RUN is answered. -/
theorem opCalRun_answers (h : HasCmd s c 0x0104 k) {q : CalRun} (run : (calMeasured m (calStarted c k s)).cal.run = some q)
    (t : q.todo = 0) (asked : q.chan = some c) :
    let t := calEnd (setBegun (calMeasured m (calStarted c k s)) c)
    AnsweredLen t c k 0 16 ∧ t.cal.run = none ∧ t.cal.running = false ∧
      t.cal.therm = (calMeasured m (calStarted c k s)).cal.therm ∧
      t.cal.items = (calMeasured m (calStarted c k s)).cal.items := by
  have running := h.running
  obtain ⟨_, _, cmd, _, _, _, wf⟩ := h
  have begun := chan_begun cmd (calMeasured_chans (k := k) (m := m))
  have hung : (setBegun (calMeasured m (calStarted c k s)) c).hlt.mpHung = false := by
    rw [setBegun_hlt, aside_hlt aside_calMeasured, calStarted_hlt, running]
  obtain ⟨⟨p, len, answered⟩, ended, stopped, therm, items⟩ := calEnd_answers (s := setBegun (calMeasured m (calStarted c k s)) c)
    (by rw [setBegun_cal, run]) t asked (by rw [begun]) hung (by rw [begun, wf])
  rw [setBegun_cal] at therm items
  exact ⟨⟨p, len, answered⟩, ended, stopped, therm, items⟩

variable (h : HasCmd s c 0x0104 k) (n : k.f 0 4 ≠ 0) (l : k.f 0 4 < 2 ^ 28) (o : k.f 4 1 ≤ 1)
    (r : Reserved k [5, 6, 7]) (free : s.cal.run = none)
include h n l o r free

/-- How the run stands once all that can be measured at once is: over, or waiting for the gate. -/
theorem opCalRun_eq : ∃ q, (calMeasured m (calStarted c k s)).cal.run = some q ∧ q.chan = some c ∧
    (q.todo = 0 → exec (.opCalRun c m) s = .next (calEnd (setBegun (calMeasured m (calStarted c k s)) c))) ∧
    (q.todo ≠ 0 → exec (.opCalRun c m) s =
      .next (setBegun (modGate (calMeasured m (calStarted c k s)) (.waiting s.tb.up)) c)) := by
  have same := aside_calMeasured (m := m) (s := calStarted c k s)
  obtain ⟨q, run, asked, _⟩ := aside_run same calStarted_run
  have tb : (calMeasured m (calStarted c k s)).tb = s.tb := (aside_tb same).trans calStarted_tb
  have eff := calRunEff_eq (m := m) (c := c) (s := s) h.2.2.2.2.2.1 run
  have step : exec (.opCalRun c m) s = .next (calEnd (runOp s c 0x0104 (fun k => calRunChk k s) calRunResp (calRunEff m c))) :=
    Eq.trans (b := live s fun s => calEnd (runOp s c 0x0104 (fun k => calRunChk k s) calRunResp (calRunEff m c))) rfl
      (live_awake h.1 _)
  have goes := calRun_goes h n l o r free
  rw [tb] at eff
  refine ⟨q, run, asked, fun t => ?_, fun t => ?_⟩
  · rw [if_pos t] at eff
    rw [step, runOp_wait goes eff]
  · rw [if_neg t] at eff
    have goesOn : (setBegun (modGate (calMeasured m (calStarted c k s)) (.waiting s.tb.up)) c).cal.run =
        some { q with gate := .waiting s.tb.up } := by
      rw [setBegun_cal, modGate_run run]
    rw [step, runOp_wait goes eff, calEnd_goes goesOn t]

theorem opCalRun_starts : Runs (.opCalRun c m) s fun t =>
    (AnsweredLen t c k 0 16 ∧ t.cal.run = none ∧ t.cal.running = false) ∨
      (t.cal.running = true ∧ (∃ r, t.cal.run = some r ∧ r.chan = some c ∧ r.gate = .waiting s.tb.up) ∧
        (chan t c).cmd = some { k with begun := true }) := by
  obtain ⟨q, run, asked, ends, waits⟩ := opCalRun_eq (m := m) h n l o r free
  by_cases t : q.todo = 0
  · refine ⟨_, ends t, .inl ?_⟩
    obtain ⟨answered, ended, stopped, _⟩ := opCalRun_answers h run t asked
    exact ⟨answered, ended, stopped⟩
  · refine ⟨_, waits t, .inr ⟨?_, ⟨{ q with gate := .waiting s.tb.up }, by rw [setBegun_cal, modGate_run run], asked, rfl⟩, ?_⟩⟩
    · rw [setBegun_cal, modGate_running, aside_running aside_calMeasured, calStarted_running]
    · have chans : (modGate (calMeasured m (calStarted c k s)) (.waiting s.tb.up)).mbx.chans = (setBegun s c).mbx.chans := by
        rw [modGate, calMeasured_chans]
      rw [chan_begun h.2.2.1 chans]

end CalRun

/-! ### OP_CAL_RUN of THERM alone -/

section Therm
variable {s : State} {c : Chan} {k : CmdHeld} {m : CalMeas}

theorem foldl_fixed_of_mem {α β : Type} {f : β → α → β} {b : β} {l : List α} (h : ∀ x ∈ l, f b x = b) : l.foldl f b = b := by
  induction l with
  | nil => rfl
  | cons x l ih => rw [List.foldl_cons, h x List.mem_cons_self, ih fun y m => h y (List.mem_cons_of_mem _ m)]

theorem left_of_run {r : CalRun} (h : s.cal.run = some r) (n : Nat) : left s n = r.todo.getLsbD n := by
  rw [left, h, Option.any_some]

/-- Only THERM is to be measured, and its domains are off: nothing is skipped. -/
theorem calSkipped_therm {r : CalRun} (h : s.cal.run = some r) (t : r.todo = 8) (off : pdTopOff s = true) : calSkipped s = s := by
  have none_ (j : Nat) : left s (4 + j) = false := by
    rw [left_of_run h, t]
    exact Nat.testBit_lt_two_pow ((by decide : 8 < 2 ^ 4).trans_le (Nat.pow_le_pow_right (by decide) (Nat.le_add_right 4 j)))
  rw [calSkipped, if_pos off]
  refine foldl_fixed_of_mem fun j _ => ?_
  split
  · rfl
  · exact (calSkip_took s (4 + j) 4).idle (none_ j)

/-- A run with nothing left measures nothing. -/
theorem calLooped_over {r : CalRun} (h : s.cal.run = some r) (t : r.todo = 0) : calLooped m s = s := by
  have none_ (j : Nat) : left s j = false := by rw [left_of_run h, t]; simp
  rw [calLooped]
  split
  · rw [(calTake_took s 2 _).idle (none_ 2)]
    exact foldl_fixed_of_mem fun j _ => (calTake_took s (4 + j) _).idle (none_ _)
  · exact foldl_fixed_of_mem fun j _ => (calNoRef_took s j).idle (none_ j)

/-- THERM passes: its offsets are in force, the largest is its target, and it is done. -/
theorem calTherm_passes {r : CalRun} {l : List Word} (h : s.cal.run = some r) (t : r.todo.getLsbD 3 = true)
    (p : thermPasses s.cal.thermRec l r.ovr = true) : (calTherm s l).cal.therm = l ∧
      (calTherm s l).cal.items[3].result = 1 ∧ (calTherm s l).cal.items[3].target = thermTop l ∧
      (calTherm s l).cal.run = some { r with todo := r.todo &&& ~~~ (BitVec.ofNat 28 (2 ^ 3)) } := by
  have e : calTherm s l = calDone (calJudge { s with cal := { s.cal with therm := l } } r.chan.isNone true 3 (thermTop l)) 3 := by
    rw [calTherm, h]
    dsimp only
    rw [if_pos t, p]
    rfl
  have judged := calJudge_judged { s with cal := { s.cal with therm := l } } 3 r.chan.isNone true (thermTop l)
  obtain ⟨result, target⟩ := calJudge_passes { s with cal := { s.cal with therm := l } } r.chan.isNone 3 (thermTop l)
  have run := judged.run.trans h
  rw [e]
  exact ⟨judged.therm, result, target, by rw [calDone, run, Option.map_some]⟩

section Alone
variable (h : HasCmd s c 0x0104 k) (a : k.f 0 4 = 8) (off : s.pwr.domains.toNat < 2 ^ 14)
  (p : thermPasses s.cal.thermRec m.therm (k.f 4 1 == 1) = true)
include h a off p

omit h in
theorem calMeasured_therm : ∃ q, (calMeasured m (calStarted c k s)).cal.run = some q ∧ q.chan = some c ∧ q.todo = 0 ∧
    (calMeasured m (calStarted c k s)).cal.therm = m.therm ∧
    (calMeasured m (calStarted c k s)).cal.items[3].result = 1 ∧
    (calMeasured m (calStarted c k s)).cal.items[3].target = thermTop m.therm := by
  have run := calStarted_run (s := s) (c := c) (k := k)
  have todo : BitVec.ofNat 28 (k.f 0 4) = 8 := by rw [a]; rfl
  have tops : pdTopOff (calStarted c k s) = true := by
    have same : (calStarted c k s).pwr = s.pwr := by rw [calStarted, setBegun_pwr]
    simpa [pdTopOff, same] using off
  have limits : thermPasses (calStarted c k s).cal.thermRec m.therm (decide (k.f 4 1 = 1)) = true := by
    have same : (calStarted c k s).cal.thermRec = s.cal.thermRec := by rw [calStarted, setBegun_cal]
    rw [same]; exact p
  have left3 : (BitVec.ofNat 28 (k.f 0 4)).getLsbD 3 = true := by rw [todo]; rfl
  obtain ⟨therm, result, target, after⟩ := calTherm_passes run left3 limits
  have none_ : (BitVec.ofNat 28 (k.f 0 4)) &&& ~~~ (BitVec.ofNat 28 (2 ^ 3)) = 0 := by rw [todo]; rfl
  have e : calMeasured m (calStarted c k s) = calTherm (calStarted c k s) m.therm := by
    rw [calMeasured, calSkipped_therm run todo tops, calLooped_over after none_]
  rw [e]
  exact ⟨_, after, rfl, none_, therm, result, target⟩

theorem opCalRun_therm (o : k.f 4 1 ≤ 1) (r : Reserved k [5, 6, 7]) (free : s.cal.run = none) :
    Runs (.opCalRun c m) s fun t => AnsweredLen t c k 0 16 ∧ t.cal.therm = m.therm ∧ t.cal.items[3].result = 1 ∧
      t.cal.items[3].target = thermTop m.therm := by
  obtain ⟨q, run, asked, todo, therm, result, target⟩ := calMeasured_therm (c := c) a off p
  obtain ⟨q', run', _, ends, _⟩ := opCalRun_eq (m := m) h (by omega) (by omega) o r free
  obtain rfl : q = q' := Option.some.inj (run.symm.trans run')
  obtain ⟨answered, _, _, offsets, items⟩ := opCalRun_answers h run todo asked
  refine ⟨_, ends todo, answered, offsets.trans therm, ?_⟩
  simp only [items]
  exact ⟨result, target⟩

end Alone

end Therm

/-! ### OP_CAL_READ (03 R66) -/

section Read
variable {s : State} {c : Chan} {k : CmdHeld} {n : Fin 28}

theorem calReadResp_length (s : State) (n : Nat) : (calReadResp s n).length = 40 := layout_length 40 _ (by simp)

theorem calSettle_there (h : s.cal.items[n].value = s.cal.items[n].target) : calSettle n s = s := by
  rw [calSettle, calItem_eq, if_pos h]

theorem opCalRead_reads (h : HasCmd s c 0x0105 k) (f : k.f 0 1 = n.val) (r : Reserved k [1, 2, 3]) :
    Runs (.opCalRead c) s fun t => AnsweredLen t c k 0 40 ∧ (s.cal.items[n].value = s.cal.items[n].target →
      Answered t c k 0 (calReadResp s n)) := by
  have goes : Goes s c 0x0105 (fun k => { param := bad (27 < k.f 0 1) 0 :: k.rsv 1 4 }) k := by
    refine h.goes (unnamed_of_opcode h (by simp)) rfl fun x m => ?_
    rcases List.mem_cons.mp m with rfl | m
    · simp only [bad, f]; simp; omega
    · exact rsv_none r (by decide) x m
  have kept := (calSettle_judged s n).aside
  refine runs_runOp h goes rfl (t := calSettle n s) (r := calReadResp (calSettle n s) n) (by rw [f])
    ⟨aside_chans kept, aside_hlt kept⟩ fun t answered _ _ => ⟨⟨_, calReadResp_length _ _, answered⟩, fun there => ?_⟩
  rwa [calSettle_there there] at answered

end Read

/-- Settles O4: an opcode is answered once its checks pass, and each step of a run judges the items it names. -/
theorem timeOpcodesAndCalibration : Obligations.TimeOpcodesAndCalibration := by
  unfold Obligations.TimeOpcodesAndCalibration
  refine ⟨fun s c k => ⟨?applies, ?reads, ?locks, ?waits, fun w a g t e l cmd wf => ?late, fun h => ?status⟩,
    fun s a => ⟨fun d near => ?near, fun d r n far h boot todo ne => ?far, fun m r h boot gate l f p => ?loops,
      fun r x h g p w => ?edge, fun r x h g p w => ?noEdge, fun r osc tc span x e p h g two w => ?gate, fun n l r => ?slewed,
      fun c k m h n l o r free => ?run, fun c k m h a o r free off p => ?therm, fun c k n h f r => ?item⟩⟩
  case applies => exact fun h a p po sl sh u el eh w g r => opTimeConfig_applies h a p po sl sh u el eh w g r
  case reads => exact fun h a p r => opTimeConfig_reads h a p r
  case locks => exact fun h n r v w q => opTimeSet_locks h n r v w q
  case waits => exact fun h n r v w q => opTimeSet_waits h n r v w q
  case late =>
    subst e
    exact runs_live (f := timeSetTimeout) rfl a (timeSetTimeout_answers g t l cmd wf)
  case status =>
    have goes : Goes s c 0x0103 (fun _ => {}) k := h.goes (unnamed_of_opcode h (by simp)) (l := []) rfl (by simp)
    exact runs_plainOp (resp := fun _ => timeStatusResp) (eff := fun _ s => s) h goes rfl (TimeOnly.refl s).mailbox
      fun t answered _ _ => answered
  case near => exact runs_live (f := calThenLock (refPresence d)) rfl a (refPresence_near near)
  case far => exact runs_live (f := calThenLock (refPresence d)) rfl a (refPresence_far far h boot todo ne)
  case loops => exact runs_live (f := calThenLock (loopbacksDone m)) rfl a (loopbacksDone_done h boot gate l f p)
  case edge => exact runs_live (f := gateStart) rfl a (gateStart_edge h g p w)
  case noEdge => exact runs_live (f := gateStart) rfl a (gateStart_noEdge h g p w)
  case gate => exact runs_live (f := calThenLock (gateEnd osc tc span)) rfl a (gateEnd_judges (gateOver_eq h g two w) h)
  case slewed => exact runs_live (f := calSlewEnd) rfl a (calSlewEnd_reaches l r)
  case run => exact opCalRun_starts h n l o r free
  case therm => exact opCalRun_therm h a off p o r free
  case item =>
    obtain ⟨t, e, len, there⟩ := opCalRead_reads (n := n) h f r
    refine ⟨t, e, len, fun same => ?_⟩
    have answered := there same
    rwa [calReadResp, calItem_eq] at answered

end Sys2Proof.Machine

/-! ## 00: the parts of the state that O57 speaks of, and what keeps each (the statement of O57) -/

namespace Sys2Proof.Machine

/-- The parts of the state that O57 speaks of. -/
inductive StatePart where
  | time | cal | gnss | security | health | power | bridles

/-- What such a part holds. -/
abbrev StatePart.Val : StatePart → Type
  | .time => Timebase
  | .cal => Calib
  | .gnss => Gnss
  | .security => Security
  | .health => Health
  | .power => Power
  | .bridles => Vector Bool 16

/-- A part of a state. An operation that keeps it has a rule `part_<operation>`. -/
def part : (p : StatePart) → State → p.Val
  | .time, s => s.tb
  | .cal, s => s.cal
  | .gnss, s => s.gn
  | .security, s => s.sec
  | .health, s => s.hlt
  | .power, s => s.pwr
  | .bridles, s => s.bridled

section
variable {p : StatePart}

/-- An update of none of these fields. -/
@[simp] theorem part_upd (s : State) (mbx hl xl acc nextAcc tw cores te sch fab out freeCtr pending) :
    part p ⟨s.tb, s.cal, s.gn, mbx, hl, xl, acc, nextAcc, tw, cores, s.bridled, te, sch, fab, s.hlt, s.pwr, s.sec, out,
      freeCtr, pending⟩ = part p s := by
  cases p <;> rfl

@[simp] theorem part_updTime (hTime : p ≠ .time) (s : State)
    (tb mbx hl xl acc nextAcc tw cores te sch fab out freeCtr pending) :
    part p ⟨tb, s.cal, s.gn, mbx, hl, xl, acc, nextAcc, tw, cores,
      s.bridled, te, sch, fab, s.hlt, s.pwr, s.sec, out, freeCtr, pending⟩ = part p s := by
  cases p <;> trivial

@[simp] theorem part_updCal (hCal : p ≠ .cal) (s : State)
    (cal mbx hl xl acc nextAcc tw cores te sch fab out freeCtr pending) :
    part p ⟨s.tb, cal, s.gn, mbx, hl, xl, acc, nextAcc, tw, cores,
      s.bridled, te, sch, fab, s.hlt, s.pwr, s.sec, out, freeCtr, pending⟩ = part p s := by
  cases p <;> trivial

@[simp] theorem part_updGnss (hGnss : p ≠ .gnss) (s : State)
    (gn mbx hl xl acc nextAcc tw cores te sch fab out freeCtr pending) :
    part p ⟨s.tb, s.cal, gn, mbx, hl, xl, acc, nextAcc, tw, cores,
      s.bridled, te, sch, fab, s.hlt, s.pwr, s.sec, out, freeCtr, pending⟩ = part p s := by
  cases p <;> trivial

@[simp] theorem part_updBridles (hBridles : p ≠ .bridles) (s : State)
    (mbx hl xl acc nextAcc tw cores bridled te sch fab out freeCtr pending) :
    part p ⟨s.tb, s.cal, s.gn, mbx, hl, xl, acc, nextAcc, tw, cores,
      bridled, te, sch, fab, s.hlt, s.pwr, s.sec, out, freeCtr, pending⟩ = part p s := by
  cases p <;> trivial

@[simp] theorem part_updHealth (hHealth : p ≠ .health) (s : State)
    (mbx hl xl acc nextAcc tw cores te sch fab hlt out freeCtr pending) :
    part p ⟨s.tb, s.cal, s.gn, mbx, hl, xl, acc, nextAcc, tw, cores,
      s.bridled, te, sch, fab, hlt, s.pwr, s.sec, out, freeCtr, pending⟩ = part p s := by
  cases p <;> trivial

@[simp] theorem part_updPower (hPower : p ≠ .power) (s : State)
    (mbx hl xl acc nextAcc tw cores te sch fab pwr out freeCtr pending) :
    part p ⟨s.tb, s.cal, s.gn, mbx, hl, xl, acc, nextAcc, tw, cores,
      s.bridled, te, sch, fab, s.hlt, pwr, s.sec, out, freeCtr, pending⟩ = part p s := by
  cases p <;> trivial

@[simp] theorem part_updSecurity (hSecurity : p ≠ .security) (s : State)
    (mbx hl xl acc nextAcc tw cores te sch fab sec out freeCtr pending) :
    part p ⟨s.tb, s.cal, s.gn, mbx, hl, xl, acc, nextAcc, tw, cores,
      s.bridled, te, sch, fab, s.hlt, s.pwr, sec, out, freeCtr, pending⟩ = part p s := by
  cases p <;> trivial

@[simp] theorem part_ite (c : Prop) [Decidable c] (s t : State) :
    part p (if c then s else t) = if c then part p s else part p t :=
  apply_ite _ _ _ _

theorem part_ite_of {c : Prop} [Decidable c] {s t : State} {x : p.Val} (hs : part p s = x) (ht : part p t = x) :
    part p (if c then s else t) = x := by
  split <;> assumption

theorem part_foldl {α : Type} {f : State → α → State} (h : ∀ s x, part p (f s x) = part p s)
    (l : List α) (s : State) :
    part p (l.foldl f s) = part p s := by
  induction l generalizing s with
  | nil => rfl
  | cons x l ih => exact (ih _).trans (h s x)

theorem Announced.part {s t : State} (h : Announced s t) : part p t = part p s := by
  obtain ⟨n, l, hl, o, rfl⟩ := h
  exact part_upd s _ _ _ _ _ _ _ _ _ _ _ _ _

theorem part_fst {α : Type} {x : State × α} {a : α} {s t : State} (e : x = (t, a))
    (h : part p x.1 = part p s) : part p t = part p s := by
  subst e; exact h

theorem part_snd {α : Type} {x : α × State} {a : α} {s t : State} (e : x = (a, t))
    (h : part p x.2 = part p s) : part p t = part p s := by
  subst e; exact h

/-- The state in which an effect leaves the channel's command. -/
def Done.state : Done → State
  | .ok s _ => s
  | .fail s _ _ => s
  | .wait s => s

/-- The state in which the meaning of an instruction, met in state `s`, leaves the thread. -/
def SeqRes.state (s : State) : SeqRes → State
  | .wait t => t
  | .fault _ _ _ => s
  | .next t _ => t
  | .goto t _ _ => t
  | .branch t _ _ _ => t

@[simp] theorem Done.state_ok (s : State) (r) : (Done.ok s r).state = s := rfl
@[simp] theorem Done.state_fail (s : State) (n r) : (Done.fail s n r).state = s := rfl
@[simp] theorem Done.state_wait (s : State) : (Done.wait s).state = s := rfl
@[simp] theorem Done.state_ite (c : Prop) [Decidable c] (a b : Done) :
    (if c then a else b).state = if c then a.state else b.state :=
  apply_ite _ _ _ _
@[simp] theorem SeqRes.state_wait (s t : State) : (SeqRes.wait t).state s = t := rfl
@[simp] theorem SeqRes.state_fault (s : State) (k d a) : (SeqRes.fault k d a).state s = s := rfl
@[simp] theorem SeqRes.state_next (s t : State) (r) : (SeqRes.next t r).state s = t := rfl
@[simp] theorem SeqRes.state_goto (s t : State) (r a) : (SeqRes.goto t r a).state s = t := rfl
@[simp] theorem SeqRes.state_branch (s t : State) (r a o) : (SeqRes.branch t r a o).state s = t := rfl
@[simp] theorem SeqRes.state_ite (s : State) (c : Prop) [Decidable c] (a b : SeqRes) :
    (if c then a else b).state s = if c then a.state s else b.state s := apply_ite (SeqRes.state s) _ _ _

end

end Sys2Proof.Machine

/-! ## 00: the operations that keep a part of the state (the statement of O57) -/

namespace Sys2Proof.Machine

section
variable {p : StatePart}

/-! ### Ops.lean -/

@[simp] theorem part_takeFree (s : State) : part p (takeFree s).2 = part p s := by simp [takeFree]

@[simp] theorem part_takeFreeBytes (s : State) (n) : part p (takeFreeBytes s n).2 = part p s := by
  simp [takeFreeBytes]

@[simp] theorem part_emit (s : State) (o) : part p (emit s o) = part p s := (Announced.ofEmit _ _).part

@[simp] theorem part_atsAsk (s : State) (why pasid addr write) : part p (atsAsk s why pasid addr write) = part p s :=
  (Announced.ofAtsAsk _ _ _ _ _).part

@[simp] theorem part_msixSend (s : State) (v) : part p (msixSend s v) = part p s := (Announced.ofMsixSend _ _).part

@[simp] theorem part_msixNow (s : State) (v) : part p (msixNow s v) = part p s := (Announced.ofMsixNow _ _).part

@[simp] theorem part_setInt (s : State) (b) : part p (setInt s b) = part p s := (Announced.ofSetInt _ _).part

@[simp] theorem part_postOut (s : State) (addr data ro ctx) : part p (postOut s addr data ro ctx) = part p s :=
  (Announced.ofPostOut _ _ _ _ _).part

@[simp] theorem part_enqueue (s : State) (l) : part p (enqueue s l) = part p s := by simp [enqueue]

@[simp] theorem part_eventQuiet (s : State) (typ sev data) : part p (eventQuiet s typ sev data).1 = part p s :=
  (Announced.ofEventQuiet _ _ _ _).part

@[simp] theorem part_postDenied (s : State) (addr ctx) : part p (postDenied s addr ctx) = part p s :=
  (Announced.ofPostDenied _ _ _).part

@[simp] theorem part_eventDenied (s : State) (addr) : part p (eventDenied s addr) = part p s :=
  (Announced.ofEventDenied _ _).part

@[simp] theorem part_drainPosts (n) (s : State) : part p (drainPosts n s) = part p s :=
  (Announced.ofDrainPosts _ _).part

@[simp] theorem part_postsGo (s : State) : part p (postsGo s) = part p s := by simp [postsGo]

@[simp] theorem part_post (s : State) (q) : part p (post s q) = part p s := (Announced.ofPost _ _).part

@[simp] theorem part_msix (s : State) (v) : part p (msix s v) = part p s := (Announced.ofMsix _ _).part

@[simp] theorem part_postPages (n : Nat) (s : State) (a d ro ctx) : part p (postPages n s a d ro ctx) = part p s := by
  induction n generalizing s a d with
  | zero => rfl
  | succ n ih => simp [postPages, ih]

@[simp] theorem part_hostWrite (s : State) (addr data ro ctx) : part p (hostWrite s addr data ro ctx) = part p s := by
  simp [hostWrite]

@[simp] theorem part_sendRead (s : State) (tag) : part p (sendRead s tag) = part p s := by
  simp only [sendRead]
  repeat' split
  all_goals simp

@[simp] theorem part_recordRead (s : State) (why addr len pasid sent) :
    part p (recordRead s why addr len pasid sent).2 = part p s := by simp [recordRead]

@[simp] theorem part_hostRead (s : State) (why addr len ctx) : part p (hostRead s why addr len ctx).2 = part p s := by
  simp only [hostRead]
  repeat' split
  all_goals simp

@[simp] theorem part_invalDrain (s : State) (tag) : part p (invalDrain s tag) = part p s := by
  simp [invalDrain, part_foldl]

@[simp] theorem part_event (s : State) (typ sev data) : part p (event s typ sev data) = part p s :=
  (Announced.ofEvent _ _ _ _).part

@[simp] theorem part_fwError (s : State) (subtype sev rest) : part p (fwError s subtype sev rest) = part p s :=
  (Announced.ofFwError _ _ _ _).part

@[simp] theorem part_norWrite (s : State) (record) : part p (norWrite s record) = part p s :=
  (Announced.ofNorWrite _ _).part

@[simp] theorem part_modCore (s : State) (n f) : part p (modCore s n f) = part p s := by simp [modCore]

/-! ### FlitOps.lean -/

@[simp] theorem part_modLink (s : State) (l f) : part p (modLink s l f) = part p s := by simp [modLink]

@[simp] theorem part_sendFlit (s : State) (l ftype vc seq payload) :
    part p (sendFlit s l ftype vc seq payload).1 = part p s := by simp [sendFlit]

@[simp] theorem part_sendNumbered (s : State) (l ftype vc payload) :
    part p (sendNumbered s l ftype vc payload) = part p s := by simp [sendNumbered]

@[simp] theorem part_sendCtrl (s : State) (l) : part p (sendCtrl s l) = part p s := by simp [sendCtrl]

@[simp] theorem part_sendCtrlAll (s : State) : part p (sendCtrlAll s) = part p s := by simp [sendCtrlAll, part_foldl]

@[simp] theorem part_sendIdle (s : State) (l) : part p (sendIdle s l) = part p s := by simp [sendIdle]

/-! ### FabricOps.lean -/

@[simp] theorem part_toRouter (s : State) (q) : part p (toRouter s q) = part p s := by simp [toRouter]

@[simp] theorem part_sendRequest (s : State) (op flags tclass chip inc gaddr issuer parts why) :
    part p (sendRequest s op flags tclass chip inc gaddr issuer parts why).2 = part p s := by
  simp only [sendRequest]
  repeat' split
  all_goals simp [part_foldl]

@[simp] theorem part_freeTrack (s : State) (i) : part p (freeTrack s i) = part p s := by
  unfold freeTrack
  split <;> simp

@[simp] theorem part_respond (s : State) (q op status poison payload) :
    part p (respond s q op status poison payload) = part p s := by simp [respond, part_foldl]

@[simp] theorem part_refuse (s : State) (q status) : part p (refuse s q status) = part p s := by simp [refuse]

/-! ### Sync.lean -/

@[simp] theorem part_modQueue (s : State) (q f) : part p (modQueue s q f) = part p s := by simp [modQueue]

@[simp] theorem part_settleAll (s : State) (o v) : part p (settleAll s o v) = part p s := by simp [settleAll]

@[simp] theorem part_fabricQueues (s : State) (o v) : part p (fabricQueues s o v) = part p s := by simp [fabricQueues]

@[simp] theorem part_syncApply (s : State) (o f) : part p (syncApply s o f) = part p s := by
  unfold syncApply
  split <;> simp

@[simp] theorem part_syncAdd (s : State) (o v) : part p (syncAdd s o v) = part p s := by simp [syncAdd]

@[simp] theorem part_syncSet (s : State) (o v) : part p (syncSet s o v) = part p s := by simp [syncSet]

/-! ### Tower.lean -/

@[simp] theorem part_poisonEvent (s : State) (source dpa) : part p (poisonEvent s source dpa) = part p s := by
  simp [poisonEvent]

@[simp] theorem part_setPoison (s : State) (cell v) : part p (setPoison s cell v) = part p s := by simp [setPoison]

@[simp] theorem part_storeCells (s : State) (cell data) : part p (storeCells s cell data) = part p s := by
  simp [storeCells]

@[simp] theorem part_loseLine (s : State) (cell) : part p (loseLine s cell) = part p s := by simp [loseLine]

@[simp] theorem part_lineCheck (s : State) (dpa cell err source) :
    part p (lineCheck s dpa cell err source) = part p s := by
  unfold lineCheck
  split <;> simp

@[simp] theorem part_towerRead (s : State) (dpa n err source) :
    part p (towerRead s dpa n err source).1 = part p s := by
  unfold towerRead
  split <;> simp

@[simp] theorem part_towerWrite (s : State) (dpa data mark err) :
    part p (towerWrite s dpa data mark err).1 = part p s := by
  simp only [towerWrite]
  repeat' split
  all_goals simp

@[simp] theorem part_towerAdd (s : State) (dpa fmt delta err) :
    part p (towerAdd s dpa fmt delta err).1 = part p s := by
  simp only [towerAdd]
  repeat' split
  all_goals simp

@[simp] theorem part_snoop (s : State) (dpa) : part p (snoop s dpa) = part p s := by simp [snoop]

@[simp] theorem part_hostTakes (s : State) (dpa) : part p (hostTakes s dpa) = part p s := by simp [hostTakes]

@[simp] theorem part_deepPoisonEvent (s : State) (source q dpa) :
    part p (deepPoisonEvent s source q dpa) = part p s := by simp [deepPoisonEvent]

/-! ### Access.lean -/

@[simp] theorem part_l2Put (s : State) (k e) : part p (l2Put s k e) = part p s := by simp [l2Put]

@[simp] theorem part_tlbUse (s : State) (st k e) : part p (tlbUse s st k e) = part p s := by simp [tlbUse]

@[simp] theorem part_tlbDrop (s : State) (f) : part p (tlbDrop s f) = part p s := by simp [tlbDrop]

@[simp] theorem part_accMod (s : State) (id f) : part p (accMod s id f) = part p s := by simp [accMod]

@[simp] theorem part_accStage (s : State) (id g) : part p (accStage s id g) = part p s := by simp [accStage]

@[simp] theorem part_accEnd (s : State) (id g) : part p (accEnd s id g) = part p s := by simp [accEnd]

@[simp] theorem part_accFail (s : State) (id why) : part p (accFail s id why) = part p s := by
  simp only [accFail]
  repeat' split
  all_goals simp

@[simp] theorem part_rcFill (s : State) (k dpa data) : part p (rcFill s k dpa data) = part p s := by simp [rcFill]

@[simp] theorem part_rcTouch (s : State) (k x) : part p (rcTouch s k x) = part p s := by simp [rcTouch]

@[simp] theorem part_rcDropIf (s : State) (f) : part p (rcDropIf s f) = part p s := by simp [rcDropIf]

@[simp] theorem part_rcDropErr (s : State) (k x) : part p (rcDropErr s k x) = part p s := by simp [rcDropErr]

@[simp] theorem part_poisonRead (s : State) (id a) : part p (poisonRead s id a) = part p s := by simp [poisonRead]

@[simp] theorem part_deepLost (s : State) (id q dpa a) : part p (deepLost s id q dpa a) = part p s := by
  simp [deepLost]

@[simp] theorem part_pumpDeep (n : Nat) (s : State) (q) : part p (pumpDeep n s q) = part p s := by
  induction n generalizing s with
  | zero => rfl
  | succ n ih =>
    unfold pumpDeep
    split <;> simp [ih]

@[simp] theorem part_pumpPort (s : State) (q) : part p (pumpPort s q) = part p s := by simp [pumpPort]

@[simp] theorem part_pumpPorts (s : State) : part p (pumpPorts s) = part p s := by simp [pumpPorts, part_foldl]

@[simp] theorem part_deepIssue (s : State) (id d a) : part p (deepIssue s id d a) = part p s := by
  simp only [deepIssue]
  repeat' split
  all_goals simp

@[simp] theorem part_hostOut (s : State) (id addr a) : part p (hostOut s id addr a) = part p s := by simp [hostOut]

@[simp] theorem part_hostPut (s : State) (id addr a) : part p (hostPut s id addr a) = part p s := by
  unfold hostPut
  split <;> simp

@[simp] theorem part_hostGet (s : State) (id addr a) : part p (hostGet s id addr a) = part p s := by
  unfold hostGet
  split
  · simp
  · split
    · next e => rw [part_accFail]; exact part_snd e (by simp)
    · next e => rw [part_accStage]; exact part_snd e (by simp)

@[simp] theorem part_hostReadEnd (s : State) (id addr data) : part p (hostReadEnd s id addr data) = part p s := by
  unfold hostReadEnd
  split <;> simp

@[simp] theorem part_hostGo (s : State) (id ok) : part p (hostGo s id ok) = part p s := by simp [hostGo]

@[simp] theorem part_remotePut (s : State) (id chip inc g a) : part p (remotePut s id chip inc g a) = part p s := by
  unfold remotePut
  dsimp only
  split
  · next e => rw [part_accFail]; exact part_snd e (by simp)
  · next e => rw [part_accStage]; exact part_snd e (by simp)
  · next e => rw [part_accStage]; exact part_snd e (by simp)

@[simp] theorem part_issueAt (s : State) (id a e) : part p (issueAt s id a e) = part p s := by
  unfold issueAt
  split <;> simp

@[simp] theorem part_issue (s : State) (id) : part p (issue s id) = part p s := by
  simp only [issue]
  repeat' split
  all_goals simp

@[simp] theorem part_addAccess (s : State) (a) : part p (addAccess s a).2 = part p s := by simp [addAccess]

@[simp] theorem part_startAccess (s : State) (a) : part p (startAccess s a) = part p s := by
  simp [startAccess, part_foldl]

@[simp] theorem part_startPhys (s : State) (a deep pa) : part p (startPhys s a deep pa) = part p s := by
  simp [startPhys]

@[simp] theorem part_accDrop (s : State) (f) : part p (accDrop s f) = part p s := by simp [accDrop]

@[simp] theorem part_accDiscard (s : State) (f) : part p (accDiscard s f) = part p s := by
  rw [accDiscard, part_upd]
  refine part_foldl (fun _ _ => ?_) _ _
  split <;> simp

@[simp] theorem part_accConfirm (s : State) (f) : part p (accConfirm s f) = part p s := by
  simp [accConfirm, part_foldl]

@[simp] theorem part_pumpStalled (s : State) : part p (pumpStalled s) = part p s := by
  refine part_foldl (fun _ _ => ?_) _ _
  split <;> simp

@[simp] theorem part_notifyErr (s : State) (q) : part p (notifyErr s q) = part p s := by simp [notifyErr]

@[simp] theorem part_notifyOnce (s : State) (q x) : part p (notifyOnce s q x).1 = part p s := by
  unfold notifyOnce
  dsimp only
  split
  · next e => exact part_snd e (by simp)
  · next e => simpa using part_snd e (by simp)
  · next e => simpa using part_snd e (by simp)

@[simp] theorem part_pumpNotes (s : State) : part p (pumpNotes s) = part p s := by
  refine part_foldl (fun _ _ => part_foldl (fun _ _ => ?_) _ _) _ _
  split
  · simp
  · rfl

@[simp] theorem part_accRemoteEnd (s : State) (id r) : part p (accRemoteEnd s id r) = part p s := by
  unfold accRemoteEnd
  split <;> simp

@[simp] theorem part_rowCacheServe (s : State) (id d a err) : part p (rowCacheServe s id d a err) = part p s := by
  unfold rowCacheServe
  split <;> simp

@[simp] theorem part_towerServe (s : State) (id dpa a err) : part p (towerServe s id dpa a err) = part p s := by
  unfold towerServe
  split <;> simp

@[simp] theorem part_deepWritten (s : State) (id d) : part p (deepWritten s id d) = part p s := by simp [deepWritten]

@[simp] theorem part_deepServe (s : State) (q id d a r) : part p (deepServe s q id d a r) = part p s := by
  unfold deepServe
  split <;> simp

@[simp] theorem part_portLose (s : State) (q) : part p (portLose s q) = part p s := by
  rw [portLose, part_pumpPort]
  refine part_foldl (fun _ _ => ?_) _ _
  split <;> simp

@[simp] theorem part_deepLinkEvent (s : State) (up) : part p (deepLinkEvent s up) = part p s := by
  simp [deepLinkEvent]

/-! ### Mailbox.lean -/

@[simp] theorem part_modChan (s : State) (c f) : part p (modChan s c f) = part p s := by simp [modChan]

@[simp] theorem part_finishWith (irq) (s : State) (c status detail payload) :
    part p (finishWith irq s c status detail payload) = part p s := by
  unfold finishWith
  split <;> simp

@[simp] theorem part_finishCmd (s : State) (c status detail payload) :
    part p (finishCmd s c status detail payload) = part p s := by simp [finishCmd]

@[simp] theorem part_setBegun (s : State) (c) : part p (setBegun s c) = part p s := by simp [setBegun]

@[simp] theorem part_setProgress (s : State) (c n) : part p (setProgress s c n) = part p s := by simp [setProgress]

@[simp] theorem part_runOp (s : State) (c op) {chk refused} {eff : CmdHeld → State → Done}
    (h : ∀ k, part p (eff k s).state = part p s) :
    part p (runOp s c op chk refused eff) = part p s := by
  unfold runOp
  split
  · rfl
  · next k _ =>
    split
    · rfl
    · split
      · simp
      · have kept := h k
        split <;> (next e => rw [e] at kept; simpa using kept)

@[simp] theorem part_plainOp (s : State) (c op) {chk} {resp} {eff} (h : ∀ k, part p (eff k s) = part p s) :
    part p (plainOp s c op chk resp eff) = part p s := by
  simp only [plainOp]
  repeat' split
  all_goals  simp [h]

/-! ### Slots.lean -/

@[simp] theorem part_modSlot (s : State) (i f) : part p (modSlot s i f) = part p s := by simp [modSlot]

@[simp] theorem part_decideEnd (s : State) (i status detail app) :
    part p (decideEnd s i status detail app) = part p s := by simp [decideEnd]

@[simp] theorem part_endRequest (s : State) (i status detail app) :
    part p (endRequest s i status detail app) = part p s := by simp [endRequest]

/-! ### Cores.lean -/

@[simp] theorem part_modBank (s : State) (n b f) : part p (modBank s n b f) = part p s := by simp [modBank]

@[simp] theorem part_spadPut (s : State) (n spa v) : part p (spadPut s n spa v) = part p s := by
  unfold spadPut
  split <;> simp

@[simp] theorem part_spadWrite (s : State) (n a) (l : Bytes) : part p (spadWrite s n a l) = part p s := by
  induction l generalizing s a with
  | nil => rfl
  | cons b l ih => simp [spadWrite, ih]

@[simp] theorem part_modThread (s : State) (n t f) : part p (modThread s n t f) = part p s := by simp [modThread]

@[simp] theorem part_modOp (s : State) (n id f) : part p (modOp s n id f) = part p s := by simp [modOp]

@[simp] theorem part_setHeld (s : State) (q held) : part p (setHeld s q held) = part p s := by simp [setHeld]

@[simp] theorem part_bridleTo (k on) (s : State) (hBridles : p ≠ .bridles) :
    part p (bridleTo k on s).state = part p s := by simp [hBridles, bridleTo]

@[simp] theorem part_bridleEff (k on) (s : State) (hBridles : p ≠ .bridles) :
    part p (bridleEff k on s).state = part p s := by simp [hBridles, bridleEff]

/-! ### Seq.lean -/

@[simp] theorem part_account (s : State) (n t) : part p (account s n t) = part p s := by simp [account]

@[simp] theorem part_squashOps (s : State) (n q) : part p (squashOps s n q) = part p s := by simp [squashOps]

@[simp] theorem part_raiseFault (s : State) (n t num kind detail pc addr) :
    part p (raiseFault s n t num kind detail pc addr) = part p s := by
  unfold raiseFault
  split <;> simp

@[simp] theorem part_seqFault (s : State) (n t kind detail pc addr) :
    part p (seqFault s n t kind detail pc addr) = part p s := by simp [seqFault]

@[simp] theorem part_retire (s : State) (n t r old pc) : part p (retire s n t r old pc) = part p s := by simp [retire]

@[simp] theorem part_branchTo (s : State) (n t r old actual other) :
    part p (branchTo s n t r old actual other) = part p s := by simp [branchTo]

@[simp] theorem part_seqDo (s : State) (n t key) {f : Nat → Regs → State → SeqRes}
    (h : ∀ w r, part p ((f w r s).state s) = part p s) :
    part p (seqDo s n t key f) = part p s := by
  unfold seqDo
  split
  · rfl
  · dsimp only
    split
    · simp
    · split
      · simp
      · split
        · rfl
        · have k := h (instrAt s n (landDue (threadOf s n t).regs).pc) (landDue (threadOf s n t).regs)
          split
          case h_2 => simp
          all_goals next e => rw [e] at k; simpa using k

@[simp] theorem part_seqAlu (s : State) (n t key f) : part p (seqAlu s n t key f) = part p s :=
  part_seqDo s n t key fun _ _ => rfl

@[simp] theorem part_seqHeld (s : State) (n t key) {f : Nat → Regs → State → SeqRes}
    (h : ∀ w r, part p ((f w r s).state s) = part p s) :
    part p (seqHeld s n t key f) = part p s := part_seqDo s n t key fun w r => by simp [h w r]

theorem scalarBad_state {s : State} {n spa len : Nat} {x : SeqRes} (h : scalarBad s n spa len = some x) :
    x.state s = s := by
  unfold scalarBad at h
  repeat' split at h
  all_goals cases h <;> rfl

@[simp] theorem part_seqLoad (s : State) (n t key len) : part p (seqLoad s n t key len) = part p s := by
  refine part_seqDo s n t key fun w r => ?_
  dsimp only
  split
  · next e => rw [scalarBad_state e]
  · rfl

@[simp] theorem part_seqStore (s : State) (n t key len) : part p (seqStore s n t key len) = part p s := by
  refine part_seqDo s n t key fun w r => ?_
  dsimp only
  split
  · next e => rw [scalarBad_state e]
  · split <;> simp

theorem syncObj_state {s : State} {n : Nat} {v : Dword} {x : SeqRes} (h : syncObj s n v = .error x) :
    x.state s = s := by
  unfold syncObj at h
  repeat' split at h
  all_goals cases h <;> rfl

@[simp] theorem part_withObj (s : State) (n v) {f : Nat → SeqRes} (h : ∀ o, part p ((f o).state s) = part p s) :
    part p ((withObj s n v f).state s) = part p s := by
  unfold withObj
  split
  · exact h _
  · next e => rw [syncObj_state e]

@[simp] theorem part_arm (s : State) (n t obj v d) {f : State → SeqRes}
    (h : ∀ u, part p u = part p s → part p ((f u).state s) = part p s) :
    part p ((arm s n t obj v d f).state s) = part p s := by
  refine part_withObj s n obj fun o => ?_
  split
  · rfl
  · split
    · rfl
    · exact h _ (by simp)

@[simp] theorem part_wblkOn (s u : State) (n t w r b) : part p ((wblkOn u n t w r b).state s) = part p u := by
  simp only [wblkOn]
  repeat' split
  all_goals simp

@[simp] theorem part_writeOwner (s : State) (n t c b code r) :
    part p ((writeOwner s n t c b code r).state s) = part p s := by simp [writeOwner]

@[simp] theorem part_crWrite (s : State) (n t w r) : part p ((crWrite s n t w r).state s) = part p s := by
  unfold crWrite
  split <;> simp

@[simp] theorem part_copIssue (s : State) (n t w r) : part p ((copIssue s n t w r).state s) = part p s := by
  simp only [copIssue]
  repeat' split
  all_goals simp

@[simp] theorem part_dropOp (s : State) (n id) : part p (dropOp s n id) = part p s := by simp [dropOp]

@[simp] theorem part_opFault (s : State) (n o kind detail addr) :
    part p (opFault s n o kind detail addr) = part p s := by simp [opFault]

@[simp] theorem part_backTo (s : State) (n t r) : part p (backTo s n t r) = part p s := by simp [backTo]

@[simp] theorem part_commitStores (s : State) (n t k) (l : List HeldStore) :
    part p (commitStores s n t k l) = part p s := by
  induction l generalizing s with
  | nil => rfl
  | cons x l ih =>
    unfold commitStores
    split
    · rfl
    · dsimp only
      split <;> simp [ih]

@[simp] theorem part_settleThread (s : State) (n t) : part p (settleThread s n t) = part p s := by
  simp only [settleThread]
  repeat' split
  all_goals simp

@[simp] theorem part_confirmOne (s : State) (n t) : part p (confirmOne s n t) = part p s := by simp [confirmOne]

@[simp] theorem part_squashOne (s : State) (n t b) : part p (squashOne s n t b) = part p s := by simp [squashOne]

/-! ### CopOps.lean -/

@[simp] theorem part_putAll (s : State) (n l) : part p (putAll s n l) = part p s := by simp [putAll, part_foldl]

@[simp] theorem part_opOut (s : State) (n o ws status detail) : part p (opOut s n o ws status detail) = part p s := by
  simp [opOut]

@[simp] theorem part_opRun (s : State) (n id kind) {reads} {writes} {f : CopOp → State → State}
    (h : ∀ o, part p (f o s) = part p s) :
    part p (opRun s n id kind reads writes f) = part p s := by
  simp only [opRun]
  repeat' split
  all_goals  simp [h]

/-! ### Dma.lean -/

@[simp] theorem part_dmaRow (s : State) (n o r) : part p (dmaRow s n o r) = part p s := by simp [dmaRow]

@[simp] theorem part_dmaDeliver (s : State) (n l) : part p (dmaDeliver s n l) = part p s := by
  simp [dmaDeliver, part_foldl]

@[simp] theorem part_noteHost (s : State) (n l) : part p (noteHost s n l) = part p s := by
  unfold noteHost
  split <;> simp

@[simp] theorem part_completeOp (s : State) (n o status detail) :
    part p (completeOp s n o status detail) = part p s := by
  unfold completeOp
  split <;> simp

@[simp] theorem part_dmaFaults (s : State) (n o l k d a) : part p (dmaFaults s n o l k d a) = part p s := by
  simp [dmaFaults]

@[simp] theorem part_dmaComplete (s : State) (n o) : part p (dmaComplete s n o) = part p s := by
  simp only [dmaComplete]
  repeat' split
  all_goals simp

@[simp] theorem part_flushStaging (s : State) (n o) : part p (flushStaging s n o).2 = part p s := by
  unfold flushStaging
  split <;> simp

/-! ### Vector.lean -/

@[simp] theorem part_skipFree (s : State) (n) : part p (skipFree s n) = part p s := by simp [skipFree]

@[simp] theorem part_vecStore (s : State) (n o cs) : part p (vecStore s n o cs) = part p s := by simp [vecStore]

@[simp] theorem part_vec1 (s : State) (n id kind f) : part p (vec1 s n id kind f) = part p s := by simp [vec1]

@[simp] theorem part_vec2 (s : State) (n id kind f) : part p (vec2 s n id kind f) = part p s := by simp [vec2]

@[simp] theorem part_vecRed (s : State) (n id kind f z) : part p (vecRed s n id kind f z) = part p s := by
  simp [vecRed]

@[simp] theorem part_vecStoreInt (s : State) (n o l) : part p (vecStoreInt s n o l) = part p s := by
  simp [vecStoreInt]

/-! ### Tables.lean -/

@[simp] theorem part_modTable (s : State) (i f) : part p (modTable s i f) = part p s := by simp [modTable]

@[simp] theorem part_modEngine (s : State) (e f) : part p (modEngine s e f) = part p s := by simp [modEngine]

@[simp] theorem part_applySwitch (s : State) (i) : part p (applySwitch s i) = part p s := by simp [applySwitch]

@[simp] theorem part_ownerSwitches (s : State) (t) : part p (ownerSwitches s t) = part p s := by
  simp [ownerSwitches, part_foldl]

@[simp] theorem part_modLookup (s : State) (e id f) : part p (modLookup s e id f) = part p s := by simp [modLookup]

@[simp] theorem part_pumpRows (n : Nat) (s : State) (e) : part p (pumpRows n s e) = part p s := by
  induction n generalizing s with
  | zero => rfl
  | succ n ih =>
    rw [pumpRows]
    split
    · rfl
    · dsimp only
      split <;> simp [ih]

@[simp] theorem part_pumpEngine (s : State) (e) : part p (pumpEngine s e) = part p s := by simp [pumpEngine]

@[simp] theorem part_modPart (s : State) (e id i f) : part p (modPart s e id i f) = part p s := by simp [modPart]

@[simp] theorem part_sendPart (s : State) (e l i x) : part p (sendPart s e l i x) = part p s := by
  unfold sendPart
  split
  · rfl
  · split
    · rfl
    · split
      · next e => exact part_snd e (by simp)
      · next e => simpa using part_snd e (by simp)
      · next e => simpa using part_snd e (by simp)

@[simp] theorem part_pumpParts (s : State) : part p (pumpParts s) = part p s :=
  part_foldl (fun _ _ => part_foldl (fun _ _ => part_foldl (fun _ _ => by simp) _ _) _ _) _ _

@[simp] theorem part_countLookup (s : State) (l) : part p (countLookup s l) = part p s := by simp [countLookup]

@[simp] theorem part_acceptLookup (s : State) (e l) : part p (acceptLookup s e l) = part p s := by
  have owners (u : State) (o : Option TableD) : part p (o.elim u (ownerSwitches u)) = part p u := by
    cases o <;> simp
  simp [acceptLookup, owners]

@[simp] theorem part_dropLookup (s : State) (e id) : part p (dropLookup s e id) = part p s := by
  simp [dropLookup, part_foldl]

@[simp] theorem part_rowFailed (s : State) (e l w dva) : part p (rowFailed s e l w dva) = part p s := by
  simp only [rowFailed]
  repeat' split
  all_goals simp

@[simp] theorem part_pumpAll (s : State) (e) : part p (pumpAll s e) = part p s := by simp [pumpAll]

/-! ### Pooling.lean -/

@[simp] theorem part_writeOuts (e n) (l : List (Nat × Bytes)) (s : State) (ok) :
    part p (writeOuts e n l s ok).1 = part p s := by
  induction l generalizing s ok with
  | nil => rfl
  | cons x l ih =>
    unfold writeOuts
    split
    · exact ih _ _
    · split
      · rw [ih, part_spadWrite]
      · exact ih _ _

@[simp] theorem part_freeOuts (s : State) (e n l size) : part p (freeOuts s e n l size) = part p s := by
  simp [freeOuts, part_foldl]

@[simp] theorem part_returnBanks (s : State) (e l) : part p (returnBanks s e l) = part p s := by
  simp [returnBanks, part_foldl]

@[simp] theorem part_removeLookup (s : State) (e id) : part p (removeLookup s e id) = part p s := by
  simp [removeLookup]

@[simp] theorem part_endLookup (s : State) (e n id l status) : part p (endLookup s e n id l status) = part p s := by
  unfold endLookup
  dsimp only
  split <;> simp

@[simp] theorem part_completeLocal (s : State) (e n id l) : part p (completeLocal s e n id l) = part p s := by
  unfold completeLocal
  split
  · simp
  · split
    · dsimp only
      split
      · next e => rw [part_endLookup]; exact part_fst e (by simp)
      · next e => rw [part_endLookup, part_freeOuts]; exact part_fst e (by simp)
    · simp

@[simp] theorem part_dropServing (s : State) (i) : part p (dropServing s i) = part p s := by simp [dropServing]

@[simp] theorem part_completePeer (s : State) (e i l) : part p (completePeer s e i l) = part p s := by
  unfold completePeer
  dsimp only
  split <;> simp

@[simp] theorem part_partEnd (s : State) (e lk tag r) : part p (partEnd s e lk tag r) = part p s := by
  simp only [partEnd]
  repeat' split
  all_goals simp

/-! ### Update.lean -/

@[simp] theorem part_modStream (s : State) (held f) : part p (modStream s held f) = part p s := by simp [modStream]

@[simp] theorem part_countUpd (s : State) (tbl st dropped) : part p (countUpd s tbl st dropped) = part p s := by
  simp [countUpd]

@[simp] theorem part_ringFailed (s : State) (r) : part p (ringFailed s r) = part p s := by
  unfold ringFailed
  split <;> simp

@[simp] theorem part_recSettled (s : State) (r status dup) : part p (recSettled s r status dup) = part p s := by
  simp only [recSettled]
  repeat' split
  all_goals simp

@[simp] theorem part_arrive (s : State) (e r) : part p (arrive s e r) = part p s := by simp [arrive]

@[simp] theorem part_sendRec (s : State) (e entry r o) : part p (sendRec s e entry r o).1 = part p s := by
  unfold sendRec
  dsimp only
  split
  · next e => exact part_snd e (by simp)
  · next e => simpa using part_snd e (by simp)
  · next e => simpa using part_snd e (by simp)

@[simp] theorem part_routeRec (s : State) (e ctx r) : part p (routeRec s e ctx r).1 = part p s := by
  simp only [routeRec]
  repeat' split
  all_goals simp

@[simp] theorem part_routeAll (n o) (l : List (Nat × Nat × Nat)) (s : State) :
    part p (routeAll n o l s) = part p s := by
  induction l generalizing s with
  | nil => rfl
  | cons x l ih =>
    unfold routeAll
    dsimp only
    split
    · simp
    · split
      · next e => rw [ih, part_modOp]; exact part_fst e (by simp)
      · next e => exact part_fst e (by simp)

@[simp] theorem part_applyRec (s : State) (e r held t row) : part p (applyRec s e r held t row) = part p s := by
  simp [applyRec]

@[simp] theorem part_recFails (s : State) (r w a) : part p (recFails s r w a) = part p s := by
  simp only [recFails]
  repeat' split
  all_goals simp

@[simp] theorem part_settleUpdates (s : State) (e) : part p (settleUpdates s e) = part p s := by
  refine part_foldl (fun _ _ => ?_) _ _
  dsimp only
  split
  · rfl
  · split <;> simp

@[simp] theorem part_settleAllUpdates (s : State) : part p (settleAllUpdates s) = part p s := by
  simp [settleAllUpdates, part_foldl]

@[simp] theorem part_arrival (s : State) (e r) : part p (arrival s e r) = part p s := by
  unfold arrival
  dsimp only
  split <;> simp

@[simp] theorem part_recRemoteEnd (s : State) (e id r) : part p (recRemoteEnd s e id r) = part p s := by
  unfold recRemoteEnd
  split <;> simp

@[simp] theorem part_updateComplete (s : State) (n o) : part p (updateComplete s n o) = part p s := by
  unfold updateComplete
  dsimp only
  split <;> simp

@[simp] theorem part_ringRecord (s : State) (held x b) : part p (ringRecord s held x b) = part p s := by
  unfold ringRecord
  dsimp only
  split <;> simp

/-! ### Handover.lean -/

@[simp] theorem part_bankServes (s : State) (c) : part p (bankServes s c) = part p s := by
  simp [bankServes, part_foldl]

/-! ### Queues.lean -/

@[simp] theorem part_notify (s : State) (q) : part p (notify s q) = part p s := by simp [notify]

@[simp] theorem part_fabricRecord (s : State) (q x dva b errs) :
    part p (fabricRecord s q x dva b errs) = part p s := by
  unfold fabricRecord
  split
  · simp
  · dsimp only
    split
    · split
      · next e => rw [part_notify]; exact part_fst e (by simp)
      · next e => exact part_fst e (by simp)
    · simp

@[simp] theorem part_postRecord (s : State) (q token user e dup cached errs) :
    part p (postRecord s q token user e dup cached errs) = part p s := by
  unfold postRecord
  split <;> simp

@[simp] theorem part_cachePut (s : State) (e) : part p (cachePut s e) = part p s := by
  simp only [cachePut]
  repeat' split
  all_goals simp

@[simp] theorem part_admitSlot (s : State) (i q x b d) : part p (admitSlot s i q x b d) = part p s := by
  simp only [admitSlot]
  repeat' split
  all_goals simp [part_foldl]

@[simp] theorem part_admission (s : State) (q x b errs) : part p (admission s q x b errs) = part p s := by
  simp only [admission]
  repeat' split
  all_goals simp

@[simp] theorem part_atcForget (s : State) : part p (atcForget s) = part p s := by simp [atcForget]

@[simp] theorem part_hostDesc (s : State) (x data) : part p (hostDesc s x data).2 = part p s := by
  simp only [hostDesc]
  repeat' split
  all_goals simp

@[simp] theorem part_fabricDesc (s : State) (x data errs) : part p (fabricDesc s x data errs).2 = part p s := by
  simp only [fabricDesc]
  repeat' split
  all_goals simp

@[simp] theorem part_postSlot (s : State) (i errs) : part p (postSlot s i errs) = part p s := by
  simp only [postSlot]
  repeat' split
  all_goals simp [part_foldl]

@[simp] theorem part_flushRead (s : State) (i a ctx) : part p (flushRead s i a ctx) = part p s := by
  unfold flushRead
  split
  · next e => rw [part_modSlot]; exact part_snd e (by simp)
  · next e => rw [part_setInt, part_modSlot]; exact part_snd e (by simp)

@[simp] theorem part_flushEnd (s : State) (i ok) : part p (flushEnd s i ok) = part p s := by simp [flushEnd]

/-! ### Reef.lean -/

@[simp] theorem part_thermalEvent (s : State) (source k t cleared) :
    part p (thermalEvent s source k t cleared) = part p s := by simp [thermalEvent]

@[simp] theorem part_modOct (s : State) (k f) (hPower : p ≠ .power) : part p (modOct s k f) = part p s := by
  simp [hPower, modOct]

@[simp] theorem part_noteReef (s : State) (hPower : p ≠ .power) : part p (noteReef s) = part p s := by
  simp [hPower, noteReef, part_foldl]

/-! ### Memory.lean -/

@[simp] theorem part_scrubEnd (s : State) (k) : part p (scrubEnd s k) = part p s := by simp [scrubEnd]

@[simp] theorem part_rcRefetch (s : State) (k x) : part p (rcRefetch s k x) = part p s := by simp [rcRefetch]

@[simp] theorem part_scrubLine (s : State) (k i err) : part p (scrubLine s k i err) = part p s := by
  -- The address stays a name: the kernel would evaluate it where the cases are compared.
  suffices unfolded : ∀ addr scrub, addr = dpaOfCell → scrub = scrubLine → part p (scrub s k i err) = part p s from
    unfolded _ _ rfl rfl
  intro addr scrub hAddr hScrub
  delta scrubLine at hScrub
  rw [← hAddr] at hScrub
  clear hAddr
  subst hScrub
  beta_reduce
  dsimp only
  split
  · exact part_lineCheck _ _ _ _ _
  · rfl
  · simp
  · exact (part_foldl (fun _ _ => by simp) _ _).trans (part_loseLine _ _)

@[simp] theorem part_rcEmpty (s : State) : part p (rcEmpty s) = part p s := by simp [rcEmpty]

@[simp] theorem part_enumerate (s : State) (mask found) : part p (enumerate s mask found) = part p s := by
  simp [enumerate, part_foldl]

@[simp] theorem part_fillTower (k) (n : Nat) (s : State) (i) : part p (fillTower k n s i) = part p s := by
  induction n generalizing s i with
  | zero => rfl
  | succ n ih => simp [fillTower, ih]

@[simp] theorem part_fillDeep (c k) (n : Nat) (s : State) (i) : part p (fillDeep c k n s i).1 = part p s := by
  induction n generalizing s i with
  | zero => rfl
  | succ n ih =>
    unfold fillDeep
    dsimp only
    split
    · rfl
    · rw [ih, part_startPhys]

@[simp] theorem part_setEnding (s : State) (c status) : part p (setEnding s c status) = part p s := by
  simp [setEnding]

/-! ### Xlate.lean -/

@[simp] theorem part_readForget (s : State) (tag) : part p (readForget s tag) = part p s := by simp [readForget]

@[simp] theorem part_hostAbandon (s : State) (id g) : part p (hostAbandon s id g) = part p s := by
  unfold hostAbandon
  split <;> simp

@[simp] theorem part_prefetchLines (s : State) (i o e lo hi) : part p (prefetchLines s i o e lo hi) = part p s := by
  simp [prefetchLines, part_foldl]

@[simp] theorem part_prefetchRun (s : State) (i k pages) : part p (prefetchRun s i k pages) = part p s := by
  simp [prefetchRun, part_foldl]

@[simp] theorem part_setMig (s : State) (i m) : part p (setMig s i m) = part p s := by simp [setMig]

@[simp] theorem part_migLine (s : State) (i m e j old) : part p (migLine s i m e j old) = part p s := by
  unfold migLine
  split <;> simp

@[simp] theorem part_migRelease (s : State) (m e) : part p (migRelease s m e) = part p s := by
  simp [migRelease, part_foldl]

@[simp] theorem part_migNext (s : State) (i m e) : part p (migNext s i m e) = part p s := by simp [migNext]

@[simp] theorem part_migPhase (s : State) (i m e) : part p (migPhase s i m e) = part p s := by
  unfold migPhase
  split <;> simp [part_foldl]

@[simp] theorem part_migRun (n : Nat) (s : State) (i) : part p (migRun n s i) = part p s := by
  induction n generalizing s with
  | zero => rfl
  | succ n ih =>
    unfold migRun
    split
    · rfl
    · split
      · simp
      · split
        · simp
        · simp [ih]

@[simp] theorem part_pinRange (s : State) (mask l) : part p (pinRange s mask l) = part p s := by simp [pinRange]

@[simp] theorem part_unpinRange (s : State) (x dva len) : part p (unpinRange s x dva len) = part p s := by
  simp [unpinRange]

/-! ### Sched.lean -/

@[simp] theorem part_boundary (s : State) (i app) : part p (boundary s i app) = part p s := by
  simp only [boundary]
  repeat' split
  all_goals simp

@[simp] theorem part_loadCode (s : State) (n key code) : part p (loadCode s n key code) = part p s := by
  simp [loadCode]

@[simp] theorem part_startStage (s : State) (i n y g) : part p (startStage s i n y g) = part p s := by
  simp [startStage]

@[simp] theorem part_endStranded (s : State) : part p (endStranded s) = part p s := by simp [endStranded, part_foldl]

theorem part_pickCore {s t : State} {g : PlanStage} {n : Nat} (h : pickCore s g = some (n, t)) :
    part p t = part p s := by
  unfold pickCore at h
  extract_lets l near l' at h
  split at h
  · cases h
  · cases h
    simp

@[simp] theorem part_cancelSlot (s : State) (i) : part p (cancelSlot s i) = part p s := by
  unfold cancelSlot
  split <;> simp

@[simp] theorem part_dropQueue (s : State) (q) : part p (dropQueue s q) = part p s := by simp [dropQueue]

/-! ### Fence.lean -/

@[simp] theorem part_dropLookups (s : State) (f) : part p (dropLookups s f) = part p s := by
  simp [dropLookups, part_foldl]

@[simp] theorem part_fenceSlot (s : State) (i n) : part p (fenceSlot s i n) = part p s := by simp [fenceSlot]

@[simp] theorem part_fenceRecords (s : State) (i) : part p (fenceRecords s i) = part p s := by
  unfold fenceRecords
  split <;> simp

@[simp] theorem part_fence (s : State) (n cause) : part p (fence s n cause) = part p s := by
  simp only [fence]
  repeat' split
  all_goals simp

@[simp] theorem part_capture (s : State) (n bank word portB) : part p (capture s n bank word portB) = part p s := by
  simp [capture]

@[simp] theorem part_applyBypass (s : State) (b) : part p (applyBypass s b) = part p s := by simp [applyBypass]

@[simp] theorem part_bypassOne (s : State) (b) (hSecurity : p ≠ .security) : part p (bypassOne s b) = part p s := by
  simp [hSecurity, bypassOne]

@[simp] theorem part_afterStage (s : State) (i app) : part p (afterStage s i app) = part p s := by
  unfold afterStage
  split <;> simp

@[simp] theorem part_endStage (s : State) (n g l) (hSecurity : p ≠ .security) :
    part p (endStage s n g l) = part p s := by simp [hSecurity, endStage, part_foldl]

/-! ### Calib.lean -/

@[simp] theorem part_modItem (s : State) (n f) (hCal : p ≠ .cal) : part p (modItem s n f) = part p s := by
  simp [hCal, modItem]

@[simp] theorem part_calFailEvent (s : State) (run mask) : part p (calFailEvent s run mask) = part p s :=
  (Announced.ofCalFailEvent _ _ _).part

@[simp] theorem part_calRecord (s : State) (mask) (hCal : p ≠ .cal) : part p (calRecord s mask) = part p s := by
  simp [hCal, calRecord]

@[simp] theorem part_calApply (s : State) (n v) (hCal : p ≠ .cal) : part p (calApply s n v) = part p s := by
  simp [hCal, calApply]

@[simp] theorem part_calSettle (n) (s : State) (hCal : p ≠ .cal) : part p (calSettle n s) = part p s := by
  simp [hCal, calSettle]

@[simp] theorem part_calPass (s : State) (n r) (hCal : p ≠ .cal) : part p (calPass s n r) = part p s := by
  simp [hCal, calPass]

@[simp] theorem part_calJudge (s : State) (powerUp ok n r) (hCal : p ≠ .cal) :
    part p (calJudge s powerUp ok n r) = part p s := by simp [hCal, calJudge]

@[simp] theorem part_calDone (s : State) (n) (hCal : p ≠ .cal) : part p (calDone s n) = part p s := by
  simp [hCal, calDone]

@[simp] theorem part_calTake (s : State) (n r) (hCal : p ≠ .cal) : part p (calTake s n r) = part p s := by
  unfold calTake
  split <;>  simp [hCal]

@[simp] theorem part_calTherm (s : State) (l) (hCal : p ≠ .cal) : part p (calTherm s l) = part p s := by
  unfold calTherm
  split <;> simp [hCal]

@[simp] theorem part_calSkip (s : State) (n result) (hCal : p ≠ .cal) : part p (calSkip s n result) = part p s := by
  unfold calSkip
  split <;>  simp [hCal]

@[simp] theorem part_calNoRef (s : State) (n) (hCal : p ≠ .cal) : part p (calNoRef s n) = part p s := by
  unfold calNoRef
  split <;>  simp [hCal]

@[simp] theorem part_calEnd (s : State) (hCal : p ≠ .cal) (hSecurity : p ≠ .security) :
    part p (calEnd s) = part p s := by
  unfold calEnd
  split
  · rfl
  · split
    · rfl
    · dsimp only
      split
      · simp [hCal, hSecurity]
      · split <;> simp [hCal]

@[simp] theorem part_calAbort (s : State) (hCal : p ≠ .cal) : part p (calAbort s) = part p s := by
  simp [hCal, calAbort]

@[simp] theorem part_modGate (s : State) (g) (hCal : p ≠ .cal) : part p (modGate s g) = part p s := by
  simp [hCal, modGate]

@[simp] theorem part_refPresence (freqPpm) (s : State) (hCal : p ≠ .cal) (hSecurity : p ≠ .security) :
    part p (refPresence freqPpm s) = part p s := by simp [hCal, hSecurity, refPresence, part_foldl]

@[simp] theorem part_gnStart (s : State) (hGnss : p ≠ .gnss) : part p (gnStart s) = part p s := by
  simp [hGnss, gnStart]

@[simp] theorem part_loopbacksDone (m) (s : State) (hCal : p ≠ .cal) (hGnss : p ≠ .gnss) (hSecurity : p ≠ .security) :
    part p (loopbacksDone m s) = part p s := by
  unfold loopbacksDone
  split <;> simp [hCal, hGnss, hSecurity, part_foldl]

@[simp] theorem part_gateStart (s : State) (hCal : p ≠ .cal) : part p (gateStart s) = part p s := by
  unfold gateStart
  split <;>  simp [hCal]

@[simp] theorem part_gateEdge (periods) (s : State) (hCal : p ≠ .cal) : part p (gateEdge periods s) = part p s := by
  unfold gateEdge
  split <;>  simp [hCal]

@[simp] theorem part_gateEnd (osc tempco span) (s : State) (hCal : p ≠ .cal) (hSecurity : p ≠ .security) :
    part p (gateEnd osc tempco span s) = part p s := by
  unfold gateEnd
  split <;> simp [hCal, hSecurity]

@[simp] theorem part_calRunEff (m c k) (s : State) (hCal : p ≠ .cal) :
    part p (calRunEff m c k s).state = part p s := by
  simp only [calRunEff]
  repeat' split
  all_goals simp [hCal, part_foldl]

@[simp] theorem part_calSlewEnd (s : State) (hCal : p ≠ .cal) : part p (calSlewEnd s) = part p s := by
  simp [hCal, calSlewEnd, part_foldl]

@[simp] theorem part_calFirstLock (s : State) (hCal : p ≠ .cal) : part p (calFirstLock s) = part p s := by
  simp [hCal, calFirstLock]

/-! ### Time.lean -/

@[simp] theorem part_timeEvent (b) (s : State) : part p (timeEvent b s) = part p s := (Announced.ofTimeEvent _ _).part

@[simp] theorem part_timeStep {f : State → State} (s : State) (h : part p (f s) = part p s) :
    part p (timeStep f s) = part p s := by simp [h, timeStep]

@[simp] theorem part_disciplined (x) (s : State) (hTime : p ≠ .time) : part p (disciplined x s) = part p s := by
  simp [hTime, disciplined]

@[simp] theorem part_firstLock (s : State) (x now) (hTime : p ≠ .time) (hCal : p ≠ .cal) :
    part p (firstLock s x now) = part p s := by simp [hTime, hCal, firstLock]

@[simp] theorem part_reselect (lost) (s : State) (hTime : p ≠ .time) (hCal : p ≠ .cal) :
    part p (reselect lost s) = part p s := by
  simp only [reselect]
  repeat' split
  all_goals simp [hTime, hCal]

@[simp] theorem part_gnssDue (s : State) (hTime : p ≠ .time) : part p (gnssDue s) = part p s := by
  simp [hTime, gnssDue]

@[simp] theorem part_gnssQualify (s : State) (hTime : p ≠ .time) (hCal : p ≠ .cal) :
    part p (gnssQualify s) = part p s := by simp [hTime, hCal, gnssQualify]

@[simp] theorem part_gnssDisqualify (s : State) (hTime : p ≠ .time) (hCal : p ≠ .cal) :
    part p (gnssDisqualify s) = part p s := by simp [hTime, hCal, gnssDisqualify]

@[simp] theorem part_extDrop (s : State) (hTime : p ≠ .time) (hCal : p ≠ .cal) : part p (extDrop s) = part p s := by
  simp [hTime, hCal, extDrop]

@[simp] theorem part_edgeTimeSet (s : State) (hTime : p ≠ .time) (hCal : p ≠ .cal) :
    part p (edgeTimeSet s) = part p s := by
  unfold edgeTimeSet
  split <;>  simp [hTime, hCal]

@[simp] theorem part_ppsEdge (dev refPpb periods) (s : State) (hTime : p ≠ .time) (hCal : p ≠ .cal) :
    part p (ppsEdge dev refPpb periods s) = part p s := by
  have upd (u : State) (tb) : part p { u with tb := tb } = part p u := part_updTime hTime _ _ _ _ _ _ _ _ _ _ _ _ _ _ _
  have counted (tb) : part p { gateEdge periods s with tb := tb } = part p s := (upd _ _).trans (part_gateEdge _ _ hCal)
  refine part_timeStep s ((part_edgeTimeSet _ hTime hCal).trans ((part_disciplined _ _ hTime).trans ?_))
  refine part_ite_of ((part_extDrop _ hTime hCal).trans (counted _)) (part_ite_of ?_ (counted _))
  refine (part_reselect _ _ hTime hCal).trans ?_
  exact (upd (gnssDue _) _).trans ((part_gnssDue _ hTime).trans (counted _))

@[simp] theorem part_refLoss (s : State) (hTime : p ≠ .time) (hCal : p ≠ .cal) : part p (refLoss s) = part p s := by
  simp [hTime, hCal, refLoss]

@[simp] theorem part_ppsMissing (s : State) (hTime : p ≠ .time) (hCal : p ≠ .cal) :
    part p (ppsMissing s) = part p s := by simp [hTime, hCal, ppsMissing]

@[simp] theorem part_takeover (s : State) (hTime : p ≠ .time) : part p (takeover s) = part p s := by
  simp [hTime, takeover]

@[simp] theorem part_lock24 (s : State) (hTime : p ≠ .time) : part p (lock24 s) = part p s := by simp [hTime, lock24]

@[simp] theorem part_leapNow (s : State) (hTime : p ≠ .time) : part p (leapNow s) = part p s := by
  simp [hTime, leapNow]

@[simp] theorem part_slewingClear (err) (s : State) (hTime : p ≠ .time) : part p (slewingClear err s) = part p s := by
  simp [hTime, slewingClear]

@[simp] theorem part_snapLatch (n wide) (s : State) (hTime : p ≠ .time) : part p (snapLatch n wide s) = part p s := by
  simp [hTime, snapLatch]

@[simp] theorem part_ppsRise (s : State) (hTime : p ≠ .time) : part p (ppsRise s) = part p s := by
  simp [hTime, ppsRise]

@[simp] theorem part_ppsFallStep (s : State) (hTime : p ≠ .time) : part p (ppsFallStep s) = part p s := by
  simp [hTime, ppsFallStep]

@[simp] theorem part_sendTs (s : State) (l typ seq ts) : part p (sendTs s l typ seq ts) = part p s := by simp [sendTs]

@[simp] theorem part_fabDrop (s : State) (hTime : p ≠ .time) (hCal : p ≠ .cal) : part p (fabDrop s) = part p s := by
  simp [hTime, hCal, fabDrop]

@[simp] theorem part_exchMiss (n) (s : State) (hTime : p ≠ .time) (hCal : p ≠ .cal) :
    part p (exchMiss n s) = part p s := by simp [hTime, hCal, exchMiss]

@[simp] theorem part_exchExpire (s : State) (hTime : p ≠ .time) (hCal : p ≠ .cal) :
    part p (exchExpire s) = part p s := by simp [hTime, hCal, exchExpire]

@[simp] theorem part_exchStart (s : State) (hTime : p ≠ .time) (hCal : p ≠ .cal) :
    part p (exchStart s) = part p s := by simp [hTime, hCal, exchStart]

@[simp] theorem part_syncSend (l seq) (s : State) : part p (syncSend l seq s) = part p s := by simp [syncSend]

@[simp] theorem part_exchMissed8 (s : State) (hTime : p ≠ .time) (hCal : p ≠ .cal) :
    part p (exchMissed8 s) = part p s := by simp [hTime, hCal, exchMissed8]

@[simp] theorem part_takeReport (f) (s : State) (hTime : p ≠ .time) (hCal : p ≠ .cal) :
    part p (takeReport f s) = part p s := by simp [hTime, hCal, takeReport]

@[simp] theorem part_dropFrame (s : State) (l) : part p (dropFrame s l) = part p s := by simp [dropFrame]

@[simp] theorem part_syncStep (l) (s : State) (hTime : p ≠ .time) (hCal : p ≠ .cal) :
    part p (syncStep l s) = part p s := by
  refine part_timeStep s ?_
  dsimp only
  split
  · rfl
  · split <;> simp [hTime, hCal]

@[simp] theorem part_delayReq (l) (s : State) : part p (delayReq l s) = part p s := by
  unfold delayReq
  split <;> simp

@[simp] theorem part_delayResp (l) (s : State) (hTime : p ≠ .time) (hCal : p ≠ .cal) :
    part p (delayResp l s) = part p s := by
  refine part_timeStep s ?_
  dsimp only
  split
  · rfl
  · split
    · simp
    · split
      · simp
      · split <;> simp [hTime, hCal]

@[simp] theorem part_fabLinkDown (l) (s : State) (hTime : p ≠ .time) (hCal : p ≠ .cal) :
    part p (fabLinkDown l s) = part p s := by simp [hTime, hCal, fabLinkDown]

@[simp] theorem part_timeConfigEff (k) (s : State) (hTime : p ≠ .time) (hCal : p ≠ .cal) :
    part p (timeConfigEff k s) = part p s := by simp [hTime, hCal, timeConfigEff]

@[simp] theorem part_timeSetEff (c k) (s : State) (hTime : p ≠ .time) (hCal : p ≠ .cal) :
    part p (timeSetEff c k s).state = part p s := by simp [hTime, hCal, timeSetEff]

@[simp] theorem part_timeSetTimeout (s : State) (hTime : p ≠ .time) : part p (timeSetTimeout s) = part p s := by
  unfold timeSetTimeout
  split <;>  simp [hTime]

@[simp] theorem part_calThenLock {f : State → State} (s : State) (h : part p (f s) = part p s) (hTime : p ≠ .time)
    (hCal : p ≠ .cal) :
    part p (calThenLock f s) = part p s := by simp [h, hTime, hCal, calThenLock]

/-! ### Gnss.lean -/

@[simp] theorem part_gnEvent (s : State) (cause set sev residual) :
    part p (gnEvent s cause set sev residual) = part p s := by simp [gnEvent]

@[simp] theorem part_modPort (s : State) (q f) (hGnss : p ≠ .gnss) : part p (modPort s q f) = part p s := by
  unfold modPort
  split <;>  simp [hGnss]

@[simp] theorem part_setTarget (s : State) (sig sv st) (hGnss : p ≠ .gnss) :
    part p (setTarget s sig sv st) = part p s := by simp [hGnss, setTarget]

@[simp] theorem part_chanLost (s : State) (n) (hGnss : p ≠ .gnss) : part p (chanLost s n) = part p s := by
  simp [hGnss, chanLost]

@[simp] theorem part_dropPort (ok) (s : State) (q) (hGnss : p ≠ .gnss) : part p (dropPort ok s q) = part p s := by
  simp [hGnss, dropPort, part_foldl]

@[simp] theorem part_gnMirror (s : State) (hGnss : p ≠ .gnss) : part p (gnMirror s) = part p s := by
  simp [hGnss, gnMirror]

@[simp] theorem part_portFault (q noEdge devPpm) (s : State) (hGnss : p ≠ .gnss) :
    part p (portFault q noEdge devPpm s) = part p s := by simp [hGnss, portFault]

@[simp] theorem part_portClear (q) (s : State) (hGnss : p ≠ .gnss) : part p (portClear q s) = part p s := by
  simp [hGnss, portClear]

@[simp] theorem part_timeTag (q) (s : State) (hGnss : p ≠ .gnss) : part p (timeTag q s) = part p s := by
  simp [hGnss, timeTag]

@[simp] theorem part_searchWindow (s : State) (sig sv) : part p (searchWindow s sig sv).2 = part p s := by
  simp only [searchWindow]
  repeat' split
  all_goals simp

@[simp] theorem part_searchEnd (i bins) (s : State) (hGnss : p ≠ .gnss) : part p (searchEnd i bins s) = part p s := by
  simp [hGnss, searchEnd]

@[simp] theorem part_occupy (s : State) (n sig sv bin ph) (hGnss : p ≠ .gnss) :
    part p (occupy s n sig sv bin ph) = part p s := by simp [hGnss, occupy]

@[simp] theorem part_placeCandidate (s : State) (sig sv bin ph) (hGnss : p ≠ .gnss) :
    part p (placeCandidate s sig sv bin ph) = part p s := by
  simp only [placeCandidate]
  repeat' split
  all_goals  simp [hGnss]

@[simp] theorem part_verifyEnd (i tests) (s : State) (hGnss : p ≠ .gnss) :
    part p (verifyEnd i tests s) = part p s := by
  simp only [verifyEnd]
  repeat' split
  all_goals  simp [hGnss]

@[simp] theorem part_listReturn (i) (s : State) (hGnss : p ≠ .gnss) : part p (listReturn i s) = part p s := by
  unfold listReturn
  dsimp only
  split <;>  simp [hGnss]

@[simp] theorem part_modGnChan (s : State) (n f) (hGnss : p ≠ .gnss) : part p (modGnChan s n f) = part p s := by
  simp [hGnss, modGnChan]

@[simp] theorem part_pullInLock (n) (s : State) (hGnss : p ≠ .gnss) : part p (pullInLock n s) = part p s := by
  simp [hGnss, pullInLock]

@[simp] theorem part_pullInTimeout (n) (s : State) (hGnss : p ≠ .gnss) : part p (pullInTimeout n s) = part p s := by
  simp [hGnss, pullInTimeout]

@[simp] theorem part_trackLoss (n) (s : State) (hGnss : p ≠ .gnss) : part p (trackLoss n s) = part p s := by
  simp [hGnss, trackLoss]

@[simp] theorem part_coherentEnd (n acc bitSync) (s : State) (hGnss : p ≠ .gnss) :
    part p (coherentEnd n acc bitSync s) = part p s := by
  unfold coherentEnd
  refine part_ite_of rfl ?_
  extract_lets -underBinder acc k store val h near
  split
  next e => exact (part_modGnChan _ _ _ hGnss).trans (part_snd e (by split <;> simp))

@[simp] theorem part_takeNav (sys) (s : State) (d) (hGnss : p ≠ .gnss) : part p (takeNav sys s d) = part p s := by
  simp [hGnss, takeNav]

@[simp] theorem part_syncVerified (n word crcOk tow nav) (s : State) (hGnss : p ≠ .gnss) :
    part p (syncVerified n word crcOk tow nav s) = part p s := by simp [hGnss, syncVerified, part_foldl]

@[simp] theorem part_cn0Expire (n) (s : State) (hGnss : p ≠ .gnss) : part p (cn0Expire n s) = part p s := by
  simp [hGnss, cn0Expire]

@[simp] theorem part_takeRec (s : State) (r) (hGnss : p ≠ .gnss) : part p (takeRec s r) = part p s := by
  simp [hGnss, takeRec]

@[simp] theorem part_takeResidual (s : State) (r) (hGnss : p ≠ .gnss) : part p (takeResidual s r) = part p s := by
  unfold takeResidual
  split <;>  simp [hGnss]

@[simp] theorem part_takePosition (sol) (s : State) (hGnss : p ≠ .gnss) : part p (takePosition sol s) = part p s := by
  simp [hGnss, takePosition]

@[simp] theorem part_solToTime (sol) (s : State) (hTime : p ≠ .time) : part p (solToTime sol s) = part p s := by
  simp [hTime, solToTime]

@[simp] theorem part_measEpoch (sol recs) (s : State) (hTime : p ≠ .time) (hGnss : p ≠ .gnss) :
    part p (measEpoch sol recs s) = part p s := by
  have taken (u : State) : part p (recs.foldl takeResidual (recs.foldl takeRec u)) = part p u :=
    (part_foldl (fun _ _ => by simp [hGnss]) _ _).trans (part_foldl (fun _ _ => by simp [hGnss]) _ _)
  refine part_timeStep s ?_
  dsimp only
  split
  · rfl
  · repeat' split
    all_goals simp [hTime, hGnss, taken]

@[simp] theorem part_surveyMean (s : State) : part p (surveyMean s).2 = part p s := by
  unfold surveyMean
  split <;> simp

@[simp] theorem part_startHold (s : State) (q entered check) (hGnss : p ≠ .gnss) :
    part p (startHold s q entered check) = part p s := by simp [hGnss, startHold]

@[simp] theorem part_surveyComplete (s : State) (hGnss : p ≠ .gnss) : part p (surveyComplete s) = part p s := by
  simp [hGnss, surveyComplete]

@[simp] theorem part_startSurvey (s : State) (min_) (hGnss : p ≠ .gnss) : part p (startSurvey s min_) = part p s := by
  simp [hGnss, startSurvey]

@[simp] theorem part_rmsCm (s : State) : part p (rmsCm s).2 = part p s := by
  unfold rmsCm
  split <;> simp

@[simp] theorem part_holdResidual (s : State) (hGnss : p ≠ .gnss) : part p (holdResidual s) = part p s := by
  simp [hGnss, holdResidual]

@[simp] theorem part_gnConfigEff (k) (s : State) (hGnss : p ≠ .gnss) : part p (gnConfigEff k s) = part p s := by
  simp [hGnss, gnConfigEff]

@[simp] theorem part_gnSurveyEff (k) (s : State) (hGnss : p ≠ .gnss) : part p (gnSurveyEff k s) = part p s := by
  simp [hGnss, gnSurveyEff]

@[simp] theorem part_gnPositionEff (k) (s : State) (hGnss : p ≠ .gnss) : part p (gnPositionEff k s) = part p s := by
  simp [hGnss, gnPositionEff]

@[simp] theorem part_gnStreamEff (k) (s : State) (hGnss : p ≠ .gnss) : part p (gnStreamEff k s) = part p s := by
  simp [hGnss, gnStreamEff]

@[simp] theorem part_assistItem (k ok) (a : State × Nat) (i) (hTime : p ≠ .time) (hGnss : p ≠ .gnss) :
    part p (assistItem k ok a i).1 = part p a.1 := by
  unfold assistItem
  dsimp only
  split
  · rfl
  · split
    · cases p <;> trivial
    · simp [hGnss]

@[simp] theorem part_gnAssistEff (ok k) (s : State) (hTime : p ≠ .time) (hGnss : p ≠ .gnss) :
    part p (gnAssistEff ok k s).state = part p s := by
  have taken (l : List Nat) (a : State × Nat) : part p (l.foldl (assistItem k ok) a).1 = part p a.1 := by
    induction l generalizing a with
    | nil => rfl
    | cons i l ih => exact (ih _).trans (part_assistItem _ _ _ _ hTime hGnss)
  simp [gnAssistEff, taken]

/-! ### Links.lean -/

@[simp] theorem part_linkEvent (s : State) (l cause) : part p (linkEvent s l cause) = part p s := by simp [linkEvent]

@[simp] theorem part_owe (s : State) (q) : part p (owe s q) = part p s := by
  unfold owe
  split <;> simp

@[simp] theorem part_losePackets (s : State) (f) : part p (losePackets s f) = part p s := by
  unfold losePackets
  refine (part_upd _ _ _ _ _ _ _ _ _ _ _ _ _ _).trans (part_foldl (fun _ _ => ?_) _ _)
  split
  · rfl
  · split <;> simp

@[simp] theorem part_clearLink (s : State) (l) : part p (clearLink s l) = part p s := by simp [clearLink]

@[simp] theorem part_endTraining (s : State) (l status detail resp) :
    part p (endTraining s l status detail resp) = part p s := by
  unfold endTraining
  split <;> simp

@[simp] theorem part_linkDown (s : State) (l cause retrain) (hTime : p ≠ .time) (hCal : p ≠ .cal) :
    part p (linkDown s l cause retrain) = part p s := by simp [hTime, hCal, linkDown]

@[simp] theorem part_linkGoesUp (s : State) (l chip inc d) : part p (linkGoesUp s l chip inc d) = part p s := by
  simp [linkGoesUp]

@[simp] theorem part_linkFault (s : State) (l) : part p (linkFault s l) = part p s := by simp [linkFault]

@[simp] theorem part_linkMismatch (s : State) (l chip inc) : part p (linkMismatch s l chip inc) = part p s := by
  simp [linkMismatch]

@[simp] theorem part_trainTimeout (s : State) (l) : part p (trainTimeout s l) = part p s := by
  unfold trainTimeout
  dsimp only
  split <;> simp

@[simp] theorem part_trainStop (s : State) (c) : part p (trainStop s c) = part p s := by simp [trainStop, part_foldl]

@[simp] theorem part_takeHeader (s : State) (l f) : part p (takeHeader s l f) = part p s := by simp [takeHeader]

@[simp] theorem part_sendNak (s : State) (l) : part p (sendNak s l) = part p s := by simp [sendNak]

@[simp] theorem part_flitIn (s : State) (l typ f ok) {g : State → State} (h : part p (g s) = part p s) :
    part p (flitIn s l typ f ok g) = part p s := by simp [h, flitIn]

@[simp] theorem part_numbered (s : State) (l f) {g : State → State} (h : ∀ u, part p (g u) = part p u) :
    part p (numbered s l f g) = part p s := by simp [h, numbered]

@[simp] theorem part_cutShort (s : State) (l vc) : part p (cutShort s l vc) = part p s := by simp [cutShort]

@[simp] theorem part_dataIn (l f) (s : State) : part p (dataIn l f s) = part p s := by simp [dataIn]

@[simp] theorem part_nakIn (l f) (s : State) (hTime : p ≠ .time) (hCal : p ≠ .cal) :
    part p (nakIn l f s) = part p s := by simp [hTime, hCal, nakIn, part_foldl]

/-! ### Power.lean -/

@[simp] theorem part_modPwr (s : State) (f) (hPower : p ≠ .power) : part p (modPwr s f) = part p s := by
  simp [hPower, modPwr]

@[simp] theorem part_hotLimit (s : State) (k) (hPower : p ≠ .power) : part p (hotLimit s k) = part p s := by
  simp [hPower, hotLimit]

@[simp] theorem part_reefInput (s : State) (f) (hPower : p ≠ .power) : part p (reefInput s f) = part p s := by
  simp [hPower, reefInput]

@[simp] theorem part_levelChange (s : State) (k src dst boost) (hPower : p ≠ .power) :
    part p (levelChange s k src dst boost) = part p s := by simp [hPower, levelChange]

@[simp] theorem part_setLevel (s : State) (k level) (hPower : p ≠ .power) :
    part p (setLevel s k level) = part p s := by simp [hPower, setLevel]

@[simp] theorem part_coreEmpty (s : State) (n) : part p (coreEmpty s n) = part p s := by simp [coreEmpty]

@[simp] theorem part_gnssOff (s : State) (hTime : p ≠ .time) (hGnss : p ≠ .gnss) : part p (gnssOff s) = part p s := by
  have cleared (tb gn) : part p { s with tb := tb, gn := gn } = part p s := by
    cases p <;> trivial
  unfold gnssOff
  dsimp only
  split <;> simp [cleared]

@[simp] theorem part_deepOff (s : State) : part p (deepOff s) = part p s := by simp [deepOff, part_foldl]

@[simp] theorem part_setDomain (s : State) (d on) (hPower : p ≠ .power) : part p (setDomain s d on) = part p s := by
  simp [hPower, setDomain]

@[simp] theorem part_domainEff (s : State) (d on found) (hTime : p ≠ .time) (hGnss : p ≠ .gnss) :
    part p (domainEff s d on found) = part p s := by simp [hTime, hGnss, domainEff]

/-! ### Boot.lean -/

@[simp] theorem part_modSec (s : State) (f) (hSecurity : p ≠ .security) : part p (modSec s f) = part p s := by
  simp [hSecurity, modSec]

@[simp] theorem part_wipe (s : State) (hSecurity : p ≠ .security) : part p (wipe s) = part p s := by
  simp [hSecurity, wipe]

@[simp] theorem part_deriveKeys (s : State) (hSecurity : p ≠ .security) : part p (deriveKeys s) = part p s := by
  simp [hSecurity, deriveKeys]

@[simp] theorem part_startFw (s : State) (b fallback) (hSecurity : p ≠ .security) (hHealth : p ≠ .health) :
    part p (startFw s b fallback) = part p s := by simp [hSecurity, hHealth, startFw]

@[simp] theorem part_advanceInc (s : State) (hSecurity : p ≠ .security) : part p (advanceInc s) = part p s := by
  simp [hSecurity, advanceInc]

@[simp] theorem part_setSession (s : State) (x) : part p (setSession s x) = part p s := by simp [setSession]

@[simp] theorem part_putSlot (s : State) (b off d) (hSecurity : p ≠ .security) :
    part p (putSlot s b off d) = part p s := by simp [hSecurity, putSlot]

@[simp] theorem part_adopt (s : State) (b) (hSecurity : p ≠ .security) (hHealth : p ≠ .health) :
    part p (adopt s b) = part p s := by simp [hSecurity, hHealth, adopt]

@[simp] theorem part_tamperActs (s : State) (hSecurity : p ≠ .security) : part p (tamperActs s) = part p s := by
  simp [hSecurity, tamperActs]

/-! ### Dump.lean -/

@[simp] theorem part_modHlt (s : State) (f) (hHealth : p ≠ .health) : part p (modHlt s f) = part p s := by
  simp [hHealth, modHlt]

@[simp] theorem part_dumpStep (c k) (s : State) : part p (dumpStep c k s).state = part p s := by simp [dumpStep]

/-! ### HostLink.lean -/

@[simp] theorem part_sendPending (s : State) : part p (sendPending s) = part p s := by simp [sendPending, part_foldl]

@[simp] theorem part_writePlain (s : State) (off v) : part p (writePlain s off v) = part p s := by simp [writePlain]

@[simp] theorem part_hostTowerRead (s : State) (a len errs) : part p (hostTowerRead s a len errs).1 = part p s := by
  have read (l : List (Nat × Nat)) (r : State × Bytes × Bool) :
      part p (l.foldl (fun (r : State × Bytes × Bool) c =>
        let (s, d, p) := towerRead r.1 c.1 c.2 (errOf errs c.1) 0
        (s, r.2.1 ++ d, r.2.2 || p)) r).1 = part p r.1 := by
    induction l generalizing r with
    | nil => rfl
    | cons c l ih => exact (ih _).trans (part_towerRead _ _ _ _ _)
  unfold hostTowerRead
  dsimp only
  split <;> simp [read]

@[simp] theorem part_hostLineWrite (s : State) (a m ep err) : part p (hostLineWrite s a m ep err) = part p s := by
  unfold hostLineWrite
  split <;> simp

@[simp] theorem part_hostTowerWrite (s : State) (a data ep errs) :
    part p (hostTowerWrite s a data ep errs) = part p s := by simp [hostTowerWrite, part_foldl]

/-! ### TableOps.lean -/

@[simp] theorem part_closeRing (s : State) (held) : part p (closeRing s held) = part p s := by simp [closeRing]

/-! ### Responses.lean -/

@[simp] theorem part_stopReads (s : State) (c) : part p (stopReads s c) = part p s := by simp [stopReads, part_foldl]

@[simp] theorem part_stopCmd (s : State) (c k) (hTime : p ≠ .time) (hCal : p ≠ .cal) :
    part p (stopCmd s c k) = part p s := by
  unfold stopCmd
  split <;>  simp [hTime, hCal]

@[simp] theorem part_endCmd (s : State) (c status) (hTime : p ≠ .time) (hCal : p ≠ .cal) :
    part p (endCmd s c status) = part p s := by
  unfold endCmd
  split <;>  simp [hTime, hCal]

/-! ### HostReads.lean -/

@[simp] theorem part_indirectDone (s : State) (c off b) : part p (indirectDone s c off b) = part p s := by
  simp only [indirectDone]
  repeat' split
  all_goals simp

@[simp] theorem part_readEnd (s : State) (r data) (hTime : p ≠ .time) (hCal : p ≠ .cal) :
    part p (readEnd s r data) = part p s := by
  simp only [readEnd]
  repeat' split
  all_goals  simp [hTime, hCal]

@[simp] theorem part_pumpReads (s : State) : part p (pumpReads s) = part p s := by simp [pumpReads, part_foldl]

@[simp] theorem part_readOver (s : State) (tag r data) (hTime : p ≠ .time) (hCal : p ≠ .cal) :
    part p (readOver s tag r data) = part p s := by simp [hTime, hCal, readOver]

@[simp] theorem part_noXlate (s : State) (q denied) (hTime : p ≠ .time) (hCal : p ≠ .cal) :
    part p (noXlate s q denied) = part p s := by
  simp only [noXlate]
  repeat' split
  all_goals  simp [hTime, hCal]

@[simp] theorem part_withXlate (s : State) (q) (hTime : p ≠ .time) (hCal : p ≠ .cal) :
    part p (withXlate s q) = part p s := by
  simp only [withXlate]
  repeat' split
  all_goals  simp [hTime, hCal]

@[simp] theorem part_atcPut (s : State) (q r) : part p (atcPut s q r) = part p s := by simp [atcPut]

@[simp] theorem part_postsOn (s : State) : part p (postsOn s) = part p s := by simp [postsOn]

/-! ### MailboxFlow.lean -/

@[simp] theorem part_seqRefuse (s : State) (c) : part p (seqRefuse s c) = part p s := by simp [seqRefuse]

@[simp] theorem part_replay (s : State) (c) : part p (replay s c) = part p s := by simp [replay]

@[simp] theorem part_bellDecide (s : State) (c) : part p (bellDecide s c) = part p s := by simp [bellDecide]

@[simp] theorem part_ringBell (s : State) (c seq) : part p (ringBell s c seq) = part p s := by
  simp only [ringBell]
  repeat' split
  all_goals simp

@[simp] theorem part_indirectReads (c) (fuel : Nat) (s : State) (addr off len) :
    part p (indirectReads c fuel s addr off len).1 = part p s := by
  induction fuel generalizing s addr off len with
  | zero => rfl
  | succ fuel ih =>
    unfold indirectReads
    split
    · rfl
    · dsimp only
      split
      · next e => exact (ih _ _ _ _).trans (part_snd e (by simp))
      · next e => exact part_snd e (by simp)

@[simp] theorem part_indirectStart (s : State) (c k) : part p (indirectStart s c k) = part p s := by
  unfold indirectStart
  split
  · simp
  · split
    · next e => exact part_fst e (by simp)
    · next u a e =>
      have h : part p u = part p s := part_fst e (by simp)
      dsimp only
      split <;> simp [h]

@[simp] theorem part_lenCheck (s : State) (c k len indirect r) :
    part p (lenCheck s c k len indirect r) = part p s := by simp [lenCheck]

@[simp] theorem part_accept (s : State) (c held) : part p (accept s c held) = part p s := by
  simp only [accept]
  repeat' split
  all_goals simp

@[simp] theorem part_clearChan (s : State) (c) : part p (clearChan s c) = part p s := by simp [clearChan]

@[simp] theorem part_ctxStays (s : State) (x) : part p (ctxStays s x) = part p s := by simp [ctxStays]

@[simp] theorem part_timeOut (s : State) (c k) (hTime : p ≠ .time) (hCal : p ≠ .cal) :
    part p (timeOut s c k) = part p s := by
  simp only [timeOut]
  repeat' split
  all_goals  simp [hTime, hCal]

/-! ### Matrix.lean -/

@[simp] theorem part_modPair (s : State) (n f) : part p (modPair s n f) = part p s := by simp [modPair]

@[simp] theorem part_noteColumn (s : State) (n o fc) : part p (noteColumn s n o fc) = part p s := by simp [noteColumn]

@[simp] theorem part_mmRunOn (s : State) (n o bad) : part p (mmRunOn s n o bad) = part p s := by
  simp only [mmRunOn]
  repeat' split
  all_goals simp

@[simp] theorem part_swapTiles (s : State) (n) : part p (swapTiles s n) = part p s := by simp [swapTiles]

/-! ### Router.lean -/

@[simp] theorem part_returnCredits (s : State) (q) : part p (returnCredits s q) = part p s := by
  unfold returnCredits
  split <;> simp

@[simp] theorem part_sendPiece (s : State) (i q e) : part p (sendPiece s i q e) = part p s := by simp [sendPiece]

@[simp] theorem part_refuseStale (s : State) (q) : part p (refuseStale s q) = part p s := by simp [refuseStale]

@[simp] theorem part_deliver (s : State) (q) : part p (deliver s q) = part p s := by simp [deliver]

@[simp] theorem part_startOn (s : State) (i q l vc route) : part p (startOn s i q l vc route) = part p s := by
  simp [startOn]

/-! ### Remote.lean -/

@[simp] theorem part_dropIntake (s : State) (f) : part p (dropIntake s f) = part p s := by simp [dropIntake]

@[simp] theorem part_toServing (s : State) (q) : part p (toServing s q) = part p s := by simp [toServing]

@[simp] theorem part_incoming (s : State) (i op) {form} {gone} {f : Packet → State → State}
    (hGone : ∀ q u, part p (gone q u) = part p u) (h : ∀ q u, part p (f q u) = part p u) :
    part p (incoming s i op form gone f) = part p s := by
  unfold incoming
  split <;>  simp [hGone, h]

@[simp] theorem part_refuseIn (s : State) (q status) : part p (refuseIn s q status) = part p s := by simp [refuseIn]

@[simp] theorem part_peerIssue (s : State) (q len kind data) : part p (peerIssue s q len kind data) = part p s := by
  simp [peerIssue]

@[simp] theorem part_peerEnd (s : State) (i op) {answer : Packet → List (Nat × Access) → State → State}
    (h : ∀ q l u, part p (answer q l u) = part p u) :
    part p (peerEnd s i op answer) = part p s := by
  simp only [peerEnd]
  repeat' split
  all_goals  simp [h]

@[simp] theorem part_trackEnd (s : State) (i t r) : part p (trackEnd s i t r) = part p s := by
  unfold trackEnd
  split <;> simp

@[simp] theorem part_response (s : State) (i op) : part p (response s i op) = part p s := by
  simp only [response]
  repeat' split
  all_goals simp

/-! ### Reset.lean -/

@[simp] theorem part_failReads (s : State) (hTime : p ≠ .time) (hCal : p ≠ .cal) :
    part p (failReads s) = part p s := by
  unfold failReads
  refine (part_foldl (fun _ _ => ?_) _ _).trans
    ((part_foldl (fun _ _ => by simp [hTime, hCal]) _ _).trans (part_upd _ _ _ _ _ _ _ _ _ _ _ _ _ _))
  split
  · split <;> simp
  · rfl

@[simp] theorem part_configReset (s : State) : part p (configReset s) = part p s := by simp [configReset]

@[simp] theorem part_abortAll (s : State) (skip) (hTime : p ≠ .time) (hCal : p ≠ .cal) :
    part p (abortAll s skip) = part p s := by simp [hTime, hCal, abortAll, part_foldl]

@[simp] theorem part_warmFail (s : State) : part p (warmFail s) = part p s := by
  unfold warmFail
  refine part_foldl (fun u x => ?_) _ _
  generalize x.2.stage = stage
  cases stage with
  | remote | stalled | host | ats => exact part_accFail _ _ _
  | _ => rfl

@[simp] theorem part_warmQuiet (s : State) (hTime : p ≠ .time) (hCal : p ≠ .cal) :
    part p (warmQuiet s) = part p s := by simp [hTime, hCal, warmQuiet, part_foldl]

@[simp] theorem part_warmAccept (s : State) (t skip) (hTime : p ≠ .time) (hCal : p ≠ .cal) (hHealth : p ≠ .health) :
    part p (warmAccept s t skip) = part p s := by simp [hTime, hCal, hHealth, warmAccept]

@[simp] theorem part_warmClear (s : State) (hPower : p ≠ .power) : part p (warmClear s) = part p s := by
  simp [hPower, warmClear]

@[simp] theorem part_dueSwitches (s : State) : part p (dueSwitches s) = part p s := by simp [dueSwitches, part_foldl]

/-! ### SeqAlu.lean -/

@[simp] theorem part_seqPut (s : State) (n t key f) : part p (seqPut s n t key f) = part p s := by simp [seqPut]

/-! ### SeqFlow.lean -/

@[simp] theorem part_seqBranch (s : State) (n t key cond) : part p (seqBranch s n t key cond) = part p s := by
  refine part_seqDo _ _ _ _ fun _ _ => ?_
  dsimp only
  split <;> rfl

end

end Sys2Proof.Machine

/-! ## 00: the instructions that keep a part of the state (the statement of O57) -/

namespace Sys2Proof.Machine

section
variable {p : StatePart}

@[simp] theorem part_live {s : State} {f : State → State} (h : part p (f s) = part p s) :
    part p (resState s (live s f)) = part p s := part_ite_of rfl h

@[simp] theorem part_barWrite {s : State} {f : State → State} (h : part p (f s) = part p s) :
    part p (resState s (barWrite s f)) = part p s := part_live (part_ite_of h rfl)

@[simp] theorem part_barRead {s : State} {f : State → State} (h : part p (f s) = part p s) :
    part p (resState s (barRead s f)) = part p s := part_live (part_ite_of h (part_emit _ _))

@[simp] theorem notLate_eq (q : Packet) (s : State) : notLate q s = s := rfl

@[simp] theorem part_transit (s : State) (hSecurity : p ≠ .security) : part p (transit s) = part p s := by
  simp [hSecurity, transit]

/-! ### Access.lean -/

@[simp] theorem part_execTranslationWalkDone (id) (s : State) :
    part p (resState s (execTranslationWalkDone id s)) = part p s := by
  refine part_live ?_
  repeat' split
  all_goals simp

@[simp] theorem part_execTowerLineAccess (id err) (s : State) :
    part p (resState s (execTowerLineAccess id err s)) = part p s := by
  refine part_live ?_
  repeat' split
  all_goals simp

@[simp] theorem part_execDeepPortResponse (port id r) (s : State) :
    part p (resState s (execDeepPortResponse port id r s)) = part p s := by
  refine part_live ?_
  repeat' split
  all_goals simp

@[simp] theorem part_execDeepRequestTimeout (port id) (s : State) :
    part p (resState s (execDeepRequestTimeout port id s)) = part p s := by
  refine part_live ?_
  repeat' split
  all_goals simp

@[simp] theorem part_execDeepPortLinkDown (port) (s : State) :
    part p (resState s (execDeepPortLinkDown port s)) = part p s := by simp [execDeepPortLinkDown]

@[simp] theorem part_execDeepPortLinkReturn (port) (s : State) :
    part p (resState s (execDeepPortLinkReturn port s)) = part p s := by simp [execDeepPortLinkReturn]

/-! ### Cores.lean -/

@[simp] theorem part_execOpCoreBridle (c) (s : State) (hBridles : p ≠ .bridles) :
    part p (resState s (execOpCoreBridle c s)) = part p s := by
  refine part_live (part_runOp _ _ _ fun k => ?_)
  simp [hBridles]

@[simp] theorem part_execOpCoreUnbridle (c) (s : State) (hBridles : p ≠ .bridles) :
    part p (resState s (execOpCoreUnbridle c s)) = part p s := by
  refine part_live (part_runOp _ _ _ fun k => ?_)
  simp [hBridles]

@[simp] theorem part_execOpCoreStatus (c) (s : State) : part p (resState s (execOpCoreStatus c s)) = part p s := by
  simp [execOpCoreStatus]

/-! ### Seq.lean -/

@[simp] theorem part_execBranchResolve (n t) (s : State) :
    part p (resState s (execBranchResolve n t s)) = part p s := by
  refine part_live ?_
  split <;> simp

@[simp] theorem part_execSquashedOperationBoundary (n id) (s : State) :
    part p (resState s (execSquashedOperationBoundary n id s)) = part p s := by
  refine part_live ?_
  split <;> simp

@[simp] theorem part_execSyncWaitTimeout (n t w) (s : State) :
    part p (resState s (execSyncWaitTimeout n t w s)) = part p s := by simp [execSyncWaitTimeout]

/-! ### Dma.lean -/

@[simp] theorem part_execDmaCopy (n op) (s : State) : part p (resState s (execDmaCopy n op s)) = part p s := by
  refine part_live ?_
  simp [part_foldl]

/-! ### Vector.lean -/

@[simp] theorem part_execVecAdd (n op) (s : State) : part p (resState s (execVecAdd n op s)) = part p s := by
  simp [execVecAdd]

@[simp] theorem part_execVecSub (n op) (s : State) : part p (resState s (execVecSub n op s)) = part p s := by
  simp [execVecSub]

@[simp] theorem part_execVecMul (n op) (s : State) : part p (resState s (execVecMul n op s)) = part p s := by
  simp [execVecMul]

@[simp] theorem part_execVecFma (n op) (s : State) : part p (resState s (execVecFma n op s)) = part p s := by
  simp [execVecFma]

@[simp] theorem part_execVecMin (n op) (s : State) : part p (resState s (execVecMin n op s)) = part p s := by
  simp [execVecMin]

@[simp] theorem part_execVecMax (n op) (s : State) : part p (resState s (execVecMax n op s)) = part p s := by
  simp [execVecMax]

@[simp] theorem part_execVecDiv (n op) (s : State) : part p (resState s (execVecDiv n op s)) = part p s := by
  simp [execVecDiv]

@[simp] theorem part_execVecSqrt (n op) (s : State) : part p (resState s (execVecSqrt n op s)) = part p s := by
  simp [execVecSqrt]

@[simp] theorem part_execVecRsqrt (n op) (s : State) : part p (resState s (execVecRsqrt n op s)) = part p s := by
  simp [execVecRsqrt]

@[simp] theorem part_execVecExp (n op) (s : State) : part p (resState s (execVecExp n op s)) = part p s := by
  simp [execVecExp]

@[simp] theorem part_execVecLog (n op) (s : State) : part p (resState s (execVecLog n op s)) = part p s := by
  simp [execVecLog]

@[simp] theorem part_execVecTanh (n op) (s : State) : part p (resState s (execVecTanh n op s)) = part p s := by
  simp [execVecTanh]

@[simp] theorem part_execVecSigmoid (n op) (s : State) : part p (resState s (execVecSigmoid n op s)) = part p s := by
  simp [execVecSigmoid]

@[simp] theorem part_execVecGelu (n op) (s : State) : part p (resState s (execVecGelu n op s)) = part p s := by
  simp [execVecGelu]

@[simp] theorem part_execVecRelu (n op) (s : State) : part p (resState s (execVecRelu n op s)) = part p s := by
  simp [execVecRelu]

@[simp] theorem part_execVecConvert (n op) (s : State) : part p (resState s (execVecConvert n op s)) = part p s := by
  simp [execVecConvert]

@[simp] theorem part_execVecRsum (n op) (s : State) : part p (resState s (execVecRsum n op s)) = part p s := by
  simp [execVecRsum]

@[simp] theorem part_execVecRmax (n op) (s : State) : part p (resState s (execVecRmax n op s)) = part p s := by
  simp [execVecRmax]

@[simp] theorem part_execVecQuant (n op) (s : State) : part p (resState s (execVecQuant n op s)) = part p s := by
  simp [execVecQuant]

@[simp] theorem part_execVecRequant (n op) (s : State) : part p (resState s (execVecRequant n op s)) = part p s := by
  simp [execVecRequant]

@[simp] theorem part_execVecMxquant (n op) (s : State) : part p (resState s (execVecMxquant n op s)) = part p s := by
  simp [execVecMxquant]

@[simp] theorem part_execVecDequant (n op) (s : State) : part p (resState s (execVecDequant n op s)) = part p s := by
  simp [execVecDequant]

/-! ### Tables.lean -/

@[simp] theorem part_execEpochSwitch (tbl) (s : State) : part p (resState s (execEpochSwitch tbl s)) = part p s := by
  simp [execEpochSwitch]

@[simp] theorem part_execPrevBusyClear (tbl) (s : State) :
    part p (resState s (execPrevBusyClear tbl s)) = part p s := by simp [execPrevBusyClear]

@[simp] theorem part_execLookup (n op) (s : State) : part p (resState s (execLookup n op s)) = part p s := by
  refine part_live (part_opRun _ _ _ _ fun o => ?_)
  dsimp only
  repeat' split
  all_goals simp

@[simp] theorem part_execLookupAccept (e) (s : State) : part p (resState s (execLookupAccept e s)) = part p s := by
  refine part_live ?_
  split <;> simp

@[simp] theorem part_execLookupRowReturn (e lk acc) (s : State) :
    part p (resState s (execLookupRowReturn e lk acc s)) = part p s := by
  refine part_live ?_
  dsimp only
  repeat' split
  all_goals simp

@[simp] theorem part_execLookupDeadline (e lk) (s : State) :
    part p (resState s (execLookupDeadline e lk s)) = part p s := by
  refine part_live ?_
  dsimp only
  repeat' split
  all_goals simp [part_foldl]

/-! ### Pooling.lean -/

@[simp] theorem part_execLookupComplete (e lk) (s : State) :
    part p (resState s (execLookupComplete e lk s)) = part p s := by
  refine part_live ?_
  repeat' split
  all_goals simp

/-! ### Update.lean -/

@[simp] theorem part_execTeUpdate (n op) (s : State) : part p (resState s (execTeUpdate n op s)) = part p s := by
  simp [execTeUpdate]

@[simp] theorem part_execUpdateRecordArrival (e) (s : State) :
    part p (resState s (execUpdateRecordArrival e s)) = part p s := by
  refine part_live ?_
  dsimp only
  split <;> simp

@[simp] theorem part_execCopOperationComplete (n op) (s : State) :
    part p (resState s (execCopOperationComplete n op s)) = part p s := by
  have flushed (o : CopOp) : part p (flushStaging s n o).2 = part p s := by simp
  refine part_live ?_
  repeat' split
  any_goals simp
  all_goals next e => exact part_snd e (flushed _)

@[simp] theorem part_execRqUpdTailWrite (h val) (s : State) :
    part p (resState s (execRqUpdTailWrite h val s)) = part p s := by simp [execRqUpdTailWrite]

@[simp] theorem part_execUpdateRingRecord (h) (s : State) :
    part p (resState s (execUpdateRingRecord h s)) = part p s := by
  refine part_live ?_
  dsimp only
  split <;> simp

/-! ### Handover.lean -/

@[simp] theorem part_execHandoverComplete (c b) (s : State) :
    part p (resState s (execHandoverComplete c b s)) = part p s := by
  refine part_live ?_
  dsimp only
  split <;> simp

@[simp] theorem part_execReclaimComplete (c b) (s : State) :
    part p (resState s (execReclaimComplete c b s)) = part p s := by simp [execReclaimComplete]

/-! ### Queues.lean -/

@[simp] theorem part_execRqSqTailWrite (q val) (s : State) :
    part p (resState s (execRqSqTailWrite q val s)) = part p s := by simp [execRqSqTailWrite]

@[simp] theorem part_execRqCqHeadWrite (q val) (s : State) :
    part p (resState s (execRqCqHeadWrite q val s)) = part p s := by simp [execRqCqHeadWrite]

@[simp] theorem part_execRqQStatusClear (q val) (s : State) :
    part p (resState s (execRqQStatusClear q val s)) = part p s := by simp [execRqQStatusClear]

@[simp] theorem part_execRqSyncSelWrite (n val) (s : State) :
    part p (resState s (execRqSyncSelWrite n val s)) = part p s := by simp [execRqSyncSelWrite]

@[simp] theorem part_execDescriptorRead (data errs) (s : State) :
    part p (resState s (execDescriptorRead data errs s)) = part p s := by
  have got (x : Queue) : part p (if x.fabric then fabricDesc s x data errs else hostDesc s x data).2 = part p s := by
    split <;> simp
  refine part_live ?_
  dsimp only
  split
  · rfl
  · split
    · rfl
    · split
      · next e => exact part_snd e (got _)
      · next e =>
        have h := part_snd e (got _)
        split <;> simp [h]

@[simp] theorem part_execCompletionRecordPost (i errs) (s : State) :
    part p (resState s (execCompletionRecordPost i errs s)) = part p s := by
  refine part_live ?_
  repeat' split
  all_goals simp

/-! ### Memory.lean -/

@[simp] theorem part_execPatrolScrub (k err) (s : State) :
    part p (resState s (execPatrolScrub k err s)) = part p s := by simp [execPatrolScrub]

@[simp] theorem part_execTowerTemperatureChange (k t) (s : State) (hPower : p ≠ .power) :
    part p (resState s (execTowerTemperatureChange k t s)) = part p s := by simp [hPower, execTowerTemperatureChange]

@[simp] theorem part_execOpRowcacheConfig (c) (s : State) :
    part p (resState s (execOpRowcacheConfig c s)) = part p s := by simp [execOpRowcacheConfig]

@[simp] theorem part_execOpDeepPortConfig (c found) (s : State) :
    part p (resState s (execOpDeepPortConfig c found s)) = part p s := by simp [execOpDeepPortConfig]

@[simp] theorem part_execOpFill (c lines) (s : State) : part p (resState s (execOpFill c lines s)) = part p s := by
  refine part_live (part_runOp _ _ _ fun k => ?_)
  dsimp only
  repeat' split
  all_goals simp

@[simp] theorem part_execOpPageRetire (c) (s : State) : part p (resState s (execOpPageRetire c s)) = part p s := by
  refine part_live (part_plainOp _ _ _ fun k => ?_)
  dsimp only
  repeat' split
  all_goals simp

/-! ### Xlate.lean -/

@[simp] theorem part_execOpCtxCreate (c) (s : State) : part p (resState s (execOpCtxCreate c s)) = part p s := by
  simp [execOpCtxCreate]

@[simp] theorem part_execOpCtxDestroy (c) (s : State) : part p (resState s (execOpCtxDestroy c s)) = part p s := by
  simp [execOpCtxDestroy]

@[simp] theorem part_execOpMap (c) (s : State) : part p (resState s (execOpMap c s)) = part p s := by simp [execOpMap]

@[simp] theorem part_execOpUnmap (c) (s : State) : part p (resState s (execOpUnmap c s)) = part p s := by
  simp [execOpUnmap]

@[simp] theorem part_execOpTlbInval (c) (s : State) : part p (resState s (execOpTlbInval c s)) = part p s := by
  simp [execOpTlbInval]

@[simp] theorem part_execUnmapHostAbandon (c) (s : State) :
    part p (resState s (execUnmapHostAbandon c s)) = part p s := by
  refine part_live ?_
  dsimp only
  repeat' split
  all_goals simp [part_foldl]

@[simp] theorem part_execOpPrefetch (c) (s : State) : part p (resState s (execOpPrefetch c s)) = part p s := by
  refine part_live (part_runOp _ _ _ fun k => ?_)
  dsimp only
  simp [part_foldl]

@[simp] theorem part_execPrefetchDone (i) (s : State) : part p (resState s (execPrefetchDone i s)) = part p s := by
  refine part_live ?_
  split <;> simp

@[simp] theorem part_execOpMigrate (c) (s : State) : part p (resState s (execOpMigrate c s)) = part p s := by
  simp [execOpMigrate]

@[simp] theorem part_execMigratePage (i) (s : State) : part p (resState s (execMigratePage i s)) = part p s := by
  simp [execMigratePage]

@[simp] theorem part_execOpAdvise (c) (s : State) : part p (resState s (execOpAdvise c s)) = part p s := by
  refine part_live (part_plainOp _ _ _ fun k => ?_)
  split <;> simp

/-! ### Sched.lean -/

@[simp] theorem part_execStageDispatch (s : State) : part p (resState s (execStageDispatch s)) = part p s := by
  refine part_live ?_
  dsimp only
  split
  · rfl
  · repeat' split
    any_goals simp
    next e => rw [part_pickCore e, part_endStranded]

@[simp] theorem part_execOpPlanLoad (c) (s : State) : part p (resState s (execOpPlanLoad c s)) = part p s := by
  simp [execOpPlanLoad]

@[simp] theorem part_execOpPlanUnload (c) (s : State) : part p (resState s (execOpPlanUnload c s)) = part p s := by
  simp [execOpPlanUnload]

@[simp] theorem part_execOpQueueCreate (c) (s : State) : part p (resState s (execOpQueueCreate c s)) = part p s := by
  simp [execOpQueueCreate]

@[simp] theorem part_execOpQueueDestroy (c) (s : State) :
    part p (resState s (execOpQueueDestroy c s)) = part p s := by
  refine part_live (part_runOp _ _ _ fun k => ?_)
  dsimp only
  repeat' split
  all_goals simp [part_foldl]

@[simp] theorem part_execOpReplayWindow (c) (s : State) :
    part p (resState s (execOpReplayWindow c s)) = part p s := by simp [execOpReplayWindow]

@[simp] theorem part_execOpReqCancel (c) (s : State) : part p (resState s (execOpReqCancel c s)) = part p s := by
  refine part_live (part_plainOp _ _ _ fun k => ?_)
  split <;> simp

@[simp] theorem part_execOpSyncAlloc (c) (s : State) : part p (resState s (execOpSyncAlloc c s)) = part p s := by
  simp [execOpSyncAlloc]

@[simp] theorem part_execOpSyncFree (c) (s : State) : part p (resState s (execOpSyncFree c s)) = part p s := by
  simp [execOpSyncFree]

/-! ### Fence.lean -/

@[simp] theorem part_execCoreFence (n cause) (s : State) :
    part p (resState s (execCoreFence n cause s)) = part p s := by
  refine part_live ?_
  split <;> simp

@[simp] theorem part_execOpCoreFence (c) (s : State) : part p (resState s (execOpCoreFence c s)) = part p s := by
  simp [execOpCoreFence]

@[simp] theorem part_execStageEnd (n) (s : State) (hSecurity : p ≠ .security) :
    part p (resState s (execStageEnd n s)) = part p s := by
  refine part_live ?_
  dsimp only
  repeat' split
  all_goals simp [hSecurity]

/-! ### Calib.lean -/

@[simp] theorem part_execFrequencyGateStart (s : State) (hCal : p ≠ .cal) :
    part p (resState s (execFrequencyGateStart s)) = part p s := by simp [hCal, execFrequencyGateStart]

@[simp] theorem part_execOpCalRun (c m) (s : State) (hCal : p ≠ .cal) (hSecurity : p ≠ .security) :
    part p (resState s (execOpCalRun c m s)) = part p s := by
  refine part_live ?_
  simp [hCal, hSecurity]

@[simp] theorem part_execOpCalRead (c) (s : State) (hCal : p ≠ .cal) :
    part p (resState s (execOpCalRead c s)) = part p s := by
  refine part_live (part_runOp _ _ _ fun k => ?_)
  simp [hCal]

@[simp] theorem part_execCalSlewingClear (s : State) (hCal : p ≠ .cal) :
    part p (resState s (execCalSlewingClear s)) = part p s := by simp [hCal, execCalSlewingClear]

/-! ### Time.lean -/

@[simp] theorem part_execGnssQualify (s : State) (hTime : p ≠ .time) (hCal : p ≠ .cal) :
    part p (resState s (execGnssQualify s)) = part p s := by simp [hTime, hCal, execGnssQualify]

@[simp] theorem part_execGnssDisqualify (s : State) (hTime : p ≠ .time) (hCal : p ≠ .cal) :
    part p (resState s (execGnssDisqualify s)) = part p s := by simp [hTime, hCal, execGnssDisqualify]

@[simp] theorem part_execPpsInEdge (dev refPpb periods) (s : State) (hTime : p ≠ .time) (hCal : p ≠ .cal) :
    part p (resState s (execPpsInEdge dev refPpb periods s)) = part p s := by simp [hTime, hCal, execPpsInEdge]

@[simp] theorem part_execRef10mLoss (s : State) (hTime : p ≠ .time) (hCal : p ≠ .cal) :
    part p (resState s (execRef10mLoss s)) = part p s := by simp [hTime, hCal, execRef10mLoss]

@[simp] theorem part_execPpsInMissing (s : State) (hTime : p ≠ .time) (hCal : p ≠ .cal) :
    part p (resState s (execPpsInMissing s)) = part p s := by simp [hTime, hCal, execPpsInMissing]

@[simp] theorem part_execSourceTakeover (s : State) (hTime : p ≠ .time) :
    part p (resState s (execSourceTakeover s)) = part p s := by simp [hTime, execSourceTakeover]

@[simp] theorem part_execLock24hSet (s : State) (hTime : p ≠ .time) :
    part p (resState s (execLock24hSet s)) = part p s := by simp [hTime, execLock24hSet]

@[simp] theorem part_execLeapSecond (s : State) (hTime : p ≠ .time) :
    part p (resState s (execLeapSecond s)) = part p s := by simp [hTime, execLeapSecond]

@[simp] theorem part_execTbSlewingClear (err) (s : State) (hTime : p ≠ .time) :
    part p (resState s (execTbSlewingClear err s)) = part p s := by simp [hTime, execTbSlewingClear]

@[simp] theorem part_execTbSnapLatch (n wide) (s : State) (hTime : p ≠ .time) :
    part p (resState s (execTbSnapLatch n wide s)) = part p s := by simp [hTime, execTbSnapLatch]

@[simp] theorem part_execPpsOutRise (s : State) (hTime : p ≠ .time) :
    part p (resState s (execPpsOutRise s)) = part p s := by simp [hTime, execPpsOutRise]

@[simp] theorem part_execPpsOutFall (s : State) (hTime : p ≠ .time) :
    part p (resState s (execPpsOutFall s)) = part p s := by simp [hTime, execPpsOutFall]

@[simp] theorem part_execTimesyncExchangeStart (peer) (s : State) (hTime : p ≠ .time) (hCal : p ≠ .cal) :
    part p (resState s (execTimesyncExchangeStart peer s)) = part p s := by
  refine part_live ?_
  split <;> simp [hTime, hCal]

@[simp] theorem part_execExchangeIntervalMissed (s : State) (hTime : p ≠ .time) (hCal : p ≠ .cal) :
    part p (resState s (execExchangeIntervalMissed s)) = part p s := by simp [hTime, hCal, execExchangeIntervalMissed]

@[simp] theorem part_execSync (l) (s : State) (hTime : p ≠ .time) (hCal : p ≠ .cal) :
    part p (resState s (execSync l s)) = part p s := by simp [hTime, hCal, execSync]

@[simp] theorem part_execDelayReq (l) (s : State) : part p (resState s (execDelayReq l s)) = part p s := by
  simp [execDelayReq]

@[simp] theorem part_execDelayResp (l) (s : State) (hTime : p ≠ .time) (hCal : p ≠ .cal) :
    part p (resState s (execDelayResp l s)) = part p s := by simp [hTime, hCal, execDelayResp]

@[simp] theorem part_execOpTimeConfig (c) (s : State) (hTime : p ≠ .time) (hCal : p ≠ .cal) :
    part p (resState s (execOpTimeConfig c s)) = part p s := by
  refine part_live ?_
  simp [hTime, hCal]

@[simp] theorem part_execOpTimeSet (c) (s : State) (hTime : p ≠ .time) (hCal : p ≠ .cal) :
    part p (resState s (execOpTimeSet c s)) = part p s := by
  refine part_live (part_runOp _ _ _ fun k => ?_)
  simp [hTime, hCal]

@[simp] theorem part_execTimeSetTimeout (s : State) (hTime : p ≠ .time) :
    part p (resState s (execTimeSetTimeout s)) = part p s := by simp [hTime, execTimeSetTimeout]

@[simp] theorem part_execOpTimeStatus (c) (s : State) : part p (resState s (execOpTimeStatus c s)) = part p s := by
  simp [execOpTimeStatus]

@[simp] theorem part_execRefPresenceDecided (freqPpm) (s : State) (hTime : p ≠ .time) (hCal : p ≠ .cal)
    (hSecurity : p ≠ .security) :
    part p (resState s (execRefPresenceDecided freqPpm s)) = part p s := by
  refine part_live ?_
  simp [hTime, hCal, hSecurity]

@[simp] theorem part_execCalLoopbacksDone (m) (s : State) (hTime : p ≠ .time) (hCal : p ≠ .cal) (hGnss : p ≠ .gnss)
    (hSecurity : p ≠ .security) :
    part p (resState s (execCalLoopbacksDone m s)) = part p s := by
  refine part_live ?_
  simp [hTime, hCal, hGnss, hSecurity]

@[simp] theorem part_execFrequencyGateEnd (osc tempco span) (s : State) (hTime : p ≠ .time) (hCal : p ≠ .cal)
    (hSecurity : p ≠ .security) :
    part p (resState s (execFrequencyGateEnd osc tempco span s)) = part p s := by
  refine part_live ?_
  simp [hTime, hCal, hSecurity]

/-! ### Gnss.lean -/

@[simp] theorem part_execSamplePortFault (port noEdge devPpm) (s : State) (hGnss : p ≠ .gnss) :
    part p (resState s (execSamplePortFault port noEdge devPpm s)) = part p s := by simp [hGnss, execSamplePortFault]

@[simp] theorem part_execSamplePortFaultClear (port) (s : State) (hGnss : p ≠ .gnss) :
    part p (resState s (execSamplePortFaultClear port s)) = part p s := by simp [hGnss, execSamplePortFaultClear]

@[simp] theorem part_execSampleTimeTag (port) (s : State) (hGnss : p ≠ .gnss) :
    part p (resState s (execSampleTimeTag port s)) = part p s := by simp [hGnss, execSampleTimeTag]

@[simp] theorem part_execSearch (i bins) (s : State) (hGnss : p ≠ .gnss) :
    part p (resState s (execSearch i bins s)) = part p s := by simp [hGnss, execSearch]

@[simp] theorem part_execVerify (i tests) (s : State) (hGnss : p ≠ .gnss) :
    part p (resState s (execVerify i tests s)) = part p s := by simp [hGnss, execVerify]

@[simp] theorem part_execSearchListReturn (i) (s : State) (hGnss : p ≠ .gnss) :
    part p (resState s (execSearchListReturn i s)) = part p s := by simp [hGnss, execSearchListReturn]

@[simp] theorem part_execPullInLock (ch) (s : State) (hGnss : p ≠ .gnss) :
    part p (resState s (execPullInLock ch s)) = part p s := by simp [hGnss, execPullInLock]

@[simp] theorem part_execPullInTimeout (ch) (s : State) (hGnss : p ≠ .gnss) :
    part p (resState s (execPullInTimeout ch s)) = part p s := by simp [hGnss, execPullInTimeout]

@[simp] theorem part_execTrackLoss (ch) (s : State) (hGnss : p ≠ .gnss) :
    part p (resState s (execTrackLoss ch s)) = part p s := by simp [hGnss, execTrackLoss]

@[simp] theorem part_execCoherentIntervalEnd (ch acc bitSync) (s : State) (hGnss : p ≠ .gnss) :
    part p (resState s (execCoherentIntervalEnd ch acc bitSync s)) = part p s := by
  simp [hGnss, execCoherentIntervalEnd]

@[simp] theorem part_execSyncEventVerified (ch word crcOk towKnown nav) (s : State) (hGnss : p ≠ .gnss) :
    part p (resState s (execSyncEventVerified ch word crcOk towKnown nav s)) = part p s := by
  simp [hGnss, execSyncEventVerified]

@[simp] theorem part_execCn0Expire (ch) (s : State) (hGnss : p ≠ .gnss) :
    part p (resState s (execCn0Expire ch s)) = part p s := by simp [hGnss, execCn0Expire]

@[simp] theorem part_execMeasurementEpoch (sol recs) (s : State) (hTime : p ≠ .time) (hGnss : p ≠ .gnss) :
    part p (resState s (execMeasurementEpoch sol recs s)) = part p s := by simp [hTime, hGnss, execMeasurementEpoch]

@[simp] theorem part_execSurveyComplete (s : State) (hGnss : p ≠ .gnss) :
    part p (resState s (execSurveyComplete s)) = part p s := by simp [hGnss, execSurveyComplete]

@[simp] theorem part_execHoldResidualCheck (s : State) (hGnss : p ≠ .gnss) :
    part p (resState s (execHoldResidualCheck s)) = part p s := by simp [hGnss, execHoldResidualCheck]

@[simp] theorem part_execOpGnssConfig (c) (s : State) (hGnss : p ≠ .gnss) :
    part p (resState s (execOpGnssConfig c s)) = part p s := by
  refine part_live ?_
  simp [hGnss]

@[simp] theorem part_execOpGnssSurvey (c) (s : State) (hGnss : p ≠ .gnss) :
    part p (resState s (execOpGnssSurvey c s)) = part p s := by
  refine part_live ?_
  simp [hGnss]

@[simp] theorem part_execOpGnssPosition (c) (s : State) (hGnss : p ≠ .gnss) :
    part p (resState s (execOpGnssPosition c s)) = part p s := by
  refine part_live ?_
  simp [hGnss]

@[simp] theorem part_execOpGnssStream (c) (s : State) (hGnss : p ≠ .gnss) :
    part p (resState s (execOpGnssStream c s)) = part p s := by
  refine part_live ?_
  simp [hGnss]

@[simp] theorem part_execOpGnssAssist (c ok) (s : State) (hTime : p ≠ .time) (hGnss : p ≠ .gnss) :
    part p (resState s (execOpGnssAssist c ok s)) = part p s := by
  refine part_live (part_runOp _ _ _ fun k => ?_)
  simp [hTime, hGnss]

/-! ### Links.lean -/

@[simp] theorem part_execRatlineLinkLoss (l cause) (s : State) (hTime : p ≠ .time) (hCal : p ≠ .cal) :
    part p (resState s (execRatlineLinkLoss l cause s)) = part p s := by simp [hTime, hCal, execRatlineLinkLoss]

@[simp] theorem part_execRatlineLinkRetrainDone (l r) (s : State) :
    part p (resState s (execRatlineLinkRetrainDone l r s)) = part p s := by
  refine part_live ?_
  split <;> simp

@[simp] theorem part_execOpLinkUp (c) (s : State) : part p (resState s (execOpLinkUp c s)) = part p s := by
  simp [execOpLinkUp]

@[simp] theorem part_execLinkTrainingEnd (l r) (s : State) :
    part p (resState s (execLinkTrainingEnd l r s)) = part p s := by
  refine part_live ?_
  dsimp only
  repeat' split
  all_goals simp

@[simp] theorem part_execOpLinkDown (c) (s : State) (hTime : p ≠ .time) (hCal : p ≠ .cal) :
    part p (resState s (execOpLinkDown c s)) = part p s := by
  refine part_live ?_
  simp [hTime, hCal]

@[simp] theorem part_execOpChipIdSet (c) (s : State) : part p (resState s (execOpChipIdSet c s)) = part p s := by
  simp [execOpChipIdSet]

@[simp] theorem part_execOpRouteSet (c) (s : State) : part p (resState s (execOpRouteSet c s)) = part p s := by
  simp [execOpRouteSet]

@[simp] theorem part_execOpRemoteTimeout (c) (s : State) :
    part p (resState s (execOpRemoteTimeout c s)) = part p s := by simp [execOpRemoteTimeout]

@[simp] theorem part_execOpFabricStatus (c) (s : State) :
    part p (resState s (execOpFabricStatus c s)) = part p s := by simp [execOpFabricStatus]

@[simp] theorem part_execDataFlit (l flit crcOk) (s : State) :
    part p (resState s (execDataFlit l flit crcOk s)) = part p s := by
  refine part_live ?_
  simp

@[simp] theorem part_execLinkCtrlFlit (l flit crcOk) (s : State) :
    part p (resState s (execLinkCtrlFlit l flit crcOk s)) = part p s := by
  refine part_live ?_
  simp

@[simp] theorem part_execNakFlit (l flit crcOk) (s : State) (hTime : p ≠ .time) (hCal : p ≠ .cal) :
    part p (resState s (execNakFlit l flit crcOk s)) = part p s := by
  refine part_live ?_
  simp [hTime, hCal]

@[simp] theorem part_execIdleFlit (l flit crcOk) (s : State) :
    part p (resState s (execIdleFlit l flit crcOk s)) = part p s := by simp [execIdleFlit]

@[simp] theorem part_execTimesyncFlit (l flit crcOk) (s : State) :
    part p (resState s (execTimesyncFlit l flit crcOk s)) = part p s := by simp [execTimesyncFlit]

/-! ### Power.lean -/

@[simp] theorem part_execHotspotTemperatureChange (k t) (s : State) (hPower : p ≠ .power) :
    part p (resState s (execHotspotTemperatureChange k t s)) = part p s := by
  simp [hPower, execHotspotTemperatureChange]

@[simp] theorem part_execPowerSample (watts) (s : State) (hPower : p ≠ .power) :
    part p (resState s (execPowerSample watts s)) = part p s := by simp [hPower, execPowerSample]

@[simp] theorem part_execPwrCapNChange (low) (s : State) (hPower : p ≠ .power) :
    part p (resState s (execPwrCapNChange low s)) = part p s := by simp [hPower, execPwrCapNChange]

@[simp] theorem part_execOvercurrent (amps) (s : State) (hPower : p ≠ .power) :
    part p (resState s (execOvercurrent amps s)) = part p s := by simp [hPower, execOvercurrent]

@[simp] theorem part_execReefLevelStep (k) (s : State) (hPower : p ≠ .power) :
    part p (resState s (execReefLevelStep k s)) = part p s := by simp [hPower, execReefLevelStep]

@[simp] theorem part_execOpPowerLimit (c) (s : State) (hPower : p ≠ .power) :
    part p (resState s (execOpPowerLimit c s)) = part p s := by
  refine part_live (part_runOp _ _ _ fun k => ?_)
  simp [hPower]

@[simp] theorem part_execOpReefStatus (c) (s : State) : part p (resState s (execOpReefStatus c s)) = part p s := by
  simp [execOpReefStatus]

@[simp] theorem part_execOpBoost (c) (s : State) (hPower : p ≠ .power) :
    part p (resState s (execOpBoost c s)) = part p s := by
  refine part_live ?_
  simp [hPower]

@[simp] theorem part_execOpThermalRead (c) (s : State) : part p (resState s (execOpThermalRead c s)) = part p s := by
  simp [execOpThermalRead]

@[simp] theorem part_execOpDomainPower (c found) (s : State) (hTime : p ≠ .time) (hGnss : p ≠ .gnss)
    (hPower : p ≠ .power) :
    part p (resState s (execOpDomainPower c found s)) = part p s := by
  refine part_live ?_
  simp [hTime, hGnss, hPower]

/-! ### Boot.lean -/

@[simp] theorem part_execBoot (b) (s : State) (hSecurity : p ≠ .security) :
    part p (resState s (execBoot b s)) = part p s := by simp [execBoot, resState, hSecurity]

@[simp] theorem part_execFirmwareStart (s : State) (hSecurity : p ≠ .security) (hHealth : p ≠ .health) :
    part p (resState s (execFirmwareStart s)) = part p s := by simp [hSecurity, hHealth, execFirmwareStart]

@[simp] theorem part_execTowerTrainingDone (ok found) (s : State) (hSecurity : p ≠ .security) :
    part p (resState s (execTowerTrainingDone ok found s)) = part p s := by
  refine part_live ?_
  simp [hSecurity, part_foldl]

@[simp] theorem part_execBootReady (s : State) (hSecurity : p ≠ .security) :
    part p (resState s (execBootReady s)) = part p s := by simp [hSecurity, execBootReady]

@[simp] theorem part_execOpFwUpdateBegin (c) (s : State) :
    part p (resState s (execOpFwUpdateBegin c s)) = part p s := by simp [execOpFwUpdateBegin]

@[simp] theorem part_execOpFwUpdateData (c) (s : State) (hSecurity : p ≠ .security) :
    part p (resState s (execOpFwUpdateData c s)) = part p s := by
  refine part_live (part_plainOp _ _ _ fun k => ?_)
  split <;> simp [hSecurity]

@[simp] theorem part_execOpFwUpdateCommit (c) (s : State) (hSecurity : p ≠ .security) (hHealth : p ≠ .health) :
    part p (resState s (execOpFwUpdateCommit c s)) = part p s := by
  refine part_live (part_runOp _ _ _ fun k => ?_)
  split <;> simp [hSecurity, hHealth]

@[simp] theorem part_execOpLifecycleAdvance (c) (s : State) (hSecurity : p ≠ .security) :
    part p (resState s (execOpLifecycleAdvance c s)) = part p s := by
  refine part_live (part_runOp _ _ _ fun k => ?_)
  dsimp only
  split
  · split <;> simp [hSecurity]
  · split <;> simp [hSecurity]

@[simp] theorem part_execOpLifecycleStatus (c) (s : State) (hSecurity : p ≠ .security) :
    part p (resState s (execOpLifecycleStatus c s)) = part p s := by
  refine part_live (part_runOp _ _ _ fun k => ?_)
  simp [hSecurity]

@[simp] theorem part_execOpAttest (c) (s : State) : part p (resState s (execOpAttest c s)) = part p s := by
  simp [execOpAttest]

@[simp] theorem part_execTamper (ns) (s : State) (hSecurity : p ≠ .security) :
    part p (resState s (execTamper ns s)) = part p s := by simp [hSecurity, execTamper]

@[simp] theorem part_execTamperNRelease (s : State) (hSecurity : p ≠ .security) :
    part p (resState s (execTamperNRelease s)) = part p s := by simp [hSecurity, execTamperNRelease]

@[simp] theorem part_execJtagInstruction (i) (s : State) (hSecurity : p ≠ .security) :
    part p (resState s (execJtagInstruction i s)) = part p s := by simp [hSecurity, execJtagInstruction]

/-! ### Dump.lean -/

@[simp] theorem part_execHeartbeat (check) (s : State) (hHealth : p ≠ .health) :
    part p (resState s (execHeartbeat check s)) = part p s := by
  refine part_live ?_
  split <;> simp [hHealth]

@[simp] theorem part_execOpHeartbeatConfig (c) (s : State) (hHealth : p ≠ .health) :
    part p (resState s (execOpHeartbeatConfig c s)) = part p s := by
  refine part_live (part_runOp _ _ _ fun k => ?_)
  simp [hHealth]

@[simp] theorem part_execOpDump (c) (s : State) : part p (resState s (execOpDump c s)) = part p s := by
  simp [execOpDump]

@[simp] theorem part_execCapture (s : State) (hHealth : p ≠ .health) :
    part p (resState s (execCapture s)) = part p s := by simp [hHealth, execCapture]

@[simp] theorem part_execFreeze (s : State) : part p (resState s (execFreeze s)) = part p s := by simp [execFreeze]

@[simp] theorem part_execCaptureDone (s : State) (hHealth : p ≠ .health) :
    part p (resState s (execCaptureDone s)) = part p s := by simp [hHealth, execCaptureDone]

/-! ### HostLink.lean -/

@[simp] theorem part_execHostLinkTrain (port cfg) (s : State) :
    part p (resState s (execHostLinkTrain port cfg s)) = part p s := by simp [execHostLinkTrain]

@[simp] theorem part_execHostLinkDown (s : State) : part p (resState s (execHostLinkDown s)) = part p s := by
  simp [execHostLinkDown]

@[simp] theorem part_execBar0BadAccess (off write size) (s : State) :
    part p (resState s (execBar0BadAccess off write size s)) = part p s := by simp [execBar0BadAccess]

@[simp] theorem part_execBar4Read (off len errs) (s : State) :
    part p (resState s (execBar4Read off len errs s)) = part p s := by simp [execBar4Read]

@[simp] theorem part_execBar4Write (off data ep errs) (s : State) :
    part p (resState s (execBar4Write off data ep errs s)) = part p s := by simp [execBar4Write]

@[simp] theorem part_execCxlMemRead (dpa err) (s : State) :
    part p (resState s (execCxlMemRead dpa err s)) = part p s := by simp [execCxlMemRead]

@[simp] theorem part_execCxlMemWrite (dpa data poison err) (s : State) :
    part p (resState s (execCxlMemWrite dpa data poison err s)) = part p s := by simp [execCxlMemWrite]

@[simp] theorem part_execBar4Resize (size) (s : State) : part p (resState s (execBar4Resize size s)) = part p s := by
  simp [execBar4Resize]

@[simp] theorem part_execMsixUnmask (what) (s : State) : part p (resState s (execMsixUnmask what s)) = part p s := by
  refine part_live ?_
  split <;> simp

@[simp] theorem part_execMsixGapEnd (v) (s : State) : part p (resState s (execMsixGapEnd v s)) = part p s := by
  simp [execMsixGapEnd]

@[simp] theorem part_execIntStatusClear (val) (s : State) :
    part p (resState s (execIntStatusClear val s)) = part p s := by simp [execIntStatusClear]

@[simp] theorem part_execIntEnableWrite (val) (s : State) :
    part p (resState s (execIntEnableWrite val s)) = part p s := by simp [execIntEnableWrite]

@[simp] theorem part_execOpCoherenceMode (c) (s : State) :
    part p (resState s (execOpCoherenceMode c s)) = part p s := by simp [execOpCoherenceMode]

@[simp] theorem part_execAtsInvalidation (addr size pasid) (s : State) :
    part p (resState s (execAtsInvalidation addr size pasid s)) = part p s := by simp [execAtsInvalidation]

/-! ### MailboxOps.lean -/

@[simp] theorem part_execOpNop (c) (s : State) : part p (resState s (execOpNop c s)) = part p s := by simp [execOpNop]

@[simp] theorem part_execOpGetInfo (c) (s : State) : part p (resState s (execOpGetInfo c s)) = part p s := by
  simp [execOpGetInfo]

@[simp] theorem part_execOpMbxGrant (c) (s : State) : part p (resState s (execOpMbxGrant c s)) = part p s := by
  simp [execOpMbxGrant]

@[simp] theorem part_execOpEventRing (c) (s : State) : part p (resState s (execOpEventRing c s)) = part p s := by
  simp [execOpEventRing]

@[simp] theorem part_execOpErrorLog (c) (s : State) : part p (resState s (execOpErrorLog c s)) = part p s := by
  refine part_live (part_runOp _ _ _ fun k => ?_)
  simp

@[simp] theorem part_execOpHealthSummary (c) (s : State) :
    part p (resState s (execOpHealthSummary c s)) = part p s := by simp [execOpHealthSummary]

/-! ### TableOps.lean -/

@[simp] theorem part_execOpTableCreate (c) (s : State) : part p (resState s (execOpTableCreate c s)) = part p s := by
  simp [execOpTableCreate]

@[simp] theorem part_execOpTableDestroy (c) (s : State) :
    part p (resState s (execOpTableDestroy c s)) = part p s := by simp [execOpTableDestroy]

@[simp] theorem part_execOpTableEpochAt (c) (s : State) :
    part p (resState s (execOpTableEpochAt c s)) = part p s := by
  refine part_live ?_
  split <;> simp

@[simp] theorem part_execOpUpdateStreamOpen (c) (s : State) :
    part p (resState s (execOpUpdateStreamOpen c s)) = part p s := by simp [execOpUpdateStreamOpen]

@[simp] theorem part_execOpUpdateStreamClose (c) (s : State) :
    part p (resState s (execOpUpdateStreamClose c s)) = part p s := by simp [execOpUpdateStreamClose]

@[simp] theorem part_execOpTableStats (c) (s : State) : part p (resState s (execOpTableStats c s)) = part p s := by
  refine part_live ?_
  split <;> simp

/-! ### HostReads.lean -/

@[simp] theorem part_execHostReadCompletion (tag data) (s : State) (hTime : p ≠ .time) (hCal : p ≠ .cal) :
    part p (resState s (execHostReadCompletion tag data s)) = part p s := by
  refine part_live ?_
  split <;> simp [hTime, hCal]

@[simp] theorem part_execAtsTranslationCompletion (id resp) (s : State) (hTime : p ≠ .time) (hCal : p ≠ .cal) :
    part p (resState s (execAtsTranslationCompletion id resp s)) = part p s := by
  refine part_live ?_
  split <;> simp [hTime, hCal]

@[simp] theorem part_execCompletionTimeout (tag) (s : State) (hTime : p ≠ .time) (hCal : p ≠ .cal) :
    part p (resState s (execCompletionTimeout tag s)) = part p s := by
  refine part_live ?_
  dsimp only
  repeat' split
  all_goals simp [hTime, hCal]

/-! ### MailboxFlow.lean -/

@[simp] theorem part_execMbxDoorbell (c val) (s : State) :
    part p (resState s (execMbxDoorbell c val s)) = part p s := by simp [execMbxDoorbell]

@[simp] theorem part_execMbxStatusClear (c val) (s : State) :
    part p (resState s (execMbxStatusClear c val s)) = part p s := by simp [execMbxStatusClear]

@[simp] theorem part_execMbxAck (c) (s : State) : part p (resState s (execMbxAck c s)) = part p s := by
  simp [execMbxAck]

@[simp] theorem part_execSolpReq (msg pecOk) (s : State) :
    part p (resState s (execSolpReq msg pecOk s)) = part p s := by simp [execSolpReq]

@[simp] theorem part_execSolpStat (s : State) : part p (resState s (execSolpStat s)) = part p s := by
  simp [execSolpStat]

@[simp] theorem part_execOpMbxReset (c) (s : State) (hTime : p ≠ .time) (hCal : p ≠ .cal) :
    part p (resState s (execOpMbxReset c s)) = part p s := by
  refine part_live (part_runOp _ _ _ fun k => ?_)
  simp [hTime, hCal]

@[simp] theorem part_execMaxFirmwareTimeExpiry (c) (s : State) (hTime : p ≠ .time) (hCal : p ≠ .cal) :
    part p (resState s (execMaxFirmwareTimeExpiry c s)) = part p s := by
  refine part_live ?_
  split <;> simp [hTime, hCal]

@[simp] theorem part_execFwUpdateSessionTimeout (s : State) :
    part p (resState s (execFwUpdateSessionTimeout s)) = part p s := by simp [execFwUpdateSessionTimeout]

/-! ### Matrix.lean -/

@[simp] theorem part_execMmLoad (n op) (s : State) : part p (resState s (execMmLoad n op s)) = part p s := by
  simp [execMmLoad]

@[simp] theorem part_execMmRun (n op bad) (s : State) : part p (resState s (execMmRun n op bad s)) = part p s := by
  refine part_live ?_
  split <;> simp

/-! ### Router.lean -/

@[simp] theorem part_execPacketForward (i) (s : State) : part p (resState s (execPacketForward i s)) = part p s := by
  refine part_live ?_
  dsimp only
  repeat' split
  all_goals simp

/-! ### Remote.lean -/

@[simp] theorem part_execRatlineRead (i) (s : State) : part p (resState s (execRatlineRead i s)) = part p s := by
  refine part_live ((part_peerEnd _ _ _ fun _ _ _ => by simp).trans ?_)
  refine part_incoming _ _ _ (fun _ _ => by simp) fun _ _ => ?_
  dsimp only
  split <;> simp

@[simp] theorem part_execRatlineWrite (i) (s : State) : part p (resState s (execRatlineWrite i s)) = part p s := by
  refine part_live ((part_peerEnd _ _ _ fun _ _ _ => by simp).trans ?_)
  refine part_incoming _ _ _ (fun _ _ => by simp) fun _ _ => ?_
  dsimp only
  split <;> simp

@[simp] theorem part_execRatlineAdd (i) (s : State) : part p (resState s (execRatlineAdd i s)) = part p s := by
  refine part_live ((part_peerEnd _ _ _ fun _ _ _ => by simp).trans ?_)
  refine part_incoming _ _ _ (fun _ _ => by simp) fun _ _ => ?_
  dsimp only
  split
  · simp
  · split <;> simp

@[simp] theorem part_execRatlineAddUpdateForm (i) (s : State) :
    part p (resState s (execRatlineAddUpdateForm i s)) = part p s := by
  refine part_live (part_incoming _ _ _ (fun _ _ => by simp) fun _ _ => ?_)
  split <;> simp

@[simp] theorem part_execRatlineSignal (i) (s : State) : part p (resState s (execRatlineSignal i s)) = part p s := by
  refine part_live (part_incoming _ _ _ (fun _ _ => by simp) fun _ _ => ?_)
  dsimp only
  repeat' split
  all_goals simp

@[simp] theorem part_execRatlineLookup (i) (s : State) : part p (resState s (execRatlineLookup i s)) = part p s := by
  refine part_live (part_incoming _ _ _ (fun _ _ => by simp) fun _ _ => ?_)
  dsimp only
  repeat' split
  all_goals simp

@[simp] theorem part_execAck (i) (s : State) : part p (resState s (execAck i s)) = part p s := by simp [execAck]

@[simp] theorem part_execReadData (i) (s : State) : part p (resState s (execReadData i s)) = part p s := by
  simp [execReadData]

@[simp] theorem part_execPooled (i) (s : State) : part p (resState s (execPooled i s)) = part p s := by
  simp [execPooled]

@[simp] theorem part_execRefused (i) (s : State) : part p (resState s (execRefused i s)) = part p s := by
  simp [execRefused]

@[simp] theorem part_execRemoteTimeoutFire (tag) (s : State) :
    part p (resState s (execRemoteTimeoutFire tag s)) = part p s := by
  refine part_live ?_
  split <;> simp

/-! ### Reset.lean -/

@[simp] theorem part_execFlr (s : State) (hTime : p ≠ .time) (hCal : p ≠ .cal) (hHealth : p ≠ .health) :
    part p (resState s (execFlr s)) = part p s := by simp [hTime, hCal, hHealth, execFlr]

@[simp] theorem part_execPerstNAssert (s : State) (hTime : p ≠ .time) (hCal : p ≠ .cal) (hHealth : p ≠ .health) :
    part p (resState s (execPerstNAssert s)) = part p s := by simp [hTime, hCal, hHealth, execPerstNAssert]

@[simp] theorem part_execOpChipReset (c) (s : State) (hTime : p ≠ .time) (hCal : p ≠ .cal) (hHealth : p ≠ .health) :
    part p (resState s (execOpChipReset c s)) = part p s := by
  refine part_live (part_runOp _ _ _ fun k => ?_)
  simp [hTime, hCal, hHealth]

@[simp] theorem part_execWarmReset (s : State) (hSecurity : p ≠ .security) (hHealth : p ≠ .health)
    (hPower : p ≠ .power) :
    part p (resState s (execWarmReset s)) = part p s := by
  refine part_live ?_
  dsimp only
  repeat' split
  all_goals simp [hSecurity, hHealth, hPower]

/-! ### SeqAlu.lean -/

@[simp] theorem part_execSeqAdd (n t) (s : State) : part p (resState s (execSeqAdd n t s)) = part p s := by
  simp [execSeqAdd]

@[simp] theorem part_execSeqSub (n t) (s : State) : part p (resState s (execSeqSub n t s)) = part p s := by
  simp [execSeqSub]

@[simp] theorem part_execSeqAnd (n t) (s : State) : part p (resState s (execSeqAnd n t s)) = part p s := by
  simp [execSeqAnd]

@[simp] theorem part_execSeqOr (n t) (s : State) : part p (resState s (execSeqOr n t s)) = part p s := by
  simp [execSeqOr]

@[simp] theorem part_execSeqXor (n t) (s : State) : part p (resState s (execSeqXor n t s)) = part p s := by
  simp [execSeqXor]

@[simp] theorem part_execSeqSll (n t) (s : State) : part p (resState s (execSeqSll n t s)) = part p s := by
  simp [execSeqSll]

@[simp] theorem part_execSeqSrl (n t) (s : State) : part p (resState s (execSeqSrl n t s)) = part p s := by
  simp [execSeqSrl]

@[simp] theorem part_execSeqSra (n t) (s : State) : part p (resState s (execSeqSra n t s)) = part p s := by
  simp [execSeqSra]

@[simp] theorem part_execSeqSlt (n t) (s : State) : part p (resState s (execSeqSlt n t s)) = part p s := by
  simp [execSeqSlt]

@[simp] theorem part_execSeqSltu (n t) (s : State) : part p (resState s (execSeqSltu n t s)) = part p s := by
  simp [execSeqSltu]

@[simp] theorem part_execSeqMin (n t) (s : State) : part p (resState s (execSeqMin n t s)) = part p s := by
  simp [execSeqMin]

@[simp] theorem part_execSeqMax (n t) (s : State) : part p (resState s (execSeqMax n t s)) = part p s := by
  simp [execSeqMax]

@[simp] theorem part_execSeqMinu (n t) (s : State) : part p (resState s (execSeqMinu n t s)) = part p s := by
  simp [execSeqMinu]

@[simp] theorem part_execSeqMaxu (n t) (s : State) : part p (resState s (execSeqMaxu n t s)) = part p s := by
  simp [execSeqMaxu]

@[simp] theorem part_execSeqAddi (n t) (s : State) : part p (resState s (execSeqAddi n t s)) = part p s := by
  simp [execSeqAddi]

@[simp] theorem part_execSeqAndi (n t) (s : State) : part p (resState s (execSeqAndi n t s)) = part p s := by
  simp [execSeqAndi]

@[simp] theorem part_execSeqOri (n t) (s : State) : part p (resState s (execSeqOri n t s)) = part p s := by
  simp [execSeqOri]

@[simp] theorem part_execSeqXori (n t) (s : State) : part p (resState s (execSeqXori n t s)) = part p s := by
  simp [execSeqXori]

@[simp] theorem part_execSeqSlli (n t) (s : State) : part p (resState s (execSeqSlli n t s)) = part p s := by
  simp [execSeqSlli]

@[simp] theorem part_execSeqSrli (n t) (s : State) : part p (resState s (execSeqSrli n t s)) = part p s := by
  simp [execSeqSrli]

@[simp] theorem part_execSeqSrai (n t) (s : State) : part p (resState s (execSeqSrai n t s)) = part p s := by
  simp [execSeqSrai]

@[simp] theorem part_execSeqMfpl (n t) (s : State) : part p (resState s (execSeqMfpl n t s)) = part p s := by
  simp [execSeqMfpl]

@[simp] theorem part_execSeqMfph (n t) (s : State) : part p (resState s (execSeqMfph n t s)) = part p s := by
  simp [execSeqMfph]

@[simp] theorem part_execSeqMflk (n t) (s : State) : part p (resState s (execSeqMflk n t s)) = part p s := by
  simp [execSeqMflk]

@[simp] theorem part_execSeqLui (n t) (s : State) : part p (resState s (execSeqLui n t s)) = part p s := by
  simp [execSeqLui]

@[simp] theorem part_execSeqMul (n t) (s : State) : part p (resState s (execSeqMul n t s)) = part p s := by
  simp [execSeqMul]

@[simp] theorem part_execSeqMulu (n t) (s : State) : part p (resState s (execSeqMulu n t s)) = part p s := by
  simp [execSeqMulu]

@[simp] theorem part_execProductLand (n t) (s : State) : part p (resState s (execProductLand n t s)) = part p s := by
  simp [execProductLand]

@[simp] theorem part_execSeqMtlk (n t) (s : State) : part p (resState s (execSeqMtlk n t s)) = part p s := by
  simp [execSeqMtlk]

@[simp] theorem part_execSeqRdtime (n t) (s : State) : part p (resState s (execSeqRdtime n t s)) = part p s := by
  simp [execSeqRdtime]

/-! ### SeqFlow.lean -/

@[simp] theorem part_execSeqJ (n t) (s : State) : part p (resState s (execSeqJ n t s)) = part p s := by
  refine part_live (part_seqDo _ _ _ _ fun _ _ => ?_)
  simp

@[simp] theorem part_execSeqCall (n t) (s : State) : part p (resState s (execSeqCall n t s)) = part p s := by
  refine part_live (part_seqDo _ _ _ _ fun _ _ => ?_)
  simp

@[simp] theorem part_execSeqJr (n t) (s : State) : part p (resState s (execSeqJr n t s)) = part p s := by
  refine part_live (part_seqDo _ _ _ _ fun _ _ => ?_)
  simp

@[simp] theorem part_execSeqCallr (n t) (s : State) : part p (resState s (execSeqCallr n t s)) = part p s := by
  refine part_live (part_seqDo _ _ _ _ fun _ _ => ?_)
  simp

@[simp] theorem part_execSeqRet (n t) (s : State) : part p (resState s (execSeqRet n t s)) = part p s := by
  simp [execSeqRet]

@[simp] theorem part_execSeqBeq (n t) (s : State) : part p (resState s (execSeqBeq n t s)) = part p s := by
  simp [execSeqBeq]

@[simp] theorem part_execSeqBne (n t) (s : State) : part p (resState s (execSeqBne n t s)) = part p s := by
  simp [execSeqBne]

@[simp] theorem part_execSeqBlt (n t) (s : State) : part p (resState s (execSeqBlt n t s)) = part p s := by
  simp [execSeqBlt]

@[simp] theorem part_execSeqBge (n t) (s : State) : part p (resState s (execSeqBge n t s)) = part p s := by
  simp [execSeqBge]

@[simp] theorem part_execSeqBltu (n t) (s : State) : part p (resState s (execSeqBltu n t s)) = part p s := by
  simp [execSeqBltu]

@[simp] theorem part_execSeqBgeu (n t) (s : State) : part p (resState s (execSeqBgeu n t s)) = part p s := by
  simp [execSeqBgeu]

@[simp] theorem part_execSeqSpb (n t) (s : State) : part p (resState s (execSeqSpb n t s)) = part p s := by
  refine part_live (part_seqHeld _ _ _ _ fun _ _ => ?_)
  simp

@[simp] theorem part_execSeqCdrain (n t) (s : State) : part p (resState s (execSeqCdrain n t s)) = part p s := by
  simp [execSeqCdrain]

@[simp] theorem part_execSeqHalt (n t) (s : State) : part p (resState s (execSeqHalt n t s)) = part p s := by
  simp [execSeqHalt]

@[simp] theorem part_execSeqBrk (n t) (s : State) : part p (resState s (execSeqBrk n t s)) = part p s := by
  refine part_live (part_seqHeld _ _ _ _ fun _ _ => ?_)
  simp

/-! ### SeqMem.lean -/

@[simp] theorem part_execSeqLd (n t) (s : State) : part p (resState s (execSeqLd n t s)) = part p s := by
  simp [execSeqLd]

@[simp] theorem part_execSeqLw (n t) (s : State) : part p (resState s (execSeqLw n t s)) = part p s := by
  simp [execSeqLw]

@[simp] theorem part_execSeqLbu (n t) (s : State) : part p (resState s (execSeqLbu n t s)) = part p s := by
  simp [execSeqLbu]

@[simp] theorem part_execSeqSt (n t) (s : State) : part p (resState s (execSeqSt n t s)) = part p s := by
  simp [execSeqSt]

@[simp] theorem part_execSeqSw (n t) (s : State) : part p (resState s (execSeqSw n t s)) = part p s := by
  simp [execSeqSw]

@[simp] theorem part_execSeqSb (n t) (s : State) : part p (resState s (execSeqSb n t s)) = part p s := by
  simp [execSeqSb]

@[simp] theorem part_execSeqCrr (n t) (s : State) : part p (resState s (execSeqCrr n t s)) = part p s := by
  refine part_live (part_seqDo _ _ _ _ fun _ _ => ?_)
  split <;> simp

@[simp] theorem part_execSeqCrw (n t) (s : State) : part p (resState s (execSeqCrw n t s)) = part p s := by
  simp [execSeqCrw]

@[simp] theorem part_execSeqCop (n t) (s : State) : part p (resState s (execSeqCop n t s)) = part p s := by
  simp [execSeqCop]

@[simp] theorem part_execSeqSrd (n t) (s : State) : part p (resState s (execSeqSrd n t s)) = part p s :=
  part_live (part_seqHeld _ _ _ _ fun _ _ => part_withObj _ _ _ fun _ => rfl)

@[simp] theorem part_execSeqSig (n t) (s : State) : part p (resState s (execSeqSig n t s)) = part p s := by
  refine part_live (part_seqHeld _ _ _ _ fun _ _ => ?_)
  simp

@[simp] theorem part_execSeqSset (n t) (s : State) : part p (resState s (execSeqSset n t s)) = part p s := by
  refine part_live (part_seqHeld _ _ _ _ fun _ _ => ?_)
  simp

@[simp] theorem part_execSeqWarm (n t) (s : State) : part p (resState s (execSeqWarm n t s)) = part p s :=
  part_live (part_seqHeld _ _ _ _ fun _ _ => part_arm _ _ _ _ _ _ fun _ h => h)

@[simp] theorem part_execSeqWblk (n t) (s : State) : part p (resState s (execSeqWblk n t s)) = part p s := by
  simp [execSeqWblk]

@[simp] theorem part_execSeqWait (n t) (s : State) : part p (resState s (execSeqWait n t s)) = part p s := by
  refine part_live (part_seqHeld _ _ _ _ fun _ _ => ?_)
  split
  · simp
  · exact part_arm _ _ _ _ _ _ fun u h => by simp [h]

end

end Sys2Proof.Machine

/-! ## 00: writes of BAR0, and the commands that keep a part of the state (O57) -/

namespace Sys2Proof.Machine

section
variable {p : StatePart}

theorem part_writeMbx (s : State) (off v) : part p (writeMbx s off v) = part p s := by
  unfold writeMbx
  dsimp only
  split
  · simp
  · split <;> simp

theorem part_writeRq (s : State) (o v) : part p (writeRq s o v) = part p s := by
  unfold writeRq
  dsimp only
  repeat' split
  all_goals simp

/-- A write of DBG that asks for no cold reset; one of DBG_CTRL (15 R370) may start a capture. -/
theorem part_writeDbg (s : State) {o : Nat} (v) (hCold : o ≠ 8) (hCapture : o = 0 → p ≠ .health) :
    part p (writeDbg s o v) = part p s := by
  unfold writeDbg
  split
  · next h =>
    have hHealth := hCapture h
    dsimp only
    repeat' split
    all_goals simp [hHealth]
  · simp

theorem part_writeReg (s : State) {off : Nat} (v) (hCold : off ≠ 0xC0008) (hCapture : off = 0xC0000 → p ≠ .health) :
    part p (writeReg s off v) = part p s := by
  unfold writeReg
  split
  · exact part_writeMbx _ _ _
  · split
    · simp
    · split
      · simp
      · split
        · exact part_writeRq _ _ _
        · split
          · next h =>
            simp at h
            exact part_writeDbg _ _ (by omega) fun e => hCapture (by omega)
          · simp

theorem part_execBar0WritePlain (off) (wide : Bool) (val) (s : State) (hCold : wide = true → off ≠ 0xC0008)
    (hCapture : wide = true → off = 0xC0000 → p ≠ .health) :
    part p (resState s (execBar0WritePlain off wide val s)) = part p s := by
  refine part_barWrite ?_
  cases wide with
  | false =>
    simp only [Bool.false_eq_true, ↓reduceIte]
    split <;> simp
  | true =>
    simp only [↓reduceIte]
    split
    · rfl
    · next h =>
      simp at h
      exact (part_writeReg _ _ (by omega) (by omega)).trans (part_writeReg _ _ (hCold rfl) (hCapture rfl))

/-- The list of O57 for each part. -/
def changesPart (i : Instr) : StatePart → Bool
  | .time => i.changesTime
  | .cal => i.changesCal
  | .gnss => i.changesGnss
  | .security => i.changesSecurity
  | .health => i.changesHealth
  | .power => i.changesPower
  | .bridles => i.changesBridles

theorem ne_of_changes {i : Instr} (h : changesPart i p = false) (q : StatePart) (w : changesPart i q = true) :
    p ≠ q := by
  rintro rfl
  simp [h] at w

/-- A command keeps each part whose list does not name it. -/
theorem part_exec {i : Instr} (s : State) (h : changesPart i p = false) :
    part p (resState s (exec i s)) = part p s := by
  cases i with
  | tbSnapLatch | sourceTakeover | lock24hSet | leapSecond | ppsOutRise | ppsOutFall | timeSetTimeout |
    tbSlewingClear =>
    simp [exec, ne_of_changes h .time rfl]
  | gnssQualify | gnssDisqualify | ppsInEdge | ref10mLoss | exchangeIntervalMissed | timesyncExchangeStart |
    sync | delayResp | opTimeConfig | opTimeSet | opMbxReset | completionTimeout | hostReadCompletion |
    atsTranslationCompletion | nakFlit | ratlineLinkLoss | opLinkDown | ppsInMissing | maxFirmwareTimeExpiry =>
    simp [exec, ne_of_changes h .time rfl, ne_of_changes h .cal rfl]
  | calLoopbacksDone =>
    simp [exec, ne_of_changes h .time rfl, ne_of_changes h .cal rfl, ne_of_changes h .gnss rfl,
      ne_of_changes h .security rfl]
  | refPresenceDecided | frequencyGateEnd =>
    simp [exec, ne_of_changes h .time rfl, ne_of_changes h .cal rfl, ne_of_changes h .security rfl]
  | flr | perstNAssert | opChipReset =>
    simp [exec, ne_of_changes h .time rfl, ne_of_changes h .cal rfl, ne_of_changes h .health rfl]
  | measurementEpoch | opGnssAssist =>
    simp [exec, ne_of_changes h .time rfl, ne_of_changes h .gnss rfl]
  | opDomainPower =>
    simp [exec, ne_of_changes h .time rfl, ne_of_changes h .gnss rfl, ne_of_changes h .power rfl]
  | frequencyGateStart | opCalRead | calSlewingClear =>
    simp [exec, ne_of_changes h .cal rfl]
  | opCalRun =>
    simp [exec, ne_of_changes h .cal rfl, ne_of_changes h .security rfl]
  | samplePortFault | samplePortFaultClear | sampleTimeTag | search | verify | pullInLock | pullInTimeout |
    trackLoss | searchListReturn | coherentIntervalEnd | syncEventVerified | cn0Expire | surveyComplete |
    holdResidualCheck | opGnssConfig | opGnssSurvey | opGnssPosition | opGnssStream =>
    simp [exec, ne_of_changes h .gnss rfl]
  | stageEnd | boot | bootReady | opFwUpdateData | opLifecycleAdvance | opLifecycleStatus | tamper |
    jtagInstruction | towerTrainingDone | tamperNRelease =>
    simp [exec, ne_of_changes h .security rfl]
  | firmwareStart | opFwUpdateCommit =>
    simp [exec, ne_of_changes h .security rfl, ne_of_changes h .health rfl]
  | warmReset =>
    simp [exec, ne_of_changes h .security rfl, ne_of_changes h .health rfl, ne_of_changes h .power rfl]
  | opHeartbeatConfig | heartbeat | capture | captureDone =>
    simp [exec, ne_of_changes h .health rfl]
  | towerTemperatureChange | opPowerLimit | opBoost | hotspotTemperatureChange | powerSample | pwrCapNChange |
    overcurrent | reefLevelStep =>
    simp [exec, ne_of_changes h .power rfl]
  | opCoreBridle | opCoreUnbridle =>
    simp [exec, ne_of_changes h .bridles rfl]
  | coldReset | dbgColdReqWrite | railUndervoltage => cases p <;> contradiction
  | bar0WritePlain off wide val =>
    refine part_execBar0WritePlain off wide val s (fun w e => ?_) fun w e => ?_
    · subst w e
      cases p <;> contradiction
    · subst w e
      exact ne_of_changes h .health rfl
  | _ => simp [exec]

theorem part_next {i : Instr} {s t : State} (e : exec i s = .next t) (h : changesPart i p = false) :
    part p t = part p s := by
  have k := part_exec s h
  rwa [e] at k

end

/-- Settles O57, part by part: `part_exec` goes through the commands, each by the rule of what it runs. -/
theorem timeAndSecurityFrame : Obligations.TimeAndSecurityFrame := by
  unfold Obligations.TimeAndSecurityFrame
  refine ⟨fun i s t e => ⟨?time, ?cal, ?gnss⟩, fun i s t e => ⟨?security, ?health, ?power, ?bridles⟩⟩
  case time => exact part_next (p := .time) e
  case cal => exact part_next (p := .cal) e
  case gnss => exact part_next (p := .gnss) e
  case security => exact part_next (p := .security) e
  case health => exact part_next (p := .health) e
  case power => exact part_next (p := .power) e
  case bridles => exact part_next (p := .bridles) e

end Sys2Proof.Machine

/-! ## 04: what the operations of the GNSS baseband leave of it (R69 to R93) -/

namespace Sys2Proof.Machine

/-! ### Events (04 R93) -/

theorem Announced.gn {s t : State} (h : Announced s t) : t.gn = s.gn := h.part (p := .gnss)

theorem gnEvent_announced (s : State) (cause set : Nat) (sev : Byte) (residual : Nat) :
    Announced s (gnEvent s cause set sev residual) := .ofEvent s _ _ _

@[simp] theorem gnEvent_gn (s : State) (cause set : Nat) (sev : Byte) (residual : Nat) :
    (gnEvent s cause set sev residual).gn = s.gn := (gnEvent_announced s cause set sev residual).gn

@[simp] theorem norWrite_gn (s : State) (record : Nat) : (norWrite s record).gn = s.gn := (Announced.ofNorWrite s record).gn

/-! ### The search list and the channels -/

/-- Of `s`, only the search list and the channels differ in `t`. -/
def TrackingOnly (s t : State) : Prop := ∃ l v, t = { s with gn := { s.gn with targets := l, chans := v } }

namespace TrackingOnly

theorem refl (s : State) : TrackingOnly s s := ⟨s.gn.targets, s.gn.chans, rfl⟩

theorem trans {s t u : State} (h : TrackingOnly s t) (k : TrackingOnly t u) : TrackingOnly s u := by
  obtain ⟨_, _, rfl⟩ := h
  obtain ⟨l, v, rfl⟩ := k
  exact ⟨l, v, rfl⟩

theorem ofSetTarget (s : State) (sig sv : Byte) (st : Option TargetState) : TrackingOnly s (setTarget s sig sv st) :=
  ⟨_, s.gn.chans, rfl⟩

theorem ofChanLost (s : State) (n : Nat) : TrackingOnly s (chanLost s n) := ⟨_, _, rfl⟩

theorem ofFoldl {α : Type} {f : State → α → State} (hf : ∀ s x, TrackingOnly s (f s x)) (l : List α) (s : State) :
    TrackingOnly s (l.foldl f s) := by
  induction l generalizing s with
  | nil => exact refl s
  | cons x l ih => exact (hf s x).trans (ih _)

theorem ofDropPort (ok : ChanState → Bool) (s : State) (p : Port) : TrackingOnly s (dropPort ok s p) := by
  refine ofFoldl (fun s n => ?_) _ s
  dsimp only
  split
  · exact ofChanLost s n
  · exact refl s

theorem gnPort {s t : State} (h : TrackingOnly s t) (p : Port) : gnPort t p = gnPort s p := by
  obtain ⟨_, _, rfl⟩ := h
  cases p <;> rfl

end TrackingOnly

section Rules
variable (s : State) (sig sv : Byte) (n : Fin 128)

/-- What the search list is told of a target, it holds. -/
@[simp] theorem targetState_setTarget (st : Option TargetState) : targetState (setTarget s sig sv st) sig sv = st := by
  cases st with
  | some x => simp [targetState, setTarget]
  | none =>
    simp only [targetState, setTarget, Option.map_eq_none_iff, List.find?_eq_none, List.mem_filter]
    rintro x ⟨_, other⟩ here
    rw [here] at other
    cases other

/-- The search list is no matter of the channels. -/
theorem targetState_chans (v : Vector GnChan 128) :
    targetState { s with gn := { s.gn with chans := v } } sig sv = targetState s sig sv := rfl

@[simp] theorem targetState_gnMirror : targetState (gnMirror s) sig sv = targetState s sig sv := rfl

theorem vget_chans (d : GnChan) : vget s.gn.chans n d = gnChan s n := by simp [vget, gnChan]

@[simp] theorem gnChan_gnMirror : gnChan (gnMirror s) n = gnChan s n := rfl

@[simp] theorem gnChan_modGnChan (f : GnChan → GnChan) : gnChan (modGnChan s n f) n = f (gnChan s n) := by
  simp [gnChan, modGnChan]

theorem gnChan_vmod (f : GnChan → GnChan) :
    gnChan { s with gn := { s.gn with chans := vmod s.gn.chans n f } } n = f (gnChan s n) :=
  (getElem_vmod s.gn.chans n f n).trans (if_pos rfl)

/-- A lost channel is free, and its signal heads the list for 5 s with its last state (04 R75). -/
theorem chanLost_loses : gnChan (chanLost s n) n = GnChan.reset ∧
    targetState (chanLost s n) (gnChan s n).sig (gnChan s n).sv = some (.first (s.tb.up + nsUp 5000000000)
      (doppBin (gnChan s n).doppler.toInt) (phaseSample (signalOf (gnChan s n).sig.toNat) (gnChan s n).codePh)) := by
  constructor
  · exact gnChan_vmod (setTarget s _ _ _) n fun _ => GnChan.reset
  · rw [← vget_chans s n GnChan.reset]
    exact (targetState_chans _ _ _ _).trans (targetState_setTarget s _ _ _)

theorem targetState_occupy (n : Nat) (bin : Int) (ph : Nat) : targetState (occupy s n sig sv bin ph) sig sv = some .onChannel :=
  targetState_setTarget s sig sv (some .onChannel)

/-- A candidate is on its channel, in PULL_IN, from now on (04 R75). -/
theorem occupy_occupies (bin : Int) (ph : Nat) : targetState (occupy s n sig sv bin ph) sig sv = some .onChannel ∧
    (gnChan (occupy s n sig sv bin ph) n).state = .pullIn ∧ (gnChan (occupy s n sig sv bin ph) n).sig = sig ∧
      (gnChan (occupy s n sig sv bin ph) n).sv = sv ∧ (gnChan (occupy s n sig sv bin ph) n).since = s.tb.up ∧
        (gnChan (occupy s n sig sv bin ph) n).doppler = BitVec.ofInt 32 (bin * 128000) := by
  have chan : gnChan (occupy s n sig sv bin ph) n = _ := gnChan_vmod (setTarget s sig sv (some .onChannel)) n _
  rw [chan]
  exact ⟨targetState_occupy s sig sv n bin ph, rfl, rfl, rfl, rfl, rfl⟩

end Rules

section Ports
variable (s : State) (p : Port)

@[simp] theorem gnPort_modPort (f : GnPort → GnPort) : gnPort (modPort s p f) p = f (gnPort s p) := by
  cases p <;> rfl

@[simp] theorem gnPort_gnMirror : gnPort (gnMirror s) p = gnPort s p := by
  cases p <;> rfl

theorem gnPort_of_gn {s t : State} (h : t.gn = s.gn) : gnPort t p = gnPort s p := by
  cases p <;> simp [gnPort, h]

@[simp] theorem gnPort_gnEvent (cause set : Nat) (sev : Byte) (residual : Nat) :
    gnPort (gnEvent s cause set sev residual) p = gnPort s p := gnPort_of_gn p (gnEvent_gn s cause set sev residual)

@[simp] theorem gnPort_dropPort (ok : ChanState → Bool) (q : Port) : gnPort (dropPort ok s q) p = gnPort s p :=
  (TrackingOnly.ofDropPort ok s q).gnPort p

end Ports

end Sys2Proof.Machine

/-! ## 04: sample ports, and the search list (the statement of O5) -/

namespace Sys2Proof.Machine

/-! ### Ports (04 R69, R71) -/

section Ports
variable {s : State} {p : Port} (on : domainOn s 1 = true)
include on

/-- A fault of a port, seen again or new, stands from now on. -/
theorem portFault_faults {noEdge : Bool} {dev : Nat} (out : (noEdge || (s.gn.cfg.fsHz != 0 && 100 < dev)) = true) :
    (gnPort (portFault p noEdge dev s) p).fault = true ∧ (gnPort (portFault p noEdge dev s) p).badAt = s.tb.up := by
  have seen : gnPort (portFault p noEdge dev s) p = { gnPort s p with fault := true, badAt := s.tb.up } := by
    simp only [portFault, on, out, Bool.not_true, Bool.false_eq_true, if_false, if_true]
    split <;> simp
  rw [seen]
  exact ⟨rfl, rfl⟩

theorem portClear_clears (bad : (gnPort s p).fault = true) (fs : s.gn.cfg.fsHz ≠ 0)
    (h : (gnPort s p).badAt + nsUp 100000000 ≤ s.tb.up) : (gnPort (portClear p s) p).fault = false := by
  have configured : (s.gn.cfg.fsHz != 0) = true := bne_iff_ne.mpr fs
  rw [portClear, if_pos (by simp only [on, bad, configured, since, h, decide_true, Bool.and_self])]
  simp

theorem timeTag_tags (fs : s.gn.cfg.fsHz ≠ 0) : (gnPort (timeTag p s) p).tags = (gnPort s p).tags + 1 ∧
    (gnPort (timeTag p s) p).tagDt = dt80 s ∧ (gnPort (timeTag p s) p).prevDt = (gnPort s p).tagDt := by
  rw [timeTag, if_neg (by simp only [fs, on, decide_false, Bool.not_true, Bool.or_self, Bool.false_eq_true, not_false_eq_true]),
    gnPort_modPort]
  exact ⟨rfl, rfl, rfl⟩

end Ports

/-! ### A target's number: its signal times 256 plus its satellite -/

theorem sig_of_target (sig sv : Byte) : BitVec.ofNat 8 ((256 * sig.toNat + sv.toNat) / 256) = sig := by
  have := sv.isLt
  rw [show (256 * sig.toNat + sv.toNat) / 256 = sig.toNat by omega, BitVec.ofNat_toNat, BitVec.setWidth_eq]

theorem sv_of_target (sig sv : Byte) : BitVec.ofNat 8 (256 * sig.toNat + sv.toNat) = sv := by
  apply BitVec.eq_of_toNat_eq
  have := sv.isLt
  rw [BitVec.toNat_ofNat]
  omega

/-! ### Free values -/

/-- The state with the free values below number `k` drawn. -/
def drawn (s : State) (k : Nat) : State := { s with freeCtr := k }

theorem takeFree_eq (s : State) : takeFree s = (Config.freeNat s.freeCtr, drawn s (s.freeCtr + 1)) := rfl

theorem drawn_drawn (s : State) (j k : Nat) : drawn (drawn s j) k = drawn s k := rfl

/-! ### SEARCH (04 R73 to R75) -/

section Search
variable {s : State} {sig sv : Byte}

/-- Choosing its window, a search changes nothing but draws free values. -/
theorem searchWindow_draws (s : State) (sig sv : Byte) : ∃ k, (searchWindow s sig sv).2 = drawn s k := by
  unfold searchWindow
  split
  · exact ⟨s.freeCtr, rfl⟩
  · split
    · exact ⟨s.freeCtr, rfl⟩
    · dsimp only
      split
      · simp only [takeFree_eq, drawn_drawn]
        exact ⟨_, rfl⟩
      · exact ⟨s.freeCtr, rfl⟩

/-- Of a target that is on the list, or heads it, a search may run (04 R75). -/
theorem searchEnd_eq (bins : List BinSamples)
    (run : targetState s sig sv = none ∧ anyFirst s = false ∨ ∃ x b ph, targetState s sig sv = some (.first x b ph))
    (usable : sigUsable s sig.toNat = true) (list : listed s sig sv = true) : ∃ (k : Nat) (z : Bool),
    searchEnd (256 * sig.toNat + sv.toNat) bins s = setTarget (drawn s k) sig sv
      (some (match candidate (drawn s k) sig sv (searchWindow s sig sv).1 z bins with
        | some c => .verifying c.1 c.2
        | none => .excluded (s.tb.up + nsUp 10000000000))) := by
  obtain ⟨k, window⟩ := searchWindow_draws s sig sv
  refine ⟨k + 1, Config.freeNat k % 2 = 1, ?_⟩
  rcases run with ⟨free, first⟩ | ⟨x, b, ph, first⟩
  · simp only [searchEnd, sig_of_target, sv_of_target, usable, list, free, first, window, takeFree_eq, Bool.not_false,
      Bool.and_self, if_true]
    rfl
  · simp only [searchEnd, sig_of_target, sv_of_target, usable, list, first, window, takeFree_eq, Bool.and_self, if_true]
    rfl

theorem candidate_drawn (k : Nat) (w : Window) (z : Bool) (bins : List BinSamples) :
    candidate (drawn s k) sig sv w z bins = candidate s sig sv w z bins := rfl

/-- A search that may run ends with a candidate to verify, or its target excluded for 10 s. -/
theorem searchEnd_ends (bins : List BinSamples)
    (run : targetState s sig sv = none ∧ anyFirst s = false ∨ ∃ x b ph, targetState s sig sv = some (.first x b ph))
    (usable : sigUsable s sig.toNat = true) (list : listed s sig sv = true) :
    ∃ z : Bool, targetState (searchEnd (256 * sig.toNat + sv.toNat) bins s) sig sv =
      some (match candidate s sig sv (searchWindow s sig sv).1 z bins with
        | some c => .verifying c.1 c.2
        | none => .excluded (s.tb.up + nsUp 10000000000)) := by
  obtain ⟨k, z, e⟩ := searchEnd_eq bins run usable list
  refine ⟨z, ?_⟩
  rw [e, targetState_setTarget, candidate_drawn]

theorem listReturn_returns {x : Nat}
    (out : targetState s sig sv = some (.excluded x) ∨ ∃ b ph, targetState s sig sv = some (.first x b ph)) (h : x ≤ s.tb.up) :
    targetState (listReturn (256 * sig.toNat + sv.toNat) s) sig sv = none := by
  rcases out with e | ⟨b, ph, e⟩ <;>
    simp only [listReturn, sig_of_target, sv_of_target, e, h, if_true, targetState_setTarget]

end Search

/-! ### VERIFY (04 R75, R78) -/

theorem mem_listIdx_vector {α : Type} {N : Nat} (v : Vector α N) (x : Nat × α) :
    x ∈ listIdx v.toList ↔ ∃ n : Fin N, x = (n.val, v[n]) := by
  rw [List.mem_iff_getElem]
  constructor
  · rintro ⟨n, h, rfl⟩
    exact ⟨⟨n, by simpa using h⟩, by simp [listIdx]⟩
  · rintro ⟨n, rfl⟩
    exact ⟨n, by simp, by simp [listIdx]⟩

/-- The free channels, with their numbers. -/
def freeChans (s : State) : List (Nat × GnChan) := (listIdx s.gn.chans.toList).filter fun c => c.2.state == .free

theorem mem_freeChans {s : State} {x : Nat × GnChan} :
    x ∈ freeChans s ↔ ∃ n : Fin 128, x = (n.val, gnChan s n) ∧ (gnChan s n).state = .free := by
  rw [freeChans, List.mem_filter, mem_listIdx_vector]
  constructor
  · rintro ⟨⟨n, rfl⟩, free⟩
    exact ⟨n, rfl, eq_of_beq free⟩
  · rintro ⟨n, rfl, free⟩
    exact ⟨⟨n, rfl⟩, beq_iff_eq.mpr free⟩

/-- Which channel yields does not turn on the free values drawn. -/
theorem lowestChan_drawn (s : State) (k : Nat) (l : List (Nat × GnChan)) :
    lowestChan (drawn s k) l = lowestChan s l := by
  induction l with
  | nil => rfl
  | cons a l ih =>
    rw [lowestChan, lowestChan, ih]
    rfl

/-- The candidate in place of channel `n`, whose target goes back on the list (04 R78). -/
def evictFor (s : State) (n : Nat) (v : GnChan) (sig sv : Byte) (bin : Int) (ph : Nat) : State :=
  let u := setTarget s v.sig v.sv none
  occupy { u with gn := { u.gn with evictCnt := u.gn.evictCnt + 1 } } n sig sv bin ph

section Verify
variable {s : State} {sig sv : Byte} {bin : Int} {ph : Nat}

/-- With a channel free, the candidate occupies one that is. -/
theorem placeCandidate_free (h : ∃ n : Fin 128, (gnChan s n).state = .free) :
    ∃ (k : Nat) (n : Fin 128), (gnChan s n).state = .free ∧
      placeCandidate s sig sv bin ph = occupy (drawn s k) n sig sv bin ph := by
  obtain ⟨m, free⟩ := h
  have there : 0 < (freeChans s).length := List.length_pos_of_mem (mem_freeChans.mpr ⟨m, rfl, free⟩)
  have lt : Config.freeNat s.freeCtr % (freeChans s).length < (freeChans s).length := Nat.mod_lt _ there
  obtain ⟨n, e, pick⟩ := mem_freeChans.mp (List.getElem_mem lt)
  refine ⟨s.freeCtr + 1, n, pick, ?_⟩
  have number : ((freeChans s).map (·.1)).getD (Config.freeNat s.freeCtr % (freeChans s).length) 0 = n.val := by
    simp [List.getD_eq_getElem?_getD, lt, e]
  rw [← number]
  exact if_neg there.ne'

/-- With none free, the channel that yields first is evicted where the candidate stands 2 degrees above it. -/
theorem placeCandidate_full {n : Nat} {v : GnChan} (full : ∀ m : Fin 128, (gnChan s m).state ≠ .free)
    (low : lowestChan s ((listIdx s.gn.chans.toList).filter fun x => x.2.state == .track) = some (n, v)) :
    if evictKey (elevOf s v.sig v.sv) + 2 ≤ evictKey (elevOf s sig sv) then
      targetState (placeCandidate s sig sv bin ph) sig sv = some .onChannel ∧
        (placeCandidate s sig sv bin ph).gn.evictCnt = s.gn.evictCnt + 1
    else
      targetState (placeCandidate s sig sv bin ph) sig sv = some (.excluded (s.tb.up + nsUp 60000000000)) ∧
        (placeCandidate s sig sv bin ph).gn.evictCnt = s.gn.evictCnt := by
  have none : (freeChans s).length = 0 := by
    refine List.length_eq_zero_iff.mpr (List.eq_nil_iff_forall_not_mem.mpr fun x m => ?_)
    obtain ⟨n, _, free⟩ := mem_freeChans.mp m
    exact full n free
  have placed : placeCandidate s sig sv bin ph =
      if evictKey (elevOf s v.sig v.sv) + 2 ≤ evictKey (elevOf s sig sv) then evictFor s n v sig sv bin ph
      else setTarget s sig sv (some (.excluded (s.tb.up + nsUp 60000000000))) := by
    unfold placeCandidate
    simp only [low]
    exact if_pos none
  rw [placed]
  split
  · exact ⟨targetState_occupy _ sig sv n bin ph, rfl⟩
  · exact ⟨targetState_setTarget s sig sv _, rfl⟩

/-- Re-tests that decide place the candidate, or exclude it for 10 s. -/
theorem verifyEnd_decides {tests : List (List BinSamples)} {pass : Bool}
    (target : targetState s sig sv = some (.verifying bin ph)) (usable : sigUsable s sig.toNat = true)
    (decided : ∀ z, reTests s.gn.cfg.m.toNat s.gn.cfg.n.toNat 0 0 (tests.map (reTest s sig sv bin ph z)) = some pass) :
    verifyEnd (256 * sig.toNat + sv.toNat) tests s =
      if pass then placeCandidate (drawn s (s.freeCtr + 1)) sig sv bin ph
      else setTarget (drawn s (s.freeCtr + 1)) sig sv (some (.excluded (s.tb.up + nsUp 10000000000))) := by
  have outcome : reTests (takeFree s).2.gn.cfg.m.toNat (takeFree s).2.gn.cfg.n.toNat 0 0
      (tests.map (reTest (takeFree s).2 sig sv bin ph ((takeFree s).1 % 2 = 1))) = some pass := decided _
  simp only [verifyEnd, sig_of_target, sv_of_target, target, usable, if_true, outcome]
  cases pass <;> rfl

end Verify

/-- Settles O5: a port by its latest fault, and a target by what the list is told of it when its search or its re-tests end. -/
theorem gnssPortsAndSearch : Obligations.GnssPortsAndSearch := by
  unfold Obligations.GnssPortsAndSearch
  refine fun s h => ⟨fun p d on => ?silent, fun p d on fs far => ?far, fun p on bad fs good => ?clear, fun p on fs => ?tag,
    fun sig sv bins run usable list => ?search, fun sig sv bin ph tests target usable fails => ?fails,
    fun sig sv bin ph tests target usable passes => ⟨fun free => ?placed, fun n v full low => ?full⟩,
    fun sig sv x out past => ?returns⟩
  case silent => exact runs_live (f := portFault p true d) rfl h (portFault_faults on rfl)
  case far => exact runs_live (f := portFault p false d) rfl h (portFault_faults on (by simpa [far] using fs))
  case clear => exact runs_live (f := portClear p) rfl h (portClear_clears on bad fs good)
  case tag => exact runs_live (f := timeTag p) rfl h (timeTag_tags on fs)
  case search => exact runs_live (f := searchEnd _ bins) rfl h (searchEnd_ends bins run usable list)
  case fails =>
    refine runs_live (f := verifyEnd _ tests) rfl h ?_
    rw [verifyEnd_decides target usable fails, if_neg Bool.false_ne_true, targetState_setTarget]
  case placed =>
    refine runs_live (f := verifyEnd _ tests) rfl h ?_
    obtain ⟨k, n, was, placed⟩ := placeCandidate_free (s := drawn s (s.freeCtr + 1)) (sig := sig) (sv := sv)
      (bin := bin) (ph := ph) free
    obtain ⟨there, chan⟩ := occupy_occupies (drawn s k) sig sv n bin ph
    rw [verifyEnd_decides target usable passes, if_pos rfl, placed]
    exact ⟨there, n, was, chan⟩
  case full =>
    refine runs_live (f := verifyEnd _ tests) rfl h ?_
    rw [verifyEnd_decides target usable passes, if_pos rfl]
    exact placeCandidate_full (s := drawn s (s.freeCtr + 1)) full ((lowestChan_drawn s _ _).trans low)
  case returns => exact runs_live (f := listReturn _) rfl h (listReturn_returns out past)

end Sys2Proof.Machine

/-! ## 04: tracking channels, epochs, Survey and Hold (the statement of O6) -/

namespace Sys2Proof.Machine

/-! ### Pull-in, loss, and the reported C/N0 (04 R75, R82) -/

section Channel
variable {s : State} {n : Fin 128}

theorem pullInLock_tracks (p : (gnChan s n).state = .pullIn) (code : (gnChan s n).codeBy = true)
    (carrier : (gnChan s n).carrierBy = true) : gnChan (pullInLock n s) n = { gnChan s n with state := .track } := by
  rw [pullInLock, if_pos (by simp [p, code, carrier]), gnChan_gnMirror, gnChan_modGnChan]

theorem pullInTimeout_loses (p : (gnChan s n).state = .pullIn)
    (late : (gnChan s n).codeBy = false ∧ (gnChan s n).since + nsUp 200000000 ≤ s.tb.up ∨
      (gnChan s n).carrierBy = false ∧ (gnChan s n).since + nsUp 1000000000 ≤ s.tb.up) :
    pullInTimeout n s = gnMirror (chanLost s n) := by
  refine if_pos ?_
  rcases late with ⟨code, h⟩ | ⟨carrier, h⟩
  · simp [p, code, since, h]
  · simp [p, carrier, since, h]

theorem trackLoss_loses {x : Nat} (t : (gnChan s n).state = .track)
    (bad : (gnChan s n).lowSince = some x ∧ x + nsUp 1000000000 ≤ s.tb.up ∨
      (gnChan s n).unlockedSince = some x ∧ x + nsUp 2000000000 ≤ s.tb.up) :
    trackLoss n s = gnMirror (chanLost s n) := by
  refine if_pos ?_
  rcases bad with ⟨low, h⟩ | ⟨unlocked, h⟩
  · simp [t, low, sinceOpt_some h]
  · simp [t, unlocked, sinceOpt_some h]

/-- Decoded navigation data are no matter of the channels. -/
theorem takeNav_foldl_chans (sys : Byte) (nav : List NavData) (s : State) :
    (nav.foldl (takeNav sys) s).gn.chans = s.gn.chans := by
  induction nav generalizing s with
  | nil => rfl
  | cons d nav ih => exact ih (takeNav sys s d)

theorem syncVerified_latches {word : Nat} {crc : Bool} (tow : Bool) (nav : List NavData) (t : (gnChan s n).state = .track)
    (ok : syncOk (gnChan s n).sig.toNat word crc = true) : gnChan (syncVerified n word crc tow nav s) n = { gnChan s n with
      cn0 := BitVec.ofNat 16 (min 65535 (gnChan s n).cn0Now)
      cn0Valid := true
      lastSync := s.tb.up
      prValid := (gnChan s n).prValid || tow } := by
  rw [syncVerified, if_pos (by simp [t, ok]), gnChan_gnMirror, gnChan_modGnChan, gnChan, takeNav_foldl_chans]
  rfl

theorem cn0Expire_expires (v : (gnChan s n).cn0Valid = true)
    (h : (gnChan s n).lastSync + msUp (3 * syncMs (gnChan s n).sig.toNat (gnChan s n).sv.toNat) ≤ s.tb.up) :
    gnChan (cn0Expire n s) n = { gnChan s n with cn0Valid := false, cn0 := 0 } := by
  rw [cn0Expire, if_pos (by simp [v, since, h]), gnChan_gnMirror, gnChan_modGnChan]

end Channel

/-! ### The end of a coherent interval (04 R76, R77, R81) -/

/-- A point of power adds to the phase-lock indicator whatever a point of none is taken for. -/
theorem pliSum_powered (z : Int) {h : List CorrPoint} (power : ∀ p ∈ h, p.ip ≠ 0 ∨ p.qp ≠ 0) : pliSum z h = pliSum 0 h := by
  refine List.foldl_ext _ _ _ fun a p m => ?_
  have some : p.ip * p.ip + p.qp * p.qp ≠ 0 := by
    rw [Ne, mul_self_add_mul_self_eq_zero, not_and_or]
    exact power p m
  simp only [some, if_false]

theorem pliLocked_powered (z : Int) {h : List CorrPoint} (power : ∀ p ∈ h, p.ip ≠ 0 ∨ p.qp ≠ 0) :
    pliLocked z h = pliLocked 0 h := by
  rw [pliLocked, pliLocked, pliSum_powered z power]

/-- Channel `c` is `d` once an interval ends now with the saturated accumulators `v`, and with bit synchronisation or not. -/
structure IntervalEnded (s : State) (v : List Int) (bitSync : Bool) (c d : GnChan) : Prop where
  store : d.store = v.map fun x => roundShift x (storeShift v)
  scale : d.scale = BitVec.ofNat 8 (storeShift v)
  codeLock : d.codeLock = decide (2200 ≤ d.cn0Now)
  carrierLock : ∃ z, d.carrierLock = pliLocked z (d.hist.filter fun x => s.tb.up < x.at_ + nsUp 100000000)
  state : d.state = c.state
  cohAt : d.cohAt = s.tb.up
  bitSync : d.bitSync = (c.bitSync || bitSync)

theorem IntervalEnded.ofBranch {s t u : State} {v : List Int} {b : Bool} {c : GnChan} {n : Fin 128} {p : Prop} [Decidable p]
    (no : ¬p) (h : IntervalEnded s v b c (gnChan u n)) : IntervalEnded s v b c (gnChan (if p then t else u) n) := by
  rwa [if_neg no]

theorem coherentEnd_ends {s : State} {n : Fin 128} {acc : List Int} (b : Bool) (busy : (gnChan s n).state ≠ .free)
    (twelve : acc.length = 12)
    (h : (gnChan s n).cohAt + msUp (cohMs (gnChan s n).sig.toNat (gnChan s n).sv.toNat (gnChan s n).bitSync) ≤ s.tb.up) :
    IntervalEnded s (acc.map (satInt 32)) b (gnChan s n) (gnChan (coherentEnd n acc b s) n) := by
  have all : acc.map (satInt 32) = (acc.take 12).map (satInt 32) := by rw [List.take_of_length_le twelve.le]
  have go : ¬(decide ((gnChan s n).state = .free) || !since s (gnChan s n).cohAt
      (msUp (cohMs (gnChan s n).sig.toNat (gnChan s n).sv.toNat (gnChan s n).bitSync))) = true := by simp [busy, since, h]
  rw [all]
  unfold coherentEnd
  refine .ofBranch go ?_
  extract_lets -underBinder acc k store val hist near
  split
  next f u e =>
    have gn : u.gn = s.gn := part_snd (p := .gnss) e (by split <;> simp)
    have tb : u.tb = s.tb := part_snd (p := .time) e (by split <;> simp)
    have same : gnChan u n = gnChan s n := by rw [gnChan, gnChan, gn]
    rw [gnChan_modGnChan, same, tb]
    exact ⟨rfl, rfl, rfl, ⟨_, rfl⟩, rfl, rfl, rfl⟩

/-! ### Epochs (04 R83 to R88) -/

/-- What the taking of records, the sums of Survey and Hold and the writing of the message leave of the baseband. -/
def epochView (g : Gnss) :=
  (g.mode, g.solValid, g.traim, g.solUncPs, g.epochSeq, g.mirrorGen)

/-- The records of an epoch, and their residuals. -/
def recordsTaken (recs : List RecInput) (s : State) : State := recs.foldl takeResidual (recs.foldl takeRec s)

/-- The epoch message goes to the host's ring. -/
def messageSent (msg : Bytes) (s : State) : State :=
  match s.gn.ring with
  | some r =>
    let s := hostWrite s (r.addr.toNat + 8192 * (s.gn.epochSeq.toNat % 2 ^ r.log2)) msg false 0xFF
    let s := { s with gn := { s.gn with measSeq := s.gn.epochSeq } }
    if r.irq then msix s r.vector.toNat else s
  | none => s

theorem gnEvent_unless {p : Prop} [Decidable p] (s : State) (cause set : Nat) (sev : Byte) (residual : Nat) :
    (if p then s else gnEvent s cause set sev residual).gn = s.gn := by
  split
  · rfl
  · exact gnEvent_gn s cause set sev residual

section Epoch
variable (s : State)

theorem foldl_epochView {f : State → RecInput → State} (hf : ∀ s r, epochView (f s r).gn = epochView s.gn) (recs : List RecInput) :
    epochView (recs.foldl f s).gn = epochView s.gn := by
  induction recs generalizing s with
  | nil => rfl
  | cons r recs ih => exact (ih (f s r)).trans (hf s r)

theorem recordsTaken_epochView (recs : List RecInput) : epochView (recordsTaken recs s).gn = epochView s.gn := by
  refine (foldl_epochView _ (fun s r => ?_) recs).trans (foldl_epochView s (f := takeRec) (fun _ _ => rfl) recs)
  unfold takeResidual
  dsimp only
  repeat' split
  all_goals rfl

theorem takePosition_epochView (sol : SolInput) : epochView (takePosition sol s).gn = epochView s.gn := by
  unfold takePosition
  split <;> rfl

@[simp] theorem solToTime_gn (sol : SolInput) : (solToTime sol s).gn = s.gn := part_solToTime (p := .gnss) sol s nofun

theorem messageSent_epochView (msg : Bytes) : epochView (messageSent msg s).gn = epochView s.gn := by
  have written (a : Nat) : (hostWrite s a msg false 0xFF).gn = s.gn := part_hostWrite (p := .gnss) s a msg false 0xFF
  have interrupted (u : State) (v : Nat) : (msix u v).gn = u.gn := part_msix (p := .gnss) u v
  unfold messageSent
  split
  · dsimp only
    split
    · rw [interrupted]
      simp only [written]
      rfl
    · simp only [written]
      rfl
  · rfl

@[simp] theorem timeStep_gn (f : State → State) : (timeStep f s).gn = (f s).gn := (Announced.ofTimeEvent _ _).gn

/-- An epoch that is due leaves in the baseband the solution made of its records, and GN_MIRROR_GEN even again. -/
theorem measEpoch_epochView {s : State} (sol : SolInput) (recs : List RecInput) (due : epochDue s = true) : ∃ used,
    epochView (measEpoch sol recs s).gn = (s.gn.mode, solOk s.gn.mode.toNat used sol, sol.traim, sol.uncPs,
      s.gn.epochSeq + 1, s.gn.mirrorGen + 2) := by
  unfold measEpoch
  rw [timeStep_gn, if_neg (by simp [due])]
  extract_lets taken used was wasT before solved timed msg sent gn kept raised
  have records : epochView taken.gn = epochView s.gn := recordsTaken_epochView s recs
  have message : epochView sent.gn = epochView solved.gn := calc
    epochView sent.gn = epochView timed.gn := messageSent_epochView timed msg
    _ = epochView solved.gn := by rw [solToTime_gn, takePosition_epochView]
  refine ⟨used, ?_⟩
  rw [gnEvent_unless, show raised.gn = kept.gn from gnEvent_unless kept _ _ _ _]
  simp only [epochView, Prod.mk.injEq] at records message ⊢
  obtain ⟨mode, _, _, _, seq, gen⟩ := records
  obtain ⟨mode', valid', traim', unc', seq', gen'⟩ := message
  exact ⟨mode'.trans mode, valid'.trans (congrArg (fun m => solOk m.toNat used sol) mode), traim', unc',
    seq'.trans (congrArg (· + 1) seq), congrArg (· + 2) (gen'.trans gen)⟩

/-- No solution is valid while the mode is 0, or with an inconsistency that exclusion cannot resolve (04 R86). -/
theorem solOk_false {mode : Nat} (used : Nat) {sol : SolInput} (h : mode = 0 ∨ sol.traim = true) : solOk mode used sol = false := by
  unfold solOk
  rcases h with rfl | t
  · rfl
  · simp [t]

theorem measEpoch_produces {s : State} (sol : SolInput) (recs : List RecInput) (due : epochDue s = true) :
    (measEpoch sol recs s).gn.epochSeq = s.gn.epochSeq + 1 ∧ (measEpoch sol recs s).gn.mirrorGen = s.gn.mirrorGen + 2 ∧
      (measEpoch sol recs s).gn.traim = sol.traim ∧ (measEpoch sol recs s).gn.solUncPs = sol.uncPs ∧
      ((s.gn.mode = 0 ∨ sol.traim = true) → (measEpoch sol recs s).gn.solValid = false) := by
  obtain ⟨used, e⟩ := measEpoch_epochView sol recs due
  simp only [epochView, Prod.mk.injEq] at e
  obtain ⟨_, valid, traim, unc, seq, gen⟩ := e
  refine ⟨seq, gen, traim, unc, fun bad => valid.trans (solOk_false _ (bad.imp_left fun m => ?_))⟩
  rw [m]
  rfl

end Epoch

/-! ### Survey and Hold (04 R86, R87) -/

section Survey
variable {s : State}

theorem surveyMean_mean (h : s.gn.posCnt ≠ 0) : (surveyMean s).1 = ⟨BitVec.ofInt 64 (roundDiv s.gn.posSum.1 s.gn.posCnt),
    BitVec.ofInt 64 (roundDiv s.gn.posSum.2.1 s.gn.posCnt), BitVec.ofInt 64 (roundDiv s.gn.posSum.2.2 s.gn.posCnt)⟩ := by
  rw [surveyMean, if_neg h]

theorem surveyComplete_holds (m : s.gn.mode = 1) (h : s.gn.surveyAt + nsUp (60000000000 * s.gn.targetMin.toNat) ≤ s.tb.up) :
    (surveyComplete s).gn.position = some (surveyMean s).1 ∧ (surveyComplete s).gn.mode = 2 ∧
      (surveyComplete s).gn.holdAt = some s.tb.up := by
  have tb : (surveyMean s).2.tb = s.tb := part_surveyMean (p := .time) s
  have e : (surveyComplete s).gn = (startHold (surveyMean s).2 (surveyMean s).1 false true).gn := by
    rw [surveyComplete, if_pos (by simp [m, since, h]), gnEvent_gn, norWrite_gn]
  rw [e, ← tb]
  exact ⟨rfl, rfl, rfl⟩

variable {x : Nat} (m : s.gn.mode = 2) (c : s.gn.holdCheck = true) (a : s.gn.holdAt = some x)
  (h : x + nsUp 60000000000 ≤ s.tb.up) (r : s.gn.resCnt ≠ 0)
include m c a h r

/-- The check of residuals that there are, after 60 s of Hold. -/
theorem holdResidual_eq : ∃ cm, holdResidual s =
    if 900 * 2 ^ 32 * s.gn.resCnt < s.gn.resSq then
      gnEvent (norWrite (startSurvey s (60 * s.gn.cfg.surveyH.toNat)) 2) 4 0 1 cm
    else { s with gn := { s.gn with holdCheck := false } } := by
  have cm : rmsCm s = (isqrt (s.gn.resSq * 10000 / (s.gn.resCnt * 2 ^ 32)), s) := if_neg r
  refine ⟨(rmsCm s).1, ?_⟩
  rw [holdResidual, if_pos (by simp [m, c, a, sinceOpt_some h]), cm]
  simp only [rmsOver, r, if_false, decide_eq_true_eq]

theorem holdResidual_resurveys (above : 900 * 2 ^ 32 * s.gn.resCnt < s.gn.resSq) : (holdResidual s).gn.position = none ∧
    (holdResidual s).gn.mode = 1 ∧ (holdResidual s).gn.surveyAt = s.tb.up := by
  obtain ⟨cm, e⟩ := holdResidual_eq m c a h r
  rw [e, if_pos above, gnEvent_gn, norWrite_gn]
  exact ⟨rfl, rfl, rfl⟩

theorem holdResidual_stays (within : s.gn.resSq ≤ 900 * 2 ^ 32 * s.gn.resCnt) :
    (holdResidual s).gn.position = s.gn.position ∧ (holdResidual s).gn.mode = 2 ∧ (holdResidual s).gn.holdCheck = false := by
  obtain ⟨cm, e⟩ := holdResidual_eq m c a h r
  rw [e, if_neg within.not_gt]
  exact ⟨rfl, m, rfl⟩

end Survey

/-- Settles O6: each step by the channel it makes of the one before; an epoch by the solution that its records and its message
leave as it is. -/
theorem gnssChannelsAndEpochs : Obligations.GnssChannelsAndEpochs := by
  unfold Obligations.GnssChannelsAndEpochs
  refine ⟨fun s n h => ⟨fun p code carrier => ?lock, fun p late => ?timeout, fun x t bad => ?loss,
    fun acc b busy twelve past => ?interval, fun word crc tow nav t ok => ?sync, fun v l => ?expire⟩,
    fun s h => ⟨fun sol recs due => ?epoch, fun m l => ?survey, fun x m c a l r above => ?resurvey,
      fun x m c a l r within => ?stay⟩⟩
  case lock => exact runs_live (f := pullInLock n) rfl h (pullInLock_tracks p code carrier)
  case timeout =>
    obtain ⟨free, first⟩ := chanLost_loses s n
    refine runs_live (f := pullInTimeout n) rfl h ?_
    rw [pullInTimeout_loses p late, gnChan_gnMirror, targetState_gnMirror, free]
    exact ⟨rfl, _, _, first⟩
  case loss =>
    obtain ⟨free, first⟩ := chanLost_loses s n
    refine runs_live (f := trackLoss n) rfl h ?_
    rw [trackLoss_loses t bad, gnChan_gnMirror, targetState_gnMirror, free]
    exact ⟨rfl, first⟩
  case interval =>
    obtain ⟨store, scale, code, ⟨z, carrier⟩, state, now, sync⟩ := coherentEnd_ends b busy twelve past
    refine runs_live (f := coherentEnd n acc b) rfl h ⟨store, scale, code, fun power => ?_, state, now, sync⟩
    rw [carrier, pliLocked_powered z fun p m => power p (List.mem_of_mem_filter m)]
  case sync =>
    refine runs_live (f := syncVerified n word crc tow nav) rfl h ?_
    rw [syncVerified_latches tow nav t ok]
    exact ⟨rfl, rfl, by rw [BitVec.toNat_ofNat]; omega, rfl⟩
  case expire =>
    refine runs_live (f := cn0Expire n) rfl h ?_
    rw [cn0Expire_expires v l]
    exact ⟨rfl, rfl⟩
  case epoch =>
    obtain ⟨seq, gen, traim, unc, invalid⟩ := measEpoch_produces sol recs due
    exact runs_live (f := measEpoch sol recs) rfl h ⟨seq, gen, traim, unc, fun m => invalid (.inl m), fun t => invalid (.inr t)⟩
  case survey =>
    obtain ⟨position, mode, since⟩ := surveyComplete_holds m l
    refine runs_live (f := surveyComplete) rfl h ⟨by rw [position]; rfl, mode, since, fun some => ?_⟩
    rw [position, surveyMean_mean some]
  case resurvey => exact runs_live (f := holdResidual) rfl h (holdResidual_resurveys m c a l r above)
  case stay => exact runs_live (f := holdResidual) rfl h (holdResidual_stays m c a l r within)

end Sys2Proof.Machine

/-! ## 04: the GNSS opcodes (the statement of O7) -/

namespace Sys2Proof.Machine

/-! ### A GNSS opcode runs (05 R97, R430) -/

theorem MailboxKept.trans {s t u : State} (h : MailboxKept s t) (k : MailboxKept t u) : MailboxKept s u :=
  ⟨k.1.trans h.1, k.2.trans h.2⟩

theorem Announced.mailbox {s t : State} (h : Announced s t) : MailboxKept s t := h.timeOnly.mailbox

theorem TrackingOnly.mailbox {s t : State} (h : TrackingOnly s t) : MailboxKept s t := by
  obtain ⟨_, _, rfl⟩ := h
  exact ⟨rfl, rfl⟩

section GnssOpcodes
variable {s : State} {c : Chan} {op : Nat} {k : CmdHeld} (h : HasCmd s c op k)
include h

theorem unnamed_of_gnssOpcode (m : op ∈ [0x0201, 0x0202, 0x0203, 0x0204, 0x0205]) : namedObjs k = [] := by
  have ⟨_, _, _, code, _⟩ := h
  simp only [List.mem_cons, List.not_mem_nil, or_false] at m
  rcases m with rfl | rfl | rfl | rfl | rfl <;> simp [namedObjs, code]

variable {chk : CmdHeld → Chk} (g : Goes s c op chk k)
include g

theorem runOp_answers_gn {t : State} {r : Bytes} (refused : CmdHeld → State → Bytes) {eff : CmdHeld → State → Done}
    (d : eff k s = .ok t r) (kept : MailboxKept s t) :
    Answered (runOp s c op chk refused eff) c k 0 r ∧ (runOp s c op chk refused eff).gn = t.gn := by
  rw [runOp_ok g d]
  exact ⟨h.answers kept _ _, part_finishCmd (p := .gnss) t c stOk 0 r⟩

theorem plainOp_answers_gn (resp : CmdHeld → State → Bytes) {eff : CmdHeld → State → State} (kept : MailboxKept s (eff k s)) :
    Answered (plainOp s c op chk resp eff) c k 0 (resp k (eff k s)) ∧ (plainOp s c op chk resp eff).gn = (eff k s).gn := by
  have ⟨_, _, _, _, _, begun, _⟩ := h
  rw [plainOp_runOp resp eff g.1 begun]
  exact runOp_answers_gn h g resp rfl kept

end GnssOpcodes

/-! ### OP_GNSS_CONFIG (04 R90, R91) -/

section Config
variable {s : State} {c : Chan} {k : CmdHeld} (h : HasCmd s c 0x0201 k)

theorem gnConfigBytes_length (g : GnConfig) : (gnConfigBytes g).length = 40 := layout_length 40 _ (by simp)

/-- The parameters that a request of OP_GNSS_CONFIG sets. -/
def gnConfigured (k : CmdHeld) : GnConfig :=
  let b (off n w : Nat) : BitVec w := BitVec.ofNat w (k.f off n)
  { fsHz := b 0 4 32, fmtSpa := b 4 1 8, fmtSpb := b 5 1 8, invert := b 6 1 8, elevMask := b 7 1 8,
    ifSpa := b 8 4 32, ifSpb := b 12 4 32, sigEnable := b 16 2 16, doppRange := b 18 2 16, k := b 20 1 8,
    thresh := b 21 1 8, m := b 22 1 8, n := b 23 1 8, spacing := b 24 1 8, pllBw := b 25 1 8, dllBw := b 26 1 8,
    refSys := b 27 1 8, intervalMs := b 28 2 16, surveyH := b 30 1 8, feIfb := b 32 4 32, antDelay := b 36 4 32 }

/-- A change of the clock or of a format drops the channels of its port. -/
theorem TrackingOnly.ofDropWhen (p : Prop) [Decidable p] (ok : ChanState → Bool) (s : State) (q : Port) :
    TrackingOnly s (if p then dropPort ok s q else s) := by
  split
  · exact ofDropPort ok s q
  · exact refl s

theorem gnConfigEff_sets (p : k.payload ≠ []) : ∃ min t,
    TrackingOnly { s with gn := { s.gn with cfg := gnConfigured k, targetMin := min } } t ∧ gnConfigEff k s = gnMirror t :=
  ⟨_, _, (TrackingOnly.ofDropWhen _ _ _ _).trans (TrackingOnly.ofDropWhen _ _ _ _), if_neg p⟩

include h

theorem opGnssConfig_reads (p : k.payload = []) : Runs (.opGnssConfig c) s fun t =>
    Answered t c k 0 (gnConfigBytes s.gn.cfg) ∧ t.gn = s.gn := by
  have goes : Goes s c 0x0201 gnConfigChk k := h.goes (unnamed_of_gnssOpcode h (by simp)) (l := []) (if_pos p) (by simp)
  have same : gnConfigEff k s = s := if_pos p
  have answers := plainOp_answers_gn h goes gnConfigResp (eff := gnConfigEff) (by rw [same]; exact ⟨rfl, rfl⟩)
  rw [same] at answers
  exact runs_live (f := fun s => plainOp s c 0x0201 gnConfigChk gnConfigResp gnConfigEff) rfl h.1 answers

theorem opGnssConfig_sets (p : k.payload ≠ []) (pass : firstFail (chan s c) (gnConfigChk k) = none) :
    Runs (.opGnssConfig c) s fun t => AnsweredLen t c k 0 40 ∧ t.gn.cfg = gnConfigured k := by
  have goes : Goes s c 0x0201 gnConfigChk k :=
    ⟨h.opCmd, .inr ⟨unordered_of_unnamed (unnamed_of_gnssOpcode h (by simp)) (by rw [gnConfigChk, if_neg p]), pass⟩⟩
  obtain ⟨min, t, tracking, e⟩ := gnConfigEff_sets (s := s) p
  have kept : MailboxKept s (gnConfigEff k s) := e ▸ tracking.mailbox
  obtain ⟨answered, gn⟩ := plainOp_answers_gn h goes gnConfigResp kept
  refine runs_live (f := fun s => plainOp s c 0x0201 gnConfigChk gnConfigResp gnConfigEff) rfl h.1
    ⟨⟨_, gnConfigBytes_length _, answered⟩, ?_⟩
  rw [gn, e]
  obtain ⟨_, _, rfl⟩ := tracking
  rfl

end Config

theorem gnConfigured_fields (k : CmdHeld) : (gnConfigured k).fsHz.toNat = k.f 0 4 ∧ (gnConfigured k).fmtSpa.toNat = k.f 4 1 ∧
    (gnConfigured k).fmtSpb.toNat = k.f 5 1 ∧ (gnConfigured k).elevMask.toNat = k.f 7 1 ∧
    (gnConfigured k).sigEnable.toNat = k.f 16 2 ∧ (gnConfigured k).thresh.toNat = k.f 21 1 ∧
    (gnConfigured k).intervalMs.toNat = k.f 28 2 ∧ (gnConfigured k).surveyH.toNat = k.f 30 1 := by
  have fits (off n : Nat) : (BitVec.ofNat (8 * n) (k.f off n)).toNat = k.f off n := by
    rw [BitVec.toNat_ofNat, Nat.pow_mul]
    exact Nat.mod_eq_of_lt (fieldAt_lt _ _ _)
  exact ⟨fits 0 4, fits 4 1, fits 5 1, fits 7 1, fits 16 2, fits 21 1, fits 28 2, fits 30 1⟩

/-! ### OP_GNSS_SURVEY, OP_GNSS_POSITION and OP_GNSS_STREAM (04 R85, R87, R91) -/

section Opcodes
variable {s : State} {c : Chan} {k : CmdHeld}

theorem gnSurveyEff_announced :
    Announced (startSurvey s (60 * if k.f 0 1 = 0 then s.gn.cfg.surveyH.toNat else k.f 0 1)) (gnSurveyEff k s) := .ofNorWrite _ 2

theorem gnPositionEff_announced : Announced
    (startHold s ⟨BitVec.ofNat 64 (k.f 0 8), BitVec.ofNat 64 (k.f 8 8), BitVec.ofNat 64 (k.f 16 8)⟩ true false)
    (gnPositionEff k s) := .ofNorWrite _ 2

theorem opGnssSurvey_starts (h : HasCmd s c 0x0202 k) (hours : k.f 0 1 ≤ 168) (r : Reserved k [1, 2, 3]) :
    Runs (.opGnssSurvey c) s fun t => Answered t c k 0 [] ∧
      t.gn = (startSurvey s (60 * if k.f 0 1 = 0 then s.gn.cfg.surveyH.toNat else k.f 0 1)).gn := by
  have goes : Goes s c 0x0202 (fun k => { param := bad (168 < k.f 0 1) 0 :: k.rsv 1 4 }) k := by
    refine h.goes (unnamed_of_gnssOpcode h (by simp)) rfl fun x m => ?_
    rcases List.mem_cons.mp m with rfl | m
    · simpa [bad] using hours
    · exact rsv_none r (by decide) x m
  obtain ⟨answered, gn⟩ := plainOp_answers_gn h goes noResp gnSurveyEff_announced.mailbox
  exact runs_live (f := fun s => plainOp s c 0x0202 _ noResp gnSurveyEff) rfl h.1
    ⟨answered, gn.trans gnSurveyEff_announced.gn⟩

theorem opGnssPosition_holds (h : HasCmd s c 0x0203 k) : Runs (.opGnssPosition c) s fun t => Answered t c k 0 [] ∧
    t.gn = (startHold s ⟨BitVec.ofNat 64 (k.f 0 8), BitVec.ofNat 64 (k.f 8 8), BitVec.ofNat 64 (k.f 16 8)⟩ true false).gn := by
  have goes : Goes s c 0x0203 (fun _ => {}) k := h.goes (unnamed_of_gnssOpcode h (by simp)) (l := []) rfl (by simp)
  obtain ⟨answered, gn⟩ := plainOp_answers_gn h goes noResp gnPositionEff_announced.mailbox
  exact runs_live (f := fun s => plainOp s c 0x0203 _ noResp gnPositionEff) rfl h.1
    ⟨answered, gn.trans gnPositionEff_announced.gn⟩

theorem opGnssStream_sets (h : HasCmd s c 0x0204 k) (aligned : k.f 0 8 % 8192 = 0)
    (slots : k.f 0 8 = 0 ∨ 2 ≤ k.f 8 1 ∧ k.f 8 1 ≤ 12) (irq : k.f 9 1 ≤ 1) (r : Reserved k [11, 12, 13, 14, 15]) :
    Runs (.opGnssStream c) s fun t => Answered t c k 0 (leBytes 4 s.gn.epochSeq.toNat) ∧ t.gn.ring =
      if k.f 0 8 = 0 then none
      else some ⟨BitVec.ofNat 64 (k.f 0 8), k.f 8 1, k.f 9 1 = 1, BitVec.ofNat 8 (k.f 10 1)⟩ := by
  have goes : Goes s c 0x0204 gnStreamChk k := by
    refine h.goes (unnamed_of_gnssOpcode h (by simp)) rfl fun x m => ?_
    rcases List.mem_append.mp m with m | m
    · simp only [bad, List.mem_cons, List.not_mem_nil, or_false] at m
      rcases m with rfl | rfl | rfl
      · simp [aligned]
      · rcases slots with none | ⟨lo, hi⟩
        · simp [none]
        · simp [lo, hi]
      · simpa using irq
    · exact rsv_none r (by decide) x m
  obtain ⟨answered, gn⟩ := plainOp_answers_gn h goes gnStreamResp (eff := gnStreamEff) ⟨rfl, rfl⟩
  exact runs_live (f := fun s => plainOp s c 0x0204 gnStreamChk gnStreamResp gnStreamEff) rfl h.1
    ⟨answered, congrArg Gnss.ring gn⟩

end Opcodes

/-! ### OP_GNSS_ASSIST (04 R91, R92) -/

/-- Of `most` items at most, those accepted on the way from `a` to `b` are counted and held; no channel differs. -/
def Accepts (most : Nat) (a b : State × Nat) : Prop :=
  MailboxKept a.1 b.1 ∧ ∃ n, n ≤ most ∧ b.2 = a.2 + n ∧ b.1.gn.assists.length = a.1.gn.assists.length + n

section Assist
variable {s : State} {c : Chan} {k : CmdHeld} {ok : List Bool}

theorem assistItem_accepts (a : State × Nat) (i : Nat) : Accepts 1 a (assistItem k ok a i) := by
  unfold assistItem
  dsimp only
  split
  · exact ⟨⟨rfl, rfl⟩, 0, by omega, rfl, rfl⟩
  · split <;> exact ⟨⟨rfl, rfl⟩, 1, by omega, rfl, by simp⟩

theorem assistItems_accept (items : List Nat) (a : State × Nat) : Accepts items.length a (items.foldl (assistItem k ok) a) := by
  induction items generalizing a with
  | nil => exact ⟨⟨rfl, rfl⟩, 0, by omega, rfl, rfl⟩
  | cons i items ih =>
    obtain ⟨kept, n, most, count, held⟩ := assistItem_accepts (k := k) (ok := ok) a i
    obtain ⟨kept', n', most', count', held'⟩ := ih (assistItem k ok a i)
    refine ⟨kept.trans kept', n + n', ?_, ?_, ?_⟩
    · rw [List.length_cons]; omega
    · rw [List.foldl_cons, count', count]; omega
    · rw [List.foldl_cons, held', held]; omega

theorem gnAssistEff_accepts : ∃ n t, n ≤ k.f 2 2 ∧ gnAssistEff ok k s = .ok t (layout 4 [(0, 2, n), (2, 2, k.f 2 2 - n)]) ∧
    MailboxKept s t ∧ t.gn.assists.length = s.gn.assists.length + n := by
  obtain ⟨kept, n, most, count, held⟩ := assistItems_accept (k := k) (ok := ok) (List.range (k.f 2 2)) (s, 0)
  rw [List.length_range] at most
  rw [Nat.zero_add] at count
  have event := Announced.ofTimeEvent s.tb ((List.range (k.f 2 2)).foldl (assistItem k ok) (s, 0)).1
  refine ⟨n, _, most, ?_, kept.trans event.mailbox, (congrArg (·.assists.length) event.gn).trans held⟩
  rw [← count]
  rfl

theorem opGnssAssist_accepts (h : HasCmd s c 0x0205 k) (lo : 1 ≤ k.f 0 1) (hi : k.f 0 1 ≤ 5) (sys : k.f 1 1 ≤ 5)
    (len : assistLenOk (k.f 0 1) (k.f 4 2) = true) (r : Reserved k (span 6 16))
    (items : k.f 0 1 ≤ 2 → ∀ i, i < k.f 2 2 → Reserved k (span (17 + i * k.f 4 2) (20 + i * k.f 4 2))) :
    Runs (.opGnssAssist c ok) s fun t => ∃ n, n ≤ k.f 2 2 ∧ Answered t c k 0 (layout 4 [(0, 2, n), (2, 2, k.f 2 2 - n)]) ∧
      t.gn.assists.length = s.gn.assists.length + n := by
  have goes : Goes s c 0x0205 gnAssistChk k := by
    refine h.goes (unnamed_of_gnssOpcode h (by simp)) rfl fun x m => ?_
    rcases List.mem_append.mp m with m | m
    · rcases List.mem_append.mp m with m | m
      · simp only [bad, List.mem_cons, List.not_mem_nil, or_false] at m
        rcases m with rfl | rfl | rfl
        · simp [lo, hi]
        · simpa using sys
        · simp [len]
      · exact rsv_none r (List.Subset.refl _) x m
    · split at m
      case isTrue two =>
        obtain ⟨i, there, m⟩ := List.mem_flatMap.mp m
        exact rsv_none (items two i (List.mem_range.mp there)) (List.Subset.refl _) x m
      case isFalse => cases m
  obtain ⟨n, t, most, e, kept, held⟩ := gnAssistEff_accepts (s := s) (k := k) (ok := ok)
  obtain ⟨answered, gn⟩ := runOp_answers_gn h goes (fun _ _ => zeros 4) e kept
  exact runs_live (f := fun s => runOp s c 0x0205 gnAssistChk (fun _ _ => zeros 4) (gnAssistEff ok)) rfl h.1
    ⟨n, most, answered, by rw [gn, held]⟩

end Assist

/-- Settles O7: each opcode passes its checks, and the baseband is then what its effect makes of it. -/
theorem gnssOpcodesComplete : Obligations.GnssOpcodesComplete := by
  unfold Obligations.GnssOpcodesComplete
  refine fun s c k => ⟨fun h p => opGnssConfig_reads h p, fun h p pass => ?config, fun h hours r => ?survey, fun h => ?position,
    fun h aligned some lo hi irq r => ?stream, fun h none irq r => ?off,
    fun ok h lo hi sys len r items => opGnssAssist_accepts h lo hi sys len r items⟩
  case config =>
    obtain ⟨t, e, answered, cfg⟩ := opGnssConfig_sets h p pass
    refine ⟨t, e, answered, ?_⟩
    rw [cfg]
    exact gnConfigured_fields k
  case survey =>
    obtain ⟨t, e, answered, gn⟩ := opGnssSurvey_starts h hours r
    refine ⟨t, e, answered, ?_⟩
    rw [gn]
    refine ⟨rfl, rfl, rfl, fun some => ?_⟩
    rw [if_neg some, startSurvey]
    exact (BitVec.toNat_ofNat _ _).trans (Nat.mod_eq_of_lt (by omega))
  case position =>
    obtain ⟨t, e, answered, gn⟩ := opGnssPosition_holds h
    refine ⟨t, e, answered, ?_⟩
    rw [gn]
    exact ⟨rfl, rfl⟩
  case stream =>
    obtain ⟨t, e, answered, ring⟩ := opGnssStream_sets h aligned (.inr ⟨lo, hi⟩) irq r
    refine ⟨t, e, answered, _, ring.trans (if_neg some), ?_, rfl, ?_⟩
    · have := fieldAt_lt k.payload 0 8
      rw [BitVec.toNat_ofNat]
      exact Nat.mod_eq_of_lt this
    · have := fieldAt_lt k.payload 10 1
      rw [BitVec.toNat_ofNat]
      exact Nat.mod_eq_of_lt this
  case off =>
    obtain ⟨t, e, answered, ring⟩ := opGnssStream_sets h (by rw [none]) (.inl none) irq r
    exact ⟨t, e, answered, ring.trans (if_pos none)⟩

end Sys2Proof.Machine

/-! ## 05: the operations that leave a mailbox channel as it is (the statement of O60) -/

namespace Sys2Proof.Machine

theorem Announced.chan {s t : State} (h : Announced s t) (c : Chan) : chan t c = chan s c := h.timeOnly.chan c

section
variable {w : Chan}

/-- An update of what is no mailbox. -/
@[simp] theorem chan_upd (s : State)
    (tb cal gn hl xl acc nextAcc tw cores bridled te sch fab hlt pwr sec out freeCtr pending) :
    chan ⟨tb, cal, gn, s.mbx, hl, xl, acc, nextAcc, tw, cores, bridled, te, sch, fab, hlt, pwr, sec, out, freeCtr,
      pending⟩ w = chan s w := by
  simp only [chan]

/-- An update of the event ring, the log or the update session. -/
@[simp] theorem chan_updMbx (s : State) (bells evtSeq ring log session)
    (tb cal gn hl xl acc nextAcc tw cores bridled te sch fab hlt pwr sec out freeCtr pending) :
    chan ⟨tb, cal, gn, ⟨s.mbx.chans, bells, evtSeq, ring, log, session⟩, hl, xl, acc, nextAcc, tw, cores, bridled, te, sch,
      fab, hlt, pwr, sec, out, freeCtr, pending⟩ w = chan s w := by
  simp only [chan]

@[simp] theorem chan_ite (c : Prop) [Decidable c] (s t : State) :
    chan (if c then s else t) w = if c then chan s w else chan t w :=
  apply_ite (chan · w) _ _ _

theorem chan_foldl {α : Type} {f : State → α → State} (h : ∀ s x, chan (f s x) w = chan s w) (l : List α) (s : State) :
    chan (l.foldl f s) w = chan s w := by
  induction l generalizing s with
  | nil => rfl
  | cons x l ih => exact (ih _).trans (h s x)

theorem chan_fst {α : Type} {x : State × α} {a : α} {s t : State} (e : x = (t, a)) (h : chan x.1 w = chan s w) :
    chan t w = chan s w := by
  subst e; exact h

theorem chan_snd {α : Type} {x : α × State} {a : α} {s t : State} (e : x = (a, t)) (h : chan x.2 w = chan s w) :
    chan t w = chan s w := by
  subst e; exact h

/-! ### Ops.lean -/

@[simp] theorem chan_takeFree (s : State) : chan (takeFree s).2 w = chan s w := by simp [takeFree]

@[simp] theorem chan_takeFreeBytes (s : State) (n) : chan (takeFreeBytes s n).2 w = chan s w := by simp [takeFreeBytes]

@[simp] theorem chan_emit (s : State) (o) : chan (emit s o) w = chan s w := (Announced.ofEmit _ _).chan w

@[simp] theorem chan_atsAsk (s : State) (why pasid addr write) : chan (atsAsk s why pasid addr write) w = chan s w :=
  (Announced.ofAtsAsk _ _ _ _ _).chan w

@[simp] theorem chan_msixSend (s : State) (v) : chan (msixSend s v) w = chan s w := (Announced.ofMsixSend _ _).chan w

@[simp] theorem chan_msixNow (s : State) (v) : chan (msixNow s v) w = chan s w := (Announced.ofMsixNow _ _).chan w

@[simp] theorem chan_setInt (s : State) (b) : chan (setInt s b) w = chan s w := (Announced.ofSetInt _ _).chan w

@[simp] theorem chan_postOut (s : State) (addr data ro ctx) : chan (postOut s addr data ro ctx) w = chan s w :=
  (Announced.ofPostOut _ _ _ _ _).chan w

@[simp] theorem chan_enqueue (s : State) (l) : chan (enqueue s l) w = chan s w := by simp [enqueue]

@[simp] theorem chan_eventQuiet (s : State) (typ sev data) : chan (eventQuiet s typ sev data).1 w = chan s w :=
  (Announced.ofEventQuiet _ _ _ _).chan w

@[simp] theorem chan_postDenied (s : State) (addr ctx) : chan (postDenied s addr ctx) w = chan s w :=
  (Announced.ofPostDenied _ _ _).chan w

@[simp] theorem chan_eventDenied (s : State) (addr) : chan (eventDenied s addr) w = chan s w :=
  (Announced.ofEventDenied _ _).chan w

@[simp] theorem chan_drainPosts (n) (s : State) : chan (drainPosts n s) w = chan s w :=
  (Announced.ofDrainPosts _ _).chan w

@[simp] theorem chan_postsGo (s : State) : chan (postsGo s) w = chan s w := by simp [postsGo]

@[simp] theorem chan_post (s : State) (q) : chan (post s q) w = chan s w := (Announced.ofPost _ _).chan w

@[simp] theorem chan_msix (s : State) (v) : chan (msix s v) w = chan s w := (Announced.ofMsix _ _).chan w

@[simp] theorem chan_postPages (n : Nat) (s : State) (a d ro ctx) : chan (postPages n s a d ro ctx) w = chan s w := by
  induction n generalizing s a d with
  | zero => rfl
  | succ n ih => simp [postPages, ih]

@[simp] theorem chan_hostWrite (s : State) (addr data ro ctx) : chan (hostWrite s addr data ro ctx) w = chan s w := by
  simp [hostWrite]

@[simp] theorem chan_sendRead (s : State) (tag) : chan (sendRead s tag) w = chan s w := by
  simp only [sendRead]
  repeat' split
  all_goals simp

@[simp] theorem chan_recordRead (s : State) (why addr len pasid sent) :
    chan (recordRead s why addr len pasid sent).2 w = chan s w := by simp [recordRead]

@[simp] theorem chan_hostRead (s : State) (why addr len ctx) : chan (hostRead s why addr len ctx).2 w = chan s w := by
  simp only [hostRead]
  repeat' split
  all_goals simp

@[simp] theorem chan_event (s : State) (typ sev data) : chan (event s typ sev data) w = chan s w :=
  (Announced.ofEvent _ _ _ _).chan w

@[simp] theorem chan_fwError (s : State) (subtype sev rest) : chan (fwError s subtype sev rest) w = chan s w :=
  (Announced.ofFwError _ _ _ _).chan w

@[simp] theorem chan_norWrite (s : State) (record) : chan (norWrite s record) w = chan s w :=
  (Announced.ofNorWrite _ _).chan w

@[simp] theorem chan_modCore (s : State) (n f) : chan (modCore s n f) w = chan s w := by simp [modCore]

/-! ### FlitOps.lean -/

@[simp] theorem chan_modLink (s : State) (l f) : chan (modLink s l f) w = chan s w := by simp [modLink]

@[simp] theorem chan_sendFlit (s : State) (l ftype vc seq payload) :
    chan (sendFlit s l ftype vc seq payload).1 w = chan s w := by simp [sendFlit]

@[simp] theorem chan_sendNumbered (s : State) (l ftype vc payload) :
    chan (sendNumbered s l ftype vc payload) w = chan s w := by simp [sendNumbered]

@[simp] theorem chan_sendCtrl (s : State) (l) : chan (sendCtrl s l) w = chan s w := by simp [sendCtrl]

/-! ### FabricOps.lean -/

@[simp] theorem chan_toRouter (s : State) (q) : chan (toRouter s q) w = chan s w := by simp [toRouter]

@[simp] theorem chan_sendRequest (s : State) (op flags tclass chip inc gaddr issuer parts why) :
    chan (sendRequest s op flags tclass chip inc gaddr issuer parts why).2 w = chan s w := by
  simp only [sendRequest]
  repeat' split
  all_goals simp [chan_foldl]

@[simp] theorem chan_freeTrack (s : State) (i) : chan (freeTrack s i) w = chan s w := by
  unfold freeTrack
  split <;> simp

/-! ### Sync.lean -/

@[simp] theorem chan_modQueue (s : State) (q f) : chan (modQueue s q f) w = chan s w := by simp [modQueue]

/-! ### Tower.lean -/

@[simp] theorem chan_poisonEvent (s : State) (source dpa) : chan (poisonEvent s source dpa) w = chan s w := by
  simp [poisonEvent]

@[simp] theorem chan_setPoison (s : State) (cell v) : chan (setPoison s cell v) w = chan s w := by simp [setPoison]

@[simp] theorem chan_storeCells (s : State) (cell data) : chan (storeCells s cell data) w = chan s w := by simp [storeCells]

@[simp] theorem chan_loseLine (s : State) (cell) : chan (loseLine s cell) w = chan s w := by simp [loseLine]

@[simp] theorem chan_lineCheck (s : State) (dpa cell err source) :
    chan (lineCheck s dpa cell err source) w = chan s w := by
  unfold lineCheck
  split <;> simp

@[simp] theorem chan_towerWrite (s : State) (dpa data mark err) :
    chan (towerWrite s dpa data mark err).1 w = chan s w := by
  simp only [towerWrite]
  repeat' split
  all_goals simp

@[simp] theorem chan_snoop (s : State) (dpa) : chan (snoop s dpa) w = chan s w := by simp [snoop]

@[simp] theorem chan_deepPoisonEvent (s : State) (source q dpa) :
    chan (deepPoisonEvent s source q dpa) w = chan s w := by simp [deepPoisonEvent]

/-! ### Access.lean -/

@[simp] theorem chan_l2Put (s : State) (k e) : chan (l2Put s k e) w = chan s w := by simp [l2Put]

@[simp] theorem chan_tlbUse (s : State) (st k e) : chan (tlbUse s st k e) w = chan s w := by simp [tlbUse]

@[simp] theorem chan_tlbDrop (s : State) (f) : chan (tlbDrop s f) w = chan s w := by simp [tlbDrop]

@[simp] theorem chan_accMod (s : State) (id f) : chan (accMod s id f) w = chan s w := by simp [accMod]

@[simp] theorem chan_accStage (s : State) (id g) : chan (accStage s id g) w = chan s w := by simp [accStage]

@[simp] theorem chan_accEnd (s : State) (id g) : chan (accEnd s id g) w = chan s w := by simp [accEnd]

@[simp] theorem chan_accFail (s : State) (id why) : chan (accFail s id why) w = chan s w := by
  simp only [accFail]
  repeat' split
  all_goals simp

@[simp] theorem chan_rcDropIf (s : State) (f) : chan (rcDropIf s f) w = chan s w := by simp [rcDropIf]

@[simp] theorem chan_poisonRead (s : State) (id a) : chan (poisonRead s id a) w = chan s w := by simp [poisonRead]

@[simp] theorem chan_deepLost (s : State) (id q dpa a) : chan (deepLost s id q dpa a) w = chan s w := by simp [deepLost]

@[simp] theorem chan_pumpDeep (n : Nat) (s : State) (q) : chan (pumpDeep n s q) w = chan s w := by
  induction n generalizing s with
  | zero => rfl
  | succ n ih =>
    unfold pumpDeep
    split <;> simp [ih]

@[simp] theorem chan_pumpPort (s : State) (q) : chan (pumpPort s q) w = chan s w := by simp [pumpPort]

@[simp] theorem chan_pumpPorts (s : State) : chan (pumpPorts s) w = chan s w := by simp [pumpPorts, chan_foldl]

@[simp] theorem chan_deepIssue (s : State) (id d a) : chan (deepIssue s id d a) w = chan s w := by
  simp only [deepIssue]
  repeat' split
  all_goals simp

@[simp] theorem chan_hostOut (s : State) (id addr a) : chan (hostOut s id addr a) w = chan s w := by simp [hostOut]

@[simp] theorem chan_hostPut (s : State) (id addr a) : chan (hostPut s id addr a) w = chan s w := by
  unfold hostPut
  split <;> simp

@[simp] theorem chan_hostGet (s : State) (id addr a) : chan (hostGet s id addr a) w = chan s w := by
  unfold hostGet
  split
  · simp
  · split
    · next e => rw [chan_accFail]; exact chan_snd e (by simp)
    · next e => rw [chan_accStage]; exact chan_snd e (by simp)

@[simp] theorem chan_remotePut (s : State) (id chip inc g a) : chan (remotePut s id chip inc g a) w = chan s w := by
  unfold remotePut
  dsimp only
  split
  · next e => rw [chan_accFail]; exact chan_snd e (by simp)
  · next e => rw [chan_accStage]; exact chan_snd e (by simp)
  · next e => rw [chan_accStage]; exact chan_snd e (by simp)

@[simp] theorem chan_issueAt (s : State) (id a e) : chan (issueAt s id a e) w = chan s w := by
  unfold issueAt
  split <;> simp

@[simp] theorem chan_issue (s : State) (id) : chan (issue s id) w = chan s w := by
  simp only [issue]
  repeat' split
  all_goals simp

@[simp] theorem chan_addAccess (s : State) (a) : chan (addAccess s a).2 w = chan s w := by simp [addAccess]

@[simp] theorem chan_startAccess (s : State) (a) : chan (startAccess s a) w = chan s w := by simp [startAccess, chan_foldl]

@[simp] theorem chan_startPhys (s : State) (a deep pa) : chan (startPhys s a deep pa) w = chan s w := by simp [startPhys]

@[simp] theorem chan_accDrop (s : State) (f) : chan (accDrop s f) w = chan s w := by simp [accDrop]

@[simp] theorem chan_accDiscard (s : State) (f) : chan (accDiscard s f) w = chan s w := by
  rw [accDiscard, chan_upd]
  refine chan_foldl (fun _ _ => ?_) _ _
  split <;> simp

@[simp] theorem chan_pumpStalled (s : State) : chan (pumpStalled s) w = chan s w := by
  refine chan_foldl (fun _ _ => ?_) _ _
  split <;> simp

@[simp] theorem chan_notifyErr (s : State) (q) : chan (notifyErr s q) w = chan s w := by simp [notifyErr]

@[simp] theorem chan_notifyOnce (s : State) (q x) : chan (notifyOnce s q x).1 w = chan s w := by
  unfold notifyOnce
  dsimp only
  split
  · next e => exact chan_snd e (by simp)
  · next e => simpa using chan_snd e (by simp)
  · next e => simpa using chan_snd e (by simp)

@[simp] theorem chan_pumpNotes (s : State) : chan (pumpNotes s) w = chan s w := by
  refine chan_foldl (fun _ _ => chan_foldl (fun _ _ => ?_) _ _) _ _
  split
  · simp
  · rfl

@[simp] theorem chan_portLose (s : State) (q) : chan (portLose s q) w = chan s w := by
  rw [portLose, chan_pumpPort]
  refine chan_foldl (fun _ _ => ?_) _ _
  split <;> simp

/-! ### Slots.lean -/

@[simp] theorem chan_modSlot (s : State) (i f) : chan (modSlot s i f) w = chan s w := by simp [modSlot]

@[simp] theorem chan_decideEnd (s : State) (i status detail app) :
    chan (decideEnd s i status detail app) w = chan s w := by simp [decideEnd]

@[simp] theorem chan_endRequest (s : State) (i status detail app) :
    chan (endRequest s i status detail app) w = chan s w := by simp [endRequest]

/-! ### Cores.lean -/

@[simp] theorem chan_setHeld (s : State) (q held) : chan (setHeld s q held) w = chan s w := by simp [setHeld]

@[simp] theorem chan_bridleTo (k on) (s : State) : chan (bridleTo k on s).state w = chan s w := by simp [bridleTo]

@[simp] theorem chan_bridleEff (k on) (s : State) : chan (bridleEff k on s).state w = chan s w := by simp [bridleEff]

/-! ### Tables.lean -/

@[simp] theorem chan_modTable (s : State) (i f) : chan (modTable s i f) w = chan s w := by simp [modTable]

@[simp] theorem chan_modEngine (s : State) (e f) : chan (modEngine s e f) w = chan s w := by simp [modEngine]

@[simp] theorem chan_applySwitch (s : State) (i) : chan (applySwitch s i) w = chan s w := by simp [applySwitch]

@[simp] theorem chan_modLookup (s : State) (e id f) : chan (modLookup s e id f) w = chan s w := by simp [modLookup]

@[simp] theorem chan_modPart (s : State) (e id i f) : chan (modPart s e id i f) w = chan s w := by simp [modPart]

@[simp] theorem chan_sendPart (s : State) (e l i x) : chan (sendPart s e l i x) w = chan s w := by
  unfold sendPart
  split
  · rfl
  · split
    · rfl
    · split
      · next e => exact chan_snd e (by simp)
      · next e => simpa using chan_snd e (by simp)
      · next e => simpa using chan_snd e (by simp)

@[simp] theorem chan_pumpParts (s : State) : chan (pumpParts s) w = chan s w :=
  chan_foldl (fun _ _ => chan_foldl (fun _ _ => chan_foldl (fun _ _ => by simp) _ _) _ _) _ _

@[simp] theorem chan_dropLookup (s : State) (e id) : chan (dropLookup s e id) w = chan s w := by
  simp [dropLookup, chan_foldl]

/-! ### Queues.lean -/

@[simp] theorem chan_notify (s : State) (q) : chan (notify s q) w = chan s w := by simp [notify]

@[simp] theorem chan_fabricRecord (s : State) (q x dva b errs) :
    chan (fabricRecord s q x dva b errs) w = chan s w := by
  unfold fabricRecord
  split
  · simp
  · dsimp only
    split
    · split
      · next e => rw [chan_notify]; exact chan_fst e (by simp)
      · next e => exact chan_fst e (by simp)
    · simp

@[simp] theorem chan_postRecord (s : State) (q token user e dup cached errs) :
    chan (postRecord s q token user e dup cached errs) w = chan s w := by
  unfold postRecord
  split <;> simp

@[simp] theorem chan_cachePut (s : State) (e) : chan (cachePut s e) w = chan s w := by
  simp only [cachePut]
  repeat' split
  all_goals simp

@[simp] theorem chan_postSlot (s : State) (i errs) : chan (postSlot s i errs) w = chan s w := by
  simp only [postSlot]
  repeat' split
  all_goals simp [chan_foldl]

/-! ### Reef.lean -/

@[simp] theorem chan_modOct (s : State) (k f) : chan (modOct s k f) w = chan s w := by simp [modOct]

@[simp] theorem chan_noteReef (s : State) : chan (noteReef s) w = chan s w := by simp [noteReef, chan_foldl]

/-! ### Memory.lean -/

@[simp] theorem chan_rcEmpty (s : State) : chan (rcEmpty s) w = chan s w := by simp [rcEmpty]

@[simp] theorem chan_enumerate (s : State) (mask found) : chan (enumerate s mask found) w = chan s w := by
  simp [enumerate, chan_foldl]

@[simp] theorem chan_fillTower (k) (n : Nat) (s : State) (i) : chan (fillTower k n s i) w = chan s w := by
  induction n generalizing s i with
  | zero => rfl
  | succ n ih => simp [fillTower, ih]

@[simp] theorem chan_fillDeep (c k) (n : Nat) (s : State) (i) : chan (fillDeep c k n s i).1 w = chan s w := by
  induction n generalizing s i with
  | zero => rfl
  | succ n ih =>
    unfold fillDeep
    dsimp only
    split
    · rfl
    · rw [ih, chan_startPhys]

/-! ### Xlate.lean -/

@[simp] theorem chan_prefetchLines (s : State) (i o e lo hi) : chan (prefetchLines s i o e lo hi) w = chan s w := by
  simp [prefetchLines, chan_foldl]

@[simp] theorem chan_prefetchRun (s : State) (i k pages) : chan (prefetchRun s i k pages) w = chan s w := by
  simp [prefetchRun, chan_foldl]

@[simp] theorem chan_pinRange (s : State) (mask l) : chan (pinRange s mask l) w = chan s w := by simp [pinRange]

@[simp] theorem chan_unpinRange (s : State) (x dva len) : chan (unpinRange s x dva len) w = chan s w := by simp [unpinRange]

/-! ### Sched.lean -/

@[simp] theorem chan_cancelSlot (s : State) (i) : chan (cancelSlot s i) w = chan s w := by
  unfold cancelSlot
  split <;> simp

@[simp] theorem chan_dropQueue (s : State) (q) : chan (dropQueue s q) w = chan s w := by simp [dropQueue]

/-! ### Fence.lean -/

@[simp] theorem chan_dropLookups (s : State) (f) : chan (dropLookups s f) w = chan s w := by simp [dropLookups, chan_foldl]

@[simp] theorem chan_fenceSlot (s : State) (i n) : chan (fenceSlot s i n) w = chan s w := by simp [fenceSlot]

@[simp] theorem chan_fenceRecords (s : State) (i) : chan (fenceRecords s i) w = chan s w := by
  unfold fenceRecords
  split <;> simp

@[simp] theorem chan_fence (s : State) (n cause) : chan (fence s n cause) w = chan s w := by
  simp only [fence]
  repeat' split
  all_goals simp

/-! ### Calib.lean -/

@[simp] theorem chan_modItem (s : State) (n f) : chan (modItem s n f) w = chan s w := by simp [modItem]

@[simp] theorem chan_calFailEvent (s : State) (run mask) : chan (calFailEvent s run mask) w = chan s w :=
  (Announced.ofCalFailEvent _ _ _).chan w

@[simp] theorem chan_calRecord (s : State) (mask) : chan (calRecord s mask) w = chan s w := by simp [calRecord]

@[simp] theorem chan_calApply (s : State) (n v) : chan (calApply s n v) w = chan s w := by simp [calApply]

@[simp] theorem chan_calSettle (n) (s : State) : chan (calSettle n s) w = chan s w := by simp [calSettle]

@[simp] theorem chan_gnStart (s : State) : chan (gnStart s) w = chan s w := by simp [gnStart]

@[simp] theorem chan_calFirstLock (s : State) : chan (calFirstLock s) w = chan s w := by simp [calFirstLock]

/-! ### Time.lean -/

@[simp] theorem chan_timeEvent (b) (s : State) : chan (timeEvent b s) w = chan s w := (Announced.ofTimeEvent _ _).chan w

@[simp] theorem chan_timeStep {f : State → State} (s : State) (h : chan (f s) w = chan s w) :
    chan (timeStep f s) w = chan s w := by simp [h, timeStep]

@[simp] theorem chan_firstLock (s : State) (x now) : chan (firstLock s x now) w = chan s w := by simp [firstLock]

@[simp] theorem chan_reselect (lost) (s : State) :
    chan (reselect lost s) w = chan s w := by
  simp only [reselect]
  repeat' split
  all_goals simp

@[simp] theorem chan_fabDrop (s : State) : chan (fabDrop s) w = chan s w := by simp [fabDrop]

@[simp] theorem chan_timeConfigEff (k) (s : State) : chan (timeConfigEff k s) w = chan s w := by simp [timeConfigEff]

@[simp] theorem chan_timeSetEff (c k) (s : State) : chan (timeSetEff c k s).state w = chan s w := by simp [timeSetEff]

/-! ### Gnss.lean -/

@[simp] theorem chan_gnEvent (s : State) (cause set sev residual) :
    chan (gnEvent s cause set sev residual) w = chan s w := by simp [gnEvent]

@[simp] theorem chan_setTarget (s : State) (sig sv st) : chan (setTarget s sig sv st) w = chan s w := by simp [setTarget]

@[simp] theorem chan_chanLost (s : State) (n) : chan (chanLost s n) w = chan s w := by simp [chanLost]

@[simp] theorem chan_dropPort (ok) (s : State) (q) : chan (dropPort ok s q) w = chan s w := by simp [dropPort, chan_foldl]

@[simp] theorem chan_gnMirror (s : State) : chan (gnMirror s) w = chan s w := by simp [gnMirror]

@[simp] theorem chan_startHold (s : State) (q entered check) :
    chan (startHold s q entered check) w = chan s w := by simp [startHold]

@[simp] theorem chan_startSurvey (s : State) (min_) : chan (startSurvey s min_) w = chan s w := by simp [startSurvey]

@[simp] theorem chan_gnConfigEff (k) (s : State) : chan (gnConfigEff k s) w = chan s w := by simp [gnConfigEff]

@[simp] theorem chan_gnSurveyEff (k) (s : State) : chan (gnSurveyEff k s) w = chan s w := by simp [gnSurveyEff]

@[simp] theorem chan_gnPositionEff (k) (s : State) : chan (gnPositionEff k s) w = chan s w := by simp [gnPositionEff]

@[simp] theorem chan_gnStreamEff (k) (s : State) : chan (gnStreamEff k s) w = chan s w := by simp [gnStreamEff]

@[simp] theorem chan_assistItem (k ok) (a : State × Nat) (i) :
    chan (assistItem k ok a i).1 w = chan a.1 w := by
  unfold assistItem
  dsimp only
  split
  · rfl
  · split
    · rfl
    · simp

@[simp] theorem chan_gnAssistEff (ok k) (s : State) :
    chan (gnAssistEff ok k s).state w = chan s w := by
  have taken (l : List Nat) (a : State × Nat) : chan (l.foldl (assistItem k ok) a).1 w = chan a.1 w := by
    induction l generalizing a with
    | nil => rfl
    | cons i l ih => exact (ih _).trans (chan_assistItem _ _ _ _)
  simp [gnAssistEff, taken]

/-! ### Power.lean -/

@[simp] theorem chan_modPwr (s : State) (f) : chan (modPwr s f) w = chan s w := by simp [modPwr]

@[simp] theorem chan_reefInput (s : State) (f) : chan (reefInput s f) w = chan s w := by simp [reefInput]

@[simp] theorem chan_coreEmpty (s : State) (n) : chan (coreEmpty s n) w = chan s w := by simp [coreEmpty]

@[simp] theorem chan_gnssOff (s : State) : chan (gnssOff s) w = chan s w := by
  have cleared (tb gn) : chan { s with tb := tb, gn := gn } w = chan s w := by
    rfl
  unfold gnssOff
  dsimp only
  split <;> simp [cleared]

@[simp] theorem chan_deepOff (s : State) : chan (deepOff s) w = chan s w := by simp [deepOff, chan_foldl]

@[simp] theorem chan_setDomain (s : State) (d on) : chan (setDomain s d on) w = chan s w := by simp [setDomain]

@[simp] theorem chan_domainEff (s : State) (d on found) : chan (domainEff s d on found) w = chan s w := by simp [domainEff]

/-! ### Boot.lean -/

@[simp] theorem chan_modSec (s : State) (f) : chan (modSec s f) w = chan s w := by simp [modSec]

@[simp] theorem chan_wipe (s : State) : chan (wipe s) w = chan s w := by simp [wipe]

@[simp] theorem chan_deriveKeys (s : State) : chan (deriveKeys s) w = chan s w := by simp [deriveKeys]

@[simp] theorem chan_startFw (s : State) (b fallback) : chan (startFw s b fallback) w = chan s w := by simp [startFw]

@[simp] theorem chan_setSession (s : State) (x) : chan (setSession s x) w = chan s w := by simp [setSession]

@[simp] theorem chan_putSlot (s : State) (b off d) : chan (putSlot s b off d) w = chan s w := by simp [putSlot]

@[simp] theorem chan_adopt (s : State) (b) : chan (adopt s b) w = chan s w := by simp [adopt]

/-! ### Dump.lean -/

@[simp] theorem chan_modHlt (s : State) (f) : chan (modHlt s f) w = chan s w := by simp [modHlt]

/-! ### TableOps.lean -/

@[simp] theorem chan_closeRing (s : State) (held) : chan (closeRing s held) w = chan s w := by simp [closeRing]

/-! ### SeqFlow.lean -/

@[simp] theorem chan_transit (s : State) : chan (transit s) w = chan s w := by simp [transit]

theorem chan_live {s : State} {f : State → State} (h : chan (f s) w = chan s w) : chan (resState s (live s f)) w = chan s w := by
  simp [live, resState, h]

/-! ### What an opcode leaves of another channel than its own (05 R94, R97) -/

section Own
variable {c : Chan} (ne : w ≠ c)
include ne

theorem chan_modChan_other (s : State) (f) : chan (modChan s c f) w = chan s w :=
  Vector.getElem_set_ne c.isLt w.isLt fun e => ne (Fin.ext e.symm)

theorem chan_finishWith_other (irq) (s : State) (st d p) : chan (finishWith irq s c st d p) w = chan s w := by
  unfold finishWith
  split <;> simp [chan_modChan_other ne]

theorem chan_finishCmd_other (s : State) (st d p) : chan (finishCmd s c st d p) w = chan s w :=
  chan_finishWith_other ne true s st d p

theorem chan_setBegun_other (s : State) : chan (setBegun s c) w = chan s w := chan_modChan_other ne s _

theorem chan_setProgress_other (s : State) (n) : chan (setProgress s c n) w = chan s w := chan_modChan_other ne s _

theorem chan_setEnding_other (s : State) (st) : chan (setEnding s c st) w = chan s w := chan_modChan_other ne s _

/-- An opcode whose effect leaves the channel. -/
theorem chan_runOp (s : State) (op) {chk refused} {eff : CmdHeld → State → Done}
    (h : ∀ k, chan (eff k s).state w = chan s w) : chan (runOp s c op chk refused eff) w = chan s w := by
  unfold runOp
  split
  · rfl
  · next k _ =>
    split
    · rfl
    · split
      · exact chan_finishCmd_other ne s _ _ _
      · have kept := h k
        split <;> next e =>
          rw [e] at kept
          simpa [chan_finishCmd_other ne, chan_setBegun_other ne] using kept

theorem chan_plainOp (s : State) (op) {chk resp eff} (h : ∀ k, chan (eff k s) w = chan s w) :
    chan (plainOp s c op chk resp eff) w = chan s w := by
  simp only [plainOp]
  repeat' split
  all_goals simp [chan_finishCmd_other ne, h]

theorem chan_dumpStep (k) (s : State) : chan (dumpStep c k s).state w = chan s w := by
  simp [dumpStep, chan_setProgress_other ne]

theorem chan_execOpDump (s : State) : chan (resState s (execOpDump c s)) w = chan s w :=
  chan_live (chan_runOp ne s _ fun k => chan_dumpStep ne k s)

theorem chan_execOpErrorLog (s : State) : chan (resState s (execOpErrorLog c s)) w = chan s w :=
  chan_live (chan_runOp ne s _ fun _ => rfl)

theorem chan_execOpPrefetch (s : State) : chan (resState s (execOpPrefetch c s)) w = chan s w := by
  refine chan_live (chan_runOp ne s _ fun k => ?_)
  simp [chan_foldl]

theorem chan_execOpAdvise (s : State) : chan (resState s (execOpAdvise c s)) w = chan s w := by
  refine chan_live (chan_plainOp ne s _ fun k => ?_)
  split <;> simp

theorem chan_execOpReqCancel (s : State) : chan (resState s (execOpReqCancel c s)) w = chan s w := by
  refine chan_live (chan_plainOp ne s _ fun k => ?_)
  split <;> simp

theorem chan_execOpPageRetire (s : State) : chan (resState s (execOpPageRetire c s)) w = chan s w := by
  refine chan_live (chan_plainOp ne s _ fun k => ?_)
  dsimp only
  repeat' split
  all_goals simp

theorem chan_execOpQueueDestroy (s : State) : chan (resState s (execOpQueueDestroy c s)) w = chan s w := by
  refine chan_live (chan_runOp ne s _ fun k => ?_)
  dsimp only
  repeat' split
  all_goals simp [chan_foldl]

theorem chan_execOpFill (lines) (s : State) : chan (resState s (execOpFill c lines s)) w = chan s w := by
  refine chan_live (chan_runOp ne s _ fun k => ?_)
  dsimp only
  repeat' split
  all_goals simp [chan_setProgress_other ne, chan_setEnding_other ne]

theorem chan_execOpTableEpochAt (s : State) : chan (resState s (execOpTableEpochAt c s)) w = chan s w := by
  refine chan_live ?_
  split <;> simp [chan_runOp ne]

theorem chan_execOpTableStats (s : State) : chan (resState s (execOpTableStats c s)) w = chan s w := by
  refine chan_live ?_
  split <;> simp [chan_plainOp ne]

theorem chan_execOpFwUpdateData (s : State) : chan (resState s (execOpFwUpdateData c s)) w = chan s w := by
  refine chan_live (chan_plainOp ne s _ fun k => ?_)
  split <;> simp

theorem chan_execOpFwUpdateCommit (s : State) : chan (resState s (execOpFwUpdateCommit c s)) w = chan s w := by
  refine chan_live (chan_runOp ne s _ fun k => ?_)
  dsimp only
  repeat' split
  all_goals simp

/-- An opcode leaves every channel but its own. -/
theorem chan_exec {i : Instr} {s : State} (own : i.ownChan = some c) : chan (resState s (exec i s)) w = chan s w := by
  cases i with
  | opAdvise | opDump | opErrorLog | opFill | opFwUpdateCommit | opFwUpdateData | opPageRetire | opPrefetch |
    opQueueDestroy | opReqCancel | opTableEpochAt | opTableStats =>
    cases own
    simp [exec, chan_execOpAdvise ne, chan_execOpDump ne, chan_execOpErrorLog ne, chan_execOpFill ne,
      chan_execOpFwUpdateCommit ne, chan_execOpFwUpdateData ne, chan_execOpPageRetire ne, chan_execOpPrefetch ne,
      chan_execOpQueueDestroy ne, chan_execOpReqCancel ne, chan_execOpTableEpochAt ne, chan_execOpTableStats ne]
  | opTimeConfig | opTimeSet | opTimeStatus | opCalRead | opGnssConfig | opGnssSurvey | opGnssPosition | opGnssStream |
    opNop | opGetInfo | opEventRing | opHealthSummary | opCoherenceMode | opCtxCreate | opCtxDestroy | opMap | opUnmap |
    opTlbInval | opMigrate | opRowcacheConfig | opCoreFence | opCoreBridle | opCoreUnbridle | opCoreStatus | opTableCreate |
    opTableDestroy | opUpdateStreamOpen | opUpdateStreamClose | opPlanLoad | opPlanUnload | opQueueCreate | opReplayWindow |
    opSyncAlloc | opSyncFree | opChipIdSet | opLinkUp | opRouteSet | opRemoteTimeout | opFabricStatus | opHeartbeatConfig |
    opPowerLimit | opReefStatus | opBoost | opThermalRead | opFwUpdateBegin | opLifecycleAdvance | opLifecycleStatus |
    opAttest | opGnssAssist | opDeepPortConfig | opDomainPower =>
    cases own
    simp [exec, chan_live, chan_runOp ne, chan_plainOp ne, chan_setProgress_other ne, execOpTimeConfig, execOpTimeSet,
      execOpTimeStatus, execOpCalRead, execOpGnssConfig, execOpGnssSurvey, execOpGnssPosition, execOpGnssStream, execOpNop,
      execOpGetInfo, execOpEventRing, execOpHealthSummary, execOpCoherenceMode, execOpCtxCreate, execOpCtxDestroy,
      execOpMap, execOpUnmap, execOpTlbInval, execOpMigrate, execOpRowcacheConfig, execOpCoreFence, execOpCoreBridle,
      execOpCoreUnbridle, execOpCoreStatus, execOpTableCreate, execOpTableDestroy, execOpUpdateStreamOpen,
      execOpUpdateStreamClose, execOpPlanLoad, execOpPlanUnload, execOpQueueCreate, execOpReplayWindow, execOpSyncAlloc,
      execOpSyncFree, execOpChipIdSet, execOpLinkUp, execOpRouteSet, execOpRemoteTimeout, execOpFabricStatus,
      execOpHeartbeatConfig, execOpPowerLimit, execOpReefStatus, execOpBoost, execOpThermalRead, execOpFwUpdateBegin,
      execOpLifecycleAdvance, execOpLifecycleStatus, execOpAttest, execOpGnssAssist, execOpDeepPortConfig, execOpDomainPower]
  | _ => cases own

end Own

end

/-- Settles O60: an opcode's effect leaves the channels, or only sets the progress of its own command, and its end is its own
channel's. -/
theorem channelsApart : Obligations.ChannelsApart := by
  unfold Obligations.ChannelsApart
  intro i s t c d own e ne
  have kept := chan_exec ne (s := s) own
  rwa [e] at kept

end Sys2Proof.Machine

/-! ## 05: what leaves at once, and doorbells (the statement of O8) -/

namespace Sys2Proof.Machine

/-! ### Nothing waits to leave (06 R129) -/

theorem drainPosts_of_none {s : State} (h : s.hl.posts = []) (n : Nat) : drainPosts n s = s := by
  cases n <;> simp [drainPosts, h]

theorem msixNow_posts (s : State) (v : Nat) : (msixNow s v).hl.posts = s.hl.posts := by
  unfold msixNow msixSend
  split
  · rfl
  · split
    · rfl
    · dsimp only
      split <;> rfl

/-- With no post waiting a trigger is raised at once. -/
theorem msix_of_noPosts {s : State} (h : s.hl.posts = []) (v : Nat) : msix s v = msixNow s v := by
  have only : s.hl.posts ++ [Post.msix v] = [Post.msix v] := by rw [h, List.nil_append]
  have same : { s with hl := { s.hl with posts := [] } } = s := by rw [← h]
  rw [msix, post, postsGo, enqueue, only]
  simp only [List.length_singleton, drainPosts, same]
  exact drainPosts_of_none ((msixNow_posts s v).trans h) 2

/-- The message of vector `v`. -/
def message (s : State) (v : Nat) : Out :=
  .msix v (s.hl.cfg.msix.getD v ⟨0, 0, true⟩).addr (s.hl.cfg.msix.getD v ⟨0, 0, true⟩).data

theorem msixSend_out (s : State) (v : Nat) : (msixSend s v).out = if hostUp s then s.out ++ [message s v] else s.out :=
  apply_ite State.out _ _ _

/-- An open vector outside its gap sends its message. -/
theorem msixNow_out {s : State} {v : Nat} (o : vecOpen s v = true) (g : vecGap s v = false) (u : hostUp s = true) :
    (msixNow s v).out = s.out ++ [message s v] := by
  simp [msixNow, o, g, msixSend_out, u]

/-! ### A doorbell by its SEQ and the channel's state (05 R101) -/

theorem nextSeq_ne (n : Half) : nextSeq n ≠ n := by
  unfold nextSeq
  split
  · next h => rcases Bool.or_eq_true_iff.mp h with h | h <;> simp_all
  · bv_omega

theorem nextSeq_eq (n : Half) : nextSeq n = if n = 0 ∨ n = 0xFFFF then 1 else n + 1 := by
  simp [nextSeq]

/-- The channel as a doorbell of SEQ `n` leaves it: busy with the doorbell numbered `b`. -/
def bellRung (n : Half) (b : Nat) (ch : MbxChan) : MbxChan :=
  { ch with busy := true, ack := false, done := false, replayed := false, bell := n, bellNo := b }

/-- The channel's doorbell is taken, the number of the next one counted; firmware has not looked at its SEQ yet. -/
def bellTaken (s : State) (c : Chan) (n : Half) : State :=
  { modChan s c (bellRung n s.mbx.bells) with
    mbx := { (modChan s c (bellRung n s.mbx.bells)).mbx with bells := s.mbx.bells + 1 } }

@[simp] theorem chan_bellTaken (s : State) (c : Chan) (n : Half) :
    chan (bellTaken s c n) c = bellRung n s.mbx.bells (chan s c) :=
  chan_modChan s c (bellRung n s.mbx.bells)

section Doorbell
variable {s : State} {c : Chan} {n : Half}

theorem ringBell_disabled (e : (chan s c).enabled = false) : ringBell s c n = s := by
  simp [ringBell, e]

section Enabled
variable (e : (chan s c).enabled = true)
include e

theorem ringBell_again (b : (chan s c).busy = true) (q : n = (chan s c).bell) : ringBell s c n = s := by
  simp [ringBell, e, b, q]

theorem ringBell_overrun (b : (chan s c).busy = true) (q : n ≠ (chan s c).bell) :
    chan (ringBell s c n) c = { chan s c with overrun := true } := by
  simp [ringBell, e, b, q]

/-- A free channel takes the doorbell. -/
theorem ringBell_free (b : (chan s c).busy = false) (serves : mpServes s = true) :
    ringBell s c n = bellDecide (bellTaken s c n) c := by
  simp only [ringBell, e, b, Bool.not_true, Bool.false_eq_true, if_false]
  exact if_pos serves

end Enabled

theorem bellDecide_new (q : (chan s c).bell = nextSeq (chan s c).lastSeq) : bellDecide s c = s := by
  simp [bellDecide, q, nextSeq_ne]

theorem bellDecide_replay (q : (chan s c).bell = (chan s c).lastSeq) (z : (chan s c).bell ≠ 0) : bellDecide s c = replay s c := by
  unfold bellDecide
  exact if_pos (by simpa [← q] using z)

theorem bellDecide_refuse (q : (chan s c).bell ≠ nextSeq (chan s c).lastSeq)
    (z : (chan s c).bell ≠ (chan s c).lastSeq ∨ (chan s c).bell = 0) : bellDecide s c = seqRefuse s c := by
  unfold bellDecide
  refine (if_neg ?_).trans (if_pos (by simpa using q))
  rcases z with z | z
  · simp [z]
  · simp only [z, Bool.and_eq_true, decide_eq_true_eq, bne_iff_ne]
    exact fun ⟨e, ne⟩ => ne e.symm

/-- A replay gives the last response again, with the channel's interrupt. -/
theorem replay_announced : Announced (modChan s c fun ch => { ch with ack := true, replayed := true, done := true, busy := false })
    (replay s c) :=
  .ofIte _ (.ofMsix _ _) (.refl _)

theorem replay_out (i : (chan s c).irqEn = true) (p : s.hl.posts = []) (o : vecOpen s (chan s c).vector.toNat = true)
    (g : vecGap s (chan s c).vector.toNat = false) (u : hostUp s = true) :
    (replay s c).out = s.out ++ [message s (chan s c).vector.toNat] := by
  simp only [replay, chan_modChan, i, if_true]
  exact (congrArg State.out (msix_of_noPosts (s := modChan s c _) p _)).trans (msixNow_out (s := modChan s c _) o g u)

end Doorbell

section HostDoorbell
variable {s : State} {c : Fin 16} {v : Word} (awake : Awake s) (decode : hostDecode s = true)
include awake decode

theorem runs_mbxDoorbell {P : State → Prop} (p : P (ringBell s (hostChan c) (v.setWidth 16))) : Runs (.mbxDoorbell c v) s P :=
  runs_barWrite (f := fun s => ringBell s (hostChan c) (v.setWidth 16)) rfl awake decode p

variable (e : (chan s (hostChan c)).enabled = true) (b : (chan s (hostChan c)).busy = false) (serves : mpServes s = true)
include e b serves

theorem mbxDoorbell_new (q : v.setWidth 16 = nextSeq (chan s (hostChan c)).lastSeq) : Runs (.mbxDoorbell c v) s fun t =>
    chan t (hostChan c) = bellRung (v.setWidth 16) s.mbx.bells (chan s (hostChan c)) := by
  refine runs_mbxDoorbell awake decode ?_
  rw [ringBell_free e b serves, bellDecide_new (by rw [chan_bellTaken]; exact q), chan_bellTaken]

theorem mbxDoorbell_replay (q : v.setWidth 16 = (chan s (hostChan c)).lastSeq) (z : v.setWidth 16 ≠ (0 : Half)) :
    Runs (.mbxDoorbell c v) s fun t =>
      chan t (hostChan c) = { bellRung (v.setWidth 16) s.mbx.bells (chan s (hostChan c)) with
        busy := false, ack := true, done := true, replayed := true } ∧
      ((chan s (hostChan c)).irqEn = true → s.hl.posts = [] → vecOpen s (chan s (hostChan c)).vector.toNat = true →
        vecGap s (chan s (hostChan c)).vector.toNat = false → hostUp s = true →
        ∃ a d, t.out = s.out ++ [.msix (chan s (hostChan c)).vector.toNat a d]) := by
  refine runs_mbxDoorbell awake decode ?_
  have old : bellDecide (bellTaken s (hostChan c) (v.setWidth 16)) (hostChan c) = replay (bellTaken s (hostChan c) (v.setWidth 16))
      (hostChan c) := bellDecide_replay (by rw [chan_bellTaken]; exact q) (by rw [chan_bellTaken]; exact z)
  rw [ringBell_free e b serves, old, replay_announced.timeOnly.chan, chan_modChan, chan_bellTaken]
  refine ⟨rfl, fun i p o g u => ?_⟩
  have sent := replay_out (s := bellTaken s (hostChan c) (v.setWidth 16)) (c := hostChan c)
  rw [chan_bellTaken] at sent
  exact ⟨_, _, sent i p o g u⟩

theorem mbxDoorbell_refuse (q : v.setWidth 16 ≠ nextSeq (chan s (hostChan c)).lastSeq)
    (z : v.setWidth 16 ≠ (chan s (hostChan c)).lastSeq ∨ v.setWidth 16 = (0 : Half)) : Runs (.mbxDoorbell c v) s fun t =>
      chan t (hostChan c) = { bellRung (v.setWidth 16) s.mbx.bells (chan s (hostChan c)) with busy := false, seqErr := true } := by
  refine runs_mbxDoorbell awake decode ?_
  rw [ringBell_free e b serves, bellDecide_refuse (by rw [chan_bellTaken]; exact q) (by rw [chan_bellTaken]; exact z), seqRefuse,
    chan_modChan, chan_bellTaken]

end HostDoorbell

end Sys2Proof.Machine

/-! ## 05: the ending of a command by OP_MBX_RESET, a reset or its time (R99, R100, R105, R109), and the statement of O8 -/

namespace Sys2Proof.Machine

/-! ### Its steps stop (05 R100) -/

section
variable {w : Chan}

@[simp] theorem chan_invalDrain (s : State) (tag) : chan (invalDrain s tag) w = chan s w := by simp [invalDrain, chan_foldl]

@[simp] theorem chan_stopReads (s : State) (c) : chan (stopReads s c) w = chan s w := by simp [stopReads, chan_foldl]

@[simp] theorem chan_owe (s : State) (q) : chan (owe s q) w = chan s w := by
  unfold owe
  split <;> simp

@[simp] theorem chan_losePackets (s : State) (f) : chan (losePackets s f) w = chan s w := by
  rw [losePackets, chan_upd]
  refine chan_foldl (fun _ _ => ?_) _ _
  repeat' split
  all_goals simp

@[simp] theorem chan_clearLink (s : State) (l) : chan (clearLink s l) w = chan s w := by simp [clearLink]

@[simp] theorem chan_trainStop (s : State) (c) : chan (trainStop s c) w = chan s w := by simp [trainStop, chan_foldl]

@[simp] theorem chan_calAbort (s : State) : chan (calAbort s) w = chan s w := by simp [calAbort]

@[simp] theorem chan_stopCmd (s : State) (c k) : chan (stopCmd s c k) w = chan s w := by
  unfold stopCmd
  split <;> simp

end

@[simp] theorem stopCmd_hlt (s : State) (c : Chan) (k : CmdHeld) : (stopCmd s c k).hlt = s.hlt :=
  part_stopCmd (p := .health) s c k nofun nofun

@[simp] theorem endCmd_hlt (s : State) (c : Chan) (st : Nat) : (endCmd s c st).hlt = s.hlt :=
  part_endCmd (p := .health) s c st nofun nofun

/-! ### It ends -/

section Ending
variable {s : State} {c : Chan} {k : CmdHeld}

theorem finishCmd_chan (h : (chan s c).cmd = some k) (g : s.hlt.mpHung = false) (st d : Nat) (p : Bytes) :
    chan (finishCmd s c st d p) c = completed k st d p (chan s c) := by
  rw [(finishCmd_announced h g st d p).chan, chan_modChan]

theorem endCmd_of_none (h : (chan s c).cmd = none) (st : Nat) : endCmd s c st = s := by
  simp [endCmd, h]

/-- Deep writes of an OP_FILL in flight hold its end (08 R188). -/
theorem endCmd_held (h : (chan s c).cmd = some k) (g : s.hlt.mpHung = false) (f : fillFlies s c k = true) (st : Nat) :
    endCmd s c st = setEnding s c st := by
  simp [endCmd, h, g, f]

theorem endCmd_finishes (h : (chan s c).cmd = some k) (g : s.hlt.mpHung = false) (f : fillFlies s c k = false) (st : Nat) :
    ∃ p, endCmd s c st = finishCmd (stopCmd s c k) c st 0 p := by
  refine ⟨if k.opcode.toNat = 0x030A then fillResp (filled s c k) else respOf (stopCmd s c k) c k, ?_⟩
  simp [endCmd, h, g, f]

theorem endCmd_answered (h : (chan s c).cmd = some k) (g : s.hlt.mpHung = false) (f : fillFlies s c k = false)
    (wf : Memory.wf (chan s c).resp = true) (st : Nat) : ∃ p, Answered (endCmd s c st) c k st p := by
  obtain ⟨p, e⟩ := endCmd_finishes h g f st
  exact ⟨p, e ▸ finishCmd_answered (by simpa using h) (by simpa using g) (by simpa using wf) st p⟩

/-- No command is left on the channel, unless a fill holds its end. -/
theorem endCmd_cmd (g : s.hlt.mpHung = false) (f : (chan s c).cmd.any (fillFlies s c) = false) (st : Nat) :
    (chan (endCmd s c st) c).cmd = none := by
  cases h : (chan s c).cmd with
  | none => rw [endCmd_of_none h, h]
  | some k =>
    obtain ⟨p, e⟩ := endCmd_finishes h g (by simpa [h] using f) st
    rw [e, finishCmd_chan (k := k) (by simpa using h) (by simpa using g)]
    rfl

theorem chan_endCmd_other {w : Chan} (ne : w ≠ c) (st : Nat) : chan (endCmd s c st) w = chan s w := by
  unfold endCmd
  split
  · rfl
  · simp [chan_setEnding_other ne, chan_finishCmd_other ne]

end Ending

/-! ### OP_MBX_RESET (05 R109) -/

theorem unnamed_of_mailboxOpcode {s : State} {c : Chan} {op : Nat} {k : CmdHeld} (h : HasCmd s c op k)
    (m : op ∈ [0x0001, 0x0002, 0x0003, 0x0004, 0x0005, 0x0006, 0x0007, 0x0901, 0x0902, 0x0903]) : namedObjs k = [] := by
  have ⟨_, _, _, code, _⟩ := h
  simp only [List.mem_cons, List.not_mem_nil, or_false] at m
  rcases m with rfl | rfl | rfl | rfl | rfl | rfl | rfl | rfl | rfl | rfl <;> simp [namedObjs, code]

/-- The effect having left the command's own channel and the health registers alone, the command is answered. -/
theorem HasCmd.answers_own {s t : State} {c : Chan} {op : Nat} {k : CmdHeld} (h : HasCmd s c op k) (own : chan t c = chan s c)
    (hlt : t.hlt = s.hlt) (st : Nat) (p : Bytes) : Answered (finishCmd t c st 0 p) c k st p := by
  have running := h.running
  obtain ⟨_, _, cmd, _, _, _, wf⟩ := h
  exact finishCmd_answered (by rw [own, cmd]) (hlt ▸ running) (by rw [own, wf]) st p

theorem namedChan_eq {k : CmdHeld} {d : Fin 16} (e : k.f 0 1 = d.val) : namedChan k = hostChan d := by
  have := d.isLt
  apply Fin.ext
  simp only [namedChan, hostChan, e]
  omega

section Reset
variable {s : State} {c : Chan} {k : CmdHeld} {d : Fin 16} (h : HasCmd s c 0x0004 k) (e : k.f 0 1 = d.val) (pos : 1 ≤ d.val)
  (ne : hostChan d ≠ c) (r : Reserved k [1, 2, 3])

def mbxResetChk (k : CmdHeld) : Chk := { param := chanChk k :: k.rsv 1 4 }

def mbxResetEff (k : CmdHeld) (s : State) : Done :=
  let n := namedChan k
  let t := endCmd s n stAborted
  if (chan s n).cmd.any (fillFlies s n) then .wait t else .ok (clearChan t n) []

include h e pos r in
theorem mbxReset_goes : Goes s c 0x0004 mbxResetChk k := by
  refine h.goes (unnamed_of_mailboxOpcode h (by simp)) rfl fun x m => ?_
  rcases List.mem_cons.mp m with rfl | m
  · have := d.isLt
    simp [chanChk, bad, e]
    omega
  · exact rsv_none r (by decide) x m

include h e pos ne r

theorem opMbxReset_ends (f : (chan s (hostChan d)).cmd.any (fillFlies s (hostChan d)) = false) : Runs (.opMbxReset c) s fun t =>
    Answered t c k 0 [] ∧ chan t (hostChan d) = { chan (endCmd s (hostChan d) stAborted) (hostChan d) with
      lastSeq := 0, busy := false, ack := false, done := false, replayed := false, overrun := false, seqErr := false } ∧
      (chan t (hostChan d)).cmd = none := by
  have eff : mbxResetEff k s = .ok (clearChan (endCmd s (hostChan d) stAborted) (hostChan d)) [] := by
    simp [mbxResetEff, namedChan_eq e, f]
  refine runs_live (f := fun s => runOp s c 0x0004 mbxResetChk (fun _ _ => []) mbxResetEff) rfl h.1 ?_
  have own : chan (clearChan (endCmd s (hostChan d) stAborted) (hostChan d)) c = chan s c := by
    rw [clearChan, chan_modChan_other ne.symm, chan_endCmd_other ne.symm]
  rw [runOp_ok (mbxReset_goes h e pos r) eff, chan_finishCmd_other ne, clearChan, chan_modChan]
  exact ⟨h.answers_own own (endCmd_hlt _ _ _) _ _, rfl, endCmd_cmd h.running f _⟩

theorem opMbxReset_waits {q : CmdHeld} (cmd : (chan s (hostChan d)).cmd = some q) (f : fillFlies s (hostChan d) q = true) :
    Runs (.opMbxReset c) s fun t => (chan t c).cmd = some { k with begun := true } ∧
      (chan t (hostChan d)).cmd.any (fun x => x.ending == some (q.ending.getD stAborted)) = true := by
  have eff : mbxResetEff k s = .wait (setEnding s (hostChan d) stAborted) := by
    simp [mbxResetEff, namedChan_eq e, cmd, f, endCmd_held cmd h.running f]
  have held : (chan s c).cmd = some k := h.2.2.1
  refine runs_live (f := fun s => runOp s c 0x0004 mbxResetChk (fun _ _ => []) mbxResetEff) rfl h.1 ?_
  rw [runOp_wait (mbxReset_goes h e pos r) eff, chan_setBegun_other ne, setBegun, chan_modChan, chan_setEnding_other ne.symm,
    setEnding, chan_modChan, held, cmd]
  simp

end Reset

theorem lastSeq_reset {t : State} (h : t.mbx = Mbx.reset) (c : Chan) : (chan t c).lastSeq = 0 := by
  simp [chan, h, Mbx.reset, MbxChan.reset]

/-- Settles O8: a doorbell by the case of 05 R101 that its SEQ meets; LAST_SEQ by what resets and completions write. -/
theorem doorbellDecided : Obligations.DoorbellDecided := by
  unfold Obligations.DoorbellDecided
  refine ⟨fun s c v awake decode => ?_, ?_, fun s c awake => ?_, fun s c k d h e pos ne r f => ?_, fun s c k st cmd g => ?_⟩
  · simp only [← nextSeq_eq]
    refine ⟨fun en b m q => mbxDoorbell_new awake decode en b m q, fun en b m q z => mbxDoorbell_replay awake decode en b m q z,
      fun en b m q z => mbxDoorbell_refuse awake decode en b m q z, fun en b q => ?_, fun en b q => ?_, fun dis => ?_, ?_⟩
    · exact runs_mbxDoorbell awake decode (ringBell_again en b q)
    · exact runs_mbxDoorbell awake decode (ringBell_overrun en b q)
    · exact runs_mbxDoorbell awake decode (ringBell_disabled dis)
    · exact runs_barWrite (f := fun s => modChan s (hostChan c) _) rfl awake decode (chan_modChan _ _ _)
  · exact lastSeq_reset rfl
  · exact runs_live (f := coldReset) rfl awake (lastSeq_reset rfl c)
  · obtain ⟨t, ran, _, ch, _⟩ := opMbxReset_ends h e pos ne r f
    exact ⟨t, ran, congrArg MbxChan.lastSeq ch⟩
  · rw [finishCmd_chan cmd g]
    rfl

end Sys2Proof.Machine

/-! ## 05: firmware takes up a doorbell (R95 to R99, R104, R430 steps 1 to 4): the statements of O9 and O51 -/

namespace Sys2Proof.Machine

/-! ### The order of doorbells (05 R104): O51 is refuted -/

/-- Two channels whose doorbells wait: OP_MBX_RESET on channel 1, which may not carry it, and a doorbell of channel 2 that came
before. -/
def twoBells : State := { State.reset with
  sec := { State.reset.sec with cold := false, fwStarted := true }
  mbx := { State.reset.mbx with chans := (State.reset.mbx.chans.set 1 { MbxChan.reset 1 with
    busy := true, bell := 1, bellNo := 1, req := [(0, 0x04), (2, 1), (7, 1)] }).set 2 { MbxChan.reset 2 with
    busy := true, bell := 1, bellNo := 0 } } }

/-- A doorbell waits where nothing serves it, none is taken, a command is held, or another came before. -/
theorem mbxAck_waits {s : State} {c : Chan} (awake : Awake s)
    (w : (!mpServes s || !(chan s c).busy || (chan s c).cmd.isSome || earlierBell s c) = true) :
    exec (.mbxAck c) s = .next s := by
  show execMbxAck c s = _
  rw [execMbxAck, live_awake awake, if_pos w]

theorem twoBells_waits : exec (.mbxAck 1) twoBells = .next twoBells :=
  mbxAck_waits (by decide +kernel) (by decide +kernel)

/-- Refutes O51: its third part says of every taken doorbell that it is refused at once, and firmware takes the doorbells in the
order in which they came (05 R104); that of channel 1 waits here behind that of channel 2, and MBX_ACK changes nothing. -/
theorem not_checksComeInOrder : ¬ Obligations.ChecksComeInOrder := by
  unfold Obligations.ChecksComeInOrder
  intro ⟨_, _, acked⟩
  have refused := (acked twoBells 1 ⟨0x0004, 1000, true, false, .fixed [4]⟩ ⟨0x0004, 1, [], false, false, [], 0, 0, none⟩
    (by rfl) (by decide +kernel) (by decide +kernel) (by decide +kernel) (by decide +kernel) (by decide +kernel)
    (by decide +kernel) (by decide +kernel) (by decide +kernel) (by decide +kernel) (by decide +kernel)).1 (by decide +kernel)
  obtain ⟨t, ran, _, free, _⟩ := refused
  have same : t = twoBells := by
    rw [twoBells_waits] at ran
    injection ran with e
    exact e.symm
  rw [same] at free
  exact absurd free (by decide +kernel)

/-! ### Bytes of a copied request -/

theorem fieldAt_payload {h : Bytes} {a l o n : Nat} (fits : o + n ≤ l) : fieldAt ((h.drop a).take l) o n = fieldAt h (a + o) n := by
  rw [fieldAt, fieldAt, List.drop_take, List.take_take, List.drop_drop, Nat.min_eq_left (by omega)]

theorem leNat_eq_zero {l : Bytes} (z : leNat l = 0) : ∀ x ∈ l, x = 0 := by
  induction l with
  | nil => simp
  | cons b l ih =>
    have both : b.toNat = 0 ∧ leNat l = 0 := by
      rw [leNat] at z
      omega
    intro x m
    rcases List.mem_cons.mp m with rfl | m
    · exact BitVec.eq_of_toNat_eq both.1
    · exact ih both.2 x m

/-- A field that is zero has only zero bytes. -/
theorem getD_of_fieldAt {b : Bytes} {o n i : Nat} (z : fieldAt b o n = 0) (lo : o ≤ i) (hi : i < o + n) : b.getD i 0 = 0 := by
  by_cases there : i < b.length
  · refine leNat_eq_zero z _ (List.mem_take_iff_getElem.mpr ⟨i - o, by simp; omega, ?_⟩)
    simp [there, Nat.add_sub_cancel' lo]
  · simp [there]

/-! ### The command that firmware takes (05 R97) -/

/-- The command of a request area. -/
def requested (s : State) (c : Chan) (h : Bytes) : CmdHeld :=
  ⟨BitVec.ofNat 16 (fieldAt h 0 2), (chan s c).bell, (h.drop 16).take (fieldAt h 4 2), false, false, [], s.tb.up, 0, none⟩

/-- Its request copied, the channel shows ACK. -/
def acked (s : State) (c : Chan) (h : Bytes) : State :=
  modChan s c fun ch => { ch with ack := true, cmd := some (requested s c h) }

theorem chan_acked (s : State) (c : Chan) (h : Bytes) :
    chan (acked s c h) c = { chan s c with ack := true, cmd := some (requested s c h) } := chan_modChan _ _ _

theorem mayCarry_acked (s : State) (c : Chan) (h : Bytes) (r : OpRow) : mayCarry (acked s c h) c r = mayCarry s c r := by
  rw [mayCarry, chan_acked, mayCarry]

section Accept
variable {s : State} {c : Chan} {h : Bytes}

theorem accept_unknown (o : opRow (fieldAt h 0 2) = none) : accept s c h = finishCmd (acked s c h) c stBadOpcode 0 [] := by
  simp only [accept, o, acked, requested]

theorem accept_known {r : OpRow} (o : opRow (fieldAt h 0 2) = some r) (m : mayCarry s c r = true)
    (p : phaseRefuses s (fieldAt h 0 2) = none) :
    accept s c h = lenCheck (acked s c h) c (requested s c h) (fieldAt h 4 2) (bitAt (fieldAt h 6 1) 0) r := by
  have carry := mayCarry_acked s c h r
  have phase : phaseRefuses (acked s c h) (fieldAt h 0 2) = none := p
  rw [m] at carry
  rw [acked, requested] at carry phase
  simp only [accept, o, carry, phase, acked, requested, Bool.not_true, Bool.false_eq_true, if_false]

/-- Firmware takes up the doorbell of a new command. -/
theorem runs_mbxAck {P : State → Prop} (awake : Awake s) (serves : mpServes s = true) (busy : (chan s c).busy = true)
    (free : (chan s c).cmd = none) (new : (chan s c).bell = nextSeq (chan s c).lastSeq) (first : earlierBell s c = false)
    (p : P (let h := memRead (chan s c).req 0 1024
      if fieldAt h 2 2 != (chan s c).bell.toNat || fieldAt h 7 1 != 1 then seqRefuse s c else accept s c h)) :
    Runs (.mbxAck c) s P := by
  refine ⟨_, ?_, p⟩
  show execMbxAck c s = _
  rw [execMbxAck, live_awake awake]
  simp only [serves, busy, free, first, bellDecide_new new, Bool.not_true, Option.isSome_none, Bool.or_self, Bool.false_eq_true,
    if_false]

end Accept

/-! ### The reads of an indirect payload (05 R96; 06 R117) -/

/-- What a read of the host is for, and of which bytes. -/
def HostRead.asks (r : HostRead) : ReadWhy × Nat × Nat := (r.why, r.addr, r.len)

/-- What the outstanding read `i` asks for. -/
def askedAt (s : State) (i : Nat) : Option (ReadWhy × Nat × Nat) := (tget s.hl.reads i).map HostRead.asks

section Untranslated
variable {s : State} (up : hostUp s = true) (ats : s.hl.cfg.atsEn = false)

theorem atcFind_untranslated (ats : s.hl.cfg.atsEn = false) (p : Option (BitVec 20)) (a : Nat) (w : Bool) :
    atcFind s p a w = .ok a := by
  simp [atcFind, ats]

/-- A recorded read asks for the same whether it is sent at once or waits for a tag. -/
theorem sendRead_asks (ats : s.hl.cfg.atsEn = false) (tag i : Nat) : askedAt (sendRead s tag) i = askedAt s i ∧
    (sendRead s tag).hl.nextTag = s.hl.nextTag ∧ (sendRead s tag).hl.cfg = s.hl.cfg ∧ (sendRead s tag).hl.link = s.hl.link := by
  unfold sendRead
  split
  · exact ⟨rfl, rfl, rfl, rfl⟩
  · rw [atcFind_untranslated ats]
    split
    · exact ⟨rfl, rfl, rfl, rfl⟩
    · refine ⟨?_, rfl, rfl, rfl⟩
      simp only [askedAt, emit_hl, tget_tmod]
      split
      · cases tget s.hl.reads i <;> rfl
      · rfl

include up ats

/-- A read of untranslated host memory is recorded under the next tag. -/
theorem hostRead_asks (why : ReadWhy) (addr len ctx : Nat) : ∃ t, hostRead s why addr len ctx = (some s.hl.nextTag, t) ∧
    hostUp t = true ∧ t.hl.cfg = s.hl.cfg ∧ t.hl.nextTag = s.hl.nextTag + 1 ∧ askedAt t s.hl.nextTag = some (why, addr, len) ∧
    ∀ i, i < s.hl.nextTag → askedAt t i = askedAt s i := by
  refine ⟨sendRead (recordRead s why addr len (pasidOf s ctx) false).2 s.hl.nextTag, ?_, ?_⟩
  · simp [hostRead, up, atcFind_untranslated ats, recordRead]
  · have asks := sendRead_asks (s := (recordRead s why addr len (pasidOf s ctx) false).2) ats s.hl.nextTag
    obtain ⟨_, tag, cfg, link⟩ := asks 0
    refine ⟨by rw [hostUp, cfg, link]; exact up, cfg, tag, (asks _).1.trans ?_, fun i lt => (asks i).1.trans ?_⟩
    · simp [askedAt, recordRead, tget_tput, HostRead.asks]
    · simp [askedAt, recordRead, tget_tput_other _ _ (Nat.ne_of_lt lt)]

/-- The whole payload is asked for, and what was asked for before still is. -/
theorem indirectReads_asks (c : Chan) (n : Nat) (addr off len : Nat) : (indirectReads c n s addr off len).2 = none ∧
    ∀ i, i < s.hl.nextTag → askedAt (indirectReads c n s addr off len).1 i = askedAt s i := by
  induction n generalizing s addr off len with
  | zero => exact ⟨rfl, fun _ _ => rfl⟩
  | succ n ih =>
    unfold indirectReads
    split
    · exact ⟨rfl, fun _ _ => rfl⟩
    · obtain ⟨t, e, upT, cfg, tag, _, before⟩ := hostRead_asks up ats (.indirect c off) addr
        (min len (min (4096 - addr % 4096) (maxRead s.hl.cfg))) 0xFF
      dsimp only
      rw [e]
      obtain ⟨fine, rest⟩ := ih upT (by rw [cfg, ats]) (addr + min len (min (4096 - addr % 4096) (maxRead s.hl.cfg)))
        (off + min len (min (4096 - addr % 4096) (maxRead s.hl.cfg))) (len - min len (min (4096 - addr % 4096) (maxRead s.hl.cfg)))
      exact ⟨fine, fun i lt => (rest i (by omega)).trans (before i lt)⟩

/-- The first of them starts at the address given. -/
theorem indirectReads_first (c : Chan) {n : Nat} (pos : 0 < n) (addr : Nat) :
    askedAt (indirectReads c n s addr 0 n).1 s.hl.nextTag =
      some (.indirect c 0, addr, min n (min (4096 - addr % 4096) (maxRead s.hl.cfg))) := by
  obtain ⟨m, rfl⟩ := Nat.exists_eq_succ_of_ne_zero pos.ne'
  obtain ⟨t, e, upT, cfg, tag, asked, _⟩ := hostRead_asks up ats (.indirect c 0) addr
    (min (m + 1) (min (4096 - addr % 4096) (maxRead s.hl.cfg))) 0xFF
  unfold indirectReads
  rw [if_neg (by omega)]
  dsimp only
  rw [e]
  exact ((indirectReads_asks upT (by rw [cfg, ats]) c m _ _ _).2 _ (by omega)).trans asked

end Untranslated

@[simp] theorem chan_indirectReads {w : Chan} (c) (n : Nat) (s : State) (addr off len) :
    chan (indirectReads c n s addr off len).1 w = chan s w := by
  induction n generalizing s addr off len with
  | zero => rfl
  | succ n ih =>
    unfold indirectReads
    split
    · rfl
    · dsimp only
      split
      · next e => exact (ih _ _ _ _).trans (chan_snd e (by simp))
      · next e => exact chan_snd e (by simp)

/-! ### MBX_ACK, request by request -/

section Requests
variable {s : State} {c : Chan} {h : Bytes} {r : OpRow}

/-- A direct request of a length that fits is complete at once. -/
theorem lenCheck_direct (len : fieldAt h 4 2 ≤ 1008) (fits : lenFits r.len (fieldAt h 4 2) ((h.drop 16).take (fieldAt h 4 2)) = true) :
    chan (lenCheck (acked s c h) c (requested s c h) (fieldAt h 4 2) false r) c =
      { chan s c with ack := true, cmd := some { requested s c h with ready := true } } := by
  have pass : (decide (1008 < fieldAt h 4 2) || !lenFits r.len (fieldAt h 4 2) (requested s c h).payload) = false := by
    simpa [requested, fits] using len
  rw [lenCheck, if_neg Bool.false_ne_true, pass, if_neg Bool.false_ne_true, chan_modChan, chan_acked]

section Indirect
variable (len : fieldAt h 4 2 = 16)
include len

/-- The fields of an indirect request stand behind its header. -/
theorem requested_field {o n : Nat} (fits : o + n ≤ 16) : (requested s c h).f o n = fieldAt h (16 + o) n := by
  rw [CmdHeld.f, requested, len, fieldAt_payload fits]

variable (aligned : fieldAt h 16 8 % 64 = 0) (pos : 0 < fieldAt h 24 4) (top : fieldAt h 24 4 ≤ 2 ^ 24) (z : fieldAt h 28 4 = 0)
  (fits : lenPossible r.len (fieldAt h 24 4) = true) (up : hostUp s = true) (ats : s.hl.cfg.atsEn = false)
include aligned pos top z fits up ats

theorem lenCheck_indirect : lenCheck (acked s c h) c (requested s c h) 16 true r =
    (indirectReads c (fieldAt h 24 4) (acked s c h) (fieldAt h 16 8) 0 (fieldAt h 24 4)).1 := by
  have addr : (requested s c h).f 0 8 = fieldAt h 16 8 := requested_field len (by decide)
  have size : (requested s c h).f 8 4 = fieldAt h 24 4 := requested_field len (by decide)
  have reserved : Reserved (requested s c h) [12, 13, 14, 15] := by
    have zero : fieldAt (requested s c h).payload 12 4 = 0 := (requested_field len (by decide)).trans z
    intro o m
    simp only [List.mem_cons, List.not_mem_nil, or_false] at m
    exact getD_of_fieldAt zero (by omega) (by omega)
  have good : lowestBad (bad ((requested s c h).f 0 8 % 64 != 0) 0 :: (requested s c h).rsv 12 16) = none := by
    refine lowestBad_none fun x m => ?_
    rcases List.mem_cons.mp m with rfl | m
    · simp [bad, addr, aligned]
    · exact rsv_none reserved (by decide) x m
  have pass : ((16 : Nat) != 16 || (requested s c h).f 8 4 = 0 || 2 ^ 24 < (requested s c h).f 8 4
      || !lenPossible r.len ((requested s c h).f 8 4)) = false := by
    rw [size, fits]
    simp
    omega
  have read := (indirectReads_asks (s := acked s c h) up ats c (fieldAt h 24 4) (fieldAt h 16 8) 0 (fieldAt h 24 4)).1
  rw [lenCheck, if_pos rfl]
  refine (if_neg (Bool.not_eq_true _ ▸ pass)).trans ?_
  rw [indirectStart, good]
  dsimp only
  rw [addr, size]
  generalize indirectReads c (fieldAt h 24 4) (acked s c h) (fieldAt h 16 8) 0 (fieldAt h 24 4) = x at read
  obtain ⟨t, rfl | a⟩ := x
  · rfl
  · cases read

end Indirect

end Requests

/-- Settles O9: the header first, then the checks of 05 R430 in their order; the reads of an indirect payload by `indirectReads_asks`. -/
theorem ackTakesTheRequest : Obligations.AckTakesTheRequest := by
  unfold Obligations.AckTakesTheRequest
  intro s c awake serves busy free new first wf
  generalize hh : memRead (chan s c).req 0 1024 = h
  have takes {P : State → Prop} (p : P (if fieldAt h 2 2 != (chan s c).bell.toNat || fieldAt h 7 1 != 1 then seqRefuse s c else accept s c h)) :
      Runs (.mbxAck c) s P := runs_mbxAck awake serves busy free new first (by rw [hh]; exact p)
  have accepts {P : State → Prop} (seq : fieldAt h 2 2 = (chan s c).bell.toNat) (ver : fieldAt h 7 1 = 1) (p : P (accept s c h)) :
      Runs (.mbxAck c) s P := takes (by rw [if_neg (by simp [seq, ver])]; exact p)
  refine ⟨fun r seq ver row carry phase direct len fits => ?_, fun r seq ver row carry phase indirect len aligned pos top z fits up ats => ?_,
    fun header => ?_, fun k seq ver row code number => ?_⟩
  · refine accepts seq ver ?_
    have flag : bitAt (fieldAt h 6 1) 0 = false := by simp [bitAt, direct]
    rw [accept_known row carry phase, flag, lenCheck_direct len fits]
    exact ⟨rfl, busy, rfl⟩
  · refine accepts seq ver ?_
    have flag : bitAt (fieldAt h 6 1) 0 = true := by simp [bitAt, indirect]
    rw [accept_known row carry phase, flag, len, lenCheck_indirect len aligned pos top z fits up ats, chan_indirectReads, chan_acked]
    refine ⟨rfl, rfl, ?_⟩
    obtain ⟨q, there, asks⟩ := Option.map_eq_some_iff.mp (indirectReads_first (s := acked s c h) up ats c pos (fieldAt h 16 8))
    simp only [HostRead.asks, Prod.mk.injEq] at asks
    obtain ⟨why, addr, size⟩ := asks
    exact ⟨q, there, why, addr, size⟩
  · refine takes ?_
    rw [if_pos (by simpa [or_iff_not_imp_left] using header), seqRefuse, chan_modChan]
    exact ⟨rfl, rfl, free⟩
  · refine accepts seq ver ?_
    have cmd : (chan (acked s c h) c).cmd = some (requested s c h) := by rw [chan_acked]
    have running : (acked s c h).hlt.mpHung = false := by
      simp only [mpServes, Bool.and_eq_true, Bool.not_eq_true'] at serves
      exact serves.1
    have answered := finishCmd_answered cmd running (by rw [chan_acked]; exact wf) stBadOpcode []
    rw [accept_unknown row]
    refine ⟨by rw [finishCmd_chan cmd running, chan_acked]; rfl, ?_⟩
    simpa only [Answered, code, number, requested, stBadOpcode] using answered

end Sys2Proof.Machine

/-! ## 05: the general opcodes, channel 16 and the times of a command (R99, R107 to R114): the statement of O10 -/

namespace Sys2Proof.Machine

/-! ### What a completion leaves (05 R97) -/

theorem msixNow_mbx (s : State) (v : Nat) : (msixNow s v).mbx = s.mbx := by
  unfold msixNow msixSend
  split
  · rfl
  · split
    · rfl
    · dsimp only
      split <;> rfl

/-- A completion reaches the channels, the numbers and the log of events, the host link and what is sent. -/
theorem finishCmd_besides (s : State) (c : Chan) (st d : Nat) (p : Bytes) : ∃ ch n l hl o,
    finishCmd s c st d p = { s with mbx := { s.mbx with chans := ch, evtSeq := n, log := l }, hl := hl, out := s.out ++ o } := by
  have kept : ∃ ch n l hl o, s = { s with mbx := { s.mbx with chans := ch, evtSeq := n, log := l }, hl := hl, out := s.out ++ o } :=
    ⟨s.mbx.chans, s.mbx.evtSeq, s.mbx.log, s.hl, [], by simp⟩
  cases h : (chan s c).cmd with
  | none => simpa [finishCmd, finishWith, h] using kept
  | some k =>
    cases g : s.hlt.mpHung with
    | true => simpa [finishCmd, finishWith, h, g] using kept
    | false =>
      obtain ⟨n, l, hl, o, e⟩ := finishCmd_announced h g st d p
      exact ⟨_, n, l, hl, o, e⟩

@[simp] theorem finishCmd_ring (s : State) (c : Chan) (st d : Nat) (p : Bytes) : (finishCmd s c st d p).mbx.ring = s.mbx.ring := by
  obtain ⟨_, _, _, _, _, e⟩ := finishCmd_besides s c st d p
  rw [e]

@[simp] theorem finishCmd_cores (s : State) (c : Chan) (st d : Nat) (p : Bytes) : (finishCmd s c st d p).cores = s.cores := by
  obtain ⟨_, _, _, _, _, e⟩ := finishCmd_besides s c st d p
  rw [e]

@[simp] theorem finishCmd_hlt (s : State) (c : Chan) (st d : Nat) (p : Bytes) : (finishCmd s c st d p).hlt = s.hlt :=
  part_finishCmd (p := .health) s c st d p

/-- With no post waiting its interrupt raises no event. -/
theorem finishCmd_log {s : State} (p : s.hl.posts = []) (c : Chan) (st d : Nat) (r : Bytes) :
    (finishCmd s c st d r).mbx.log = s.mbx.log := by
  unfold finishCmd finishWith
  split
  · rfl
  · split
    · rfl
    · dsimp only
      split
      · refine (congrArg (fun t => t.mbx.log) (msix_of_noPosts (s := modChan s c _) p _)).trans ?_
        rw [msixNow_mbx]
        rfl
      · rfl

/-! ### An opcode runs -/

section Runs
variable {i : Instr} {s : State} {c : Chan} {op : Nat} {k : CmdHeld} {chk : CmdHeld → Chk} {resp : CmdHeld → State → Bytes}
  {P : State → Prop} (h : HasCmd s c op k) (g : Goes s c op chk k)
include h g

theorem HasCmd.runs_ok {eff : CmdHeld → State → Done} {t : State} {r : Bytes}
    (e : exec i s = live s fun s => runOp s c op chk resp eff) (d : eff k s = .ok t r) (p : P (finishCmd t c stOk 0 r)) :
    Runs i s P :=
  runs_live e h.1 (by rw [runOp_ok g d]; exact p)

theorem HasCmd.runs_plain {eff : CmdHeld → State → State} (e : exec i s = live s fun s => plainOp s c op chk resp eff)
    (p : P (finishCmd (eff k s) c stOk 0 (resp k (eff k s)))) : Runs i s P := by
  have ⟨_, _, _, _, _, begun, _⟩ := h
  refine runs_live e h.1 ?_
  rw [plainOp_runOp resp eff g.1 begun, runOp_ok g rfl]
  exact p

end Runs

/-! ### The general opcodes (05 R107 to R111) -/

section General
variable {s : State} {c : Chan} {k : CmdHeld}

theorem opNop_completes (h : HasCmd s c 0x0001 k) :
    Runs (.opNop c) s fun t => Answered t c k 0 [] ∧ t.tb = s.tb ∧ t.cores = s.cores :=
  h.runs_plain (h.goes (unnamed_of_mailboxOpcode h (by simp)) rfl (by simp)) rfl
    ⟨h.answers_own rfl rfl _ _, finishCmd_tb _ _ _ _ _, finishCmd_cores _ _ _ _ _⟩

theorem opGetInfo_completes (h : HasCmd s c 0x0002 k) : Runs (.opGetInfo c) s fun t => Answered t c k 0 (infoResp s) :=
  h.runs_plain (h.goes (unnamed_of_mailboxOpcode h (by simp)) rfl (by simp)) rfl (h.answers_own rfl rfl _ _)

/-- The grant that OP_MBX_GRANT makes. -/
def granted (k : CmdHeld) (ch : MbxChan) : MbxChan := { ch with
  enabled := bitAt (k.f 1 1) 0
  ctxBound := bitAt (k.f 1 1) 1
  ctx := BitVec.ofNat 6 (k.f 2 1)
  areas := BitVec.ofNat 16 (k.f 4 2) }

theorem granted_fields (k : CmdHeld) (ch : MbxChan) (flags : k.f 1 1 ≤ 3) (ctx : k.f 2 1 ≤ 63) :
    (granted k ch).enabled = (k.f 1 1 % 2 == 1) ∧ (granted k ch).ctxBound = (k.f 1 1 / 2 == 1) ∧
      (granted k ch).ctx.toNat = k.f 2 1 ∧ (granted k ch).areas.toNat = k.f 4 2 := by
  have areas : k.f 4 2 < 65536 := fieldAt_lt _ _ _
  have half : k.f 1 1 / 2 % 2 = k.f 1 1 / 2 := by omega
  refine ⟨by simp [granted, bitAt]; rfl, by simp [granted, bitAt, half]; rfl, ?_, ?_⟩
  · simp only [granted, BitVec.toNat_ofNat]
    omega
  · simp only [granted, BitVec.toNat_ofNat]
    omega

theorem opMbxGrant_completes {d : Fin 16} (h : HasCmd s c 0x0003 k) (e : k.f 0 1 = d.val) (pos : 1 ≤ d.val)
    (idle : (chan s (hostChan d)).busy = false) (ne : hostChan d ≠ c) (flags : k.f 1 1 ≤ 3) (ctx : k.f 2 1 ≤ 63)
    (alive : ctxDying s (k.f 2 1) = false) (r : Reserved k [3, 6, 7]) : Runs (.opMbxGrant c) s fun t =>
      Answered t c k 0 [] ∧ chan t (hostChan d) = granted k (chan s (hostChan d)) := by
  have goes : Goes s c 0x0003 (fun k => {
      param := [chanChk k, bad (3 < k.f 1 1) 1, bad (63 < k.f 2 1) 2] ++ k.rsv 3 4 ++ k.rsv 6 8
      state := if (chan s (namedChan k)).busy then some stBusy
        else if ctxDying s (k.f 2 1) then some stBadState else none }) k := by
    refine h.goes (unnamed_of_mailboxOpcode h (by simp)) (l := [chanChk k, bad (3 < k.f 1 1) 1, bad (63 < k.f 2 1) 2]
      ++ k.rsv 3 4 ++ k.rsv 6 8) (by simp [namedChan_eq e, idle, alive]) fun x m => ?_
    rcases List.mem_append.mp m with m | m
    · rcases List.mem_append.mp m with m | m
      · have := d.isLt
        simp only [chanChk, bad, e, List.mem_cons, List.not_mem_nil, or_false] at m
        rcases m with rfl | rfl | rfl <;> simp <;> omega
      · exact rsv_none r (by decide) x m
    · exact rsv_none r (by decide) x m
  refine h.runs_plain goes rfl ?_
  rw [namedChan_eq e, chan_finishCmd_other ne, chan_modChan]
  exact ⟨h.answers_own (chan_modChan_other ne.symm s _) rfl _ _, rfl⟩

/-- The event ring that OP_EVENT_RING sets; ADDR 0 removes it. -/
def ringSet (k : CmdHeld) : Option EvRing :=
  if k.f 0 8 = 0 then none
  else some ⟨BitVec.ofNat 64 (k.f 0 8), k.f 8 1, BitVec.ofNat 8 (k.f 9 1), bitAt (k.f 10 1) 0⟩

theorem opEventRing_completes (h : HasCmd s c 0x0005 k) (aligned : k.f 0 8 % 4096 = 0)
    (some : k.f 0 8 = 0 ∨ 6 ≤ k.f 8 1 ∧ k.f 8 1 ≤ 16 ∧ k.f 10 1 ≤ 1) (r : Reserved k [11, 12, 13, 14, 15]) :
    Runs (.opEventRing c) s fun t => Answered t c k 0 (leBytes 4 s.mbx.evtSeq.toNat) ∧ t.mbx.ring = ringSet k := by
  have goes : Goes s c 0x0005 (fun k =>
      let set := k.f 0 8 != 0
      { param := [bad (k.f 0 8 % 4096 != 0) 0, bad (set && !(6 ≤ k.f 8 1 && k.f 8 1 ≤ 16)) 8,
          bad (set && 1 < k.f 10 1) 10] ++ k.rsv 11 16 }) k := by
    refine h.goes (unnamed_of_mailboxOpcode h (by simp)) rfl fun x m => ?_
    rcases List.mem_append.mp m with m | m
    · simp only [bad, List.mem_cons, List.not_mem_nil, or_false] at m
      rcases m with rfl | rfl | rfl
      · simp [aligned]
      · simp
        omega
      · simp
        omega
    · exact rsv_none r (by decide) x m
  refine h.runs_plain goes rfl ⟨h.answers_own ?_ ?_ _ _, finishCmd_ring _ _ _ _ _⟩ <;> rfl

theorem opErrorLog_completes (h : HasCmd s c 0x0006 k) (lo : 1 ≤ k.f 2 1) (hi : k.f 2 1 ≤ 7) (r : Reserved k [3]) :
    Runs (.opErrorLog c) s fun t => Answered t c k 0 (errorLogResp s ((s.mbx.log.drop (k.f 0 2)).take (k.f 2 1))) ∧
      (s.hl.posts = [] → t.mbx.log = s.mbx.log) := by
  have goes : Goes s c 0x0006 (fun k => { param := bad (k.f 2 1 < 1 || 7 < k.f 2 1) 2 :: k.rsv 3 4 }) k := by
    refine h.goes (unnamed_of_mailboxOpcode h (by simp)) rfl fun x m => ?_
    rcases List.mem_cons.mp m with rfl | m
    · simp [bad]
      omega
    · exact rsv_none r (by decide) x m
  exact h.runs_ok goes rfl rfl ⟨h.answers_own rfl rfl _ _, fun p => finishCmd_log p _ _ _ _⟩

end General

/-! ### OP_HEALTH_SUMMARY (05 R110) -/

/-- Flags in ascending bits from bit `a` on stay below the next bit. -/
theorem bitsOf_flags {α : Type} (p : α → Bool) (l : List α) (a : Nat) :
    bitsOf (((List.range' a l.length).zip l).map fun x => (x.1, b2n (p x.2))) + 2 ^ a ≤ 2 ^ (a + l.length) := by
  induction l generalizing a with
  | nil => simp [bitsOf]
  | cons x l ih =>
    have rest := ih (a + 1)
    have flag : b2n (p x) * 2 ^ a ≤ 2 ^ a := by cases p x <;> simp [b2n]
    rw [List.length_cons, List.range'_succ, List.zip_cons_cons, List.map_cons, bitsOf_cons]
    rw [show a + (l.length + 1) = a + 1 + l.length by omega]
    dsimp only
    rw [Nat.pow_succ] at rest
    omega

theorem fencedMask_lt (s : State) : fencedMask s < 2 ^ 32 := by
  have flags := bitsOf_flags (fun c : Core => c.fenced) s.cores.toList 0
  rw [← List.range_eq_range', Vector.length_toList] at flags
  rw [fencedMask, listIdx, Vector.length_toList]
  omega

/-- Fields in ascending order, each ending before the next begins, share no byte. -/
theorem apart_of_ascending {fs : List (Nat × Nat × Nat)} (h : fs.IsChain fun f g => f.1 + f.2.1 ≤ g.1) : fs.Pairwise Apart := by
  have trans : IsTrans (Nat × Nat × Nat) fun f g => f.1 + f.2.1 ≤ g.1 := ⟨fun f g x fg gx => by omega⟩
  exact (List.isChain_iff_pairwise.mp h).imp .inl

theorem healthResp_length (s : State) : (healthResp s).length = 64 := layout_length 64 _ (by simp)

theorem healthResp_fields (s : State) : fieldAt (healthResp s) 0 1 = s.sec.phase.toNat ∧ fieldAt (healthResp s) 4 4 = fencedMask s ∧
    fieldAt (healthResp s) 8 2 = s.fab.inc.toNat ∧ fieldAt (healthResp s) 12 4 = s.hlt.heartbeat.toNat := by
  have phase := s.sec.phase.isLt
  have fenced := fencedMask_lt s
  have inc := s.fab.inc.isLt
  have beats := s.hlt.heartbeat.isLt
  refine ⟨(fieldAt_layout (v := s.sec.phase.toNat) (by simp) (by simp) (apart_of_ascending (by simp))).trans ?_,
    (fieldAt_layout (v := fencedMask s) (by simp) (by simp) (apart_of_ascending (by simp))).trans ?_,
    (fieldAt_layout (v := s.fab.inc.toNat) (by simp) (by simp) (apart_of_ascending (by simp))).trans ?_,
    (fieldAt_layout (v := s.hlt.heartbeat.toNat) (by simp) (by simp) (apart_of_ascending (by simp))).trans ?_⟩ <;> omega

theorem opHealthSummary_completes {s : State} {c : Chan} {k : CmdHeld} (h : HasCmd s c 0x0007 k) :
    Runs (.opHealthSummary c) s fun t => Answered t c k 0 (healthResp s) :=
  h.runs_plain (h.goes (unnamed_of_mailboxOpcode h (by simp)) rfl (by simp)) rfl (h.answers_own rfl rfl _ _)

/-! ### Channel 16 (05 R113) -/

section Bmc
variable {s : State}

/-- The request area that a block write of channel 16 leaves. -/
def bmcWritten (s : State) (msg : Bytes) : State :=
  modChan s bmcChan fun ch => { ch with req := memWrite [] 0 msg }

theorem chan_bmcWritten (s : State) (msg : Bytes) :
    chan (bmcWritten s msg) bmcChan = { chan s bmcChan with req := memWrite [] 0 msg } := chan_modChan _ _ _

theorem solpReq_taken {msg : Bytes} (awake : Awake s) (len : msg.length ≤ 255) (e : (chan s bmcChan).enabled = true)
    (b : (chan s bmcChan).busy = false) (serves : mpServes s = true)
    (new : BitVec.ofNat 16 (fieldAt msg 2 2) = nextSeq (chan s bmcChan).lastSeq) : Runs (.solpReq msg true) s fun t =>
      chan t bmcChan = bellRung (BitVec.ofNat 16 (fieldAt msg 2 2)) s.mbx.bells { chan s bmcChan with req := memWrite [] 0 msg } := by
  have body : Runs (.solpReq msg true) s fun t =>
      t = ringBell (bmcWritten s msg) bmcChan (BitVec.ofNat 16 (fieldAt msg 2 2)) := by
    refine ⟨_, ?_, rfl⟩
    show execSolpReq msg true s = _
    rw [execSolpReq, live_awake awake, if_neg (by simpa using len), b, if_neg Bool.false_ne_true, bmcWritten]
  have free : ringBell (bmcWritten s msg) bmcChan (BitVec.ofNat 16 (fieldAt msg 2 2)) =
      bellDecide (bellTaken (bmcWritten s msg) bmcChan (BitVec.ofNat 16 (fieldAt msg 2 2))) bmcChan :=
    ringBell_free (by rw [chan_bmcWritten]; exact e) (by rw [chan_bmcWritten]; exact b) serves
  obtain ⟨t, ran, rfl⟩ := body
  refine ⟨_, ran, ?_⟩
  dsimp only
  rw [free, bellDecide_new (by rw [chan_bellTaken, chan_bmcWritten]; exact new), chan_bellTaken, chan_bmcWritten]
  rfl

theorem solpReq_bad (awake : Awake s) (msg : Bytes) : Runs (.solpReq msg false) s fun t => t = s :=
  ⟨s, by show execSolpReq msg false s = _; rw [execSolpReq, live_awake awake]; exact congrArg _ (if_pos rfl), rfl⟩

/-- The status byte of channel 16. -/
def bmcStatus (ch : MbxChan) : Nat :=
  b2n ch.busy + 2 * b2n ch.ack + 4 * b2n ch.done + 8 * b2n ch.replayed + 16 * b2n ch.seqErr + 32 * b2n ch.overrun

theorem bmcStatus_bits (ch : MbxChan) : bitsOf [(0, b2n ch.busy), (1, b2n ch.ack), (2, b2n ch.done), (3, b2n ch.replayed),
    (4, b2n ch.seqErr), (5, b2n ch.overrun)] = bmcStatus ch := by
  have none : bitsOf [] = 0 := rfl
  simp only [bitsOf_cons, none, bmcStatus]
  omega

theorem solpStat_answers (awake : Awake s) : Runs .solpStat s fun t =>
    t.out = s.out ++ [.smbus [BitVec.ofNat 8 (bmcStatus (chan s bmcChan))]] ∧
      chan t bmcChan = { chan s bmcChan with overrun := false, seqErr := false } := by
  refine ⟨_, by show execSolpStat s = _; rw [execSolpStat, live_awake awake], ?_, chan_modChan _ _ _⟩
  rw [← bmcStatus_bits]
  rfl

end Bmc

/-! ### Times that pass (05 R99, R114; 07 R431) -/

theorem since_of_le {s : State} {t n : Nat} (h : t + n ≤ s.tb.up) : since s t n = true := decide_eq_true h

/-- A session that has been idle for `n` is past it. -/
theorem sessionIdle_of_le {s : State} {x : FwSession} (n : Nat) (serves : mpServes s = true) (e : s.mbx.session = some x)
    (late : x.lastAt + n ≤ s.tb.up) : (mpServes s && s.mbx.session.any fun x => since s x.lastAt n) = true := by
  rw [serves, e]
  exact since_of_le late

section Times
variable {s : State} (awake : Awake s) (serves : mpServes s = true)
include awake serves

theorem sessionTimeout_ends {x : FwSession} (e : s.mbx.session = some x) (late : x.lastAt + msUp 60000 ≤ s.tb.up) :
    Runs .fwUpdateSessionTimeout s fun t => t.mbx.session = none := by
  refine ⟨setSession s none, ?_, rfl⟩
  show execFwUpdateSessionTimeout s = _
  rw [execFwUpdateSessionTimeout, live_awake awake, if_pos (sessionIdle_of_le _ serves e late)]

omit awake in
/-- A command that is not a link's training, out of its time, ends ST_TIMEOUT. -/
theorem timeOut_answers {c : Chan} {k : CmdHeld} (cmd : (chan s c).cmd = some k) (link : k.opcode.toNat ≠ 0x0702)
    (still : fillFlies s c k = false) (wf : Memory.wf (chan s c).resp = true) : ∃ r, Answered (timeOut s c k) c k 0x000B r := by
  have running : s.hlt.mpHung = false := by
    simp only [mpServes, Bool.and_eq_true, Bool.not_eq_true'] at serves
    exact serves.1
  unfold timeOut
  split
  · exact endCmd_answered (s := ctxStays s (k.f 0 1)) cmd running still wf _
  · exact endCmd_answered cmd running still wf _

theorem maxFirmwareTime_answers {c : Chan} {k : CmdHeld} (cmd : (chan s c).cmd = some k) (waits : k.ready = false ∨ k.begun = true)
    (reset : k.opcode.toNat ≠ 0x0902) (link : k.opcode.toNat ≠ 0x0702) (still : fillFlies s c k = false)
    (wf : Memory.wf (chan s c).resp = true) (late : k.ackAt + nsUp (maxFwNs k.opcode.toNat k.payload) ≤ s.tb.up) :
    Runs (.maxFirmwareTimeExpiry c) s fun t => ∃ r, Answered t c k 0x000B r := by
  have due : (!mpServes s || (k.ready && !k.begun && !othersFirst s c) || k.opcode = 0x0902
      || !since s k.ackAt (nsUp (maxFwNs k.opcode.toNat k.payload))) = false := by
    have other : ¬ k.opcode = 0x0902#16 := fun e => reset (by rw [e]; rfl)
    have gone : since s k.ackAt (nsUp (maxFwNs k.opcode.toNat k.payload)) = true := since_of_le late
    rcases waits with w | w <;> simp [serves, w, other, gone]
  refine ⟨timeOut s c k, ?_, timeOut_answers serves cmd link still wf⟩
  show execMaxFirmwareTimeExpiry c s = _
  rw [execMaxFirmwareTimeExpiry, live_awake awake, cmd]
  dsimp only
  rw [if_neg (by rw [due]; exact Bool.false_ne_true)]

end Times

/-- Settles O10: each opcode passes its checks, and its response and effect are what it states; the rest by channel 16 and the times. -/
theorem mailboxOpcodesComplete : Obligations.MailboxOpcodesComplete := by
  unfold Obligations.MailboxOpcodesComplete
  refine ⟨fun s c k => ⟨opNop_completes, opGetInfo_completes,
    fun d h e pos idle ne flags ctx alive r => ?grant, fun d h e pos ne r still => ?reset,
    fun d q h e pos ne r cmd flies => opMbxReset_waits h e pos ne r cmd flies,
    fun h aligned set lo hi irq r => ?ring, fun h none r => ?off, fun h lo hi r => opErrorLog_completes h lo hi r, fun h => ?health⟩,
    fun s awake => ⟨fun msg len e b serves new => ?req, solpReq_bad awake, ?stat,
      fun x serves e late => sessionTimeout_ends awake serves e late,
      fun c k serves cmd waits reset link still wf late =>
        maxFirmwareTime_answers awake serves cmd waits reset link still wf late⟩⟩
  case grant =>
    obtain ⟨t, ran, answered, ch⟩ := opMbxGrant_completes h e pos idle ne flags ctx alive r
    exact ⟨t, ran, answered, by rw [ch]; exact granted_fields k _ flags ctx⟩
  case reset =>
    obtain ⟨t, ran, answered, ch, gone⟩ := opMbxReset_ends h e pos ne r still
    refine ⟨t, ran, answered, gone, ?_⟩
    rw [ch]
    exact ⟨rfl, rfl, rfl, rfl, rfl⟩
  case ring =>
    obtain ⟨t, ran, answered, there⟩ := opEventRing_completes h aligned (.inr ⟨lo, hi, irq⟩) r
    have addr := fieldAt_lt k.payload 0 8
    have vector := fieldAt_lt k.payload 9 1
    refine ⟨t, ran, answered, _, there.trans (if_neg set), ?_, rfl, ?_⟩
    · exact (BitVec.toNat_ofNat _ _).trans (Nat.mod_eq_of_lt addr)
    · exact (BitVec.toNat_ofNat _ _).trans (Nat.mod_eq_of_lt vector)
  case off =>
    obtain ⟨t, ran, answered, there⟩ := opEventRing_completes h (by rw [none]) (.inl none) r
    exact ⟨t, ran, answered, there.trans (if_pos none)⟩
  case health =>
    obtain ⟨t, ran, answered⟩ := opHealthSummary_completes h
    exact ⟨t, ran, _, healthResp_length s, answered, healthResp_fields s⟩
  case req =>
    obtain ⟨t, ran, ch⟩ := solpReq_taken awake len e b serves new
    refine ⟨t, ran, ?_⟩
    dsimp only
    rw [ch]
    exact ⟨memRead_memWrite rfl 0 msg, rfl, rfl⟩
  case stat =>
    obtain ⟨t, ran, out, ch⟩ := solpStat_answers awake
    refine ⟨t, ran, out, ?_⟩
    rw [ch]
    exact ⟨rfl, rfl⟩

end Sys2Proof.Machine

/-! ## 06: what leaves for the host leaves the host link's settings; with the link down nothing leaves (R129, R432) -/

namespace Sys2Proof.Machine

/-- What the host link holds of the host's settings, and the reads: none of it belongs to the posts, the vectors or the
requests of translations. -/
structure HostSettings where
  cfg : PcieConfig
  link : LinkParams
  bar4 : Nat
  reads : Tab HostRead
  cohMode : BitVec 2
  winUnits : Word
  atc : List AtcEnt

def hostSettings (s : State) : HostSettings :=
  ⟨s.hl.cfg, s.hl.link, s.hl.bar4, s.hl.reads, s.hl.cohMode, s.hl.winUnits, s.hl.atc⟩

/-- Events are raised and the host is written within its settings; with the link down nothing is sent. -/
structure Quiet (s t : State) : Prop where
  announced : Announced s t
  settings : hostSettings t = hostSettings s
  out : hostUp s = false → t.out = s.out

theorem hostUp_eq {s t : State} (h : hostSettings t = hostSettings s) : hostUp t = hostUp s := by
  have cfg : t.hl.cfg = s.hl.cfg := congrArg HostSettings.cfg h
  have link : t.hl.link = s.hl.link := congrArg HostSettings.link h
  rw [hostUp, hostUp, cfg, link]

namespace Quiet

theorem trans {s t u : State} (h : Quiet s t) (k : Quiet t u) : Quiet s u :=
  ⟨h.announced.trans k.announced, k.settings.trans h.settings,
    fun d => (k.out ((hostUp_eq h.settings).trans d)).trans (h.out d)⟩

variable (s : State)

theorem refl : Quiet s s := ⟨.refl s, rfl, fun _ => rfl⟩

theorem ofIte {c : Bool} {a b : State} (ha : Quiet s a) (hb : Quiet s b) : Quiet s (if c then a else b) := by
  cases c
  · exact hb
  · exact ha

/-- An update of what is not among the settings. -/
theorem ofPosts (st en iv bo bw bk bv fi wb he ve nt at' po iv') :
    Quiet s { s with hl := ⟨st, en, iv, bo, bw, bk, bv, s.hl.link, fi, s.hl.cohMode, s.hl.winUnits, wb, he, s.hl.cfg, ve, s.hl.bar4,
      s.hl.reads, nt, s.hl.atc, at', po, iv'⟩ } := ⟨.ofLink s _, rfl, fun _ => rfl⟩

theorem ofEmit (h : hostUp s = true) (o : Out) : Quiet s (emit s o) := ⟨.ofEmit s o, rfl, fun d => by simp [h] at d⟩

theorem ofMsixSend (v : Nat) : Quiet s (msixSend s v) := by
  unfold msixSend
  dsimp only
  split
  next up => exact (ofPosts s ..).trans (ofEmit _ up _)
  next => exact ofPosts s ..

theorem ofMsixNow (v : Nat) : Quiet s (msixNow s v) := ofIte s (ofPosts s ..) (ofIte s (ofPosts s ..) (ofMsixSend s v))

theorem ofSetInt (b : Fin 6) : Quiet s (setInt s b) := ofIte s (refl s) (ofIte s ((ofPosts s ..).trans (ofMsixNow _ _)) (ofPosts s ..))

theorem ofPostOut (a : Nat) (d : Bytes) (ro : Bool) (ctx : Nat) : Quiet s (postOut s a d ro ctx) := by
  unfold postOut
  split
  next up => exact ofEmit s up _
  next => exact refl s

theorem ofAtsAsk (h : hostUp s = true) (w : AtsWhy) (p : Option (BitVec 20)) (a : Nat) (b : Bool) : Quiet s (atsAsk s w p a b) :=
  (ofEmit s h _).trans (ofPosts _ ..)

theorem ofEventQuiet (t : Half) (v : Byte) (d : Bytes) : Quiet s (eventQuiet s t v d).1 := by
  refine ⟨.ofEventQuiet s t v d, ?_, fun _ => ?_⟩ <;>
  · unfold eventQuiet
    split
    · rfl
    · dsimp only
      split <;> rfl

theorem ofEnqueue (l : List Post) : Quiet s (enqueue s l) := ofPosts s ..

theorem ofPostDenied (a ctx : Nat) : Quiet s (postDenied s a ctx) :=
  ((ofSetInt s 3).trans (ofEventQuiet _ _ _ _)).trans (ofEnqueue _ _)

theorem ofEventDenied (a : Nat) : Quiet s (eventDenied s a) := (ofSetInt s 3).trans (ofEventQuiet _ _ _ _)

/-- A post whose translation is not known: discarded with the link down, else it waits for one. -/
theorem ofMissed {rest : State} (h : Quiet s rest) (p : Option (BitVec 20)) (a : Nat) :
    Quiet s (if !hostUp s then rest else if s.hl.ats.any (fun q => q.2.why == .post) then s else atsAsk s .post p a true) := by
  split
  next => exact h
  next up => exact ofIte s (refl s) (ofAtsAsk s (by simpa using up) _ _ _ _)

theorem ofDrainPosts (n : Nat) : Quiet s (drainPosts n s) := by
  induction n generalizing s with
  | zero => exact refl s
  | succ n ih =>
    unfold drainPosts
    split
    · exact refl s
    · dsimp only
      split
      · exact ((ofPosts s ..).trans (ofMsixNow _ _)).trans (ih _)
      · split
        · exact ((ofPosts s ..).trans (ofPostOut _ _ _ _ _)).trans (ih _)
        · exact ((ofPosts s ..).trans (ofPostDenied _ _ _)).trans (ih _)
        · exact ofMissed s ((ofPosts s ..).trans (ih _)) _ _
      · split
        · exact ((ofPosts s ..).trans (ofPostOut _ _ _ _ _)).trans (ih _)
        · exact ((ofPosts s ..).trans (ofEventDenied _ _)).trans (ih _)
        · exact ofMissed s ((ofPosts s ..).trans (ih _)) _ _

theorem ofPost (p : Post) : Quiet s (post s p) := (ofEnqueue s [p]).trans (ofDrainPosts _ _)

theorem ofMsix (v : Nat) : Quiet s (msix s v) := ofPost s _

theorem ofEvent (t : Half) (v : Byte) (d : Bytes) : Quiet s (event s t v d) :=
  ((ofEventQuiet s t v d).trans (ofEnqueue _ _)).trans (ofDrainPosts _ _)

theorem ofFwError (n : Nat) (v : Byte) (d : Bytes) : Quiet s (fwError s n v d) := ofEvent s _ _ _

theorem ofNorWrite (n : Nat) : Quiet s (norWrite s n) := ofIte s (refl s) (ofFwError s _ _ _)

theorem ofPostPages (n a : Nat) (d : Bytes) (ro : Bool) (ctx : Nat) : Quiet s (postPages n s a d ro ctx) := by
  induction n generalizing s a d with
  | zero => exact refl s
  | succ n ih =>
    unfold postPages
    dsimp only
    split
    · exact ofPost s _
    · exact (ofPost s _).trans (ih _ _ _)

theorem ofHostWrite (a : Nat) (d : Bytes) (ro : Bool) (ctx : Nat) : Quiet s (hostWrite s a d ro ctx) := ofPostPages s _ _ _ _ _

end Quiet

/-- A completion sends its message, if any, within the settings. -/
theorem Quiet.ofFinishCmd (s : State) (c : Chan) (st d : Nat) (p : Bytes) :
    ∃ ch, Quiet { s with mbx := { s.mbx with chans := ch } } (finishCmd s c st d p) := by
  unfold finishCmd finishWith
  split
  · exact ⟨s.mbx.chans, .refl s⟩
  · split
    · exact ⟨s.mbx.chans, .refl s⟩
    · exact ⟨_, .ofIte _ (.ofMsix _ _) (.refl _)⟩

theorem finishCmd_out {s : State} (down : hostUp s = false) (c : Chan) (st d : Nat) (p : Bytes) :
    (finishCmd s c st d p).out = s.out := by
  obtain ⟨_, q⟩ := Quiet.ofFinishCmd s c st d p
  exact q.out down

end Sys2Proof.Machine

/-! ## 15: the heartbeat, the capture, the freeze and the dump (R367 to R376; the statement of O45) -/

namespace Sys2Proof.Machine

/-! ### The heartbeat (15 R367, R376) -/

section Heartbeat
variable {s : State} (awake : Awake s)

theorem since_iff {s : State} {t n : Nat} : since s t n = true ↔ t + n ≤ s.tb.up := decide_eq_true_iff

/-- A beat counts. -/
def beaten (s : State) : State := { s with hlt := { s.hlt with heartbeat := s.hlt.heartbeat + 1, beatAt := s.tb.up } }

/-- The heartbeat of a period of any length: it counts if firmware runs and the period has gone by. -/
def beat (s : State) (n : Nat) : State :=
  if !s.sec.fwStarted || s.hlt.mpHung || !since s s.hlt.beatAt n then s else beaten s

theorem beat_due {n : Nat} (run : s.sec.fwStarted = true) (hung : s.hlt.mpHung = false) (due : s.hlt.beatAt + n ≤ s.tb.up) :
    beat s n = beaten s := by
  rw [beat, run, hung, since_iff.mpr due]
  rfl

theorem beat_early {n : Nat} (h : s.sec.fwStarted = false ∨ s.hlt.mpHung = true ∨ s.tb.up < s.hlt.beatAt + n) : beat s n = s := by
  have early : s.tb.up < s.hlt.beatAt + n → since s s.hlt.beatAt n = false := fun l =>
    Bool.eq_false_iff.mpr fun e => by
      have := since_iff.mp e
      omega
  rw [beat, if_pos]
  rcases h with h | h | h
  · simp [h]
  · simp [h]
  · simp [early h]

theorem beat_mbx (s : State) (n : Nat) : (beat s n).mbx = s.mbx := by
  unfold beat
  split <;> rfl

theorem beat_counts {n : Nat} (run : s.sec.fwStarted = true) (hung : s.hlt.mpHung = false) :
    (beat s n).hlt.heartbeat = s.hlt.heartbeat + (if s.hlt.beatAt + n ≤ s.tb.up then 1 else 0) := by
  split
  next due => rw [beat_due run hung due]; rfl
  next early => rw [beat_early (.inr (.inr (by omega)))]; exact (BitVec.add_zero _).symm

include awake

theorem heartbeat_runs : Runs (.heartbeat none) s fun t => t = beat s (msUp s.hlt.hbPeriod.toNat) :=
  runs_live (f := fun s => beat s (msUp s.hlt.hbPeriod.toNat)) rfl awake rfl

end Heartbeat

section Checks
variable {s : State}

/-- An event is numbered and logged. -/
def logged (s : State) (typ : Half) (sev : Byte) (d : Bytes) : State := { s with mbx := { s.mbx with
  evtSeq := s.mbx.evtSeq + 1
  log := ((⟨typ, sev, s.mbx.evtSeq + 1, dtNs s, d.take 16 ++ zeros (16 - d.length)⟩ : EventRec) :: s.mbx.log).take 64 } }

/-- With no ring set and no post waiting that is all an event does. -/
theorem event_logged (running : s.hlt.mpHung = false) (ring : s.mbx.ring = none) (posts : s.hl.posts = []) (typ : Half) {sev : Byte}
    (d : Bytes) (logs : sev ≠ 0) : event s typ sev d = logged s typ sev d := by
  have same (t : State) : enqueue t [] = t := by simp [enqueue]
  have quiet : eventQuiet s typ sev d = (logged s typ sev d, []) := by
    rw [eventQuiet, running, if_neg Bool.false_ne_true]
    dsimp only
    rw [if_neg logs]
    split
    · rfl
    next r e =>
      rw [ring] at e
      cases e
  rw [event, quiet]
  dsimp only
  rw [same]
  exact drainPosts_of_none (s := logged s typ sev d) posts _

/-- DATA of the FW_ERROR event of a failed check (05 R112). -/
theorem checkData_eq (unit code : Nat) :
    (leBytes 2 0x0600 ++ layout 6 [(0, 1, unit), (2, 4, code)]).take 16
      ++ zeros (16 - (leBytes 2 0x0600 ++ layout 6 [(0, 1, unit), (2, 4, code)]).length) =
    layout 16 [(0, 2, 0x0600), (2, 1, unit), (4, 4, code)] := rfl

theorem heartbeat_reports (awake : Awake s) (run : s.sec.fwStarted = true) (running : s.hlt.mpHung = false) (unit : Fin 5) (code : Word) :
    Runs (.heartbeat (some (unit, code))) s fun t => t =
      beat (fwError s 0x0600 2 (layout 6 [(0, 1, unit.val), (2, 4, code.toNat)])) (msUp s.hlt.hbPeriod.toNat) := by
  have serves : mpServes s = true := by simp [mpServes, run, running]
  refine ⟨_, ?_, rfl⟩
  show execHeartbeat (some (unit, code)) s = _
  have kept : (fwError s 0x0600 2 (layout 6 [(0, 1, unit.val), (2, 4, code.toNat)])).hlt = s.hlt := part_fwError (p := .health) s _ _ _
  rw [execHeartbeat, live_awake awake]
  dsimp only
  rw [if_pos serves, kept]
  rw [beat, kept]
  rfl

end Checks

/-! ### OP_HEARTBEAT_CONFIG, the capture and the freeze (15 R367, R370, R371, R376) -/

theorem opHeartbeatConfig_completes {s : State} {c : Chan} {k : CmdHeld} (h : HasCmd s c 0x0903 k) (lo : 1 ≤ k.f 0 1) (hi : k.f 0 1 ≤ 100)
    (r : Reserved k [1, 2, 3]) : Runs (.opHeartbeatConfig c) s fun t =>
      Answered t c k 0 (layout 4 [(0, 1, s.hlt.hbPeriod.toNat)]) ∧ t.hlt.hbPeriod.toNat = k.f 0 1 := by
  have goes : Goes s c 0x0903 (fun k => { param := bad (k.f 0 1 < 1 || 100 < k.f 0 1) 0 :: k.rsv 1 4 }) k := by
    refine h.goes (unnamed_of_mailboxOpcode h (by simp)) rfl fun x m => ?_
    rcases List.mem_cons.mp m with rfl | m
    · simp [bad]
      omega
    · exact rsv_none r (by decide) x m
  have ⟨_, _, cmd, _, _, _, wf⟩ := h
  refine h.runs_ok goes rfl rfl ⟨finishCmd_answered ?_ ?_ ?_ _ _, ?_⟩
  · exact cmd
  · exact h.running
  · exact wf
  · rw [finishCmd_hlt]
    exact Nat.mod_eq_of_lt (by omega)

section Capture
variable {s : State} (awake : Awake s)
include awake

theorem capture_starts (d : hostDecode s = true) (idle : s.hlt.dbgBusy = false) : Runs .capture s fun t =>
    t = { s with hlt := { s.hlt with dbgBusy := true, dbgDone := false, capAt := dtNs s } } := by
  refine ⟨_, ?_, rfl⟩
  show execCapture s = _
  rw [execCapture, barWrite_on awake d, if_neg (by simp [idle])]
  rfl

theorem capture_busy (d : hostDecode s = true) (busy : s.hlt.dbgBusy = true) : Runs .capture s fun t => t = s := by
  refine ⟨s, ?_, rfl⟩
  show execCapture s = _
  rw [execCapture, barWrite_on awake d, if_pos busy]

theorem freeze_runs (d : hostDecode s = true) : Runs .freeze s fun t => t = { s with sch := { s.sch with frozen := true } } := by
  refine ⟨_, ?_, rfl⟩
  show execFreeze s = _
  rw [execFreeze, barWrite_on awake d]

theorem captureDone_runs (busy : s.hlt.dbgBusy = true) : Runs .captureDone s fun t => t = { s with hlt := { s.hlt with
    image := captured s, dbgBusy := false, dbgDone := true, captures := s.hlt.captures + 1 } } := by
  refine ⟨_, ?_, rfl⟩
  show execCaptureDone s = _
  rw [execCaptureDone, live_awake awake, if_neg (by simp [busy])]
  rfl

end Capture

/-! ### The length of the image (15 R369, R372) -/

section Image
variable (s : State)

/-- As many records as numbers, each of one length. -/
theorem flatMap_length {α : Type} {f : α → Bytes} {n : Nat} (h : ∀ a, (f a).length = n) (l : List α) :
    (l.flatMap f).length = n * l.length := by
  rw [List.length_flatMap, List.map_congr_left fun a _ => h a, List.map_const', List.sum_replicate, smul_eq_mul, Nat.mul_comm]

theorem dumpHeader_length (a b : Dword) (d l : Bool) : (dumpHeader s a b d l).length = 256 := by
  refine layout_length 256 _ fun f m => ?_
  rcases List.mem_append.mp m with m | m
  · simp only [List.mem_cons, List.not_mem_nil, or_false] at m
    rcases m with rfl | rfl | rfl | rfl | rfl | rfl | rfl | rfl <;> simp
  · obtain ⟨e, me, m⟩ := List.mem_flatMap.mp m
    have small : e.1 < 8 := by
      have mem := List.mem_range.mp (List.of_mem_zip me).1
      exact mem
    split at m
    · simp at m
    · simp only [List.mem_cons, List.not_mem_nil, or_false] at m
      rcases m with rfl | rfl <;> dsimp only <;> omega

theorem dumpQueue_length (q : Nat) : (dumpQueue s q).length = 32 := by
  unfold dumpQueue
  split
  · exact zeros_length 32
  · exact layout_length 32 _ (by simp)

theorem dumpCore_length (n : Nat) : (dumpCore s n).length = 64 := layout_length 64 _ (by simp)

theorem dumpLookup_length (l : Lookup) : (dumpLookup l).length = 16 := layout_length 16 _ (by simp)

theorem noLookup_length : noLookup.length = 16 := layout_length 16 _ (by simp)

/-- Records of 16 bytes, filled up to 15 of them. -/
theorem lookups_length (l : List Lookup) : ((l.map dumpLookup ++ List.replicate 15 noLookup).take 15).flatten.length = 240 := by
  have each : ∀ x ∈ (l.map dumpLookup ++ List.replicate 15 noLookup).take 15, x.length = 16 := fun x m => by
    rcases List.mem_append.mp (List.mem_of_mem_take m) with m | m
    · obtain ⟨y, _, rfl⟩ := List.mem_map.mp m
      exact dumpLookup_length y
    · rw [(List.mem_replicate.mp m).2, noLookup_length]
  rw [List.length_flatten, List.map_congr_left each, List.map_const', List.sum_replicate, smul_eq_mul]
  simp

theorem dumpEngine_length (e : Nat) : (dumpEngine s e).length = 256 := by
  rw [dumpEngine, List.length_append, lookups_length, layout_length 16 _ (by simp)]

theorem leWords_length {α : Type} (n : Nat) (f : α → Nat) (l : List α) : ((l.map fun x => leBytes n (f x)).flatten).length = n * l.length := by
  rw [← List.flatMap_def]
  exact flatMap_length (fun a => leBytes_length n (f a)) l

theorem dumpThread_length (t : Thread) : (dumpThread t).length = 384 := by
  have waits : ((t.waits.map fun w => leBytes 2 w.obj) ++ List.replicate 16 (leBytes 2 0xFFFF)).flatten.length = 2 * t.waits.length + 32 := by
    rw [List.flatten_append, List.length_append, leWords_length]
    simp
  simp only [dumpThread, List.length_append, List.length_take, waits, leWords_length, zeros_length,
    layout_length 32 _ (show ∀ f ∈ [(0, 8, (confirmedRegs t).lk.toNat), (8, 8, (confirmedRegs t).ph.toNat), (16, 8, (confirmedRegs t).pl.toNat),
      (24, 4, (confirmedRegs t).pc), (28, 1, thStateCode t.state), (29, 1, t.waits.length)], f.1 + f.2.1 ≤ 32 by simp),
    Vector.length_toList, List.length_range]
  omega

theorem dumpSlot_length (i : Nat) : (dumpSlot s i).length = 32 := by
  unfold dumpSlot
  split
  · exact layout_length 32 _ (by simp)
  · exact layout_length 32 _ (by simp)

/-- The threads of one core. -/
theorem dumpThreads_length (n : Nat) : ((coreOf s n).threads.toList.flatMap dumpThread).length = 1536 := by
  rw [flatMap_length dumpThread_length, Vector.length_toList]

/-- `m` records of `n` bytes. -/
theorem records_length {f : Nat → Bytes} {n : Nat} (h : ∀ a, (f a).length = n) (m : Nat) : ((List.range m).flatMap f).length = n * m := by
  rw [flatMap_length h, List.length_range]

theorem sections_length : ((List.range 6).flatMap fun i => dumpSection s (i + 1)).length = 258048 := by
  have six (f : Nat → Bytes) : ((List.range 6).flatMap f).length =
      (f 0).length + ((f 1).length + ((f 2).length + ((f 3).length + ((f 4).length + (f 5).length)))) := by
    rw [show List.range 6 = [0, 1, 2, 3, 4, 5] from rfl]
    simp
  have queues : (dumpSection s 1).length = 32 * 256 := records_length (dumpQueue_length s) 256
  have cores : (dumpSection s 2).length = 64 * 32 := records_length (dumpCore_length s) 32
  have engines : (dumpSection s 3).length = 256 * 8 := records_length (dumpEngine_length s) 8
  have threads : (dumpSection s 4).length = 1536 * 32 := records_length (dumpThreads_length s) 32
  have counters : (dumpSection s 5).length = 8 * 8192 := records_length (fun o => leBytes_length 8 (counterOf s o).toNat) 8192
  have slots : (dumpSection s 6).length = 32 * 4096 := records_length (dumpSlot_length s) 4096
  rw [six, queues, cores, engines, threads, counters, slots]

theorem captured_length : (captured s).length = 323840 - 65536 := by
  rw [captured, List.length_append, dumpHeader_length, sections_length]

end Image

/-! ### OP_DUMP (15 R369) -/

section Dump
variable {s : State} {c : Chan} {k : CmdHeld}

theorem dumpAt_eq (h : (chan s c).cmd = some k) : dumpAt s c = (k.progress / 16, k.progress % 16) := by simp [dumpAt, h]

theorem chan_setBegun (s : State) (c : Chan) :
    chan (setBegun s c) c = { chan s c with cmd := (chan s c).cmd.map fun k => { k with begun := true } } := chan_modChan _ _ _

theorem chan_setProgress (s : State) (c : Chan) (n : Nat) :
    chan (setProgress s c n) c = { chan s c with cmd := (chan s c).cmd.map fun k => { k with progress := n } } := chan_modChan _ _ _

/-- What is not a page of the host link, an event's record or sent is as it was. -/
theorem Announced.rest {s t : State} (h : Announced s t) : t.cores = s.cores ∧ t.sch = s.sch := by
  obtain ⟨_, _, _, _, rfl⟩ := h
  exact ⟨rfl, rfl⟩

/-- A section within reach is written, and the command stands at the next one. -/
theorem dumpStep_copies {i start : Nat} (now : max 1 (dumpAt s c).2 = i) (le : i ≤ 7)
    (begin_ : (if (dumpAt s c).2 = 0 then (dtNs s).toNat else (dumpAt s c).1) = start)
    (reach : dumpReach s (k.f 0 8 + (dumpSections.getD i (0, 0)).1) (dumpSections.getD i (0, 0)).2 = true) :
    ∃ t, dumpStep c k s = .wait (setProgress t c (start * 16 + (i + 1))) ∧ chan t c = chan s c ∧ t.cores = s.cores ∧ t.sch = s.sch := by
  have other : i ≠ 8 := by omega
  have written (u : State) (a : Nat) (b : Bytes) : (hostWrite u a b false 0xFF).cores = u.cores ∧ (hostWrite u a b false 0xFF).sch = u.sch :=
    (Quiet.ofHostWrite u a b false 0xFF).announced.rest
  unfold dumpStep
  rw [now, begin_]
  dsimp only
  rw [if_neg other, reach, if_neg (by decide), if_neg other]
  refine ⟨_, rfl, ?_⟩
  rw [chan_hostWrite, (written _ _ _).1, (written _ _ _).2]
  split <;> exact ⟨rfl, rfl, rfl⟩

/-- The header follows the last section. -/
theorem dumpStep_ends (now : (dumpAt s c).2 = 8) (reach : dumpReach s (k.f 0 8) 256 = true) :
    ∃ t, dumpStep c k s = .ok t (leBytes 4 323840) ∧ chan t c = chan s c ∧ t.hlt = s.hlt := by
  have reached : dumpReach s (k.f 0 8 + (dumpSections.getD 0 (0, 0)).1) (dumpSections.getD 0 (0, 0)).2 = true := reach
  unfold dumpStep
  rw [now]
  dsimp only
  rw [show max 1 8 = 8 from rfl, if_pos rfl, reached, if_neg (by decide), if_pos rfl]
  exact ⟨_, rfl, chan_hostWrite _ _ _ _ _, part_hostWrite (p := .health) _ _ _ _ _⟩

/-- With the host out of reach a dump that has not begun fails with nothing written. -/
theorem dumpStep_down (down : hostUp s = false) (first : (dumpAt s c).2 = 0) :
    dumpStep c k s = .fail s stDmaFault (leBytes 4 0) := by
  have reach (a n : Nat) : dumpReach s a n = false := by simp [dumpReach, down]
  unfold dumpStep
  rw [first]
  dsimp only
  rw [reach, if_pos rfl, down]
  rfl

theorem opDump_goes (h : HasCmd s c 0x0901 k) (aligned : k.f 0 8 % 4096 = 0) (room : 323840 ≤ k.f 8 4) (r : Reserved k [12, 13, 14, 15]) :
    Goes s c 0x0901 dumpChk k := by
  refine h.goes (unnamed_of_mailboxOpcode h (by simp)) rfl fun x m => ?_
  rcases List.mem_cons.mp m with rfl | m
  · simp [bad, aligned]
  · rcases List.mem_cons.mp m with rfl | m
    · exact decide_eq_false (Nat.not_lt.mpr room)
    · exact rsv_none r (by decide) x m

theorem opDump_runs (awake : Awake s) {P : State → Prop} (p : P (runOp s c 0x0901 dumpChk (fun _ _ => zeros 4) (dumpStep c))) :
    Runs (.opDump c) s P := runs_live (f := fun s => runOp s c 0x0901 dumpChk (fun _ _ => zeros 4) (dumpStep c)) rfl awake p

theorem opDump_begins (h : HasCmd s c 0x0901 k) (new : k.progress = 0) (goes : Goes s c 0x0901 dumpChk k)
    (reach : dumpReach s (k.f 0 8 + 0x100) 8192 = true) : Runs (.opDump c) s fun t =>
      (chan t c).cmd = some { k with begun := true, progress := (dtNs s).toNat * 16 + 2 } ∧ t.cores = s.cores ∧ t.sch = s.sch := by
  have ⟨_, _, cmd, _⟩ := h
  have stands : dumpAt s c = (0, 0) := by rw [dumpAt_eq cmd, new]
  obtain ⟨t, e, own, rest⟩ := dumpStep_copies (k := k) (i := 1) (start := (dtNs s).toNat) (by rw [stands]; rfl)
    (by omega) (by rw [stands]; rfl) reach
  refine opDump_runs h.1 ?_
  rw [runOp_wait goes e, chan_setBegun, chan_setProgress, own, cmd]
  exact ⟨rfl, rest⟩

theorem opDump_down (h : HasCmd s c 0x0901 k) (new : k.progress = 0) (goes : Goes s c 0x0901 dumpChk k) (down : hostUp s = false) :
    Runs (.opDump c) s fun t => Answered t c k 9 (leBytes 4 0) ∧ t.out = s.out := by
  have ⟨_, _, cmd, _⟩ := h
  have stands : dumpAt s c = (0, 0) := by rw [dumpAt_eq cmd, new]
  refine opDump_runs h.1 ?_
  rw [runOp_fail goes (dumpStep_down down (by rw [stands]))]
  exact ⟨h.answers_own rfl rfl _ _, finishCmd_out down _ _ _ _⟩

/-- A dump that has begun goes on without a check. -/
theorem goes_of_begun {op : Nat} (serves : mpServes s = true) (cmd : (chan s c).cmd = some k) (code : k.opcode.toNat = op)
    (ready : k.ready = true) (begun : k.begun = true) (chk : CmdHeld → Chk) : Goes s c op chk k :=
  ⟨by simp [opCmd, serves, cmd, code, ready], .inl begun⟩

theorem opDump_continues (awake : Awake s) (cmd : (chan s c).cmd = some k) (goes : Goes s c 0x0901 dumpChk k) (begun : k.begun = true)
    (lo : 1 ≤ k.progress % 16) (hi : k.progress % 16 ≤ 7)
    (reach : dumpReach s (k.f 0 8 + (dumpSections.getD (k.progress % 16) (0, 0)).1) (dumpSections.getD (k.progress % 16) (0, 0)).2 = true) :
    Runs (.opDump c) s fun t => (chan t c).cmd = some { k with progress := k.progress / 16 * 16 + (k.progress % 16 + 1) } := by
  have stands := dumpAt_eq cmd
  have later : k.progress % 16 ≠ 0 := by omega
  obtain ⟨t, e, own, _⟩ := dumpStep_copies (k := k) (i := k.progress % 16) (start := k.progress / 16) (by rw [stands]; omega) hi
    (by rw [stands]; exact if_neg later) reach
  refine opDump_runs awake ?_
  rw [runOp_wait goes e, chan_setBegun, chan_setProgress, own, cmd, ← begun]
  rfl

theorem opDump_ends (awake : Awake s) (cmd : (chan s c).cmd = some k) (goes : Goes s c 0x0901 dumpChk k) (running : s.hlt.mpHung = false)
    (wf : Memory.wf (chan s c).resp = true) (last : k.progress % 16 = 8) (reach : dumpReach s (k.f 0 8) 256 = true) :
    Runs (.opDump c) s fun t => Answered t c k 0 (leBytes 4 323840) := by
  obtain ⟨t, e, own, hlt⟩ := dumpStep_ends (k := k) (by rw [dumpAt_eq cmd]; exact last) reach
  refine opDump_runs awake ?_
  rw [runOp_ok goes e]
  exact finishCmd_answered (by rw [own, cmd]) (by rw [hlt, running]) (by rw [own, wf]) _ _

end Dump

/-- Settles O45: the heartbeat by its period and firmware's state, each effect by its meaning, the dump section by section. -/
theorem healthAndDump : Obligations.HealthAndDump := by
  unfold Obligations.HealthAndDump
  refine fun s awake => ⟨fun run running due => ?beats, fun early => ?stays, fun unit code run running ring posts => ?reports,
    fun c k h lo hi r => opHeartbeatConfig_completes h lo hi r, capture_starts awake, capture_busy awake, fun busy => ?captured,
    freeze_runs awake, fun c k h new aligned room r => ?dump, fun c k i serves cmd code ready begun at_ wf => ?later⟩
  case beats =>
    obtain ⟨t, ran, e⟩ := heartbeat_runs awake
    exact ⟨t, ran, e.trans (beat_due run running due)⟩
  case stays =>
    obtain ⟨t, ran, e⟩ := heartbeat_runs awake
    exact ⟨t, ran, e.trans (beat_early early)⟩
  case reports =>
    obtain ⟨t, ran, rfl⟩ := heartbeat_reports awake run running unit code
    refine ⟨_, ran, ?_⟩
    rw [fwError, event_logged running ring posts _ _ (by decide), logged, checkData_eq]
    exact ⟨congrArg Mbx.evtSeq (beat_mbx _ _), congrArg Mbx.log (beat_mbx _ _), beat_counts run running⟩
  case captured =>
    obtain ⟨t, ran, rfl⟩ := captureDone_runs awake busy
    exact ⟨_, ran, rfl, rfl, rfl, captured_length s, rfl⟩
  case dump =>
    have goes := opDump_goes h aligned room r
    exact ⟨opDump_begins h new goes, opDump_down h new goes⟩
  case later =>
    have goes := goes_of_begun serves cmd code ready begun dumpChk
    have running : s.hlt.mpHung = false := by
      simp only [mpServes, Bool.and_eq_true, Bool.not_eq_true'] at serves
      exact serves.1
    subst at_
    exact ⟨opDump_continues awake cmd goes begun, opDump_ends awake cmd goes running wf⟩

end Sys2Proof.Machine

/-! ## 05, 06, 15: what the end of a command, an access or a read of the host leaves (05 R105; 06 R119; 15 R361) -/

namespace Sys2Proof.Machine

/-! ### A command's steps stop -/

/-- `t` is `s` with steps of a command stopped: reads and accesses may be gone, never new; the holds of invalidations, a
calibration run, a time set that waits, the state of links and the router may differ. -/
def Stopped (s t : State) : Prop :=
  ∃ rd iv ac ts cal lk ro o, rd ⊆ s.hl.reads ∧ ac ⊆ s.acc ∧ t = { s with
    tb := { s.tb with timeSet := ts }
    cal := cal
    hl := { s.hl with reads := rd, invals := iv }
    acc := ac
    fab := { s.fab with links := lk, router := ro }
    out := o }

namespace Stopped

theorem refl (s : State) : Stopped s s := ⟨_, _, _, _, _, _, _, _, List.Subset.refl _, List.Subset.refl _, rfl⟩

theorem trans {s t u : State} (h : Stopped s t) (k : Stopped t u) : Stopped s u := by
  obtain ⟨rd, iv, ac, ts, cal, lk, ro, o, hr, ha, rfl⟩ := h
  obtain ⟨rd', iv', ac', ts', cal', lk', ro', o', hr', ha', rfl⟩ := k
  exact ⟨rd', iv', ac', ts', cal', lk', ro', o', List.Subset.trans hr' hr, List.Subset.trans ha' ha, rfl⟩

theorem foldl {α : Type} {f : State → α → State} (h : ∀ s a, Stopped s (f s a)) (l : List α) (s : State) : Stopped s (l.foldl f s) := by
  induction l generalizing s with
  | nil => exact refl s
  | cons a l ih => exact (h s a).trans (ih _)

theorem ofIte {s a b : State} {c : Prop} [Decidable c] (ha : Stopped s a) (hb : Stopped s b) : Stopped s (if c then a else b) := by
  split
  · exact ha
  · exact hb

variable (s : State)

theorem ofEmit (o : Out) : Stopped s (emit s o) := ⟨_, _, _, _, _, _, _, _, List.Subset.refl _, List.Subset.refl _, rfl⟩

theorem ofInvals (iv : List (List Nat)) : Stopped s { s with hl := { s.hl with invals := iv } } :=
  ⟨_, _, _, _, _, _, _, _, List.Subset.refl _, List.Subset.refl _, rfl⟩

theorem ofReads {rd : Tab HostRead} (h : rd ⊆ s.hl.reads) : Stopped s { s with hl := { s.hl with reads := rd } } :=
  ⟨_, _, _, _, _, _, _, _, h, List.Subset.refl _, rfl⟩

theorem ofLinks (lk ro) : Stopped s { s with fab := { s.fab with links := lk, router := ro } } :=
  ⟨_, _, _, _, _, _, _, _, List.Subset.refl _, List.Subset.refl _, rfl⟩

theorem ofModLink (l : Nat) (f : Link → Link) : Stopped s (modLink s l f) := ofLinks s _ s.fab.router

theorem ofInvalDrain (tag : Nat) : Stopped s (invalDrain s tag) := (ofInvals s _).trans (foldl (fun t _ => ofEmit t _) _ _)

theorem ofStopReads (c : Chan) : Stopped s (stopReads s c) :=
  (ofReads s ((List.filter_subset_self _))).trans (foldl (fun t tag => ofInvalDrain t tag) _ _)

theorem ofOwe (p : Packet) : Stopped s (owe s p) := by
  unfold owe
  split
  · exact refl s
  · exact ofModLink s _ _

theorem ofLosePackets (f : Packet → Bool) : Stopped s (losePackets s f) := by
  refine (foldl (fun t p => ?_) s.fab.router s).trans (ofLinks _ (losePackets s f).fab.links _)
  refine ofIte (refl t) ?_
  split
  · exact ofOwe t p
  · exact (ofOwe t p).trans (ofModLink _ _ _)

theorem ofClearLink (l : Nat) : Stopped s (clearLink s l) :=
  ((ofLosePackets s _).trans (ofModLink _ _ _)).trans (ofLinks _ (clearLink s l).fab.links _)

theorem ofTrainStop (c : Chan) : Stopped s (trainStop s c) :=
  foldl (fun t l => ofIte ((ofClearLink t l).trans (ofModLink _ _ _)) (refl t)) _ _

theorem ofCalAbort : Stopped s (calAbort s) := ⟨_, _, _, _, _, _, _, _, List.Subset.refl _, List.Subset.refl _, rfl⟩

theorem ofAccDrop (f : AccOwner → Bool) : Stopped s (accDrop s f) :=
  ⟨_, _, _, _, _, _, _, _, List.Subset.refl _, (List.filter_subset_self _), rfl⟩

theorem ofTimeSet (w : Option TimeSetWait) : Stopped s { s with tb := { s.tb with timeSet := w } } :=
  ⟨_, _, _, _, _, _, _, _, List.Subset.refl _, List.Subset.refl _, rfl⟩

theorem ofStopCmd (c : Chan) (k : CmdHeld) : Stopped s (stopCmd s c k) := by
  unfold stopCmd
  have first : Stopped s (if (stopReads s c).tb.timeSet.any (fun w : TimeSetWait => w.chan = c)
      then { stopReads s c with tb := { (stopReads s c).tb with timeSet := none } } else stopReads s c) :=
    (ofStopReads s c).trans (ofIte (ofTimeSet _ none) (refl _))
  dsimp only
  split
  · exact first.trans (ofAccDrop _ _)
  · exact first.trans (ofTrainStop _ _)
  · exact first.trans (ofIte (ofCalAbort _) (refl _))
  · exact first

end Stopped

/-! ### What an end leaves -/

/-- What the end of a command, an access or a read changes nothing of. -/
structure Lasting where
  cfg : PcieConfig
  link : LinkParams
  bar4 : Nat
  count : BitVec 96
  valid : Bool
  maps : List MapEnt
  queues : Tab Queue
  sync : Tab SyncObj
  cores : Vector Core 32
  hlt : Health
  trackers : Tab Tracker
  intake : List Packet

def lasting (s : State) : Lasting := ⟨s.hl.cfg, s.hl.link, s.hl.bar4, s.tb.count, s.tb.valid, s.xl.maps, s.sch.queues, s.sch.sync,
  s.cores, s.hlt, s.fab.trackers, s.fab.intake⟩

/-- `t` is `s` with commands, accesses or reads ended: no read of the host is new, and no channel holds a command that held
none. -/
structure Ends (s t : State) : Prop where
  lasting : lasting t = lasting s
  reads : t.hl.reads ⊆ s.hl.reads
  cmds : ∀ c : Chan, (chan s c).cmd = none → (chan t c).cmd = none

namespace Ends

theorem trans {s t u : State} (h : Ends s t) (k : Ends t u) : Ends s u :=
  ⟨k.lasting.trans h.lasting, List.Subset.trans k.reads h.reads, fun c e => k.cmds c (h.cmds c e)⟩

theorem foldl {α : Type} {f : State → α → State} (h : ∀ s a, Ends s (f s a)) (l : List α) (s : State) : Ends s (l.foldl f s) := by
  induction l generalizing s with
  | nil => exact ⟨rfl, List.Subset.refl _, fun _ e => e⟩
  | cons a l ih => exact (h s a).trans (ih _)

theorem ofIte {s a b : State} {c : Prop} [Decidable c] (ha : Ends s a) (hb : Ends s b) : Ends s (if c then a else b) := by
  split
  · exact ha
  · exact hb

theorem hlt {s t : State} (h : Ends s t) : t.hlt = s.hlt := congrArg Lasting.hlt h.lasting

theorem ofQuiet {s t : State} (q : Quiet s t) : Ends s t := by
  have set := q.settings
  have same := q.announced.chan
  obtain ⟨n, l, h, o, rfl⟩ := q.announced
  have cfg : h.cfg = s.hl.cfg := congrArg HostSettings.cfg set
  have link : h.link = s.hl.link := congrArg HostSettings.link set
  have bar4 : h.bar4 = s.hl.bar4 := congrArg HostSettings.bar4 set
  have reads : h.reads = s.hl.reads := congrArg HostSettings.reads set
  refine ⟨?_, reads ▸ List.Subset.refl _, fun c e => (congrArg MbxChan.cmd (same c)).trans e⟩
  rw [Machine.lasting, Machine.lasting, cfg, link, bar4]

theorem ofStopped {s t : State} (h : Stopped s t) : Ends s t := by
  obtain ⟨_, _, _, _, _, _, _, _, reads, _, rfl⟩ := h
  exact ⟨rfl, reads, fun _ e => e⟩

variable (s : State)

theorem refl : Ends s s := ⟨rfl, List.Subset.refl _, fun _ e => e⟩

/-- The accesses, the tables, the towers, the slots and what is sent are no part of what lasts. -/
theorem ofRest (tw te acc na fc o) (sl : Tab Slot) : Ends s { s with
    tw := tw, te := te, acc := acc, nextAcc := na, freeCtr := fc, out := o, sch := { s.sch with slots := sl } } :=
  ⟨rfl, List.Subset.refl _, fun _ e => e⟩

theorem ofEmit (o : Out) : Ends s (emit s o) := ofRest s s.tw s.te s.acc s.nextAcc s.freeCtr _ s.sch.slots

theorem ofModSlot (i : Nat) (f : Slot → Slot) : Ends s (modSlot s i f) := ofRest s s.tw s.te s.acc s.nextAcc s.freeCtr s.out _

theorem ofAccMod (id : Nat) (f : Access → Access) : Ends s (accMod s id f) := ofRest s s.tw s.te _ s.nextAcc s.freeCtr s.out s.sch.slots

theorem ofAccStage (id : Nat) (g : AccStage) : Ends s (accStage s id g) := ofAccMod s _ _

theorem ofAccEnd (id : Nat) (g : AccStage) : Ends s (accEnd s id g) :=
  ofIte (ofRest s s.tw s.te _ s.nextAcc s.freeCtr s.out s.sch.slots) (ofAccMod s _ _)

theorem ofAccFail (id : Nat) (why : AccFail) : Ends s (accFail s id why) := by
  unfold accFail
  dsimp only
  split
  · split
    · exact (ofAccEnd s _ _).trans (ofQuiet (.ofEvent _ _ _ _))
    · exact ofAccEnd s _ _
  · exact ofAccEnd s _ _

/-! ### Commands -/

theorem ofModChan {c : Chan} {f : MbxChan → MbxChan} (h : (chan s c).cmd = none → (f (chan s c)).cmd = none) : Ends s (modChan s c f) := by
  refine ⟨rfl, List.Subset.refl _, fun d e => ?_⟩
  by_cases own : d = c
  · subst own
    rw [chan_modChan]
    exact h e
  · rw [chan_modChan_other own]
    exact e

theorem ofFinishCmd (c : Chan) (st d : Nat) (p : Bytes) : Ends s (finishCmd s c st d p) := by
  unfold finishCmd finishWith
  split
  · exact refl s
  · split
    · exact refl s
    · exact (ofModChan s fun _ => rfl).trans (ofIte (ofQuiet (.ofMsix _ _)) (refl _))

theorem ofSetEnding (c : Chan) (st : Nat) : Ends s (setEnding s c st) := ofModChan s fun e => by rw [e]; rfl

theorem ofEndCmd (c : Chan) (st : Nat) : Ends s (endCmd s c st) := by
  unfold endCmd
  split
  · exact refl s
  · exact ofIte (refl s) (ofIte (ofSetEnding s _ _) ((ofStopped (.ofStopCmd s _ _)).trans (ofFinishCmd _ _ _ _ _)))

/-! ### Reads of the host that fail -/

theorem ofFlushEnd (i : Nat) (ok : Bool) : Ends s (flushEnd s i ok) :=
  (ofModSlot s _ _).trans (ofIte (refl _) (ofQuiet (.ofSetInt _ _)))

theorem ofHostReadFail (id a : Nat) : Ends s (hostReadEnd s id a none) := by
  unfold hostReadEnd
  split
  · exact refl s
  · exact ofAccFail s _ _
  · contradiction

theorem ofReadFail (r : HostRead) : Ends s (readEnd s r none) := by
  unfold readEnd
  split
  · exact ofIte (refl s) (ofEndCmd s _ _)
  · exact ofHostReadFail s _ _
  · exact ofAccFail s _ _
  · exact ofFlushEnd s _ _

end Ends

end Sys2Proof.Machine

/-! ## 15: a warm reset is accepted, and completes (R359 to R363; the statement of O43) -/

namespace Sys2Proof.Machine

/-! ### Deep requests go on (08 R179, R184) -/

namespace Ends
variable (s : State)

theorem ofTower (tw : Tower) : Ends s { s with tw := tw } := ofRest s tw s.te s.acc s.nextAcc s.freeCtr s.out s.sch.slots

theorem ofDeepPoisonEvent (a p d : Nat) : Ends s (deepPoisonEvent s a p d) := by
  unfold deepPoisonEvent
  dsimp only
  split
  · exact ofTower s _
  · exact (ofTower s _).trans (ofQuiet (.ofEvent _ _ _ _))

theorem ofPoisonRead (id : Nat) (a : Access) : Ends s (poisonRead s id a) :=
  ((ofRest s s.tw s.te s.acc s.nextAcc _ s.out s.sch.slots).trans (ofAccMod _ _ _)).trans (ofAccEnd _ _ _)

theorem ofDeepLost (id p d : Nat) (a : Access) : Ends s (deepLost s id p d a) := by
  unfold deepLost
  dsimp only
  split
  · exact ((ofTower s _).trans (ofDeepPoisonEvent _ _ _ _)).trans (ofPoisonRead _ _ _)
  · exact ((ofTower s _).trans (ofTower _ _)).trans (ofAccFail _ _ _)

theorem ofPumpDeep (n p : Nat) : Ends s (pumpDeep n s p) := by
  induction n generalizing s with
  | zero => exact refl s
  | succ n ih =>
    unfold pumpDeep
    split
    · exact refl s
    · split
      · exact (ofDeepLost s _ _ _ _).trans (ih _)
      · dsimp only
        split
        · exact refl s
        · exact ((ofAccStage s _ _).trans (ofEmit _ _)).trans (ih _)

theorem ofPumpPorts : Ends s (pumpPorts s) := foldl (fun t p => ofPumpDeep t _ p) _ s

end Ends

/-! ### Requests of the host end failed (06 R432) -/

/-- No request of the host is outstanding, no translation known. -/
def hostForgotten (s : State) : State := { s with hl := { s.hl with reads := [], ats := [], posts := [], atc := [], invals := [] } }

theorem failReads_ends (s : State) : Ends (hostForgotten s) (failReads s) := by
  refine (Ends.foldl (fun t r => Ends.ofReadFail t r.2) s.hl.reads _).trans (Ends.foldl (fun t q => ?_) s.hl.ats _)
  split
  · exact .ofIte (.ofAccFail t _ _) (.refl t)
  · exact .refl t

theorem Ends.ofFailReads (s : State) : Ends s (failReads s) :=
  Ends.trans (t := hostForgotten s) ⟨rfl, List.nil_subset _, fun _ e => e⟩ (failReads_ends s)

theorem failReads_reads (s : State) : (failReads s).hl.reads = [] := List.subset_nil.mp (failReads_ends s).reads

/-! ### Trackers free (14 R346) -/

/-- `t` is `s` with trackers freed and accesses gone on without an owner, or forgotten. -/
def Freed (s t : State) : Prop :=
  ∃ ac l g, l ⊆ s.fab.trackers ∧ t = { s with acc := ac, fab := { s.fab with trackers := l, gens := g } }

namespace Freed

theorem refl (s : State) : Freed s s := ⟨s.acc, s.fab.trackers, s.fab.gens, List.Subset.refl _, rfl⟩

theorem trans {s t u : State} (h : Freed s t) (k : Freed t u) : Freed s u := by
  obtain ⟨ac, l, g, sub, rfl⟩ := h
  obtain ⟨ac', l', g', sub', rfl⟩ := k
  exact ⟨ac', l', g', List.Subset.trans sub' sub, rfl⟩

theorem foldl {α : Type} {f : State → α → State} (h : ∀ s a, Freed s (f s a)) (l : List α) (s : State) : Freed s (l.foldl f s) := by
  induction l generalizing s with
  | nil => exact refl s
  | cons a l ih => exact (h s a).trans (ih _)

theorem ofFreeTrack (s : State) (i : Nat) : Freed s (freeTrack s i) := by
  unfold freeTrack
  split
  · exact refl s
  · exact ⟨s.acc, _, _, List.filter_subset_self _, rfl⟩

theorem ofAccDiscard (s : State) (f : AccOwner → Bool) : Freed s (accDiscard s f) := by
  refine (foldl (fun t x => ?_) (accsOf s f) s).trans ⟨(accDiscard s f).acc, _, _, List.Subset.refl _, rfl⟩
  split
  · exact ofFreeTrack t _
  · exact refl t

theorem lasting {s t : State} (h : Freed s t) : Machine.lasting t = { Machine.lasting s with trackers := t.fab.trackers } := by
  obtain ⟨_, _, _, _, rfl⟩ := h
  rfl

theorem reads {s t : State} (h : Freed s t) : t.hl.reads = s.hl.reads := by
  obtain ⟨_, _, _, _, rfl⟩ := h
  rfl

theorem chan {s t : State} (h : Freed s t) (c : Chan) : chan t c = chan s c := by
  obtain ⟨_, _, _, _, rfl⟩ := h
  rfl

end Freed

theorem ne_of_tget_none {α : Type} {t : Tab α} {i : Nat} (h : tget t i = none) : ∀ x ∈ t, x.1 ≠ i := by
  induction t with
  | nil => simp
  | cons e r ih =>
    by_cases own : i = e.1
    · simp [tget, own] at h
    · intro x m
      rw [tget, if_neg own] at h
      rcases List.mem_cons.mp m with rfl | m
      · exact fun e => own e.symm
      · exact ih h x m

theorem freeTrack_ne (s : State) (i : Nat) : ∀ x ∈ (freeTrack s i).fab.trackers, x.1 ≠ i := by
  unfold freeTrack
  split
  next free => exact ne_of_tget_none free
  next => exact fun x m => by simpa using (List.mem_filter.mp m).2

/-- Every tracker of a list is freed. -/
theorem freeTracks_ne (l : List (Nat × Tracker)) (s : State) :
    ∀ x ∈ (l.foldl (fun s t => freeTrack s t.1) s).fab.trackers, x.1 ∉ l.map Prod.fst := by
  have freed (l : List (Nat × Tracker)) (s : State) : (l.foldl (fun s t => freeTrack s t.1) s).fab.trackers ⊆ s.fab.trackers := by
    obtain ⟨_, _, _, sub, e⟩ := Freed.foldl (fun t (y : Nat × Tracker) => Freed.ofFreeTrack t y.1) l s
    rw [e]
    exact sub
  induction l generalizing s with
  | nil => simp
  | cons y l ih =>
    intro x m
    have first := freeTrack_ne s y.1 x (freed l _ m)
    simpa [first] using ih _ x m

theorem freeTracks_all (s : State) : (s.fab.trackers.foldl (fun s t => freeTrack s t.1) s).fab.trackers = [] := by
  refine List.eq_nil_iff_forall_not_mem.mpr fun x m => freeTracks_ne _ s x m ?_
  obtain ⟨_, _, _, sub, e⟩ := Freed.foldl (fun t (y : Nat × Tracker) => Freed.ofFreeTrack t y.1) s.fab.trackers s
  rw [e] at m
  exact List.mem_map_of_mem (sub m)

/-! ### The chip falls quiet (15 R361) -/

theorem Ends.ofWarmFail (s : State) : Ends s (warmFail s) := by
  unfold warmFail
  refine Ends.foldl (fun t x => ?_) s.acc s
  cases x.2.stage with
  | remote => exact .ofAccFail t _ _
  | stalled => exact .ofAccFail t _ _
  | host => exact .ofAccFail t _ _
  | ats => exact .ofAccFail t _ _
  | _ => exact .refl t

/-- Every invalidation is answered. -/
def warmAnswered (s : State) : State := s.hl.invals.foldl (fun s _ => emit s .atsInvalDone) s

/-- Accesses without their owner go on. -/
def warmDiscarded (s : State) : State := accDiscard (failReads (warmAnswered s)) fun w => !warmKeeps w

/-- Every tracker is free. -/
def warmFreed (s : State) : State := (warmDiscarded s).fab.trackers.foldl (fun s t => freeTrack s t.1) (warmDiscarded s)

/-- Cores and engines stopped, what was addressed to the chip sunk. -/
def sunk (s : State) : State := { s with
  cores := s.cores.map warmCore
  te := { s.te with engines := s.te.engines.map warmEngine }
  fab := { s.fab with intake := [], serving := [] } }

theorem sunk_lasting (s : State) : lasting (sunk s) = { lasting s with cores := (lasting s).cores.map warmCore, intake := [] } := rfl

theorem warmQuiet_eq (s : State) : warmQuiet s = pumpPorts (sunk (warmFail (warmFreed s))) := by
  unfold warmQuiet sunk warmFreed warmDiscarded warmAnswered
  rfl

theorem warmAnswered_ends (s : State) : Ends s (warmAnswered s) := Ends.foldl (fun t _ => Ends.ofEmit t _) _ s

theorem warmFreed_freed (s : State) : Freed (failReads (warmAnswered s)) (warmFreed s) :=
  (Freed.ofAccDiscard (failReads (warmAnswered s)) _).trans
    (Freed.foldl (fun t (y : Nat × Tracker) => Freed.ofFreeTrack t y.1) (warmDiscarded s).fab.trackers (warmDiscarded s))

theorem warmFreed_step (s : State) : ∃ u, Ends s u ∧ Freed u (warmFreed s) ∧ (warmFreed s).fab.trackers = [] :=
  ⟨failReads (warmAnswered s), (warmAnswered_ends s).trans (.ofFailReads (warmAnswered s)), warmFreed_freed s,
    freeTracks_all (warmDiscarded s)⟩

/-- Threads, trackers and what was addressed to the chip are gone; the rest lasts. -/
theorem warmQuiet_lasting (s : State) :
    lasting (warmQuiet s) = { lasting s with cores := s.cores.map warmCore, trackers := [], intake := [] } := by
  obtain ⟨u, ends, freed, none⟩ := warmFreed_step s
  have failed := (Ends.ofWarmFail (warmFreed s)).lasting
  rw [warmQuiet_eq, (Ends.ofPumpPorts _).lasting, sunk_lasting, failed, freed.lasting, none, ends.lasting]
  rfl

theorem warmQuiet_cmds (s : State) (c : Chan) (e : (chan s c).cmd = none) : (chan (warmQuiet s) c).cmd = none := by
  obtain ⟨u, ends, freed, none⟩ := warmFreed_step s
  rw [warmQuiet_eq]
  refine (Ends.ofPumpPorts _).cmds c ?_
  refine (Ends.ofWarmFail (warmFreed s)).cmds c ?_
  rw [freed.chan]
  exact ends.cmds c e

/-! ### Commands are aborted (05 R105) -/

/-- One command aborted, as a warm reset aborts it. -/
def abortOne (skip : Option Chan) (s : State) (c : Chan) : State :=
  if skip == some c then s
  else if c.val < 16 || (chan s c).cmd.any fun k => !k.ready then endCmd s c stAborted else s

theorem abortAll_eq (s : State) (skip : Option Chan) : abortAll s skip = (List.finRange 17).foldl (abortOne skip) s := rfl

theorem Ends.ofAbortOne (skip : Option Chan) (s : State) (c : Chan) : Ends s (abortOne skip s c) :=
  .ofIte (.refl s) (.ofIte (.ofEndCmd s _ _) (.refl s))

theorem Ends.ofAbortAll (s : State) (skip : Option Chan) : Ends s (abortAll s skip) := .foldl (.ofAbortOne skip) _ s

theorem chan_abortOne_other {skip : Option Chan} {c d : Chan} (ne : d ≠ c) (s : State) : chan (abortOne skip s c) d = chan s d := by
  unfold abortOne
  split
  · rfl
  · split
    · exact chan_endCmd_other ne _
    · rfl

theorem chan_abortOne_skip (s : State) (c d : Chan) : chan (abortOne (some d) s c) d = chan s d := by
  by_cases own : c = d
  · simp [abortOne, own]
  · exact chan_abortOne_other (Ne.symm own) s

theorem chan_abortAll_skip (s : State) (d : Chan) : chan (abortAll s (some d)) d = chan s d := by
  rw [abortAll_eq]
  generalize List.finRange 17 = l
  induction l generalizing s with
  | nil => rfl
  | cons c l ih => exact (ih _).trans (chan_abortOne_skip s c d)

/-- A fill that flies in a state with fewer accesses flew before. -/
theorem fillFlies_mono {s t : State} (sub : t.acc ⊆ s.acc) {d : Chan} {k : CmdHeld} (h : fillFlies s d k = false) :
    fillFlies t d k = false := by
  simp only [fillFlies, Bool.and_eq_false_iff, Bool.not_eq_false', allEnded, accsOf, List.all_eq_true] at h ⊢
  refine h.imp_right fun ended x m => ended x ?_
  obtain ⟨there, mine⟩ := List.mem_filter.mp m
  exact List.mem_filter.mpr ⟨sub there, mine⟩

theorem NoFills.still {s : State} (h : NoFills s) {c : Chan} {k : CmdHeld} (e : (chan s c).cmd = some k) : fillFlies s c k = false := by
  simpa [e] using h c

theorem endCmd_acc {s : State} (g : s.hlt.mpHung = false) (h : NoFills s) (c : Chan) (st : Nat) : (endCmd s c st).acc ⊆ s.acc := by
  cases e : (chan s c).cmd with
  | none => rw [endCmd_of_none e]; exact List.Subset.refl _
  | some k =>
    obtain ⟨p, ended⟩ := endCmd_finishes e g (h.still e) st
    obtain ⟨_, _, _, _, _, finished⟩ := finishCmd_besides (stopCmd s c k) c st 0 p
    obtain ⟨_, _, _, _, _, _, _, _, _, sub, stopped⟩ := Stopped.ofStopCmd s c k
    rw [ended, finished, stopped]
    exact sub

theorem NoFills.flies {s : State} (h : NoFills s) (c : Chan) : (chan s c).cmd.any (fillFlies s c) = false := by
  cases e : (chan s c).cmd with
  | none => rfl
  | some k => exact h.still e

theorem NoFills.endCmd {s : State} (g : s.hlt.mpHung = false) (h : NoFills s) (c : Chan) (st : Nat) : NoFills (endCmd s c st) := by
  intro d
  by_cases own : d = c
  · subst own
    rw [endCmd_cmd g (h.flies d) st]
    rfl
  · rw [chan_endCmd_other own]
    cases e : (chan s d).cmd with
    | none => rfl
    | some k => simpa using fillFlies_mono (endCmd_acc g h c st) (h.still e)

theorem NoFills.abortOne {s : State} (g : s.hlt.mpHung = false) (h : NoFills s) (skip : Option Chan) (c : Chan) :
    NoFills (abortOne skip s c) := by
  unfold Machine.abortOne
  split
  · exact h
  · split
    · exact h.endCmd g c _
    · exact h

theorem abortOne_cmd {s : State} (g : s.hlt.mpHung = false) (h : NoFills s) {skip : Option Chan} {c : Chan} (host : c.val < 16)
    (other : skip ≠ some c) : (chan (abortOne skip s c) c).cmd = none := by
  have aborts : abortOne skip s c = endCmd s c stAborted := by simp [abortOne, other, host]
  rw [aborts]
  exact endCmd_cmd g (h.flies c) _

/-- No host channel but the one left out holds a command. -/
theorem abortAll_cmds {s : State} (g : s.hlt.mpHung = false) (h : NoFills s) {skip : Option Chan} {c : Chan} (host : c.val < 16)
    (other : skip ≠ some c) : (chan (abortAll s skip) c).cmd = none := by
  have all (l : List Chan) : c ∈ l → ∀ s : State, s.hlt.mpHung = false → NoFills s → (chan (l.foldl (abortOne skip) s) c).cmd = none := by
    induction l with
    | nil => simp
    | cons d l ih =>
      intro m s g h
      rcases List.mem_cons.mp m with rfl | m
      · exact (Ends.foldl (.ofAbortOne skip) l _).cmds c (abortOne_cmd g h host other)
      · exact ih m _ (by rw [(Ends.ofAbortOne skip s d).hlt]; exact g) (h.abortOne g skip d)
  exact all _ (List.mem_finRange c) s g h

/-! ### A warm reset is accepted (15 R359, R361 to R363) -/

theorem warmAccept_joins {s : State} {x : WarmTrigger} (h : s.hlt.warm = some x) (w : WarmTrigger) (skip : Option Chan) :
    warmAccept s w skip = s := by
  simp [warmAccept, h]

theorem warmAccept_stands {s : State} (h : s.hlt.warm = none) (m : mpServes s = false) (w : WarmTrigger) (skip : Option Chan) :
    warmAccept s w skip = { s with hlt := { s.hlt with warm := some w, warmBegun := false } } := by
  have stays : mpServes (modHlt s fun h => { h with warm := some w, warmBegun := mpServes s }) = mpServes s := rfl
  rw [warmAccept, h, if_neg (by simp)]
  dsimp only
  rw [stays, m, if_neg (by simp)]
  rfl

/-- The state in which the commands are aborted. -/
def warmBegins (s : State) (w : WarmTrigger) : State := { s with hlt := { s.hlt with warm := some w, warmBegun := true } }

theorem warmAccept_begins {s : State} (h : s.hlt.warm = none) (m : mpServes s = true) (w : WarmTrigger) (skip : Option Chan) :
    warmAccept s w skip = warmQuiet (abortAll (warmBegins s w) skip) := by
  have stays : mpServes (modHlt s fun h => { h with warm := some w, warmBegun := mpServes s }) = mpServes s := rfl
  rw [warmAccept, h, if_neg (by simp)]
  dsimp only
  rw [stays, m, if_pos rfl]
  rfl

/-- What lasts as a warm reset that begins leaves it. -/
def begunLasting (x : Lasting) (w : WarmTrigger) : Lasting := { x with
  hlt := { x.hlt with warm := some w, warmBegun := true }
  cores := x.cores.map warmCore
  trackers := []
  intake := [] }

theorem begins_lasting {s : State} (h : s.hlt.warm = none) (m : mpServes s = true) (w : WarmTrigger) (skip : Option Chan) :
    lasting (warmAccept s w skip) = begunLasting (lasting s) w := by
  have aborted := (Ends.ofAbortAll (warmBegins s w) skip).lasting
  have cores : (abortAll (warmBegins s w) skip).cores = s.cores := congrArg Lasting.cores aborted
  rw [warmAccept_begins h m, warmQuiet_lasting, aborted, cores]
  rfl

theorem warmBegins_running {s : State} (m : mpServes s = true) (w : WarmTrigger) : (warmBegins s w).hlt.mpHung = false := by
  simp only [mpServes, Bool.and_eq_true, Bool.not_eq_true'] at m
  exact m.1

theorem begins_cmds {s : State} (h : s.hlt.warm = none) (m : mpServes s = true) (still : NoFills s) {w : WarmTrigger} {skip : Option Chan}
    {c : Chan} (host : c.val < 16) (other : skip ≠ some c) : (chan (warmAccept s w skip) c).cmd = none := by
  rw [warmAccept_begins h m]
  exact warmQuiet_cmds _ c (abortAll_cmds (s := warmBegins s w) (warmBegins_running m w) still host other)

/-- Whatever state a warm reset finds, the host link's settings, the time, the maps, the queues and the sync objects last. -/
theorem warmAccept_lasting (s : State) (w : WarmTrigger) (skip : Option Chan) : ∃ h c tr i,
    lasting (warmAccept s w skip) = { lasting s with hlt := h, cores := c, trackers := tr, intake := i } := by
  cases h : s.hlt.warm with
  | some x => exact ⟨_, _, _, _, congrArg lasting (warmAccept_joins h w skip)⟩
  | none =>
    cases m : mpServes s with
    | false =>
      rw [warmAccept_stands h m]
      exact ⟨_, _, _, _, rfl⟩
    | true => exact ⟨_, _, _, _, begins_lasting h m w skip⟩

/-! ### FLR and PERST_N_ASSERT (15 R359, R363) -/

/-- The function's configuration returns to its reset values, the link to `l`. -/
def hostReset (s : State) (l : LinkParams) : State := configReset { s with hl := { s.hl with link := l } }

/-- The host link is reset, and a warm reset accepted if it is to be. -/
def struck (s : State) (l : LinkParams) (w : WarmTrigger) (go : Bool) : State :=
  failReads (if go then warmAccept (hostReset s l) w none else hostReset s l)

section Struck
variable {s : State} {l : LinkParams} {w : WarmTrigger}

theorem struck_lasting (go : Bool) : ∃ h c tr i, lasting (struck s l w go) =
    { lasting (hostReset s l) with hlt := h, cores := c, trackers := tr, intake := i } := by
  rw [struck, (Ends.ofFailReads _).lasting]
  cases go with
  | false => exact ⟨_, _, _, _, rfl⟩
  | true => exact warmAccept_lasting (hostReset s l) w none

theorem struck_host (go : Bool) : (struck s l w go).hl.cfg = PcieConfig.reset ∧ (struck s l w go).hl.bar4 = 0x10000000 ∧
    (struck s l w go).hl.reads = [] ∧ (struck s l w go).hl.link = l ∧ (struck s l w go).tb.count = s.tb.count ∧
    (struck s l w go).tb.valid = s.tb.valid := by
  obtain ⟨_, _, _, _, e⟩ := struck_lasting (s := s) (l := l) (w := w) go
  exact ⟨congrArg Lasting.cfg e, congrArg Lasting.bar4 e, failReads_reads _, congrArg Lasting.link e, congrArg Lasting.count e,
    congrArg Lasting.valid e⟩

theorem struck_refused : (struck s l w false).hlt = s.hlt ∧ (struck s l w false).sch.queues = s.sch.queues ∧
    (struck s l w false).sch.sync = s.sch.sync ∧ (struck s l w false).xl.maps = s.xl.maps := by
  have e : lasting (struck s l w false) = lasting (hostReset s l) := (Ends.ofFailReads _).lasting
  exact ⟨congrArg Lasting.hlt e, congrArg Lasting.queues e, congrArg Lasting.sync e, congrArg Lasting.maps e⟩

theorem struck_joins {x : WarmTrigger} (h : s.hlt.warm = some x) (go : Bool) : (struck s l w go).hlt = s.hlt := by
  have same : (if go then warmAccept (hostReset s l) w none else hostReset s l) = hostReset s l := by
    rw [warmAccept_joins (s := hostReset s l) h, ite_self]
  rw [struck, same]
  exact (Ends.ofFailReads _).hlt

theorem struck_stands (h : s.hlt.warm = none) (m : mpServes s = false) : (struck s l w true).hlt.warm = some w ∧
    (struck s l w true).hlt.warmBegun = false ∧ (struck s l w true).cores = s.cores ∧
    (struck s l w true).fab.trackers = s.fab.trackers := by
  have e : lasting (struck s l w true) = lasting (warmAccept (hostReset s l) w none) := (Ends.ofFailReads _).lasting
  rw [warmAccept_stands (s := hostReset s l) h m] at e
  have hlt := congrArg Lasting.hlt e
  exact ⟨congrArg Health.warm hlt, congrArg Health.warmBegun hlt, congrArg Lasting.cores e, congrArg Lasting.trackers e⟩

theorem warmCore_at (v : Vector Core 32) (n : Fin 32) : ((v.map warmCore)[n]).stage = none ∧ ((v.map warmCore)[n]).cops = [] ∧
    ((v.map warmCore)[n]).spad = (v[n]).spad := by
  have at_ : (v.map warmCore)[n] = warmCore v[n] := Vector.getElem_map _ _
  rw [at_]
  exact ⟨rfl, rfl, rfl⟩

theorem struck_begins (h : s.hlt.warm = none) (m : mpServes s = true) (still : NoFills s) :
    (struck s l w true).hlt.warm = some w ∧ (struck s l w true).hlt.warmBegun = true ∧ (struck s l w true).fab.trackers = [] ∧
    (struck s l w true).fab.intake = [] ∧
    (∀ n : Fin 32, ((struck s l w true).cores[n]).stage = none ∧ ((struck s l w true).cores[n]).cops = [] ∧
      ((struck s l w true).cores[n]).spad = (s.cores[n]).spad) ∧
    ∀ c : Fin 17, c.val < 16 → (chan (struck s l w true) c).cmd = none := by
  have e : lasting (struck s l w true) = lasting (warmAccept (hostReset s l) w none) := (Ends.ofFailReads _).lasting
  rw [begins_lasting (s := hostReset s l) h m] at e
  have hlt := congrArg Lasting.hlt e
  have cores : (struck s l w true).cores = s.cores.map warmCore := congrArg Lasting.cores e
  refine ⟨congrArg Health.warm hlt, congrArg Health.warmBegun hlt, congrArg Lasting.trackers e, congrArg Lasting.intake e, fun n => ?_,
    fun c host => (Ends.ofFailReads _).cmds c (begins_cmds (s := hostReset s l) (skip := none) h m still host nofun)⟩
  rw [cores]
  exact warmCore_at s.cores n

/-- A trigger strikes: PERST takes the link down, and FLR is taken by firmware before READY too. -/
theorem trigger_strikes (awake : Awake s) {i : Instr}
    (h : (i = .flr ∧ w = .flr ∧ s.hl.link.speed ≠ 0) ∨ (i = .perstNAssert ∧ w = .perst)) : ∃ l go,
      (w = .perst → l.speed = 0) ∧ (w = .flr → l = s.hl.link) ∧
      (go = true ↔ s.sec.phase = 4 ∨ (w = .flr ∧ mpServes s = true)) ∧ Runs i s fun t => t = struck s l w go := by
  rcases h with ⟨rfl, rfl, up⟩ | ⟨rfl, rfl⟩
  · refine ⟨s.hl.link, isReady s || mpServes s, nofun, fun _ => rfl, by simp [isReady], _, ?_, rfl⟩
    show execFlr s = _
    rw [execFlr, live_awake awake, if_neg up]
    rfl
  · refine ⟨⟨0, 0, false, false, false, false, false⟩, isReady s, fun _ => rfl, nofun, by simp [isReady], _, ?_, rfl⟩
    show execPerstNAssert s = _
    rw [execPerstNAssert, live_awake awake]
    rfl

end Struck

/-! ### OP_CHIP_RESET (05 R105, R109) -/

section ChipReset
variable {s : State} {c : Chan} {k : CmdHeld}

/-- No read of the host fetches the payload of channel `c`. -/
abbrev NoPayload (s : State) (c : Chan) : Prop := ∀ r ∈ s.hl.reads, ∀ off, r.2.why ≠ .indirect c off

theorem chan_readFail (s : State) {r : HostRead} (h : ∀ off, r.why ≠ .indirect c off) : chan (readEnd s r none) c = chan s c := by
  unfold readEnd
  split
  next d off e =>
    have ne : c ≠ d := fun own => h off (own ▸ e)
    split
    · rfl
    · exact chan_endCmd_other ne _
  next =>
    unfold hostReadEnd
    split
    · rfl
    · exact chan_accFail _ _ _
    · contradiction
  next => exact chan_accFail _ _ _
  next => simp [flushEnd]

theorem chan_failReads (h : NoPayload s c) : chan (failReads s) c = chan s c := by
  have reads (l : List (Nat × HostRead)) : (∀ r ∈ l, ∀ off, r.2.why ≠ .indirect c off) → ∀ t : State,
      chan (l.foldl (fun s r => readEnd s r.2 none) t) c = chan t c := by
    induction l with
    | nil => exact fun _ _ => rfl
    | cons r l ih =>
      exact fun h t => (ih (fun x m => h x (List.mem_cons_of_mem _ m)) _).trans (chan_readFail t (h r List.mem_cons_self))
  refine (chan_foldl (fun t q => ?_) s.hl.ats _).trans (reads s.hl.reads h (hostForgotten s))
  split
  · split
    · exact chan_accFail _ _ _
    · rfl
  · rfl

theorem chan_warmFail (s : State) : chan (warmFail s) c = chan s c := by
  unfold warmFail
  refine chan_foldl (fun t x => ?_) s.acc s
  cases x.2.stage with
  | remote => exact chan_accFail t _ _
  | stalled => exact chan_accFail t _ _
  | host => exact chan_accFail t _ _
  | ats => exact chan_accFail t _ _
  | _ => rfl

theorem chan_warmQuiet (h : NoPayload s c) : chan (warmQuiet s) c = chan s c := by
  have same : chan (warmAnswered s) c = chan s c := chan_foldl (fun t _ => chan_emit t _) _ _
  have failed := chan_failReads (s := warmAnswered s) fun r m => h r ((warmAnswered_ends s).reads m)
  calc chan (warmQuiet s) c = chan (sunk (warmFail (warmFreed s))) c := by rw [warmQuiet_eq, chan_pumpPorts]
    _ = chan (warmFreed s) c := chan_warmFail (warmFreed s)
    _ = chan s c := ((warmFreed_freed s).chan c).trans (failed.trans same)

theorem chipReset_goes (h : HasCmd s c 0x0902 k) (z : k.f 0 1 = 0) (r : Reserved k [1, 2, 3]) :
    Goes s c 0x0902 (fun k => { param := bad (k.f 0 1 != 0) 0 :: k.rsv 1 4 }) k := by
  refine h.goes (unnamed_of_mailboxOpcode h (by simp)) rfl fun x m => ?_
  rcases List.mem_cons.mp m with rfl | m
  · simp [bad, z]
  · exact rsv_none r (by decide) x m

theorem chan_begins (still : s.hlt.warm = none) (m : mpServes s = true) (h : NoPayload s c) :
    chan (warmAccept s (.command c) (some c)) c = chan s c := by
  have aborted := Ends.ofAbortAll (warmBegins s (.command c)) (some c)
  rw [warmAccept_begins still m, chan_warmQuiet fun r m => h r (aborted.reads m), chan_abortAll_skip]
  rfl

theorem opChipReset_begins (h : HasCmd s c 0x0902 k) (z : k.f 0 1 = 0) (r : Reserved k [1, 2, 3]) (idle : s.hlt.warm = none)
    (payload : NoPayload s c) (still : NoFills s) : Runs (.opChipReset c) s fun t =>
      t.hlt.warm = some (.command c) ∧ (chan t c).cmd = some { k with begun := true } ∧ t.hl.cfg = s.hl.cfg ∧ t.hl.bar4 = s.hl.bar4 ∧
        t.fab.trackers = [] ∧ ∀ d : Fin 17, d ≠ c → d.val < 16 → (chan t d).cmd = none := by
  have ⟨_, serves, cmd, _, _, begun, _⟩ := h
  have e := begins_lasting idle serves (.command c) (some c)
  have fresh : (if k.begun then Done.wait s else Done.wait (warmAccept s (.command c) (some c))) =
      .wait (warmAccept s (.command c) (some c)) := by rw [begun, if_neg Bool.false_ne_true]
  refine runs_live (f := fun s => runOp s c 0x0902 (fun k => { param := bad (k.f 0 1 != 0) 0 :: k.rsv 1 4 })
    (fun _ s => layout 4 [(0, 2, s.fab.inc.toNat)]) fun k s =>
      if k.begun then .wait s else .wait (warmAccept s (.command c) (some c))) rfl h.1 ?_
  rw [runOp_wait (chipReset_goes h z r) fresh]
  refine ⟨congrArg (fun x => x.hlt.warm) e, ?_, congrArg Lasting.cfg e, congrArg Lasting.bar4 e, congrArg Lasting.trackers e,
    fun d ne host => ?_⟩
  · rw [chan_setBegun, chan_begins idle serves payload, cmd]
    rfl
  · rw [chan_setBegun_other ne]
    exact begins_cmds idle serves still host (fun own => ne (Option.some.inj own).symm)

end ChipReset

/-! ### An event with no translation known refuses no write (06 R139, R141) -/

theorem atcFind_ne_denied {s : State} (h : s.hl.atc = []) (p : Option (BitVec 20)) (a : Nat) (w : Bool) : atcFind s p a w ≠ .denied := by
  unfold atcFind
  split
  · nofun
  · rw [h]
    nofun

theorem msixNow_intStatus (s : State) (v : Nat) : (msixNow s v).hl.intStatus = s.hl.intStatus := by
  unfold msixNow msixSend
  split
  · rfl
  · split
    · rfl
    · dsimp only
      split <;> rfl

theorem postOut_intStatus (s : State) (a : Nat) (d : Bytes) (ro : Bool) (ctx : Nat) : (postOut s a d ro ctx).hl.intStatus = s.hl.intStatus := by
  unfold postOut
  split <;> rfl

theorem Quiet.atc {s t : State} (q : Quiet s t) (h : s.hl.atc = []) : t.hl.atc = [] :=
  (congrArg HostSettings.atc q.settings).trans h

/-- A post that waits for its translation, or is discarded. -/
theorem missed_intStatus {s rest : State} (h : rest.hl.intStatus = s.hl.intStatus) (p : Option (BitVec 20)) (a : Nat) :
    (if !hostUp s then rest else if s.hl.ats.any (fun q => q.2.why == .post) then s else atsAsk s .post p a true).hl.intStatus =
      s.hl.intStatus := by
  split
  · exact h
  · split <;> rfl

theorem drainPosts_intStatus (n : Nat) {s : State} (h : s.hl.atc = []) : (drainPosts n s).hl.intStatus = s.hl.intStatus := by
  induction n generalizing s with
  | zero => rfl
  | succ n ih =>
    unfold drainPosts
    split
    · rfl
    next r _ =>
      have rest : ({ s with hl := { s.hl with posts := r } } : State).hl.atc = [] := h
      have sent {t : State} (q : Quiet { s with hl := { s.hl with posts := r } } t) (e : t.hl.intStatus = s.hl.intStatus) :
          (drainPosts n t).hl.intStatus = s.hl.intStatus := (ih (q.atc rest)).trans e
      have gone : (drainPosts n { s with hl := { s.hl with posts := r } }).hl.intStatus = s.hl.intStatus := ih rest
      dsimp only
      split
      · exact sent (Quiet.ofMsixNow _ _) (msixNow_intStatus _ _)
      · split
        · exact sent (Quiet.ofPostOut _ _ _ _ _) (postOut_intStatus _ _ _ _ _)
        next denied => exact absurd denied (atcFind_ne_denied h _ _ _)
        · exact missed_intStatus gone _ _
      · split
        · exact sent (Quiet.ofPostOut _ _ _ _ _) (postOut_intStatus _ _ _ _ _)
        next denied => exact absurd denied (atcFind_ne_denied h _ _ _)
        · exact missed_intStatus gone _ _

theorem eventQuiet_intStatus (s : State) (t : Half) (v : Byte) (d : Bytes) : (eventQuiet s t v d).1.hl.intStatus = s.hl.intStatus := by
  unfold eventQuiet
  split
  · rfl
  · dsimp only
    split <;> rfl

theorem norWrite_intStatus {s : State} (h : s.hl.atc = []) (n : Nat) : (norWrite s n).hl.intStatus = s.hl.intStatus := by
  unfold norWrite
  split
  · rfl
  · exact (drainPosts_intStatus _ ((Quiet.ofEnqueue _ _).atc ((Quiet.ofEventQuiet _ _ _ _).atc h))).trans (eventQuiet_intStatus _ _ _ _)

/-! ### A warm reset completes (15 R360 to R363) -/

/-- The incarnation number after `n`; 0 is left out (14 R348). -/
def nextInc (n : Half) : Half := if n = 0xFFFF then 1 else n + 1

/-- The number advances, and is recorded unless the record fails. -/
theorem advanceInc_writes (s : State) : ∃ sec, advanceInc s =
    norWrite { s with sec := sec, fab := { s.fab with inc := nextInc s.fab.inc } } 5 := by
  unfold advanceInc
  dsimp only
  split <;> exact ⟨_, rfl⟩

theorem advanceInc_eq (s : State) : ∃ sec n l o, advanceInc s = { s with
    sec := sec
    fab := { s.fab with inc := nextInc s.fab.inc }
    mbx := { s.mbx with evtSeq := n, log := l }
    hl := (advanceInc s).hl
    out := o } := by
  obtain ⟨sec, e⟩ := advanceInc_writes s
  obtain ⟨n, l, hl, o, written⟩ := (Quiet.ofNorWrite { s with sec := sec, fab := { s.fab with inc := nextInc s.fab.inc } } 5).announced
  rw [e, written]
  exact ⟨_, _, _, _, rfl⟩

theorem advanceInc_settings (s : State) : hostSettings (advanceInc s) = hostSettings s := by
  obtain ⟨sec, e⟩ := advanceInc_writes s
  have settled := (Quiet.ofNorWrite { s with sec := sec, fab := { s.fab with inc := nextInc s.fab.inc } } 5).settings
  rw [e, settled]
  rfl

theorem advanceInc_intStatus {s : State} (h : s.hl.atc = []) : (advanceInc s).hl.intStatus = s.hl.intStatus := by
  obtain ⟨sec, e⟩ := advanceInc_writes s
  rw [e]
  exact norWrite_intStatus (s := { s with sec := sec, fab := { s.fab with inc := nextInc s.fab.inc } }) h 5

/-- `t` is `s` with flits sent: only links and what has been sent differ. -/
def OnLinks (s t : State) : Prop := ∃ lk o, t = { s with fab := { s.fab with links := lk }, out := o }

namespace OnLinks

theorem refl (s : State) : OnLinks s s := ⟨s.fab.links, s.out, rfl⟩

theorem trans {s t u : State} (h : OnLinks s t) (k : OnLinks t u) : OnLinks s u := by
  obtain ⟨_, _, rfl⟩ := h
  obtain ⟨lk, o, rfl⟩ := k
  exact ⟨lk, o, rfl⟩

variable (s : State)

theorem ofModLink (l : Nat) (f : Link → Link) : OnLinks s (modLink s l f) := ⟨vmod s.fab.links l f, s.out, rfl⟩

theorem ofEmit (o : Out) : OnLinks s (emit s o) := ⟨s.fab.links, s.out ++ [o], rfl⟩

theorem ofSendFlit (l t v q : Nat) (p : Bytes) : OnLinks s (sendFlit s l t v q p).1 := by
  unfold sendFlit
  exact (ofModLink s l _).trans (ofEmit _ _)

theorem ofSendNumbered (l t v : Nat) (p : Bytes) : OnLinks s (sendNumbered s l t v p) := by
  unfold sendNumbered
  exact (ofSendFlit s l t v _ p).trans (ofModLink _ l _)

theorem ofSendCtrl (l : Nat) : OnLinks s (sendCtrl s l) := by
  unfold sendCtrl
  split
  · exact (ofModLink s l _).trans (ofSendNumbered _ l _ _ _)
  · exact ofModLink s l _

theorem ofSendCtrlAll : OnLinks s (sendCtrlAll s) := by
  unfold sendCtrlAll
  generalize List.range 24 = n
  induction n generalizing s with
  | nil => exact refl s
  | cons l n ih =>
    rw [List.foldl_cons]
    split
    · exact (ofSendCtrl s l).trans (ih _)
    · exact ih s

end OnLinks

theorem dueSwitches_tables (s : State) : ∃ tb, dueSwitches s = { s with te := { s.te with tables := tb } } := by
  unfold dueSwitches
  generalize s.te.tables = l
  induction l generalizing s with
  | nil => exact ⟨_, rfl⟩
  | cons t l ih =>
    obtain ⟨_, e⟩ := ih (applySwitch s t.1)
    exact ⟨_, e⟩

/-- A warm reset carried to its end, but for the answer to OP_CHIP_RESET. -/
def warmEnded (s : State) : State := modHlt (sendCtrlAll (dueSwitches (advanceInc (warmClear s)))) fun h => { h with
  warm := none
  warmBegun := false
  warmResets := h.warmResets + 1 }

theorem warmEnded_eq (s : State) : ∃ sec n l tb lk o, warmEnded s = { warmClear s with
    sec := sec
    fab := { s.fab with inc := nextInc s.fab.inc, links := lk }
    mbx := { s.mbx with ring := none, evtSeq := n, log := l }
    hl := (advanceInc (warmClear s)).hl
    te := { s.te with tables := tb }
    out := o
    hlt := { s.hlt with warm := none, warmBegun := false, warmResets := s.hlt.warmResets + 1 } } := by
  obtain ⟨sec, n, l, _, advanced⟩ := advanceInc_eq (warmClear s)
  obtain ⟨tb, switched⟩ := dueSwitches_tables (advanceInc (warmClear s))
  obtain ⟨lk, o, sent⟩ := OnLinks.ofSendCtrlAll (dueSwitches (advanceInc (warmClear s)))
  refine ⟨sec, n, l, tb, lk, o, ?_⟩
  rw [warmEnded, sent, switched, advanced]
  rfl

theorem warmEnded_settings (s : State) : hostSettings (warmEnded s) = hostSettings (warmClear s) := by
  obtain ⟨_, _, _, _, _, _, e⟩ := warmEnded_eq s
  rw [e]
  exact advanceInc_settings (warmClear s)

theorem warmEnded_intStatus (s : State) : (warmEnded s).hl.intStatus = s.hl.intStatus := by
  obtain ⟨_, _, _, _, _, _, e⟩ := warmEnded_eq s
  rw [e]
  exact advanceInc_intStatus (s := warmClear s) rfl

/-- A completion without its interrupt reaches the channels alone. -/
theorem finishWith_chans (s : State) (c : Chan) (st d : Nat) (p : Bytes) :
    ∃ ch, finishWith false s c st d p = { s with mbx := { s.mbx with chans := ch } } := by
  unfold finishWith
  split
  · exact ⟨s.mbx.chans, rfl⟩
  · split
    · exact ⟨s.mbx.chans, rfl⟩
    · exact ⟨_, rfl⟩

theorem chans_eta (s : State) : s = { s with mbx := { s.mbx with chans := s.mbx.chans } } := rfl

theorem chan_warmEnded (s : State) (c : Chan) : chan (warmEnded s) c = chan s c := by
  obtain ⟨_, _, _, _, _, _, e⟩ := warmEnded_eq s
  rw [e]
  rfl

/-- A completed channel answers its command. -/
theorem modChan_answered {s : State} {c : Chan} {k : CmdHeld} (w : Memory.wf (chan s c).resp = true) (st : Nat) (p : Bytes) :
    Answered (modChan s c (completed k st 0 p)) c k st p := by
  have read := memRead_header w (respHeader_length k st 0 p.length) p
  rw [Answered, chan_modChan, completed_resp, read, respHeader_detail]
  exact ⟨rfl, rfl, rfl, rfl, rfl⟩

section WarmReset
variable {s : State} {w : WarmTrigger} (awake : Awake s) (h : s.hlt.warm = some w) (begun : s.hlt.warmBegun = true)
  (serves : mpServes s = true) (ended : fillsEnding s = false)
include awake h begun serves ended

/-- WARM_RESET ends the reset, and answers the command that asked for it. -/
theorem warmReset_ends : exec .warmReset s = .next (match w with
    | .command c => finishWith false (warmEnded s) c stOk 0 (layout 4 [(0, 2, (warmEnded s).fab.inc.toNat)])
    | _ => warmEnded s) := by
  show execWarmReset s = _
  rw [execWarmReset, live_awake awake]
  split
  next none =>
    rw [h] at none
    cases none
  next x some =>
    obtain rfl : w = x := Option.some.inj (h.symm.trans some)
    rw [if_neg (by simp [serves, begun, ended])]
    cases w <;> rfl

theorem warmReset_runs : ∃ ch, Runs .warmReset s fun t => t = { warmEnded s with mbx := { (warmEnded s).mbx with chans := ch } } := by
  have ends := warmReset_ends awake h begun serves ended
  cases w with
  | command c =>
    obtain ⟨ch, e⟩ := finishWith_chans (warmEnded s) c stOk 0 (layout 4 [(0, 2, (warmEnded s).fab.inc.toNat)])
    exact ⟨ch, _, ends, e⟩
  | flr => exact ⟨_, _, ends, chans_eta _⟩
  | perst => exact ⟨_, _, ends, chans_eta _⟩

theorem warmReset_answers {c : Chan} {k : CmdHeld} (own : w = .command c) (cmd : (chan s c).cmd = some k)
    (wf : Memory.wf (chan s c).resp = true) : Runs .warmReset s fun t =>
      Answered t c k 0 (layout 4 [(0, 2, (nextInc s.fab.inc).toNat)]) := by
  have ends := warmReset_ends awake h begun serves ended
  obtain ⟨_, _, _, _, _, _, e⟩ := warmEnded_eq s
  have inc : (warmEnded s).fab.inc = nextInc s.fab.inc := by rw [e]
  have running : (warmEnded s).hlt.mpHung = false := by
    simp only [mpServes, Bool.and_eq_true, Bool.not_eq_true'] at serves
    rw [e]
    exact serves.1
  subst own
  rw [inc] at ends
  refine ⟨_, ends, ?_⟩
  dsimp only
  rw [finishWith_chan (s := warmEnded s) stOk 0 _ (by rw [chan_warmEnded, cmd]) rfl running]
  exact modChan_answered (by rw [chan_warmEnded]; exact wf) stOk _

end WarmReset

theorem warmReset_idle {s : State} (awake : Awake s)
    (h : s.hlt.warm = none ∨ s.hlt.warmBegun = false ∨ mpServes s = false ∨ fillsEnding s = true) : Runs .warmReset s fun t => t = s := by
  refine ⟨s, ?_, rfl⟩
  show execWarmReset s = _
  rw [execWarmReset, live_awake awake]
  split
  · rfl
  next w e =>
    rw [if_pos]
    rcases h with h | h | h | h
    · rw [e] at h
      cases h
    · simp [h]
    · simp [h]
    · simp [h]

theorem warmCoreEnd_at (v : Vector Core 32) (n : Fin 32) : ((v.map warmCoreEnd)[n]).icode = none ∧
    ((v.map warmCoreEnd)[n]).fenced = (v[n]).fenced ∧ ((v.map warmCoreEnd)[n]).spad = (v[n]).spad ∧
    ((v.map warmCoreEnd)[n]).held = false := by
  have here : (v.map warmCoreEnd)[n] = warmCoreEnd v[n] := Vector.getElem_map _ _
  rw [here, warmCoreEnd]
  dsimp only
  split <;> exact ⟨rfl, rfl, rfl, rfl⟩

/-- Settles O43: a trigger resets the host link and what it accepts aborts and frees; the end clears what R360 does not keep. -/
theorem warmResetTaken : Obligations.WarmResetTaken := by
  unfold Obligations.WarmResetTaken
  refine ⟨fun s awake => ⟨fun i w trigger => ?struck, fun down => ?down,
      fun c k h z r idle payload still => opChipReset_begins h z r idle payload still⟩,
    fun s awake => ⟨fun w h begun serves ended => ?ends, fun c k h begun serves ended cmd wf => ?answers, warmReset_idle awake⟩⟩
  case struck =>
    obtain ⟨l, go, perst, flr, taken, t, ran, rfl⟩ := trigger_strikes awake trigger
    obtain ⟨cfg, bar4, reads, link, count, valid⟩ := struck_host (s := s) (l := l) (w := w) go
    refine ⟨⟨_, ran, cfg, bar4, reads, fun p => (congrArg LinkParams.speed link).trans (perst p), fun f => link.trans (flr f), count, valid⟩,
      fun early late => ⟨_, ran, ?_⟩, fun x h => ⟨_, ran, struck_joins h go⟩, fun ready h m => ⟨_, ran, ?_⟩,
      fun ready h m still => ⟨_, ran, ?_⟩⟩
    · have refused : go = false := by
        cases go with
        | false => rfl
        | true =>
          rcases taken.mp rfl with ready | ⟨f, m⟩
          · exact absurd ready early
          · simp [late f] at m
      rw [refused]
      exact struck_refused
    · rw [taken.mpr (.inl ready)]
      exact struck_stands h m
    · rw [taken.mpr (ready.imp_right fun f => ⟨f, m⟩)]
      exact struck_begins h m still
  case down =>
    refine ⟨s, ?_, rfl⟩
    show execFlr s = _
    rw [execFlr, live_awake awake, if_pos down]
  case ends =>
    obtain ⟨ch, t, ran, rfl⟩ := warmReset_runs awake h begun serves ended
    obtain ⟨_, _, _, _, _, _, e⟩ := warmEnded_eq s
    have settings := warmEnded_settings s
    have intStatus := warmEnded_intStatus s
    refine ⟨_, ran, ?_⟩
    rw [e] at settings intStatus ⊢
    exact ⟨rfl, rfl, rfl, rfl, rfl, rfl, congrArg HostSettings.cohMode settings, congrArg HostSettings.winUnits settings,
      congrArg HostSettings.atc settings, rfl, fun i => Vector.getElem_replicate _, rfl, rfl, rfl, rfl, rfl, rfl, rfl, rfl, rfl, rfl,
      congrArg HostSettings.cfg settings, congrArg HostSettings.bar4 settings, intStatus, rfl, rfl, warmCoreEnd_at s.cores⟩
  case answers =>
    obtain ⟨t, ran, answered⟩ := warmReset_answers awake h begun serves ended rfl cmd wf
    have number : (nextInc s.fab.inc).toNat = if s.fab.inc = 0xFFFF then 1 else (s.fab.inc + 1).toNat := apply_ite BitVec.toNat _ _ _
    exact ⟨t, ran, number ▸ answered⟩

end Sys2Proof.Machine

/-! ## 00: what `Inv` speaks of (the statement of O54) -/

namespace Sys2Proof.Machine

/-- What `Inv` speaks of. -/
structure InvView where
  inc : Half
  incRec : Half
  cohMode : BitVec 2
  winUnits : Word
  lcPending : Bool
  lcTarget : BitVec 2
  lifecycle : BitVec 2

/-- An operation that leaves all of it has a rule `invView_<operation>`. -/
def invView (s : State) : InvView :=
  ⟨s.fab.inc, s.sec.incRec, s.hl.cohMode, s.hl.winUnits, s.sec.lcPending, s.sec.lcTarget, s.sec.lifecycle⟩

theorem inv_of_invView {s t : State} (e : invView t = invView s) (h : Inv s) : Inv t := by
  simp only [invView, InvView.mk.injEq] at e
  obtain ⟨inc, incRec, cohMode, winUnits, lcPending, lcTarget, lifecycle⟩ := e
  simpa only [Inv, inc, incRec, cohMode, winUnits, lcPending, lcTarget, lifecycle] using h

/-- An update of none of the three. -/
@[simp] theorem invView_updOther (s : State)
    (tb cal gn mbx xl acc nextAcc tw cores bridled te sch hlt pwr out freeCtr pending) :
    invView ⟨tb, cal, gn, mbx, s.hl, xl, acc, nextAcc, tw, cores, bridled, te, sch, s.fab, hlt, pwr, s.sec, out, freeCtr,
      pending⟩ = invView s := by simp only [invView]

/-- An update that keeps the incarnation number, the coherence mode and its window, and leaves security. -/
@[simp] theorem invView_upd (s : State) {hl : HostLink} {fab : Fabric} (hInc : fab.inc = s.fab.inc)
    (hMode : hl.cohMode = s.hl.cohMode) (hUnits : hl.winUnits = s.hl.winUnits)
    {tb cal gn mbx xl acc nextAcc tw cores bridled te sch hlt pwr out freeCtr pending} :
    invView ⟨tb, cal, gn, mbx, hl, xl, acc, nextAcc, tw, cores, bridled, te, sch, fab, hlt, pwr, s.sec, out, freeCtr,
      pending⟩ = invView s := by
  simp only [invView, hInc, hMode, hUnits]

/-- An update of security that keeps the recorded incarnation number and the life cycle. -/
@[simp] theorem invView_updSec (s : State) {sec : Security} (hRec : sec.incRec = s.sec.incRec)
    (hPending : sec.lcPending = s.sec.lcPending) (hTarget : sec.lcTarget = s.sec.lcTarget)
    (hState : sec.lifecycle = s.sec.lifecycle)
    {tb cal gn mbx xl acc nextAcc tw cores bridled te sch hlt pwr out freeCtr pending} :
    invView ⟨tb, cal, gn, mbx, s.hl, xl, acc, nextAcc, tw, cores, bridled, te, sch, s.fab, hlt, pwr, sec, out, freeCtr,
      pending⟩ = invView s := by
  simp only [invView, hRec, hPending, hTarget, hState]

@[simp] theorem invView_ite (c : Prop) [Decidable c] (s t : State) :
    invView (if c then s else t) = if c then invView s else invView t :=
  apply_ite _ _ _ _

theorem invView_ite_of {c : Prop} [Decidable c] {s t : State} {x : InvView} (hs : invView s = x) (ht : invView t = x) :
    invView (if c then s else t) = x := by
  split <;> assumption

theorem invView_foldl {α : Type} {f : State → α → State} (h : ∀ s x, invView (f s x) = invView s)
    (l : List α) (s : State) :
    invView (l.foldl f s) = invView s := by
  induction l generalizing s with
  | nil => rfl
  | cons x l ih => exact (ih _).trans (h s x)

theorem Quiet.view {s t : State} (h : Quiet s t) : invView t = invView s := by
  obtain ⟨⟨n, l, hl, o, rfl⟩, settings, -⟩ := h
  exact invView_upd s rfl (congrArg HostSettings.cohMode settings) (congrArg HostSettings.winUnits settings)

theorem invView_fst {α : Type} {x : State × α} {a : α} {s t : State} (e : x = (t, a))
    (h : invView x.1 = invView s) : invView t = invView s := by
  subst e; exact h

theorem invView_snd {α : Type} {x : α × State} {a : α} {s t : State} (e : x = (a, t))
    (h : invView x.2 = invView s) : invView t = invView s := by
  subst e; exact h

end Sys2Proof.Machine

/-! ## 00: the operations that leave what `Inv` speaks of (the statement of O54) -/

namespace Sys2Proof.Machine


/-! ### Ops.lean -/

@[simp] theorem invView_takeFree (s : State) : invView (takeFree s).2 = invView s := by simp [takeFree]

@[simp] theorem invView_takeFreeBytes (s : State) (n) : invView (takeFreeBytes s n).2 = invView s := by
  simp [takeFreeBytes]

@[simp] theorem invView_emit (s : State) (o) : invView (emit s o) = invView s := by simp [emit]

@[simp] theorem invView_atsAsk (s : State) (why pasid addr write) :
    invView (atsAsk s why pasid addr write) = invView s := by simp [atsAsk]

@[simp] theorem invView_msixNow (s : State) (v) : invView (msixNow s v) = invView s := (Quiet.ofMsixNow _ _).view

@[simp] theorem invView_setInt (s : State) (b) : invView (setInt s b) = invView s := (Quiet.ofSetInt _ _).view

@[simp] theorem invView_postDenied (s : State) (addr ctx) : invView (postDenied s addr ctx) = invView s :=
  (Quiet.ofPostDenied _ _ _).view

@[simp] theorem invView_eventDenied (s : State) (addr) : invView (eventDenied s addr) = invView s :=
  (Quiet.ofEventDenied _ _).view

@[simp] theorem invView_drainPosts (n) (s : State) : invView (drainPosts n s) = invView s :=
  (Quiet.ofDrainPosts _ _).view

@[simp] theorem invView_postsGo (s : State) : invView (postsGo s) = invView s := by simp [postsGo]

@[simp] theorem invView_post (s : State) (q) : invView (post s q) = invView s := (Quiet.ofPost _ _).view

@[simp] theorem invView_msix (s : State) (v) : invView (msix s v) = invView s := (Quiet.ofMsix _ _).view

@[simp] theorem invView_postPages (n : Nat) (s : State) (a d ro ctx) : invView (postPages n s a d ro ctx) = invView s := by
  induction n generalizing s a d with
  | zero => rfl
  | succ n ih => simp [postPages, ih]

@[simp] theorem invView_hostWrite (s : State) (addr data ro ctx) : invView (hostWrite s addr data ro ctx) = invView s := by
  simp [hostWrite]

@[simp] theorem invView_sendRead (s : State) (tag) : invView (sendRead s tag) = invView s := by
  simp only [sendRead]
  repeat' split
  all_goals simp

@[simp] theorem invView_recordRead (s : State) (why addr len pasid sent) :
    invView (recordRead s why addr len pasid sent).2 = invView s := by simp [recordRead]

@[simp] theorem invView_hostRead (s : State) (why addr len ctx) : invView (hostRead s why addr len ctx).2 = invView s := by
  simp only [hostRead]
  repeat' split
  all_goals simp

@[simp] theorem invView_invalDrain (s : State) (tag) : invView (invalDrain s tag) = invView s := by
  simp [invalDrain, invView_foldl]

@[simp] theorem invView_event (s : State) (typ sev data) : invView (event s typ sev data) = invView s :=
  (Quiet.ofEvent _ _ _ _).view

@[simp] theorem invView_fwError (s : State) (subtype sev rest) : invView (fwError s subtype sev rest) = invView s :=
  (Quiet.ofFwError _ _ _ _).view

@[simp] theorem invView_norWrite (s : State) (record) : invView (norWrite s record) = invView s :=
  (Quiet.ofNorWrite _ _).view

@[simp] theorem invView_modCore (s : State) (n f) : invView (modCore s n f) = invView s := by simp [modCore]

/-! ### FlitOps.lean -/

@[simp] theorem modLink_fab_inc (s : State) (l f) : (modLink s l f).fab.inc = s.fab.inc := rfl

@[simp] theorem invView_modLink (s : State) (l f) : invView (modLink s l f) = invView s := by simp [modLink]

@[simp] theorem invView_sendFlit (s : State) (l ftype vc seq payload) :
    invView (sendFlit s l ftype vc seq payload).1 = invView s := by simp [sendFlit]

@[simp] theorem invView_sendNumbered (s : State) (l ftype vc payload) :
    invView (sendNumbered s l ftype vc payload) = invView s := by simp [sendNumbered]

@[simp] theorem invView_sendCtrl (s : State) (l) : invView (sendCtrl s l) = invView s := by simp [sendCtrl]

@[simp] theorem invView_sendCtrlAll (s : State) : invView (sendCtrlAll s) = invView s := by simp [sendCtrlAll, invView_foldl]

@[simp] theorem invView_sendIdle (s : State) (l) : invView (sendIdle s l) = invView s := by simp [sendIdle]

/-! ### FabricOps.lean -/

@[simp] theorem invView_toRouter (s : State) (q) : invView (toRouter s q) = invView s := by simp [toRouter]

@[simp] theorem invView_sendRequest (s : State) (op flags tclass chip inc gaddr issuer parts why) :
    invView (sendRequest s op flags tclass chip inc gaddr issuer parts why).2 = invView s := by
  simp only [sendRequest]
  repeat' split
  all_goals simp [invView_foldl]

@[simp] theorem invView_freeTrack (s : State) (i) : invView (freeTrack s i) = invView s := by
  unfold freeTrack
  split <;> simp

@[simp] theorem invView_respond (s : State) (q op status poison payload) :
    invView (respond s q op status poison payload) = invView s := by simp [respond, invView_foldl]

@[simp] theorem invView_refuse (s : State) (q status) : invView (refuse s q status) = invView s := by simp [refuse]

/-! ### Sync.lean -/

@[simp] theorem invView_modQueue (s : State) (q f) : invView (modQueue s q f) = invView s := by simp [modQueue]

@[simp] theorem invView_settleAll (s : State) (o v) : invView (settleAll s o v) = invView s := by simp [settleAll]

@[simp] theorem invView_fabricQueues (s : State) (o v) : invView (fabricQueues s o v) = invView s := by simp [fabricQueues]

@[simp] theorem invView_syncApply (s : State) (o f) : invView (syncApply s o f) = invView s := by
  unfold syncApply
  split <;> simp

@[simp] theorem invView_syncAdd (s : State) (o v) : invView (syncAdd s o v) = invView s := by simp [syncAdd]

@[simp] theorem invView_syncSet (s : State) (o v) : invView (syncSet s o v) = invView s := by simp [syncSet]

/-! ### Tower.lean -/

@[simp] theorem invView_poisonEvent (s : State) (source dpa) : invView (poisonEvent s source dpa) = invView s := by
  simp [poisonEvent]

@[simp] theorem invView_setPoison (s : State) (cell v) : invView (setPoison s cell v) = invView s := by simp [setPoison]

@[simp] theorem invView_storeCells (s : State) (cell data) : invView (storeCells s cell data) = invView s := by
  simp [storeCells]

@[simp] theorem invView_loseLine (s : State) (cell) : invView (loseLine s cell) = invView s := by simp [loseLine]

@[simp] theorem invView_lineCheck (s : State) (dpa cell err source) :
    invView (lineCheck s dpa cell err source) = invView s := by
  unfold lineCheck
  split <;> simp

@[simp] theorem invView_towerRead (s : State) (dpa n err source) :
    invView (towerRead s dpa n err source).1 = invView s := by
  unfold towerRead
  split <;> simp

@[simp] theorem invView_towerWrite (s : State) (dpa data mark err) :
    invView (towerWrite s dpa data mark err).1 = invView s := by
  simp only [towerWrite]
  repeat' split
  all_goals simp

@[simp] theorem invView_towerAdd (s : State) (dpa fmt delta err) :
    invView (towerAdd s dpa fmt delta err).1 = invView s := by
  simp only [towerAdd]
  repeat' split
  all_goals simp

@[simp] theorem invView_snoop (s : State) (dpa) : invView (snoop s dpa) = invView s := by simp [snoop]

@[simp] theorem invView_hostTakes (s : State) (dpa) : invView (hostTakes s dpa) = invView s := by simp [hostTakes]

@[simp] theorem invView_deepPoisonEvent (s : State) (source q dpa) :
    invView (deepPoisonEvent s source q dpa) = invView s := by simp [deepPoisonEvent]

/-! ### Access.lean -/

@[simp] theorem invView_l2Put (s : State) (k e) : invView (l2Put s k e) = invView s := by simp [l2Put]

@[simp] theorem invView_tlbUse (s : State) (st k e) : invView (tlbUse s st k e) = invView s := by simp [tlbUse]

@[simp] theorem invView_tlbDrop (s : State) (f) : invView (tlbDrop s f) = invView s := by simp [tlbDrop]

@[simp] theorem invView_accMod (s : State) (id f) : invView (accMod s id f) = invView s := by simp [accMod]

@[simp] theorem invView_accStage (s : State) (id g) : invView (accStage s id g) = invView s := by simp [accStage]

@[simp] theorem invView_accEnd (s : State) (id g) : invView (accEnd s id g) = invView s := by simp [accEnd]

@[simp] theorem invView_accFail (s : State) (id why) : invView (accFail s id why) = invView s := by
  simp only [accFail]
  repeat' split
  all_goals simp

@[simp] theorem invView_rcFill (s : State) (k dpa data) : invView (rcFill s k dpa data) = invView s := by simp [rcFill]

@[simp] theorem invView_rcTouch (s : State) (k x) : invView (rcTouch s k x) = invView s := by simp [rcTouch]

@[simp] theorem invView_rcDropIf (s : State) (f) : invView (rcDropIf s f) = invView s := by simp [rcDropIf]

@[simp] theorem invView_rcDropErr (s : State) (k x) : invView (rcDropErr s k x) = invView s := by simp [rcDropErr]

@[simp] theorem invView_poisonRead (s : State) (id a) : invView (poisonRead s id a) = invView s := by simp [poisonRead]

@[simp] theorem invView_deepLost (s : State) (id q dpa a) : invView (deepLost s id q dpa a) = invView s := by
  simp [deepLost]

@[simp] theorem invView_pumpDeep (n : Nat) (s : State) (q) : invView (pumpDeep n s q) = invView s := by
  induction n generalizing s with
  | zero => rfl
  | succ n ih =>
    unfold pumpDeep
    split <;> simp [ih]

@[simp] theorem invView_pumpPort (s : State) (q) : invView (pumpPort s q) = invView s := by simp [pumpPort]

@[simp] theorem invView_pumpPorts (s : State) : invView (pumpPorts s) = invView s := by simp [pumpPorts, invView_foldl]

@[simp] theorem invView_deepIssue (s : State) (id d a) : invView (deepIssue s id d a) = invView s := by
  simp only [deepIssue]
  repeat' split
  all_goals simp

@[simp] theorem invView_hostOut (s : State) (id addr a) : invView (hostOut s id addr a) = invView s := by simp [hostOut]

@[simp] theorem invView_hostPut (s : State) (id addr a) : invView (hostPut s id addr a) = invView s := by
  unfold hostPut
  split <;> simp

@[simp] theorem invView_hostGet (s : State) (id addr a) : invView (hostGet s id addr a) = invView s := by
  unfold hostGet
  split
  · simp
  · split
    · next e => rw [invView_accFail]; exact invView_snd e (by simp)
    · next e => rw [invView_accStage]; exact invView_snd e (by simp)

@[simp] theorem invView_hostReadEnd (s : State) (id addr data) : invView (hostReadEnd s id addr data) = invView s := by
  unfold hostReadEnd
  split <;> simp

@[simp] theorem invView_hostGo (s : State) (id ok) : invView (hostGo s id ok) = invView s := by simp [hostGo]

@[simp] theorem invView_remotePut (s : State) (id chip inc g a) : invView (remotePut s id chip inc g a) = invView s := by
  unfold remotePut
  dsimp only
  split
  · next e => rw [invView_accFail]; exact invView_snd e (by simp)
  · next e => rw [invView_accStage]; exact invView_snd e (by simp)
  · next e => rw [invView_accStage]; exact invView_snd e (by simp)

@[simp] theorem invView_issueAt (s : State) (id a e) : invView (issueAt s id a e) = invView s := by
  unfold issueAt
  split <;> simp

@[simp] theorem invView_issue (s : State) (id) : invView (issue s id) = invView s := by
  simp only [issue]
  repeat' split
  all_goals simp

@[simp] theorem invView_addAccess (s : State) (a) : invView (addAccess s a).2 = invView s := by simp [addAccess]

@[simp] theorem invView_startAccess (s : State) (a) : invView (startAccess s a) = invView s := by
  simp [startAccess, invView_foldl]

@[simp] theorem invView_startPhys (s : State) (a deep pa) : invView (startPhys s a deep pa) = invView s := by
  simp [startPhys]

@[simp] theorem invView_accDrop (s : State) (f) : invView (accDrop s f) = invView s := by simp [accDrop]

@[simp] theorem invView_accDiscard (s : State) (f) : invView (accDiscard s f) = invView s := by
  refine (invView_upd _ rfl rfl rfl).trans (invView_foldl (fun _ _ => ?_) _ _)
  split <;> simp

@[simp] theorem invView_accConfirm (s : State) (f) : invView (accConfirm s f) = invView s := by
  simp [accConfirm, invView_foldl]

@[simp] theorem invView_pumpStalled (s : State) : invView (pumpStalled s) = invView s := by
  refine invView_foldl (fun _ _ => ?_) _ _
  split <;> simp

@[simp] theorem invView_notifyErr (s : State) (q) : invView (notifyErr s q) = invView s := by simp [notifyErr]

@[simp] theorem invView_notifyOnce (s : State) (q x) : invView (notifyOnce s q x).1 = invView s := by
  unfold notifyOnce
  dsimp only
  split
  · next e => exact invView_snd e (by simp)
  · next e => simpa using invView_snd e (by simp)
  · next e => simpa using invView_snd e (by simp)

@[simp] theorem invView_pumpNotes (s : State) : invView (pumpNotes s) = invView s := by
  refine invView_foldl (fun _ _ => invView_foldl (fun _ _ => ?_) _ _) _ _
  split
  · simp
  · rfl

@[simp] theorem invView_accRemoteEnd (s : State) (id r) : invView (accRemoteEnd s id r) = invView s := by
  unfold accRemoteEnd
  split <;> simp

@[simp] theorem invView_rowCacheServe (s : State) (id d a err) : invView (rowCacheServe s id d a err) = invView s := by
  unfold rowCacheServe
  split <;> simp

@[simp] theorem invView_towerServe (s : State) (id dpa a err) : invView (towerServe s id dpa a err) = invView s := by
  unfold towerServe
  split <;> simp

@[simp] theorem invView_deepWritten (s : State) (id d) : invView (deepWritten s id d) = invView s := by simp [deepWritten]

@[simp] theorem invView_deepServe (s : State) (q id d a r) : invView (deepServe s q id d a r) = invView s := by
  unfold deepServe
  split <;> simp

@[simp] theorem invView_portLose (s : State) (q) : invView (portLose s q) = invView s := by
  rw [portLose, invView_pumpPort]
  refine invView_foldl (fun _ _ => ?_) _ _
  split <;> simp

@[simp] theorem invView_deepLinkEvent (s : State) (up) : invView (deepLinkEvent s up) = invView s := by
  simp [deepLinkEvent]

/-! ### Mailbox.lean -/

@[simp] theorem invView_modChan (s : State) (c f) : invView (modChan s c f) = invView s := by simp [modChan]

@[simp] theorem invView_finishWith (irq) (s : State) (c status detail payload) :
    invView (finishWith irq s c status detail payload) = invView s := by
  unfold finishWith
  split <;> simp

@[simp] theorem invView_finishCmd (s : State) (c status detail payload) :
    invView (finishCmd s c status detail payload) = invView s := by simp [finishCmd]

@[simp] theorem invView_setBegun (s : State) (c) : invView (setBegun s c) = invView s := by simp [setBegun]

@[simp] theorem invView_setProgress (s : State) (c n) : invView (setProgress s c n) = invView s := by simp [setProgress]

@[simp] theorem invView_runOp (s : State) (c op) {chk refused} {eff : CmdHeld → State → Done}
    (h : ∀ k, invView (eff k s).state = invView s) :
    invView (runOp s c op chk refused eff) = invView s := by
  unfold runOp
  split
  · rfl
  · next k _ =>
    split
    · rfl
    · split
      · simp
      · have kept := h k
        split <;> (next e => rw [e] at kept; simpa using kept)

@[simp] theorem invView_plainOp (s : State) (c op) {chk} {resp} {eff} (h : ∀ k, invView (eff k s) = invView s) :
    invView (plainOp s c op chk resp eff) = invView s := by
  simp only [plainOp]
  repeat' split
  all_goals simp [h]

/-! ### Slots.lean -/

@[simp] theorem invView_modSlot (s : State) (i f) : invView (modSlot s i f) = invView s := by simp [modSlot]

@[simp] theorem invView_decideEnd (s : State) (i status detail app) :
    invView (decideEnd s i status detail app) = invView s := by simp [decideEnd]

@[simp] theorem invView_endRequest (s : State) (i status detail app) :
    invView (endRequest s i status detail app) = invView s := by simp [endRequest]

/-! ### Cores.lean -/

@[simp] theorem invView_modBank (s : State) (n b f) : invView (modBank s n b f) = invView s := by simp [modBank]

@[simp] theorem invView_spadPut (s : State) (n spa v) : invView (spadPut s n spa v) = invView s := by
  unfold spadPut
  split <;> simp

@[simp] theorem invView_spadWrite (s : State) (n a) (l : Bytes) : invView (spadWrite s n a l) = invView s := by
  induction l generalizing s a with
  | nil => rfl
  | cons b l ih => simp [spadWrite, ih]

@[simp] theorem invView_modThread (s : State) (n t f) : invView (modThread s n t f) = invView s := by simp [modThread]

@[simp] theorem invView_modOp (s : State) (n id f) : invView (modOp s n id f) = invView s := by simp [modOp]

@[simp] theorem invView_setHeld (s : State) (q held) : invView (setHeld s q held) = invView s := by simp [setHeld]

@[simp] theorem invView_bridleTo (k on) (s : State) :
    invView (bridleTo k on s).state = invView s := by simp [bridleTo]

@[simp] theorem invView_bridleEff (k on) (s : State) :
    invView (bridleEff k on s).state = invView s := by simp [bridleEff]

/-! ### Seq.lean -/

@[simp] theorem invView_account (s : State) (n t) : invView (account s n t) = invView s := by simp [account]

@[simp] theorem invView_squashOps (s : State) (n q) : invView (squashOps s n q) = invView s := by simp [squashOps]

@[simp] theorem invView_raiseFault (s : State) (n t num kind detail pc addr) :
    invView (raiseFault s n t num kind detail pc addr) = invView s := by
  unfold raiseFault
  split <;> simp

@[simp] theorem invView_seqFault (s : State) (n t kind detail pc addr) :
    invView (seqFault s n t kind detail pc addr) = invView s := by simp [seqFault]

@[simp] theorem invView_retire (s : State) (n t r old pc) : invView (retire s n t r old pc) = invView s := by simp [retire]

@[simp] theorem invView_branchTo (s : State) (n t r old actual other) :
    invView (branchTo s n t r old actual other) = invView s := by simp [branchTo]

@[simp] theorem invView_seqDo (s : State) (n t key) {f : Nat → Regs → State → SeqRes}
    (h : ∀ w r, invView ((f w r s).state s) = invView s) :
    invView (seqDo s n t key f) = invView s := by
  unfold seqDo
  split
  · rfl
  · dsimp only
    split
    · simp
    · split
      · simp
      · split
        · rfl
        · have k := h (instrAt s n (landDue (threadOf s n t).regs).pc) (landDue (threadOf s n t).regs)
          split
          case h_2 => simp
          all_goals next e => rw [e] at k; simpa using k

@[simp] theorem invView_seqAlu (s : State) (n t key f) : invView (seqAlu s n t key f) = invView s :=
  invView_seqDo s n t key fun _ _ => rfl

@[simp] theorem invView_seqHeld (s : State) (n t key) {f : Nat → Regs → State → SeqRes}
    (h : ∀ w r, invView ((f w r s).state s) = invView s) :
    invView (seqHeld s n t key f) = invView s := invView_seqDo s n t key fun w r => by simp [h w r]

@[simp] theorem invView_seqLoad (s : State) (n t key len) : invView (seqLoad s n t key len) = invView s := by
  refine invView_seqDo s n t key fun w r => ?_
  dsimp only
  split
  · next e => rw [scalarBad_state e]
  · rfl

@[simp] theorem invView_seqStore (s : State) (n t key len) : invView (seqStore s n t key len) = invView s := by
  refine invView_seqDo s n t key fun w r => ?_
  dsimp only
  split
  · next e => rw [scalarBad_state e]
  · split <;> simp

@[simp] theorem invView_withObj (s : State) (n v) {f : Nat → SeqRes} (h : ∀ o, invView ((f o).state s) = invView s) :
    invView ((withObj s n v f).state s) = invView s := by
  unfold withObj
  split
  · exact h _
  · next e => rw [syncObj_state e]

@[simp] theorem invView_arm (s : State) (n t obj v d) {f : State → SeqRes}
    (h : ∀ u, invView u = invView s → invView ((f u).state s) = invView s) :
    invView ((arm s n t obj v d f).state s) = invView s := by
  refine invView_withObj s n obj fun o => ?_
  split
  · rfl
  · split
    · rfl
    · exact h _ (by simp)

@[simp] theorem invView_wblkOn (s u : State) (n t w r b) : invView ((wblkOn u n t w r b).state s) = invView u := by
  simp only [wblkOn]
  repeat' split
  all_goals simp

@[simp] theorem invView_writeOwner (s : State) (n t c b code r) :
    invView ((writeOwner s n t c b code r).state s) = invView s := by simp [writeOwner]

@[simp] theorem invView_crWrite (s : State) (n t w r) : invView ((crWrite s n t w r).state s) = invView s := by
  unfold crWrite
  split <;> simp

@[simp] theorem invView_copIssue (s : State) (n t w r) : invView ((copIssue s n t w r).state s) = invView s := by
  simp only [copIssue]
  repeat' split
  all_goals simp

@[simp] theorem invView_dropOp (s : State) (n id) : invView (dropOp s n id) = invView s := by simp [dropOp]

@[simp] theorem invView_opFault (s : State) (n o kind detail addr) :
    invView (opFault s n o kind detail addr) = invView s := by simp [opFault]

@[simp] theorem invView_backTo (s : State) (n t r) : invView (backTo s n t r) = invView s := by simp [backTo]

@[simp] theorem invView_commitStores (s : State) (n t k) (l : List HeldStore) :
    invView (commitStores s n t k l) = invView s := by
  induction l generalizing s with
  | nil => rfl
  | cons x l ih =>
    unfold commitStores
    split
    · rfl
    · dsimp only
      split <;> simp [ih]

@[simp] theorem invView_settleThread (s : State) (n t) : invView (settleThread s n t) = invView s := by
  simp only [settleThread]
  repeat' split
  all_goals simp

@[simp] theorem invView_confirmOne (s : State) (n t) : invView (confirmOne s n t) = invView s := by simp [confirmOne]

@[simp] theorem invView_squashOne (s : State) (n t b) : invView (squashOne s n t b) = invView s := by simp [squashOne]

/-! ### CopOps.lean -/

@[simp] theorem invView_putAll (s : State) (n l) : invView (putAll s n l) = invView s := by simp [putAll, invView_foldl]

@[simp] theorem invView_opOut (s : State) (n o ws status detail) : invView (opOut s n o ws status detail) = invView s := by
  simp [opOut]

@[simp] theorem invView_opRun (s : State) (n id kind) {reads} {writes} {f : CopOp → State → State}
    (h : ∀ o, invView (f o s) = invView s) :
    invView (opRun s n id kind reads writes f) = invView s := by
  simp only [opRun]
  repeat' split
  all_goals simp [h]

/-! ### Dma.lean -/

@[simp] theorem invView_dmaRow (s : State) (n o r) : invView (dmaRow s n o r) = invView s := by simp [dmaRow]

@[simp] theorem invView_dmaDeliver (s : State) (n l) : invView (dmaDeliver s n l) = invView s := by
  simp [dmaDeliver, invView_foldl]

@[simp] theorem invView_noteHost (s : State) (n l) : invView (noteHost s n l) = invView s := by
  unfold noteHost
  split <;> simp

@[simp] theorem invView_completeOp (s : State) (n o status detail) :
    invView (completeOp s n o status detail) = invView s := by
  unfold completeOp
  split <;> simp

@[simp] theorem invView_dmaFaults (s : State) (n o l k d a) : invView (dmaFaults s n o l k d a) = invView s := by
  simp [dmaFaults]

@[simp] theorem invView_dmaComplete (s : State) (n o) : invView (dmaComplete s n o) = invView s := by
  simp only [dmaComplete]
  repeat' split
  all_goals simp

@[simp] theorem invView_flushStaging (s : State) (n o) : invView (flushStaging s n o).2 = invView s := by
  unfold flushStaging
  split <;> simp

/-! ### Vector.lean -/

@[simp] theorem invView_skipFree (s : State) (n) : invView (skipFree s n) = invView s := by simp [skipFree]

@[simp] theorem invView_vecStore (s : State) (n o cs) : invView (vecStore s n o cs) = invView s := by simp [vecStore]

@[simp] theorem invView_vec1 (s : State) (n id kind f) : invView (vec1 s n id kind f) = invView s := by simp [vec1]

@[simp] theorem invView_vec2 (s : State) (n id kind f) : invView (vec2 s n id kind f) = invView s := by simp [vec2]

@[simp] theorem invView_vecRed (s : State) (n id kind f z) : invView (vecRed s n id kind f z) = invView s := by
  simp [vecRed]

@[simp] theorem invView_vecStoreInt (s : State) (n o l) : invView (vecStoreInt s n o l) = invView s := by
  simp [vecStoreInt]

/-! ### Tables.lean -/

@[simp] theorem invView_modTable (s : State) (i f) : invView (modTable s i f) = invView s := by simp [modTable]

@[simp] theorem invView_modEngine (s : State) (e f) : invView (modEngine s e f) = invView s := by simp [modEngine]

@[simp] theorem invView_applySwitch (s : State) (i) : invView (applySwitch s i) = invView s := by simp [applySwitch]

@[simp] theorem invView_ownerSwitches (s : State) (t) : invView (ownerSwitches s t) = invView s := by
  simp [ownerSwitches, invView_foldl]

@[simp] theorem invView_modLookup (s : State) (e id f) : invView (modLookup s e id f) = invView s := by simp [modLookup]

@[simp] theorem invView_pumpRows (n : Nat) (s : State) (e) : invView (pumpRows n s e) = invView s := by
  induction n generalizing s with
  | zero => rfl
  | succ n ih =>
    rw [pumpRows]
    split
    · rfl
    · dsimp only
      split <;> simp [ih]

@[simp] theorem invView_pumpEngine (s : State) (e) : invView (pumpEngine s e) = invView s := by simp [pumpEngine]

@[simp] theorem invView_modPart (s : State) (e id i f) : invView (modPart s e id i f) = invView s := by simp [modPart]

@[simp] theorem invView_sendPart (s : State) (e l i x) : invView (sendPart s e l i x) = invView s := by
  unfold sendPart
  split
  · rfl
  · split
    · rfl
    · split
      · next e => exact invView_snd e (by simp)
      · next e => simpa using invView_snd e (by simp)
      · next e => simpa using invView_snd e (by simp)

@[simp] theorem invView_pumpParts (s : State) : invView (pumpParts s) = invView s :=
  invView_foldl (fun _ _ => invView_foldl (fun _ _ => invView_foldl (fun _ _ => by simp) _ _) _ _) _ _

@[simp] theorem invView_countLookup (s : State) (l) : invView (countLookup s l) = invView s := by simp [countLookup]

@[simp] theorem invView_acceptLookup (s : State) (e l) : invView (acceptLookup s e l) = invView s := by
  have owners (u : State) (o : Option TableD) : invView (o.elim u (ownerSwitches u)) = invView u := by
    cases o <;> simp
  simp [acceptLookup, owners]

@[simp] theorem invView_dropLookup (s : State) (e id) : invView (dropLookup s e id) = invView s := by
  simp [dropLookup, invView_foldl]

@[simp] theorem invView_rowFailed (s : State) (e l w dva) : invView (rowFailed s e l w dva) = invView s := by
  simp only [rowFailed]
  repeat' split
  all_goals simp

@[simp] theorem invView_pumpAll (s : State) (e) : invView (pumpAll s e) = invView s := by simp [pumpAll]

/-! ### Pooling.lean -/

@[simp] theorem invView_writeOuts (e n) (l : List (Nat × Bytes)) (s : State) (ok) :
    invView (writeOuts e n l s ok).1 = invView s := by
  induction l generalizing s ok with
  | nil => rfl
  | cons x l ih =>
    unfold writeOuts
    split
    · exact ih _ _
    · split
      · rw [ih, invView_spadWrite]
      · exact ih _ _

@[simp] theorem invView_freeOuts (s : State) (e n l size) : invView (freeOuts s e n l size) = invView s := by
  simp [freeOuts, invView_foldl]

@[simp] theorem invView_returnBanks (s : State) (e l) : invView (returnBanks s e l) = invView s := by
  simp [returnBanks, invView_foldl]

@[simp] theorem invView_removeLookup (s : State) (e id) : invView (removeLookup s e id) = invView s := by
  simp [removeLookup]

@[simp] theorem invView_endLookup (s : State) (e n id l status) : invView (endLookup s e n id l status) = invView s := by
  unfold endLookup
  dsimp only
  split <;> simp

@[simp] theorem invView_completeLocal (s : State) (e n id l) : invView (completeLocal s e n id l) = invView s := by
  unfold completeLocal
  split
  · simp
  · split
    · dsimp only
      split
      · next e => rw [invView_endLookup]; exact invView_fst e (by simp)
      · next e => rw [invView_endLookup, invView_freeOuts]; exact invView_fst e (by simp)
    · simp

@[simp] theorem invView_dropServing (s : State) (i) : invView (dropServing s i) = invView s := by simp [dropServing]

@[simp] theorem invView_completePeer (s : State) (e i l) : invView (completePeer s e i l) = invView s := by
  unfold completePeer
  dsimp only
  split <;> simp

@[simp] theorem invView_partEnd (s : State) (e lk tag r) : invView (partEnd s e lk tag r) = invView s := by
  simp only [partEnd]
  repeat' split
  all_goals simp

/-! ### Update.lean -/

@[simp] theorem invView_modStream (s : State) (held f) : invView (modStream s held f) = invView s := by simp [modStream]

@[simp] theorem invView_countUpd (s : State) (tbl st dropped) : invView (countUpd s tbl st dropped) = invView s := by
  simp [countUpd]

@[simp] theorem invView_ringFailed (s : State) (r) : invView (ringFailed s r) = invView s := by
  unfold ringFailed
  split <;> simp

@[simp] theorem invView_recSettled (s : State) (r status dup) : invView (recSettled s r status dup) = invView s := by
  simp only [recSettled]
  repeat' split
  all_goals simp

@[simp] theorem invView_arrive (s : State) (e r) : invView (arrive s e r) = invView s := by simp [arrive]

@[simp] theorem invView_sendRec (s : State) (e entry r o) : invView (sendRec s e entry r o).1 = invView s := by
  unfold sendRec
  dsimp only
  split
  · next e => exact invView_snd e (by simp)
  · next e => simpa using invView_snd e (by simp)
  · next e => simpa using invView_snd e (by simp)

@[simp] theorem invView_routeRec (s : State) (e ctx r) : invView (routeRec s e ctx r).1 = invView s := by
  simp only [routeRec]
  repeat' split
  all_goals simp

@[simp] theorem invView_routeAll (n o) (l : List (Nat × Nat × Nat)) (s : State) :
    invView (routeAll n o l s) = invView s := by
  induction l generalizing s with
  | nil => rfl
  | cons x l ih =>
    unfold routeAll
    dsimp only
    split
    · simp
    · split
      · next e => rw [ih, invView_modOp]; exact invView_fst e (by simp)
      · next e => exact invView_fst e (by simp)

@[simp] theorem invView_applyRec (s : State) (e r held t row) : invView (applyRec s e r held t row) = invView s := by
  simp [applyRec]

@[simp] theorem invView_recFails (s : State) (r w a) : invView (recFails s r w a) = invView s := by
  simp only [recFails]
  repeat' split
  all_goals simp

@[simp] theorem invView_settleUpdates (s : State) (e) : invView (settleUpdates s e) = invView s := by
  refine invView_foldl (fun _ _ => ?_) _ _
  dsimp only
  split
  · rfl
  · split <;> simp

@[simp] theorem invView_settleAllUpdates (s : State) : invView (settleAllUpdates s) = invView s := by
  simp [settleAllUpdates, invView_foldl]

@[simp] theorem invView_arrival (s : State) (e r) : invView (arrival s e r) = invView s := by
  unfold arrival
  dsimp only
  split <;> simp

@[simp] theorem invView_recRemoteEnd (s : State) (e id r) : invView (recRemoteEnd s e id r) = invView s := by
  unfold recRemoteEnd
  split <;> simp

@[simp] theorem invView_updateComplete (s : State) (n o) : invView (updateComplete s n o) = invView s := by
  unfold updateComplete
  dsimp only
  split <;> simp

@[simp] theorem invView_ringRecord (s : State) (held x b) : invView (ringRecord s held x b) = invView s := by
  unfold ringRecord
  dsimp only
  split <;> simp

/-! ### Handover.lean -/

@[simp] theorem invView_bankServes (s : State) (c) : invView (bankServes s c) = invView s := by
  simp [bankServes, invView_foldl]

/-! ### Queues.lean -/

@[simp] theorem invView_notify (s : State) (q) : invView (notify s q) = invView s := by simp [notify]

@[simp] theorem invView_fabricRecord (s : State) (q x dva b errs) :
    invView (fabricRecord s q x dva b errs) = invView s := by
  unfold fabricRecord
  split
  · simp
  · dsimp only
    split
    · split
      · next e => rw [invView_notify]; exact invView_fst e (by simp)
      · next e => exact invView_fst e (by simp)
    · simp

@[simp] theorem invView_postRecord (s : State) (q token user e dup cached errs) :
    invView (postRecord s q token user e dup cached errs) = invView s := by
  unfold postRecord
  split <;> simp

@[simp] theorem invView_cachePut (s : State) (e) : invView (cachePut s e) = invView s := by
  simp only [cachePut]
  repeat' split
  all_goals simp

@[simp] theorem invView_admitSlot (s : State) (i q x b d) : invView (admitSlot s i q x b d) = invView s := by
  simp only [admitSlot]
  repeat' split
  all_goals simp [invView_foldl]

@[simp] theorem invView_admission (s : State) (q x b errs) : invView (admission s q x b errs) = invView s := by
  simp only [admission]
  repeat' split
  all_goals simp

@[simp] theorem invView_atcForget (s : State) : invView (atcForget s) = invView s := by simp [atcForget]

@[simp] theorem invView_hostDesc (s : State) (x data) : invView (hostDesc s x data).2 = invView s := by
  simp only [hostDesc]
  repeat' split
  all_goals simp

@[simp] theorem invView_fabricDesc (s : State) (x data errs) : invView (fabricDesc s x data errs).2 = invView s := by
  simp only [fabricDesc]
  repeat' split
  all_goals simp

@[simp] theorem invView_postSlot (s : State) (i errs) : invView (postSlot s i errs) = invView s := by
  simp only [postSlot]
  repeat' split
  all_goals simp [invView_foldl]

@[simp] theorem invView_flushRead (s : State) (i a ctx) : invView (flushRead s i a ctx) = invView s := by
  unfold flushRead
  split
  · next e => rw [invView_modSlot]; exact invView_snd e (by simp)
  · next e => rw [invView_setInt, invView_modSlot]; exact invView_snd e (by simp)

@[simp] theorem invView_flushEnd (s : State) (i ok) : invView (flushEnd s i ok) = invView s := by simp [flushEnd]

/-! ### Reef.lean -/

@[simp] theorem invView_thermalEvent (s : State) (source k t cleared) :
    invView (thermalEvent s source k t cleared) = invView s := by simp [thermalEvent]

@[simp] theorem invView_modOct (s : State) (k f) : invView (modOct s k f) = invView s := by simp [modOct]

@[simp] theorem invView_noteReef (s : State) : invView (noteReef s) = invView s := by simp [noteReef, invView_foldl]

/-! ### Memory.lean -/

@[simp] theorem invView_scrubEnd (s : State) (k) : invView (scrubEnd s k) = invView s := by simp [scrubEnd]

@[simp] theorem invView_rcRefetch (s : State) (k x) : invView (rcRefetch s k x) = invView s := by simp [rcRefetch]

@[simp] theorem invView_scrubLine (s : State) (k i err) : invView (scrubLine s k i err) = invView s := by
  -- The address stays a name: the kernel would evaluate it where the cases are compared.
  suffices unfolded : ∀ addr scrub, addr = dpaOfCell → scrub = scrubLine → invView (scrub s k i err) = invView s from
    unfolded _ _ rfl rfl
  intro addr scrub hAddr hScrub
  delta scrubLine at hScrub
  rw [← hAddr] at hScrub
  clear hAddr
  subst hScrub
  beta_reduce
  dsimp only
  split
  · exact invView_lineCheck _ _ _ _ _
  · rfl
  · simp
  · exact (invView_foldl (fun _ _ => by simp) _ _).trans (invView_loseLine _ _)

@[simp] theorem invView_rcEmpty (s : State) : invView (rcEmpty s) = invView s := by simp [rcEmpty]

@[simp] theorem invView_enumerate (s : State) (mask found) : invView (enumerate s mask found) = invView s := by
  simp [enumerate, invView_foldl]

@[simp] theorem invView_fillTower (k) (n : Nat) (s : State) (i) : invView (fillTower k n s i) = invView s := by
  induction n generalizing s i with
  | zero => rfl
  | succ n ih => simp [fillTower, ih]

@[simp] theorem invView_fillDeep (c k) (n : Nat) (s : State) (i) : invView (fillDeep c k n s i).1 = invView s := by
  induction n generalizing s i with
  | zero => rfl
  | succ n ih =>
    unfold fillDeep
    dsimp only
    split
    · rfl
    · rw [ih, invView_startPhys]

@[simp] theorem invView_setEnding (s : State) (c status) : invView (setEnding s c status) = invView s := by
  simp [setEnding]

/-! ### Xlate.lean -/

@[simp] theorem invView_readForget (s : State) (tag) : invView (readForget s tag) = invView s := by simp [readForget]

@[simp] theorem invView_hostAbandon (s : State) (id g) : invView (hostAbandon s id g) = invView s := by
  unfold hostAbandon
  split <;> simp

@[simp] theorem invView_prefetchLines (s : State) (i o e lo hi) : invView (prefetchLines s i o e lo hi) = invView s := by
  simp [prefetchLines, invView_foldl]

@[simp] theorem invView_prefetchRun (s : State) (i k pages) : invView (prefetchRun s i k pages) = invView s := by
  simp [prefetchRun, invView_foldl]

@[simp] theorem invView_setMig (s : State) (i m) : invView (setMig s i m) = invView s := by simp [setMig]

@[simp] theorem invView_migLine (s : State) (i m e j old) : invView (migLine s i m e j old) = invView s := by
  unfold migLine
  split <;> simp

@[simp] theorem invView_migRelease (s : State) (m e) : invView (migRelease s m e) = invView s := by
  simp [migRelease, invView_foldl]

@[simp] theorem invView_migNext (s : State) (i m e) : invView (migNext s i m e) = invView s := by simp [migNext]

@[simp] theorem invView_migPhase (s : State) (i m e) : invView (migPhase s i m e) = invView s := by
  unfold migPhase
  split <;> simp [invView_foldl]

@[simp] theorem invView_migRun (n : Nat) (s : State) (i) : invView (migRun n s i) = invView s := by
  induction n generalizing s with
  | zero => rfl
  | succ n ih =>
    unfold migRun
    split
    · rfl
    · split
      · simp
      · split
        · simp
        · simp [ih]

@[simp] theorem invView_pinRange (s : State) (mask l) : invView (pinRange s mask l) = invView s := by simp [pinRange]

@[simp] theorem invView_unpinRange (s : State) (x dva len) : invView (unpinRange s x dva len) = invView s := by
  simp [unpinRange]

/-! ### Sched.lean -/

@[simp] theorem invView_boundary (s : State) (i app) : invView (boundary s i app) = invView s := by
  simp only [boundary]
  repeat' split
  all_goals simp

@[simp] theorem invView_loadCode (s : State) (n key code) : invView (loadCode s n key code) = invView s := by
  simp [loadCode]

@[simp] theorem invView_startStage (s : State) (i n y g) : invView (startStage s i n y g) = invView s := by
  simp [startStage]

@[simp] theorem invView_endStranded (s : State) : invView (endStranded s) = invView s := by simp [endStranded, invView_foldl]

theorem invView_pickCore {s t : State} {g : PlanStage} {n : Nat} (h : pickCore s g = some (n, t)) :
    invView t = invView s := by
  unfold pickCore at h
  extract_lets l near l' at h
  split at h
  · cases h
  · cases h
    simp

@[simp] theorem invView_cancelSlot (s : State) (i) : invView (cancelSlot s i) = invView s := by
  unfold cancelSlot
  split <;> simp

@[simp] theorem invView_dropQueue (s : State) (q) : invView (dropQueue s q) = invView s := by simp [dropQueue]

/-! ### Fence.lean -/

@[simp] theorem invView_dropLookups (s : State) (f) : invView (dropLookups s f) = invView s := by
  simp [dropLookups, invView_foldl]

@[simp] theorem invView_fenceSlot (s : State) (i n) : invView (fenceSlot s i n) = invView s := by simp [fenceSlot]

@[simp] theorem invView_fenceRecords (s : State) (i) : invView (fenceRecords s i) = invView s := by
  unfold fenceRecords
  split <;> simp

@[simp] theorem invView_fence (s : State) (n cause) : invView (fence s n cause) = invView s := by
  simp only [fence]
  repeat' split
  all_goals simp

@[simp] theorem invView_capture (s : State) (n bank word portB) : invView (capture s n bank word portB) = invView s := by
  simp [capture]

@[simp] theorem invView_applyBypass (s : State) (b) : invView (applyBypass s b) = invView s := by simp [applyBypass]

@[simp] theorem invView_bypassOne (s : State) (b) : invView (bypassOne s b) = invView s := by simp [bypassOne]

@[simp] theorem invView_afterStage (s : State) (i app) : invView (afterStage s i app) = invView s := by
  unfold afterStage
  split <;> simp

@[simp] theorem invView_endStage (s : State) (n g l) :
    invView (endStage s n g l) = invView s := by simp [endStage, invView_foldl]

/-! ### Calib.lean -/

@[simp] theorem invView_modItem (s : State) (n f) : invView (modItem s n f) = invView s := by simp [modItem]

@[simp] theorem invView_calFailEvent (s : State) (run mask) : invView (calFailEvent s run mask) = invView s := by
  simp [calFailEvent]

@[simp] theorem invView_calRecord (s : State) (mask) : invView (calRecord s mask) = invView s := by simp [calRecord]

@[simp] theorem invView_calApply (s : State) (n v) : invView (calApply s n v) = invView s := by simp [calApply]

@[simp] theorem invView_calSettle (n) (s : State) : invView (calSettle n s) = invView s := by simp [calSettle]

@[simp] theorem invView_calPass (s : State) (n r) : invView (calPass s n r) = invView s := by simp [calPass]

@[simp] theorem invView_calJudge (s : State) (powerUp ok n r) :
    invView (calJudge s powerUp ok n r) = invView s := by simp [calJudge]

@[simp] theorem invView_calDone (s : State) (n) : invView (calDone s n) = invView s := by simp [calDone]

@[simp] theorem invView_calTake (s : State) (n r) : invView (calTake s n r) = invView s := by
  unfold calTake
  split <;> simp

@[simp] theorem invView_calTherm (s : State) (l) : invView (calTherm s l) = invView s := by
  unfold calTherm
  split <;> simp

@[simp] theorem invView_calSkip (s : State) (n result) : invView (calSkip s n result) = invView s := by
  unfold calSkip
  split <;> simp

@[simp] theorem invView_calNoRef (s : State) (n) : invView (calNoRef s n) = invView s := by
  unfold calNoRef
  split <;> simp

@[simp] theorem invView_calEnd (s : State) : invView (calEnd s) = invView s := by
  unfold calEnd
  split
  · rfl
  · split
    · rfl
    · dsimp only
      split
      · simp
      · split <;> simp

@[simp] theorem invView_calAbort (s : State) : invView (calAbort s) = invView s := by simp [calAbort]

@[simp] theorem invView_modGate (s : State) (g) : invView (modGate s g) = invView s := by simp [modGate]

@[simp] theorem invView_refPresence (freqPpm) (s : State) :
    invView (refPresence freqPpm s) = invView s := by simp [refPresence, invView_foldl]

@[simp] theorem invView_gnStart (s : State) : invView (gnStart s) = invView s := by simp [gnStart]

@[simp] theorem invView_loopbacksDone (m) (s : State) : invView (loopbacksDone m s) = invView s := by
  unfold loopbacksDone
  split <;> simp [invView_foldl]

@[simp] theorem invView_gateStart (s : State) : invView (gateStart s) = invView s := by
  unfold gateStart
  split <;> simp

@[simp] theorem invView_gateEdge (periods) (s : State) : invView (gateEdge periods s) = invView s := by
  unfold gateEdge
  split <;> simp

@[simp] theorem invView_gateEnd (osc tempco span) (s : State) : invView (gateEnd osc tempco span s) = invView s := by
  unfold gateEnd
  split <;> simp

@[simp] theorem invView_calRunEff (m c k) (s : State) : invView (calRunEff m c k s).state = invView s := by
  simp only [calRunEff]
  repeat' split
  all_goals simp [invView_foldl]

@[simp] theorem invView_calSlewEnd (s : State) : invView (calSlewEnd s) = invView s := by
  simp [calSlewEnd, invView_foldl]

@[simp] theorem invView_calFirstLock (s : State) : invView (calFirstLock s) = invView s := by simp [calFirstLock]

/-! ### Time.lean -/

@[simp] theorem invView_timeEvent (b) (s : State) : invView (timeEvent b s) = invView s := by simp [timeEvent]

@[simp] theorem invView_timeStep {f : State → State} (s : State) (h : invView (f s) = invView s) :
    invView (timeStep f s) = invView s := by simp [h, timeStep]

@[simp] theorem invView_disciplined (x) (s : State) : invView (disciplined x s) = invView s := by simp [disciplined]

@[simp] theorem invView_firstLock (s : State) (x now) : invView (firstLock s x now) = invView s := by simp [firstLock]

@[simp] theorem invView_reselect (lost) (s : State) : invView (reselect lost s) = invView s := by
  simp only [reselect]
  repeat' split
  all_goals simp

@[simp] theorem invView_gnssDue (s : State) : invView (gnssDue s) = invView s := by simp [gnssDue]

@[simp] theorem invView_gnssQualify (s : State) : invView (gnssQualify s) = invView s := by simp [gnssQualify]

@[simp] theorem invView_gnssDisqualify (s : State) :
    invView (gnssDisqualify s) = invView s := by simp [gnssDisqualify]

@[simp] theorem invView_extDrop (s : State) : invView (extDrop s) = invView s := by simp [extDrop]

@[simp] theorem invView_edgeTimeSet (s : State) : invView (edgeTimeSet s) = invView s := by
  unfold edgeTimeSet
  split <;> simp

@[simp] theorem invView_ppsEdge (dev refPpb periods) (s : State) :
    invView (ppsEdge dev refPpb periods s) = invView s := by
  have upd (u : State) (tb) : invView { u with tb := tb } = invView u := invView_upd u rfl rfl rfl
  have counted (tb) : invView { gateEdge periods s with tb := tb } = invView s := (upd _ _).trans (invView_gateEdge _ _)
  refine invView_timeStep s ((invView_edgeTimeSet _).trans ((invView_disciplined _ _).trans ?_))
  refine invView_ite_of ((invView_extDrop _).trans (counted _)) (invView_ite_of ?_ (counted _))
  refine (invView_reselect _ _).trans ?_
  exact (upd (gnssDue _) _).trans ((invView_gnssDue _).trans (counted _))

@[simp] theorem invView_refLoss (s : State) : invView (refLoss s) = invView s := by simp [refLoss]

@[simp] theorem invView_ppsMissing (s : State) : invView (ppsMissing s) = invView s := by simp [ppsMissing]

@[simp] theorem invView_takeover (s : State) : invView (takeover s) = invView s := by simp [takeover]

@[simp] theorem invView_lock24 (s : State) : invView (lock24 s) = invView s := by simp [lock24]

@[simp] theorem invView_leapNow (s : State) : invView (leapNow s) = invView s := by simp [leapNow]

@[simp] theorem invView_slewingClear (err) (s : State) : invView (slewingClear err s) = invView s := by
  simp [slewingClear]

@[simp] theorem invView_snapLatch (n wide) (s : State) : invView (snapLatch n wide s) = invView s := by
  simp [snapLatch]

@[simp] theorem invView_ppsRise (s : State) : invView (ppsRise s) = invView s := by simp [ppsRise]

@[simp] theorem invView_ppsFallStep (s : State) : invView (ppsFallStep s) = invView s := by simp [ppsFallStep]

@[simp] theorem invView_sendTs (s : State) (l typ seq ts) : invView (sendTs s l typ seq ts) = invView s := by simp [sendTs]

@[simp] theorem invView_fabDrop (s : State) : invView (fabDrop s) = invView s := by simp [fabDrop]

@[simp] theorem invView_exchMiss (n) (s : State) : invView (exchMiss n s) = invView s := by simp [exchMiss]

@[simp] theorem invView_exchExpire (s : State) : invView (exchExpire s) = invView s := by simp [exchExpire]

@[simp] theorem invView_exchStart (s : State) : invView (exchStart s) = invView s := by simp [exchStart]

@[simp] theorem invView_syncSend (l seq) (s : State) : invView (syncSend l seq s) = invView s := by simp [syncSend]

@[simp] theorem invView_exchMissed8 (s : State) : invView (exchMissed8 s) = invView s := by simp [exchMissed8]

@[simp] theorem invView_takeReport (f) (s : State) : invView (takeReport f s) = invView s := by simp [takeReport]

@[simp] theorem invView_dropFrame (s : State) (l) : invView (dropFrame s l) = invView s := by simp [dropFrame]

@[simp] theorem invView_syncStep (l) (s : State) : invView (syncStep l s) = invView s := by
  refine invView_timeStep s ?_
  dsimp only
  split
  · rfl
  · split <;> simp

@[simp] theorem invView_delayReq (l) (s : State) : invView (delayReq l s) = invView s := by
  unfold delayReq
  split <;> simp

@[simp] theorem invView_delayResp (l) (s : State) : invView (delayResp l s) = invView s := by
  refine invView_timeStep s ?_
  dsimp only
  split
  · rfl
  · split
    · simp
    · split
      · simp
      · split <;> simp

@[simp] theorem invView_fabLinkDown (l) (s : State) : invView (fabLinkDown l s) = invView s := by simp [fabLinkDown]

@[simp] theorem invView_timeConfigEff (k) (s : State) :
    invView (timeConfigEff k s) = invView s := by simp [timeConfigEff]

@[simp] theorem invView_timeSetEff (c k) (s : State) :
    invView (timeSetEff c k s).state = invView s := by simp [timeSetEff]

@[simp] theorem invView_timeSetTimeout (s : State) : invView (timeSetTimeout s) = invView s := by
  unfold timeSetTimeout
  split <;> simp

@[simp] theorem invView_calThenLock {f : State → State} (s : State) (h : invView (f s) = invView s) :
    invView (calThenLock f s) = invView s := by simp [h, calThenLock]

/-! ### Gnss.lean -/

@[simp] theorem invView_gnEvent (s : State) (cause set sev residual) :
    invView (gnEvent s cause set sev residual) = invView s := by simp [gnEvent]

@[simp] theorem invView_modPort (s : State) (q f) : invView (modPort s q f) = invView s := by
  unfold modPort
  split <;> simp

@[simp] theorem invView_setTarget (s : State) (sig sv st) :
    invView (setTarget s sig sv st) = invView s := by simp [setTarget]

@[simp] theorem invView_chanLost (s : State) (n) : invView (chanLost s n) = invView s := by simp [chanLost]

@[simp] theorem invView_dropPort (ok) (s : State) (q) : invView (dropPort ok s q) = invView s := by
  simp [dropPort, invView_foldl]

@[simp] theorem invView_gnMirror (s : State) : invView (gnMirror s) = invView s := by simp [gnMirror]

@[simp] theorem invView_portFault (q noEdge devPpm) (s : State) :
    invView (portFault q noEdge devPpm s) = invView s := by simp [portFault]

@[simp] theorem invView_portClear (q) (s : State) : invView (portClear q s) = invView s := by simp [portClear]

@[simp] theorem invView_timeTag (q) (s : State) : invView (timeTag q s) = invView s := by simp [timeTag]

@[simp] theorem invView_searchWindow (s : State) (sig sv) : invView (searchWindow s sig sv).2 = invView s := by
  simp only [searchWindow]
  repeat' split
  all_goals simp

@[simp] theorem invView_searchEnd (i bins) (s : State) : invView (searchEnd i bins s) = invView s := by
  simp [searchEnd]

@[simp] theorem invView_occupy (s : State) (n sig sv bin ph) :
    invView (occupy s n sig sv bin ph) = invView s := by simp [occupy]

@[simp] theorem invView_placeCandidate (s : State) (sig sv bin ph) :
    invView (placeCandidate s sig sv bin ph) = invView s := by
  simp only [placeCandidate]
  repeat' split
  all_goals simp

@[simp] theorem invView_verifyEnd (i tests) (s : State) : invView (verifyEnd i tests s) = invView s := by
  simp only [verifyEnd]
  repeat' split
  all_goals simp

@[simp] theorem invView_listReturn (i) (s : State) : invView (listReturn i s) = invView s := by
  unfold listReturn
  dsimp only
  split <;> simp

@[simp] theorem invView_modGnChan (s : State) (n f) : invView (modGnChan s n f) = invView s := by simp [modGnChan]

@[simp] theorem invView_pullInLock (n) (s : State) : invView (pullInLock n s) = invView s := by simp [pullInLock]

@[simp] theorem invView_pullInTimeout (n) (s : State) : invView (pullInTimeout n s) = invView s := by
  simp [pullInTimeout]

@[simp] theorem invView_trackLoss (n) (s : State) : invView (trackLoss n s) = invView s := by simp [trackLoss]

@[simp] theorem invView_coherentEnd (n acc bitSync) (s : State) :
    invView (coherentEnd n acc bitSync s) = invView s := by
  unfold coherentEnd
  refine invView_ite_of rfl ?_
  extract_lets -underBinder acc k store val h near
  split
  next e => exact (invView_modGnChan _ _ _).trans (invView_snd e (by split <;> simp))

@[simp] theorem invView_takeNav (sys) (s : State) (d) : invView (takeNav sys s d) = invView s := by simp [takeNav]

@[simp] theorem invView_syncVerified (n word crcOk tow nav) (s : State) :
    invView (syncVerified n word crcOk tow nav s) = invView s := by simp [syncVerified, invView_foldl]

@[simp] theorem invView_cn0Expire (n) (s : State) : invView (cn0Expire n s) = invView s := by simp [cn0Expire]

@[simp] theorem invView_takeRec (s : State) (r) : invView (takeRec s r) = invView s := by simp [takeRec]

@[simp] theorem invView_takeResidual (s : State) (r) : invView (takeResidual s r) = invView s := by
  unfold takeResidual
  split <;> simp

@[simp] theorem invView_takePosition (sol) (s : State) : invView (takePosition sol s) = invView s := by
  simp [takePosition]

@[simp] theorem invView_solToTime (sol) (s : State) : invView (solToTime sol s) = invView s := by simp [solToTime]

@[simp] theorem invView_measEpoch (sol recs) (s : State) : invView (measEpoch sol recs s) = invView s := by
  have taken (u : State) : invView (recs.foldl takeResidual (recs.foldl takeRec u)) = invView u :=
    (invView_foldl (fun _ _ => by simp) _ _).trans (invView_foldl (fun _ _ => by simp) _ _)
  refine invView_timeStep s ?_
  dsimp only
  split
  · rfl
  · repeat' split
    all_goals simp [taken]

@[simp] theorem invView_surveyMean (s : State) : invView (surveyMean s).2 = invView s := by
  unfold surveyMean
  split <;> simp

@[simp] theorem invView_startHold (s : State) (q entered check) :
    invView (startHold s q entered check) = invView s := by simp [startHold]

@[simp] theorem invView_surveyComplete (s : State) : invView (surveyComplete s) = invView s := by
  simp [surveyComplete]

@[simp] theorem invView_startSurvey (s : State) (min_) : invView (startSurvey s min_) = invView s := by
  simp [startSurvey]

@[simp] theorem invView_rmsCm (s : State) : invView (rmsCm s).2 = invView s := by
  unfold rmsCm
  split <;> simp

@[simp] theorem invView_holdResidual (s : State) : invView (holdResidual s) = invView s := by simp [holdResidual]

@[simp] theorem invView_gnConfigEff (k) (s : State) : invView (gnConfigEff k s) = invView s := by simp [gnConfigEff]

@[simp] theorem invView_gnSurveyEff (k) (s : State) : invView (gnSurveyEff k s) = invView s := by simp [gnSurveyEff]

@[simp] theorem invView_gnPositionEff (k) (s : State) : invView (gnPositionEff k s) = invView s := by
  simp [gnPositionEff]

@[simp] theorem invView_gnStreamEff (k) (s : State) : invView (gnStreamEff k s) = invView s := by simp [gnStreamEff]

@[simp] theorem invView_assistItem (k ok) (a : State × Nat) (i) : invView (assistItem k ok a i).1 = invView a.1 := by
  unfold assistItem
  dsimp only
  split
  · rfl
  · split <;> simp

@[simp] theorem invView_gnAssistEff (ok k) (s : State) : invView (gnAssistEff ok k s).state = invView s := by
  have taken (l : List Nat) (a : State × Nat) : invView (l.foldl (assistItem k ok) a).1 = invView a.1 := by
    induction l generalizing a with
    | nil => rfl
    | cons i l ih => exact (ih _).trans (invView_assistItem _ _ _ _)
  simp [gnAssistEff, taken]

/-! ### Links.lean -/

@[simp] theorem invView_linkEvent (s : State) (l cause) : invView (linkEvent s l cause) = invView s := by simp [linkEvent]

@[simp] theorem invView_owe (s : State) (q) : invView (owe s q) = invView s := by
  unfold owe
  split <;> simp

@[simp] theorem invView_losePackets (s : State) (f) : invView (losePackets s f) = invView s := by
  refine (invView_upd _ rfl rfl rfl).trans (invView_foldl (fun _ _ => ?_) _ _)
  split
  · rfl
  · split <;> simp

@[simp] theorem invView_clearLink (s : State) (l) : invView (clearLink s l) = invView s := by simp [clearLink]

@[simp] theorem invView_endTraining (s : State) (l status detail resp) :
    invView (endTraining s l status detail resp) = invView s := by
  unfold endTraining
  split <;> simp

@[simp] theorem invView_linkDown (s : State) (l cause retrain) :
    invView (linkDown s l cause retrain) = invView s := by simp [linkDown]

@[simp] theorem invView_linkGoesUp (s : State) (l chip inc d) : invView (linkGoesUp s l chip inc d) = invView s := by
  simp [linkGoesUp]

@[simp] theorem invView_linkFault (s : State) (l) : invView (linkFault s l) = invView s := by simp [linkFault]

@[simp] theorem invView_linkMismatch (s : State) (l chip inc) : invView (linkMismatch s l chip inc) = invView s := by
  simp [linkMismatch]

@[simp] theorem invView_trainTimeout (s : State) (l) : invView (trainTimeout s l) = invView s := by
  unfold trainTimeout
  dsimp only
  split <;> simp

@[simp] theorem invView_trainStop (s : State) (c) : invView (trainStop s c) = invView s := by simp [trainStop, invView_foldl]

@[simp] theorem invView_takeHeader (s : State) (l f) : invView (takeHeader s l f) = invView s := by simp [takeHeader]

@[simp] theorem invView_sendNak (s : State) (l) : invView (sendNak s l) = invView s := by simp [sendNak]

@[simp] theorem invView_flitIn (s : State) (l typ f ok) {g : State → State} (h : invView (g s) = invView s) :
    invView (flitIn s l typ f ok g) = invView s := by simp [h, flitIn]

@[simp] theorem invView_numbered (s : State) (l f) {g : State → State} (h : ∀ u, invView (g u) = invView u) :
    invView (numbered s l f g) = invView s := by simp [h, numbered]

@[simp] theorem invView_cutShort (s : State) (l vc) : invView (cutShort s l vc) = invView s := by simp [cutShort]

@[simp] theorem invView_dataIn (l f) (s : State) : invView (dataIn l f s) = invView s := by simp [dataIn]

@[simp] theorem invView_nakIn (l f) (s : State) : invView (nakIn l f s) = invView s := by simp [nakIn, invView_foldl]

/-! ### Power.lean -/

@[simp] theorem invView_modPwr (s : State) (f) : invView (modPwr s f) = invView s := by simp [modPwr]

@[simp] theorem invView_hotLimit (s : State) (k) : invView (hotLimit s k) = invView s := by simp [hotLimit]

@[simp] theorem invView_reefInput (s : State) (f) : invView (reefInput s f) = invView s := by simp [reefInput]

@[simp] theorem invView_levelChange (s : State) (k src dst boost) :
    invView (levelChange s k src dst boost) = invView s := by simp [levelChange]

@[simp] theorem invView_setLevel (s : State) (k level) :
    invView (setLevel s k level) = invView s := by simp [setLevel]

@[simp] theorem invView_coreEmpty (s : State) (n) : invView (coreEmpty s n) = invView s := by simp [coreEmpty]

@[simp] theorem invView_gnssOff (s : State) : invView (gnssOff s) = invView s := by
  unfold gnssOff
  dsimp only
  split <;> simp

@[simp] theorem invView_deepOff (s : State) : invView (deepOff s) = invView s := by simp [deepOff, invView_foldl]

@[simp] theorem invView_setDomain (s : State) (d on) : invView (setDomain s d on) = invView s := by simp [setDomain]

@[simp] theorem invView_domainEff (s : State) (d on found) :
    invView (domainEff s d on found) = invView s := by simp [domainEff]

/-! ### Boot.lean -/

@[simp] theorem invView_modSec (s : State) (f : Security → Security) (hRec : (f s.sec).incRec = s.sec.incRec)
    (hPending : (f s.sec).lcPending = s.sec.lcPending) (hTarget : (f s.sec).lcTarget = s.sec.lcTarget)
    (hState : (f s.sec).lifecycle = s.sec.lifecycle) : invView (modSec s f) = invView s :=
  invView_updSec s hRec hPending hTarget hState

@[simp] theorem invView_wipe (s : State) : invView (wipe s) = invView s := by simp [wipe]

@[simp] theorem invView_deriveKeys (s : State) : invView (deriveKeys s) = invView s := by simp [deriveKeys]

@[simp] theorem invView_startFw (s : State) (b fallback) :
    invView (startFw s b fallback) = invView s := by simp [startFw]

@[simp] theorem invView_setSession (s : State) (x) : invView (setSession s x) = invView s := by simp [setSession]

@[simp] theorem invView_putSlot (s : State) (b off d) : invView (putSlot s b off d) = invView s := by
  cases b <;> simp [putSlot]

@[simp] theorem invView_adopt (s : State) (b) : invView (adopt s b) = invView s := by simp [adopt]

@[simp] theorem invView_tamperActs (s : State) : invView (tamperActs s) = invView s := by simp [tamperActs]

/-! ### Dump.lean -/

@[simp] theorem invView_modHlt (s : State) (f) : invView (modHlt s f) = invView s := by simp [modHlt]

@[simp] theorem invView_dumpStep (c k) (s : State) : invView (dumpStep c k s).state = invView s := by simp [dumpStep]

/-! ### HostLink.lean -/

@[simp] theorem invView_sendPending (s : State) : invView (sendPending s) = invView s := by simp [sendPending, invView_foldl]

@[simp] theorem invView_writePlain (s : State) (off v) : invView (writePlain s off v) = invView s := by simp [writePlain]

@[simp] theorem invView_hostTowerRead (s : State) (a len errs) : invView (hostTowerRead s a len errs).1 = invView s := by
  have read (l : List (Nat × Nat)) (r : State × Bytes × Bool) :
      invView (l.foldl (fun (r : State × Bytes × Bool) c =>
        let (s, d, p) := towerRead r.1 c.1 c.2 (errOf errs c.1) 0
        (s, r.2.1 ++ d, r.2.2 || p)) r).1 = invView r.1 := by
    induction l generalizing r with
    | nil => rfl
    | cons c l ih => exact (ih _).trans (invView_towerRead _ _ _ _ _)
  unfold hostTowerRead
  dsimp only
  split <;> simp [read]

@[simp] theorem invView_hostLineWrite (s : State) (a m ep err) : invView (hostLineWrite s a m ep err) = invView s := by
  unfold hostLineWrite
  split <;> simp

@[simp] theorem invView_hostTowerWrite (s : State) (a data ep errs) :
    invView (hostTowerWrite s a data ep errs) = invView s := by simp [hostTowerWrite, invView_foldl]

/-! ### TableOps.lean -/

@[simp] theorem invView_closeRing (s : State) (held) : invView (closeRing s held) = invView s := by simp [closeRing]

/-! ### Responses.lean -/

@[simp] theorem invView_stopReads (s : State) (c) : invView (stopReads s c) = invView s := by simp [stopReads, invView_foldl]

@[simp] theorem invView_stopCmd (s : State) (c k) : invView (stopCmd s c k) = invView s := by
  unfold stopCmd
  split <;> simp

@[simp] theorem invView_endCmd (s : State) (c status) : invView (endCmd s c status) = invView s := by
  unfold endCmd
  split <;> simp

/-! ### HostReads.lean -/

@[simp] theorem invView_indirectDone (s : State) (c off b) : invView (indirectDone s c off b) = invView s := by
  simp only [indirectDone]
  repeat' split
  all_goals simp

@[simp] theorem invView_readEnd (s : State) (r data) : invView (readEnd s r data) = invView s := by
  simp only [readEnd]
  repeat' split
  all_goals simp

@[simp] theorem invView_pumpReads (s : State) : invView (pumpReads s) = invView s := by simp [pumpReads, invView_foldl]

@[simp] theorem invView_readOver (s : State) (tag r data) :
    invView (readOver s tag r data) = invView s := by simp [readOver]

@[simp] theorem invView_noXlate (s : State) (q denied) : invView (noXlate s q denied) = invView s := by
  simp only [noXlate]
  repeat' split
  all_goals simp

@[simp] theorem invView_withXlate (s : State) (q) : invView (withXlate s q) = invView s := by
  simp only [withXlate]
  repeat' split
  all_goals simp

@[simp] theorem invView_atcPut (s : State) (q r) : invView (atcPut s q r) = invView s := by simp [atcPut]

@[simp] theorem invView_postsOn (s : State) : invView (postsOn s) = invView s := by simp [postsOn]

/-! ### MailboxFlow.lean -/

@[simp] theorem invView_seqRefuse (s : State) (c) : invView (seqRefuse s c) = invView s := by simp [seqRefuse]

@[simp] theorem invView_replay (s : State) (c) : invView (replay s c) = invView s := by simp [replay]

@[simp] theorem invView_bellDecide (s : State) (c) : invView (bellDecide s c) = invView s := by simp [bellDecide]

@[simp] theorem invView_ringBell (s : State) (c seq) : invView (ringBell s c seq) = invView s := by
  simp only [ringBell]
  repeat' split
  all_goals simp

@[simp] theorem invView_indirectReads (c) (fuel : Nat) (s : State) (addr off len) :
    invView (indirectReads c fuel s addr off len).1 = invView s := by
  induction fuel generalizing s addr off len with
  | zero => rfl
  | succ fuel ih =>
    unfold indirectReads
    split
    · rfl
    · dsimp only
      split
      · next e => exact (ih _ _ _ _).trans (invView_snd e (by simp))
      · next e => exact invView_snd e (by simp)

@[simp] theorem invView_indirectStart (s : State) (c k) : invView (indirectStart s c k) = invView s := by
  unfold indirectStart
  split
  · simp
  · split
    · next e => exact invView_fst e (by simp)
    · next u a e =>
      have h : invView u = invView s := invView_fst e (by simp)
      dsimp only
      split <;> simp [h]

@[simp] theorem invView_lenCheck (s : State) (c k len indirect r) :
    invView (lenCheck s c k len indirect r) = invView s := by simp [lenCheck]

@[simp] theorem invView_accept (s : State) (c held) : invView (accept s c held) = invView s := by
  simp only [accept]
  repeat' split
  all_goals simp

@[simp] theorem invView_clearChan (s : State) (c) : invView (clearChan s c) = invView s := by simp [clearChan]

@[simp] theorem invView_ctxStays (s : State) (x) : invView (ctxStays s x) = invView s := by simp [ctxStays]

@[simp] theorem invView_timeOut (s : State) (c k) : invView (timeOut s c k) = invView s := by
  simp only [timeOut]
  repeat' split
  all_goals simp

/-! ### Matrix.lean -/

@[simp] theorem invView_modPair (s : State) (n f) : invView (modPair s n f) = invView s := by simp [modPair]

@[simp] theorem invView_noteColumn (s : State) (n o fc) : invView (noteColumn s n o fc) = invView s := by simp [noteColumn]

@[simp] theorem invView_mmRunOn (s : State) (n o bad) : invView (mmRunOn s n o bad) = invView s := by
  simp only [mmRunOn]
  repeat' split
  all_goals simp

@[simp] theorem invView_swapTiles (s : State) (n) : invView (swapTiles s n) = invView s := by simp [swapTiles]

/-! ### Router.lean -/

@[simp] theorem invView_returnCredits (s : State) (q) : invView (returnCredits s q) = invView s := by
  unfold returnCredits
  split <;> simp

@[simp] theorem invView_sendPiece (s : State) (i q e) : invView (sendPiece s i q e) = invView s := by simp [sendPiece]

@[simp] theorem invView_refuseStale (s : State) (q) : invView (refuseStale s q) = invView s := by simp [refuseStale]

@[simp] theorem invView_deliver (s : State) (q) : invView (deliver s q) = invView s := by simp [deliver]

@[simp] theorem invView_startOn (s : State) (i q l vc route) : invView (startOn s i q l vc route) = invView s := by
  simp [startOn]

/-! ### Remote.lean -/

@[simp] theorem dropIntake_fab_inc (s : State) (f) : (dropIntake s f).fab.inc = s.fab.inc := rfl

@[simp] theorem invView_dropIntake (s : State) (f) : invView (dropIntake s f) = invView s := by simp [dropIntake]

@[simp] theorem invView_toServing (s : State) (q) : invView (toServing s q) = invView s := by simp [toServing]

@[simp] theorem invView_incoming (s : State) (i op) {form} {gone} {f : Packet → State → State}
    (hGone : ∀ q u, invView (gone q u) = invView u) (h : ∀ q u, invView (f q u) = invView u) :
    invView (incoming s i op form gone f) = invView s := by
  unfold incoming
  split <;> simp [hGone, h]

@[simp] theorem invView_refuseIn (s : State) (q status) : invView (refuseIn s q status) = invView s := by simp [refuseIn]

@[simp] theorem invView_peerIssue (s : State) (q len kind data) : invView (peerIssue s q len kind data) = invView s := by
  simp [peerIssue]

@[simp] theorem invView_peerEnd (s : State) (i op) {answer : Packet → List (Nat × Access) → State → State}
    (h : ∀ q l u, invView (answer q l u) = invView u) :
    invView (peerEnd s i op answer) = invView s := by
  simp only [peerEnd]
  repeat' split
  all_goals simp [h]

@[simp] theorem invView_trackEnd (s : State) (i t r) : invView (trackEnd s i t r) = invView s := by
  unfold trackEnd
  split <;> simp

@[simp] theorem invView_response (s : State) (i op) : invView (response s i op) = invView s := by
  simp only [response]
  repeat' split
  all_goals simp

/-! ### Reset.lean -/

@[simp] theorem invView_failReads (s : State) : invView (failReads s) = invView s := by
  refine (invView_foldl (fun _ _ => ?_) _ _).trans
    ((invView_foldl (fun _ _ => by simp) _ _).trans (invView_upd s rfl rfl rfl))
  split
  · split <;> simp
  · rfl

@[simp] theorem invView_configReset (s : State) : invView (configReset s) = invView s := by simp [configReset]

@[simp] theorem invView_abortAll (s : State) (skip) :
    invView (abortAll s skip) = invView s := by simp [abortAll, invView_foldl]

@[simp] theorem invView_warmFail (s : State) : invView (warmFail s) = invView s := by
  unfold warmFail
  refine invView_foldl (fun u x => ?_) _ _
  generalize x.2.stage = stage
  cases stage with
  | remote | stalled | host | ats => exact invView_accFail _ _ _
  | _ => rfl

@[simp] theorem invView_warmQuiet (s : State) :
    invView (warmQuiet s) = invView s := by simp [warmQuiet, invView_foldl]

@[simp] theorem invView_warmAccept (s : State) (t skip) :
    invView (warmAccept s t skip) = invView s := by simp [warmAccept]

@[simp] theorem invView_dueSwitches (s : State) : invView (dueSwitches s) = invView s := by simp [dueSwitches, invView_foldl]

/-! ### SeqAlu.lean -/

@[simp] theorem invView_seqPut (s : State) (n t key f) : invView (seqPut s n t key f) = invView s := by simp [seqPut]

/-! ### SeqFlow.lean -/

@[simp] theorem invView_seqBranch (s : State) (n t key cond) : invView (seqBranch s n t key cond) = invView s := by
  refine invView_seqDo _ _ _ _ fun _ _ => ?_
  dsimp only
  split <;> rfl

end Sys2Proof.Machine

/-! ## 00: the commands that leave what `Inv` speaks of (the statement of O54) -/

namespace Sys2Proof.Machine

@[simp] theorem invView_live {s : State} {f : State → State} (h : invView (f s) = invView s) :
    invView (resState s (live s f)) = invView s := invView_ite_of rfl h

@[simp] theorem invView_barWrite {s : State} {f : State → State} (h : invView (f s) = invView s) :
    invView (resState s (barWrite s f)) = invView s := invView_live (invView_ite_of h rfl)

@[simp] theorem invView_barRead {s : State} {f : State → State} (h : invView (f s) = invView s) :
    invView (resState s (barRead s f)) = invView s := invView_live (invView_ite_of h (invView_emit _ _))

/-! ### Access.lean -/

@[simp] theorem invView_execTranslationWalkDone (id) (s : State) :
    invView (resState s (execTranslationWalkDone id s)) = invView s := by
  refine invView_live ?_
  repeat' split
  all_goals simp

@[simp] theorem invView_execTowerLineAccess (id err) (s : State) :
    invView (resState s (execTowerLineAccess id err s)) = invView s := by
  refine invView_live ?_
  repeat' split
  all_goals simp

@[simp] theorem invView_execDeepPortResponse (port id r) (s : State) :
    invView (resState s (execDeepPortResponse port id r s)) = invView s := by
  refine invView_live ?_
  repeat' split
  all_goals simp

@[simp] theorem invView_execDeepRequestTimeout (port id) (s : State) :
    invView (resState s (execDeepRequestTimeout port id s)) = invView s := by
  refine invView_live ?_
  repeat' split
  all_goals simp

/-! ### Seq.lean -/

@[simp] theorem invView_execBranchResolve (n t) (s : State) :
    invView (resState s (execBranchResolve n t s)) = invView s := by
  refine invView_live ?_
  split <;> simp

@[simp] theorem invView_execSquashedOperationBoundary (n id) (s : State) :
    invView (resState s (execSquashedOperationBoundary n id s)) = invView s := by
  refine invView_live ?_
  split <;> simp

/-! ### Dma.lean -/

@[simp] theorem invView_execDmaCopy (n op) (s : State) : invView (resState s (execDmaCopy n op s)) = invView s := by
  refine invView_live ?_
  simp [invView_foldl]

/-! ### Tables.lean -/

@[simp] theorem invView_execLookup (n op) (s : State) : invView (resState s (execLookup n op s)) = invView s := by
  refine invView_live (invView_opRun _ _ _ _ fun o => ?_)
  dsimp only
  repeat' split
  all_goals simp

@[simp] theorem invView_execLookupAccept (e) (s : State) : invView (resState s (execLookupAccept e s)) = invView s := by
  refine invView_live ?_
  split <;> simp

@[simp] theorem invView_execLookupRowReturn (e lk acc) (s : State) :
    invView (resState s (execLookupRowReturn e lk acc s)) = invView s := by
  refine invView_live ?_
  dsimp only
  repeat' split
  all_goals simp

@[simp] theorem invView_execLookupDeadline (e lk) (s : State) :
    invView (resState s (execLookupDeadline e lk s)) = invView s := by
  refine invView_live ?_
  dsimp only
  repeat' split
  all_goals simp [invView_foldl]

/-! ### Pooling.lean -/

@[simp] theorem invView_execLookupComplete (e lk) (s : State) :
    invView (resState s (execLookupComplete e lk s)) = invView s := by
  refine invView_live ?_
  repeat' split
  all_goals simp

/-! ### Update.lean -/

@[simp] theorem invView_execUpdateRecordArrival (e) (s : State) :
    invView (resState s (execUpdateRecordArrival e s)) = invView s := by
  refine invView_live ?_
  dsimp only
  split <;> simp

@[simp] theorem invView_execCopOperationComplete (n op) (s : State) :
    invView (resState s (execCopOperationComplete n op s)) = invView s := by
  have flushed (o : CopOp) : invView (flushStaging s n o).2 = invView s := by simp
  refine invView_live ?_
  repeat' split
  any_goals simp
  all_goals next e => exact invView_snd e (flushed _)

@[simp] theorem invView_execUpdateRingRecord (h) (s : State) :
    invView (resState s (execUpdateRingRecord h s)) = invView s := by
  refine invView_live ?_
  dsimp only
  split <;> simp

/-! ### Handover.lean -/

@[simp] theorem invView_execHandoverComplete (c b) (s : State) :
    invView (resState s (execHandoverComplete c b s)) = invView s := by
  refine invView_live ?_
  dsimp only
  split <;> simp

/-! ### Queues.lean -/

@[simp] theorem invView_execDescriptorRead (data errs) (s : State) :
    invView (resState s (execDescriptorRead data errs s)) = invView s := by
  have got (x : Queue) : invView (if x.fabric then fabricDesc s x data errs else hostDesc s x data).2 = invView s := by
    split <;> simp
  refine invView_live ?_
  dsimp only
  split
  · rfl
  · split
    · rfl
    · split
      · next e => exact invView_snd e (got _)
      · next e =>
        have h := invView_snd e (got _)
        split <;> simp [h]

@[simp] theorem invView_execCompletionRecordPost (i errs) (s : State) :
    invView (resState s (execCompletionRecordPost i errs s)) = invView s := by
  refine invView_live ?_
  repeat' split
  all_goals simp

/-! ### Memory.lean -/

@[simp] theorem invView_execOpFill (c lines) (s : State) : invView (resState s (execOpFill c lines s)) = invView s := by
  refine invView_live (invView_runOp _ _ _ fun k => ?_)
  dsimp only
  repeat' split
  all_goals simp

@[simp] theorem invView_execOpPageRetire (c) (s : State) : invView (resState s (execOpPageRetire c s)) = invView s := by
  refine invView_live (invView_plainOp _ _ _ fun k => ?_)
  dsimp only
  repeat' split
  all_goals simp

/-! ### Xlate.lean -/

@[simp] theorem invView_execUnmapHostAbandon (c) (s : State) :
    invView (resState s (execUnmapHostAbandon c s)) = invView s := by
  refine invView_live ?_
  dsimp only
  repeat' split
  all_goals simp [invView_foldl]

@[simp] theorem invView_execOpPrefetch (c) (s : State) : invView (resState s (execOpPrefetch c s)) = invView s := by
  refine invView_live (invView_runOp _ _ _ fun k => ?_)
  dsimp only
  simp [invView_foldl]

@[simp] theorem invView_execPrefetchDone (i) (s : State) : invView (resState s (execPrefetchDone i s)) = invView s := by
  refine invView_live ?_
  split <;> simp

@[simp] theorem invView_execOpAdvise (c) (s : State) : invView (resState s (execOpAdvise c s)) = invView s := by
  refine invView_live (invView_plainOp _ _ _ fun k => ?_)
  split <;> simp

/-! ### Sched.lean -/

@[simp] theorem invView_execStageDispatch (s : State) : invView (resState s (execStageDispatch s)) = invView s := by
  refine invView_live ?_
  dsimp only
  split
  · rfl
  · repeat' split
    any_goals simp
    next e => rw [invView_pickCore e, invView_endStranded]

@[simp] theorem invView_execOpQueueDestroy (c) (s : State) :
    invView (resState s (execOpQueueDestroy c s)) = invView s := by
  refine invView_live (invView_runOp _ _ _ fun k => ?_)
  dsimp only
  repeat' split
  all_goals simp [invView_foldl]

@[simp] theorem invView_execOpReqCancel (c) (s : State) : invView (resState s (execOpReqCancel c s)) = invView s := by
  refine invView_live (invView_plainOp _ _ _ fun k => ?_)
  split <;> simp

/-! ### Fence.lean -/

@[simp] theorem invView_execCoreFence (n cause) (s : State) :
    invView (resState s (execCoreFence n cause s)) = invView s := by
  refine invView_live ?_
  split <;> simp

@[simp] theorem invView_execStageEnd (n) (s : State) : invView (resState s (execStageEnd n s)) = invView s := by
  refine invView_live ?_
  dsimp only
  repeat' split
  all_goals simp

/-! ### Time.lean -/

@[simp] theorem invView_execTimesyncExchangeStart (peer) (s : State) :
    invView (resState s (execTimesyncExchangeStart peer s)) = invView s := by
  refine invView_live ?_
  split <;> simp

/-! ### Links.lean -/

@[simp] theorem invView_execRatlineLinkRetrainDone (l r) (s : State) :
    invView (resState s (execRatlineLinkRetrainDone l r s)) = invView s := by
  refine invView_live ?_
  split <;> simp

@[simp] theorem invView_execLinkTrainingEnd (l r) (s : State) :
    invView (resState s (execLinkTrainingEnd l r s)) = invView s := by
  refine invView_live ?_
  dsimp only
  repeat' split
  all_goals simp

@[simp] theorem invView_execOpChipIdSet (c) (s : State) : invView (resState s (execOpChipIdSet c s)) = invView s := by
  refine invView_live (invView_plainOp _ _ _ fun k => ?_)
  simp

@[simp] theorem invView_execOpRouteSet (c) (s : State) : invView (resState s (execOpRouteSet c s)) = invView s := by
  refine invView_live (invView_plainOp _ _ _ fun k => ?_)
  simp

@[simp] theorem invView_execOpRemoteTimeout (c) (s : State) :
    invView (resState s (execOpRemoteTimeout c s)) = invView s := by
  refine invView_live (invView_runOp _ _ _ fun k => invView_upd s ?_ rfl rfl)
  dsimp only
  split
  · rfl
  · split <;> rfl

@[simp] theorem invView_execDataFlit (l flit crcOk) (s : State) :
    invView (resState s (execDataFlit l flit crcOk s)) = invView s := by
  refine invView_live ?_
  simp

@[simp] theorem invView_execLinkCtrlFlit (l flit crcOk) (s : State) :
    invView (resState s (execLinkCtrlFlit l flit crcOk s)) = invView s := by
  refine invView_live ?_
  simp

/-! ### Boot.lean -/

@[simp] theorem invView_execOpFwUpdateData (c) (s : State) :
    invView (resState s (execOpFwUpdateData c s)) = invView s := by
  refine invView_live (invView_plainOp _ _ _ fun k => ?_)
  split <;> simp

@[simp] theorem invView_execOpFwUpdateCommit (c) (s : State) :
    invView (resState s (execOpFwUpdateCommit c s)) = invView s := by
  refine invView_live (invView_runOp _ _ _ fun k => ?_)
  split <;> simp [modSec]

@[simp] theorem invView_execOpLifecycleStatus (c) (s : State) :
    invView (resState s (execOpLifecycleStatus c s)) = invView s := by
  refine invView_live (invView_runOp _ _ _ fun k => ?_)
  simp [modSec]

/-! ### Dump.lean -/

@[simp] theorem invView_execHeartbeat (check) (s : State) :
    invView (resState s (execHeartbeat check s)) = invView s := by
  refine invView_live ?_
  split <;> simp

/-! ### HostLink.lean -/

@[simp] theorem invView_execMsixUnmask (what) (s : State) : invView (resState s (execMsixUnmask what s)) = invView s := by
  refine invView_live ?_
  split <;> simp

/-! ### MailboxOps.lean -/

@[simp] theorem invView_execOpErrorLog (c) (s : State) : invView (resState s (execOpErrorLog c s)) = invView s := by
  refine invView_live (invView_runOp _ _ _ fun k => ?_)
  simp

/-! ### TableOps.lean -/

@[simp] theorem invView_execOpTableEpochAt (c) (s : State) :
    invView (resState s (execOpTableEpochAt c s)) = invView s := by
  refine invView_live ?_
  split <;> simp

@[simp] theorem invView_execOpTableStats (c) (s : State) : invView (resState s (execOpTableStats c s)) = invView s := by
  refine invView_live ?_
  split <;> simp

/-! ### HostReads.lean -/

@[simp] theorem invView_execHostReadCompletion (tag data) (s : State) :
    invView (resState s (execHostReadCompletion tag data s)) = invView s := by
  refine invView_live ?_
  split <;> simp

@[simp] theorem invView_execAtsTranslationCompletion (id resp) (s : State) :
    invView (resState s (execAtsTranslationCompletion id resp s)) = invView s := by
  refine invView_live ?_
  split <;> simp

@[simp] theorem invView_execCompletionTimeout (tag) (s : State) :
    invView (resState s (execCompletionTimeout tag s)) = invView s := by
  refine invView_live ?_
  dsimp only
  repeat' split
  all_goals simp

/-! ### MailboxFlow.lean -/

@[simp] theorem invView_execMaxFirmwareTimeExpiry (c) (s : State) :
    invView (resState s (execMaxFirmwareTimeExpiry c s)) = invView s := by
  refine invView_live ?_
  split <;> simp

/-! ### Matrix.lean -/

@[simp] theorem invView_execMmRun (n op bad) (s : State) : invView (resState s (execMmRun n op bad s)) = invView s := by
  refine invView_live ?_
  split <;> simp

/-! ### Router.lean -/

@[simp] theorem invView_execPacketForward (i) (s : State) : invView (resState s (execPacketForward i s)) = invView s := by
  refine invView_live ?_
  dsimp only
  repeat' split
  all_goals simp

/-! ### Remote.lean -/

@[simp] theorem invView_execRatlineRead (i) (s : State) : invView (resState s (execRatlineRead i s)) = invView s := by
  refine invView_live ((invView_peerEnd _ _ _ fun _ _ _ => by simp).trans ?_)
  refine invView_incoming _ _ _ (fun _ _ => by simp) fun _ _ => ?_
  dsimp only
  split <;> simp

@[simp] theorem invView_execRatlineWrite (i) (s : State) : invView (resState s (execRatlineWrite i s)) = invView s := by
  refine invView_live ((invView_peerEnd _ _ _ fun _ _ _ => by simp).trans ?_)
  refine invView_incoming _ _ _ (fun _ _ => by simp) fun _ _ => ?_
  dsimp only
  split <;> simp

@[simp] theorem invView_execRatlineAdd (i) (s : State) : invView (resState s (execRatlineAdd i s)) = invView s := by
  refine invView_live ((invView_peerEnd _ _ _ fun _ _ _ => by simp).trans ?_)
  refine invView_incoming _ _ _ (fun _ _ => by simp) fun _ _ => ?_
  dsimp only
  split
  · simp
  · split <;> simp

@[simp] theorem invView_execRatlineAddUpdateForm (i) (s : State) :
    invView (resState s (execRatlineAddUpdateForm i s)) = invView s := by
  refine invView_live (invView_incoming _ _ _ (fun _ _ => by simp) fun _ _ => ?_)
  split <;> simp

@[simp] theorem invView_execRatlineSignal (i) (s : State) : invView (resState s (execRatlineSignal i s)) = invView s := by
  refine invView_live (invView_incoming _ _ _ (fun _ _ => by simp) fun _ _ => ?_)
  dsimp only
  repeat' split
  all_goals simp

@[simp] theorem invView_execRatlineLookup (i) (s : State) : invView (resState s (execRatlineLookup i s)) = invView s := by
  refine invView_live (invView_incoming _ _ _ (fun _ _ => by simp) fun _ _ => ?_)
  dsimp only
  repeat' split
  all_goals simp

@[simp] theorem invView_execRemoteTimeoutFire (tag) (s : State) :
    invView (resState s (execRemoteTimeoutFire tag s)) = invView s := by
  refine invView_live ?_
  split <;> simp

/-! ### SeqFlow.lean -/

@[simp] theorem invView_execSeqJ (n t) (s : State) : invView (resState s (execSeqJ n t s)) = invView s := by
  refine invView_live (invView_seqDo _ _ _ _ fun _ _ => ?_)
  simp

@[simp] theorem invView_execSeqCall (n t) (s : State) : invView (resState s (execSeqCall n t s)) = invView s := by
  refine invView_live (invView_seqDo _ _ _ _ fun _ _ => ?_)
  simp

@[simp] theorem invView_execSeqJr (n t) (s : State) : invView (resState s (execSeqJr n t s)) = invView s := by
  refine invView_live (invView_seqDo _ _ _ _ fun _ _ => ?_)
  simp

@[simp] theorem invView_execSeqCallr (n t) (s : State) : invView (resState s (execSeqCallr n t s)) = invView s := by
  refine invView_live (invView_seqDo _ _ _ _ fun _ _ => ?_)
  simp

@[simp] theorem invView_execSeqSpb (n t) (s : State) : invView (resState s (execSeqSpb n t s)) = invView s := by
  refine invView_live (invView_seqHeld _ _ _ _ fun _ _ => ?_)
  simp

@[simp] theorem invView_execSeqBrk (n t) (s : State) : invView (resState s (execSeqBrk n t s)) = invView s := by
  refine invView_live (invView_seqHeld _ _ _ _ fun _ _ => ?_)
  simp

/-! ### SeqMem.lean -/

@[simp] theorem invView_execSeqCrr (n t) (s : State) : invView (resState s (execSeqCrr n t s)) = invView s := by
  refine invView_live (invView_seqDo _ _ _ _ fun _ _ => ?_)
  split <;> simp

@[simp] theorem invView_execSeqSrd (n t) (s : State) : invView (resState s (execSeqSrd n t s)) = invView s :=
  invView_live (invView_seqHeld _ _ _ _ fun _ _ => invView_withObj _ _ _ fun _ => rfl)

@[simp] theorem invView_execSeqSig (n t) (s : State) : invView (resState s (execSeqSig n t s)) = invView s := by
  refine invView_live (invView_seqHeld _ _ _ _ fun _ _ => ?_)
  simp

@[simp] theorem invView_execSeqSset (n t) (s : State) : invView (resState s (execSeqSset n t s)) = invView s := by
  refine invView_live (invView_seqHeld _ _ _ _ fun _ _ => ?_)
  simp

@[simp] theorem invView_execSeqWarm (n t) (s : State) : invView (resState s (execSeqWarm n t s)) = invView s :=
  invView_live (invView_seqHeld _ _ _ _ fun _ _ => invView_arm _ _ _ _ _ _ fun _ h => h)

@[simp] theorem invView_execSeqWait (n t) (s : State) : invView (resState s (execSeqWait n t s)) = invView s := by
  refine invView_live (invView_seqHeld _ _ _ _ fun _ _ => ?_)
  split
  · simp
  · exact invView_arm _ _ _ _ _ _ fun u h => by simp [h]

/-- The commands that may change what `Inv` speaks of: the coherence mode, resets, boot and the life cycle. -/
def changesInv : Instr → Bool
  | .opCoherenceMode _ | .warmReset | .coldReset _ | .dbgColdReqWrite _ | .railUndervoltage _ _ | .boot _
    | .towerTrainingDone _ _ | .opLifecycleAdvance _ | .bar0WritePlain _ _ _ => true
  | _ => false

theorem invView_exec {i : Instr} (s : State) (h : changesInv i = false) :
    invView (resState s (exec i s)) = invView s := by
  cases i with
  | opCoherenceMode | warmReset | coldReset | dbgColdReqWrite | railUndervoltage | boot | towerTrainingDone |
    opLifecycleAdvance | bar0WritePlain => contradiction
  | deepPortLinkDown | deepPortLinkReturn =>
    simp [exec, execDeepPortLinkDown, execDeepPortLinkReturn]
  | opCoreBridle | opCoreUnbridle | opCoreStatus =>
    simp [exec, execOpCoreBridle, execOpCoreUnbridle, execOpCoreStatus]
  | syncWaitTimeout =>
    simp [exec, execSyncWaitTimeout]
  | vecAdd | vecSub | vecMul | vecFma | vecMin | vecMax | vecDiv | vecSqrt | vecRsqrt | vecExp | vecLog | vecTanh |
    vecSigmoid | vecGelu | vecRelu | vecConvert | vecRsum | vecRmax | vecQuant | vecRequant | vecMxquant | vecDequant =>
    simp [exec, execVecAdd, execVecSub, execVecMul, execVecFma, execVecMin, execVecMax, execVecDiv, execVecSqrt, execVecRsqrt,
      execVecExp, execVecLog, execVecTanh, execVecSigmoid, execVecGelu, execVecRelu, execVecConvert, execVecRsum,
      execVecRmax, execVecQuant, execVecRequant, execVecMxquant, execVecDequant]
  | epochSwitch | prevBusyClear =>
    simp [exec, execEpochSwitch, execPrevBusyClear]
  | teUpdate | rqUpdTailWrite =>
    simp [exec, execTeUpdate, execRqUpdTailWrite]
  | reclaimComplete =>
    simp [exec, execReclaimComplete]
  | rqSqTailWrite | rqCqHeadWrite | rqQStatusClear | rqSyncSelWrite =>
    simp [exec, execRqSqTailWrite, execRqCqHeadWrite, execRqQStatusClear, execRqSyncSelWrite]
  | patrolScrub | towerTemperatureChange | opRowcacheConfig | opDeepPortConfig =>
    simp [exec, execPatrolScrub, execTowerTemperatureChange, execOpRowcacheConfig, execOpDeepPortConfig]
  | opCtxCreate | opCtxDestroy | opMap | opUnmap | opTlbInval | opMigrate | migratePage =>
    simp [exec, execOpCtxCreate, execOpCtxDestroy, execOpMap, execOpUnmap, execOpTlbInval, execOpMigrate, execMigratePage]
  | opPlanLoad | opPlanUnload | opQueueCreate | opReplayWindow | opSyncAlloc | opSyncFree =>
    simp [exec, execOpPlanLoad, execOpPlanUnload, execOpQueueCreate, execOpReplayWindow, execOpSyncAlloc, execOpSyncFree]
  | opCoreFence =>
    simp [exec, execOpCoreFence]
  | frequencyGateStart | opCalRun | opCalRead | calSlewingClear =>
    simp [exec, execFrequencyGateStart, execOpCalRun, execOpCalRead, execCalSlewingClear]
  | gnssQualify | gnssDisqualify | ppsInEdge | ref10mLoss | ppsInMissing | sourceTakeover | lock24hSet | leapSecond |
    tbSlewingClear | tbSnapLatch | ppsOutRise | ppsOutFall | exchangeIntervalMissed | sync | delayReq | delayResp |
    opTimeConfig | opTimeSet | timeSetTimeout | opTimeStatus | refPresenceDecided | calLoopbacksDone | frequencyGateEnd =>
    simp [exec, execGnssQualify, execGnssDisqualify, execPpsInEdge, execRef10mLoss, execPpsInMissing, execSourceTakeover,
      execLock24hSet, execLeapSecond, execTbSlewingClear, execTbSnapLatch, execPpsOutRise, execPpsOutFall,
      execExchangeIntervalMissed, execSync, execDelayReq, execDelayResp, execOpTimeConfig, execOpTimeSet,
      execTimeSetTimeout, execOpTimeStatus, execRefPresenceDecided, execCalLoopbacksDone, execFrequencyGateEnd]
  | samplePortFault | samplePortFaultClear | sampleTimeTag | search | verify | searchListReturn | pullInLock |
    pullInTimeout | trackLoss | coherentIntervalEnd | syncEventVerified | cn0Expire | measurementEpoch |
    surveyComplete | holdResidualCheck | opGnssConfig | opGnssSurvey | opGnssPosition | opGnssStream | opGnssAssist =>
    simp [exec, execSamplePortFault, execSamplePortFaultClear, execSampleTimeTag, execSearch, execVerify, execSearchListReturn,
      execPullInLock, execPullInTimeout, execTrackLoss, execCoherentIntervalEnd, execSyncEventVerified,
      execCn0Expire, execMeasurementEpoch, execSurveyComplete, execHoldResidualCheck, execOpGnssConfig,
      execOpGnssSurvey, execOpGnssPosition, execOpGnssStream, execOpGnssAssist]
  | ratlineLinkLoss | opLinkUp | opLinkDown | opFabricStatus | nakFlit | idleFlit | timesyncFlit =>
    simp [exec, execRatlineLinkLoss, execOpLinkUp, execOpLinkDown, execOpFabricStatus, execNakFlit, execIdleFlit,
      execTimesyncFlit]
  | hotspotTemperatureChange | powerSample | pwrCapNChange | overcurrent | reefLevelStep | opPowerLimit |
    opReefStatus | opBoost | opThermalRead | opDomainPower =>
    simp [exec, execHotspotTemperatureChange, execPowerSample, execPwrCapNChange, execOvercurrent, execReefLevelStep,
      execOpPowerLimit, execOpReefStatus, execOpBoost, execOpThermalRead, execOpDomainPower]
  | firmwareStart | bootReady | opFwUpdateBegin | opAttest | tamper | tamperNRelease | jtagInstruction =>
    simp [exec, execFirmwareStart, execBootReady, execOpFwUpdateBegin, execOpAttest, execTamper, execTamperNRelease,
      execJtagInstruction]
  | opHeartbeatConfig | opDump | capture | freeze | captureDone =>
    simp [exec, execOpHeartbeatConfig, execOpDump, execCapture, execFreeze, execCaptureDone]
  | hostLinkTrain | hostLinkDown | bar0BadAccess | bar4Read | bar4Write | cxlMemRead | cxlMemWrite | bar4Resize |
    msixGapEnd | intStatusClear | intEnableWrite | atsInvalidation =>
    simp [exec, execHostLinkTrain, execHostLinkDown, execBar0BadAccess, execBar4Read, execBar4Write, execCxlMemRead,
      execCxlMemWrite, execBar4Resize, execMsixGapEnd, execIntStatusClear, execIntEnableWrite, execAtsInvalidation]
  | opNop | opGetInfo | opMbxGrant | opEventRing | opHealthSummary =>
    simp [exec, execOpNop, execOpGetInfo, execOpMbxGrant, execOpEventRing, execOpHealthSummary]
  | opTableCreate | opTableDestroy | opUpdateStreamOpen | opUpdateStreamClose =>
    simp [exec, execOpTableCreate, execOpTableDestroy, execOpUpdateStreamOpen, execOpUpdateStreamClose]
  | mbxDoorbell | mbxStatusClear | mbxAck | solpReq | solpStat | opMbxReset | fwUpdateSessionTimeout =>
    simp [exec, execMbxDoorbell, execMbxStatusClear, execMbxAck, execSolpReq, execSolpStat, execOpMbxReset,
      execFwUpdateSessionTimeout]
  | mmLoad =>
    simp [exec, execMmLoad]
  | ack | readData | pooled | refused =>
    simp [exec, execAck, execReadData, execPooled, execRefused]
  | flr | perstNAssert | opChipReset =>
    simp [exec, execFlr, execPerstNAssert, execOpChipReset]
  | seqAdd | seqSub | seqAnd | seqOr | seqXor | seqSll | seqSrl | seqSra | seqSlt | seqSltu | seqMin | seqMax |
    seqMinu | seqMaxu | seqAddi | seqAndi | seqOri | seqXori | seqSlli | seqSrli | seqSrai | seqMfpl | seqMfph |
    seqMflk | seqLui | seqMul | seqMulu | productLand | seqMtlk | seqRdtime =>
    simp [exec, execSeqAdd, execSeqSub, execSeqAnd, execSeqOr, execSeqXor, execSeqSll, execSeqSrl, execSeqSra, execSeqSlt,
      execSeqSltu, execSeqMin, execSeqMax, execSeqMinu, execSeqMaxu, execSeqAddi, execSeqAndi, execSeqOri,
      execSeqXori, execSeqSlli, execSeqSrli, execSeqSrai, execSeqMfpl, execSeqMfph, execSeqMflk, execSeqLui,
      execSeqMul, execSeqMulu, execProductLand, execSeqMtlk, execSeqRdtime]
  | seqRet | seqBeq | seqBne | seqBlt | seqBge | seqBltu | seqBgeu | seqCdrain | seqHalt =>
    simp [exec, execSeqRet, execSeqBeq, execSeqBne, execSeqBlt, execSeqBge, execSeqBltu, execSeqBgeu, execSeqCdrain,
      execSeqHalt]
  | seqLd | seqLw | seqLbu | seqSt | seqSw | seqSb | seqCrw | seqCop | seqWblk =>
    simp [exec, execSeqLd, execSeqLw, execSeqLbu, execSeqSt, execSeqSw, execSeqSb, execSeqCrw, execSeqCop, execSeqWblk]
  | _ => simp [exec]

end Sys2Proof.Machine

/-! ## 06, 14, 17: the commands that move what `Inv` speaks of (R126, R127, R348, R403), and the statement of O54 -/

namespace Sys2Proof.Machine

/-! ### Checks that pass (05 R430) -/

theorem of_lowestBad_none {l : List (Bool × Nat)} (h : lowestBad l = none) : ∀ x ∈ l, x.1 = false := by
  induction l with
  | nil => simp
  | cons x l ih =>
    obtain ⟨b, o⟩ := x
    cases rest : lowestBad l with
    | some m => cases b <;> simp [lowestBad, rest] at h
    | none =>
      cases b with
      | true => simp [lowestBad, rest] at h
      | false => simpa using ih rest

/-- Once no check fails, none of step 5 does. -/
theorem param_pass {ch : MbxChan} {k : Chk} (h : firstFail ch k = none) : ∀ x ∈ k.param, x.1 = false := by
  apply of_lowestBad_none
  cases low : lowestBad k.param with
  | none => rfl
  | some o => simp [firstFail, low] at h

/-! ### A command keeps `Inv` where its effect does -/

theorem inv_ite {c : Prop} [Decidable c] {s t : State} (hs : Inv s) (ht : Inv t) : Inv (if c then s else t) := by
  split <;> assumption

theorem inv_live {s : State} {f : State → State} (h : Inv s) (hf : Inv (f s)) : Inv (resState s (live s f)) := inv_ite h hf

theorem inv_barWrite {s : State} {f : State → State} (h : Inv s) (hf : Inv (f s)) : Inv (resState s (barWrite s f)) :=
  inv_live h (inv_ite hf h)

theorem inv_plainOp {s : State} (h : Inv s) (c : Chan) (op : Nat) {chk : CmdHeld → Chk} {resp : CmdHeld → State → Bytes}
    {eff : CmdHeld → State → State} (pass : ∀ k, firstFail (chan s c) (chk k) = none → Inv (eff k s)) :
    Inv (plainOp s c op chk resp eff) := by
  unfold plainOp
  split
  · exact h
  · split
    · exact h
    · split
      · exact inv_of_invView (invView_finishCmd _ _ _ _ _) h
      next none => exact inv_of_invView (invView_finishCmd _ _ _ _ _) (pass _ none)

theorem inv_runOp {s : State} (h : Inv s) (c : Chan) (op : Nat) {chk : CmdHeld → Chk} {refused : CmdHeld → State → Bytes}
    {eff : CmdHeld → State → Done}
    (pass : ∀ k, (k.begun = false → firstFail (chan s c) (chk k) = none) → Inv (eff k s).state) :
    Inv (runOp s c op chk refused eff) := by
  unfold runOp
  split
  · exact h
  next k _ =>
    split
    · exact h
    · split
      · exact inv_of_invView (invView_finishCmd _ _ _ _ _) h
      next none =>
        have kept := pass k fun b => by simpa [b] using none
        split
        · next e => exact inv_of_invView (invView_finishCmd _ _ _ _ _) (by rwa [e] at kept)
        · next e => exact inv_of_invView (invView_finishCmd _ _ _ _ _) (by rwa [e] at kept)
        · next e => exact inv_of_invView (invView_setBegun _ _) (by rwa [e] at kept)

/-! ### The incarnation number (14 R348) -/

theorem nextInc_ne_zero (n : Half) : nextInc n ≠ 0 := by
  unfold nextInc
  split
  · decide
  · bv_omega

theorem inv_advanceInc {s : State} (h : Inv s) : Inv (advanceInc s) := by
  obtain ⟨-, recorded, coherence⟩ := h
  refine inv_of_invView (invView_norWrite _ _) ?_
  dsimp only
  split
  · exact ⟨nextInc_ne_zero _, nextInc_ne_zero _, coherence⟩
  · exact ⟨nextInc_ne_zero _, recorded, coherence⟩

/-! ### Resets (15 R360, R375) -/

/-- With the coherence mode left, the rest of `Inv` stands. -/
theorem inv_exclusive {s t : State} (h : Inv s) (inc : t.fab.inc = s.fab.inc) (recorded : t.sec.incRec = s.sec.incRec)
    (mode : t.hl.cohMode = 0) (units : t.hl.winUnits = 0) (pending : t.sec.lcPending = s.sec.lcPending)
    (target : t.sec.lcTarget = s.sec.lcTarget) (state : t.sec.lifecycle = s.sec.lifecycle) : Inv t := by
  obtain ⟨hInc, hRec, _, _, _, hPending⟩ := h
  refine ⟨inc ▸ hInc, recorded ▸ hRec, by simp [mode], by simp [mode], fun _ => units, ?_⟩
  rwa [pending, target, state]

theorem inv_coldReset {s : State} (h : Inv s) : Inv (coldReset s) := inv_exclusive h rfl rfl rfl rfl rfl rfl rfl

theorem inv_warmClear {s : State} (h : Inv s) : Inv (warmClear s) := inv_exclusive h rfl rfl rfl rfl rfl rfl rfl

theorem inv_execWarmReset {s : State} (h : Inv s) : Inv (resState s (execWarmReset s)) := by
  refine inv_live h ?_
  dsimp only
  split
  · exact h
  · split
    · exact h
    · have ended := inv_advanceInc (inv_warmClear h)
      split
      · exact inv_of_invView (by simp) ended
      · exact inv_of_invView (by simp) ended

theorem inv_execDbgColdReqWrite {s : State} (h : Inv s) (v : Word) : Inv (resState s (execDbgColdReqWrite v s)) :=
  inv_barWrite h (inv_ite (inv_coldReset h) h)

theorem inv_execColdReset {s : State} (h : Inv s) (w : ColdTrigger) : Inv (resState s (execColdReset w s)) := by
  refine inv_live h ?_
  cases w with
  | pin lowUs => exact inv_ite (inv_coldReset h) h
  | rail | debug => exact inv_coldReset h

theorem inv_execRailUndervoltage {s : State} (h : Inv s) (r : Rail) (lowNs : Nat) :
    Inv (resState s (execRailUndervoltage r lowNs s)) := by
  refine inv_live h ?_
  cases r <;> exact inv_ite (inv_coldReset h) h

/-! ### The life cycle (17 R403, R404) -/

/-- A transition that completes leaves none pending. -/
theorem inv_transit {s : State} (h : Inv s) : Inv (transit s) := by
  obtain ⟨inc, recorded, mode, shared, exclusive, -⟩ := h
  exact ⟨inc, recorded, mode, shared, exclusive, fun p => absurd p Bool.false_ne_true⟩

theorem inv_execBoot {s : State} (h : Inv s) (b : BootInput) : Inv (resState s (execBoot b s)) := by
  have latched : Inv (modSec s fun x => { x with
      cold := false, addrSel := b.addrSel, tamperPin := b.tamperLow, tamperNow := b.tamperLow }) :=
    inv_of_invView (by simp) h
  have fused (c : Bool) := inv_ite (c := c) (inv_transit latched) latched
  have failed {u : State} (hu : Inv u) : Inv (modSec u fun x => { x with phase := 9, failCode := 2 }) :=
    inv_of_invView (by simp) hu
  exact inv_ite h (inv_ite (fused _) (failed (fused _)))

theorem inv_execTowerTrainingDone {s : State} (h : Inv s) (ok : Bool) (found : List DeepPortFound) :
    Inv (resState s (execTowerTrainingDone ok found s)) := by
  refine inv_live h ?_
  dsimp only
  split
  · exact h
  · split
    · exact inv_of_invView (by simp) h
    · exact inv_advanceInc (inv_of_invView (by simp [invView_foldl]) h)

theorem inv_execOpLifecycleAdvance {s : State} (h : Inv s) (c : Chan) :
    Inv (resState s (execOpLifecycleAdvance c s)) := by
  refine inv_live h (inv_runOp h _ _ fun k pass => ?_)
  dsimp only
  split
  · split
    · exact inv_transit h
    · exact h
  next fresh =>
    have checked := param_pass (pass (by simpa using fresh)) (bad _ 0) List.mem_cons_self
    have target : k.f 0 1 = s.sec.lifecycle.toNat + 1 ∧ k.f 0 1 ≤ 3 := by simpa [bad] using checked
    split
    · obtain ⟨inc, recorded, mode, shared, exclusive, -⟩ := h
      refine ⟨inc, recorded, mode, shared, exclusive, fun _ => ?_⟩
      show (BitVec.ofNat 2 (k.f 0 1)).toNat = s.sec.lifecycle.toNat + 1
      rw [BitVec.toNat_ofNat]
      omega
    · exact inv_of_invView (by simp) h

/-! ### The coherence mode (06 R126, R127) -/

theorem cohChk_pass {s : State} {ch : MbxChan} {k : CmdHeld} (pass : firstFail ch (cohChk s k) = none) :
    (k.f 0 1 = 1 ∧ k.f 4 4 = 0) ∨ (k.f 0 1 = 2 ∧ 1 ≤ k.f 4 4 ∧ k.f 4 4 ≤ 256) := by
  have passes (p : Bool) (o : Nat) (m : bad p o ∈ (cohChk s k).param) : p = false := param_pass pass _ m
  have mode := passes (k.f 0 1 != 1 && k.f 0 1 != 2) 0 (by simp [cohChk])
  have alone := passes (k.f 0 1 = 1 && k.f 4 4 != 0) 4 (by simp [cohChk])
  have window := passes (k.f 0 1 = 2 && (k.f 4 4 = 0 || decide (256 < k.f 4 4))) 4 (by simp [cohChk])
  simp only [Bool.and_eq_false_iff, Bool.or_eq_false_iff, bne_eq_false_iff_eq, decide_eq_false_iff_not] at mode alone window
  omega

theorem inv_execOpCoherenceMode {s : State} (h : Inv s) (c : Chan) : Inv (resState s (execOpCoherenceMode c s)) := by
  refine inv_live h (inv_plainOp h _ _ fun k pass => ?_)
  obtain ⟨inc, recorded, -, -, -, pending⟩ := h
  refine ⟨inc, recorded, ?_, ?_, ?_, pending⟩
  all_goals
    dsimp only
    rcases cohChk_pass pass with ⟨mode, units⟩ | ⟨mode, low, high⟩
  all_goals simp [*]
  omega

/-! ### Writes of BAR0 (00 R5) -/

/-- A write that one of the other commands makes. -/
theorem inv_registerCommand {s : State} (h : Inv s) (i : Instr) (still : changesInv i = false) :
    Inv (resState s (exec i s)) := inv_of_invView (invView_exec s still) h

theorem inv_writeMbx {s : State} (h : Inv s) (off : Nat) (v : Word) : Inv (writeMbx s off v) :=
  inv_ite (inv_registerCommand h (.mbxDoorbell _ v) rfl)
    (inv_ite (inv_registerCommand h (.mbxStatusClear _ v) rfl) (inv_of_invView (invView_writePlain s off v) h))

theorem inv_writeRq {s : State} (h : Inv s) (o : Nat) (v : Word) : Inv (writeRq s o v) :=
  inv_ite
    (inv_ite (inv_registerCommand h (.rqSqTailWrite _ v) rfl) (inv_ite (inv_registerCommand h (.rqCqHeadWrite _ v) rfl)
      (inv_ite (inv_registerCommand h (.rqQStatusClear _ v) rfl) h)))
    (inv_ite (inv_registerCommand h (.rqUpdTailWrite _ v) rfl) (inv_ite (inv_registerCommand h (.rqSyncSelWrite _ v) rfl) h))

theorem inv_writeDbg {s : State} (h : Inv s) (o : Nat) (v : Word) : Inv (writeDbg s o v) := by
  have captured : Inv (if v.getLsbD 0 then resState s (execCapture s) else s) :=
    inv_ite (inv_registerCommand h .capture rfl) h
  exact inv_ite (inv_ite (inv_registerCommand captured .freeze rfl) captured) (inv_ite (inv_execDbgColdReqWrite h v) h)

theorem inv_writeReg {s : State} (h : Inv s) (off : Nat) (v : Word) : Inv (writeReg s off v) :=
  inv_ite (inv_writeMbx h off v) (inv_ite (inv_registerCommand h (.intStatusClear v) rfl)
    (inv_ite (inv_registerCommand h (.intEnableWrite v) rfl) (inv_ite (inv_writeRq h _ v)
      (inv_ite (inv_writeDbg h _ v) (inv_of_invView (invView_writePlain s off v) h)))))

theorem inv_execBar0WritePlain {s : State} (h : Inv s) (off : Nat) (wide : Bool) (v : Dword) :
    Inv (resState s (execBar0WritePlain off wide v s)) :=
  inv_barWrite h (inv_ite h (inv_ite (inv_writeReg (inv_writeReg h _ _) _ _) (inv_of_invView (invView_writePlain s _ _) h)))

/-! ### The statement -/

theorem invView_idle (s : State) : invView (idle s) = invView s := by simp [idle, tick]

theorem inv_exec {i : Instr} {s : State} (h : Inv s) : Inv (resState s (exec i s)) := by
  cases moves : changesInv i with
  | false => exact inv_of_invView (invView_exec s moves) h
  | true =>
    cases i with
    | opCoherenceMode c => exact inv_execOpCoherenceMode h c
    | warmReset => exact inv_execWarmReset h
    | coldReset w => exact inv_execColdReset h w
    | dbgColdReqWrite v => exact inv_execDbgColdReqWrite h v
    | railUndervoltage r ns => exact inv_execRailUndervoltage h r ns
    | boot b => exact inv_execBoot h b
    | towerTrainingDone ok found => exact inv_execTowerTrainingDone h ok found
    | opLifecycleAdvance c => exact inv_execOpLifecycleAdvance h c
    | bar0WritePlain off wide v => exact inv_execBar0WritePlain h off wide v
    | _ => contradiction

/-- Settles O54: most commands leave what `Inv` speaks of; resets, boot, the life cycle and the coherence mode move it within `Inv`. -/
theorem stepsKeepInv : Obligations.StepsKeepInv := by
  unfold Obligations.StepsKeepInv
  intro s t h e
  unfold step at e
  split at e
  · cases e
    exact inv_of_invView (invView_idle s) h
  next i rest _ =>
    have kept := inv_exec (i := i) (s := { s with pending := rest }) h
    rwa [e] at kept

end Sys2Proof.Machine

/-! ## 06, 07, 08: a table walk, and a tower controller serving one line (the statement of O17) -/

namespace Sys2Proof.Machine

/-! ### An access that has an owner (07 R167) -/

theorem accOf_accMod {s : State} {id : Nat} {a : Access} (h : accOf s id = some a) (f : Access → Access) :
    accOf (accMod s id f) id = some (f a) := by
  rw [accOf, accMod, tget_tmod, if_pos rfl]
  exact congrArg (Option.map f) h

theorem accOf_accStage {s : State} {id : Nat} {a : Access} (h : accOf s id = some a) (g : AccStage) :
    accOf (accStage s id g) id = some { a with stage := g } := accOf_accMod h _

/-- The access as it stands once it has ended. -/
def Access.endedAt (a : Access) (g : AccStage) (t : Nat) : Access := { a with stage := g, endAt := t }

theorem accEnd_owned {s : State} {id : Nat} {a : Access} (h : accOf s id = some a) (own : a.owner ≠ .gone) (g : AccStage) :
    accEnd s id g = accMod s id fun a => a.endedAt g s.tb.up := by
  have there : ((accOf s id).any fun a => a.owner == .gone) = false := by simp [h, own]
  rw [accEnd, there]
  rfl

theorem accOf_accEnd {s : State} {id : Nat} {a : Access} (h : accOf s id = some a) (own : a.owner ≠ .gone) (g : AccStage) :
    accOf (accEnd s id g) id = some (a.endedAt g s.tb.up) := by
  rw [accEnd_owned h own]
  exact accOf_accMod h _

theorem accFail_owned {s : State} {id : Nat} {a : Access} (h : Owned s id a) (why : AccFail) :
    accFail s id why = accEnd s id (.failed why) := by
  obtain ⟨held, -, ring⟩ := h
  unfold accFail
  rw [held]
  cases why with
  | xlate k =>
    dsimp only
    split
    · next owner => rw [owner] at ring; exact Bool.noConfusion ring
    · rfl
  | _ => rfl

theorem accOf_accFail {s : State} {id : Nat} {a : Access} (h : Owned s id a) (why : AccFail) :
    accOf (accFail s id why) id = some (a.endedAt (.failed why) s.tb.up) := by
  rw [accFail_owned h]
  exact accOf_accEnd h.1 h.2.1 _

/-- What the end of an access leaves of the towers. -/
theorem accEnd_tw (s : State) (id : Nat) (g : AccStage) : (accEnd s id g).tw = s.tw := by
  unfold accEnd
  split <;> rfl

/-- An access of a state with the same accesses has the same owner. -/
theorem Owned.congr {s t : State} {id : Nat} {a : Access} (h : Owned s id a) (same : t.acc = s.acc) : Owned t id a := by
  obtain ⟨held, own, ring⟩ := h
  exact ⟨by rw [accOf, same]; exact held, own, ring⟩

/-! ### Walks (07 R157) -/

/-- A walk that has its turn is not behind a ninth miss of its stream. -/
theorem missesBefore_of_turn {s : State} {id : Nat} {a : Access} (turn : walkTurn s id a = true) :
    ¬ 9 ≤ missesBefore s id a.stream := by
  simp only [walkTurn, Bool.and_eq_true, decide_eq_true_eq] at turn
  omega

theorem snoop_acc (s : State) (dpa : Nat) : (snoop s dpa).acc = s.acc := by
  unfold snoop
  split <;> rfl

theorem snoop_tw (s : State) (dpa : Nat) : (snoop s dpa).tw = s.tw := by
  unfold snoop
  split <;> rfl

/-- A translated access to a tower page waits for the tower's controller (07 R152). -/
theorem issue_tower {s : State} {id : Nat} {a : Access} {e : MapEnt} (held : accOf s id = some a)
    (few : ¬ 9 ≤ missesBefore s id a.stream) (go : xlate s a = .go e) (tower : e.tier = 0) :
    accOf (issue s id) id = some { a with stage := .tower (e.at_ a.dva) } := by
  simp only [issue, held, few, go, if_false, issueAt, tower]
  rw [accOf, snoop_acc]
  exact accOf_accStage held _

/-- A walk that has its turn and finds no entry fails NOT_MAPPED. -/
theorem walk_unmapped {s : State} {id : Nat} {a : Access} {P : State → Prop} (awake : Awake s) (held : accOf s id = some a)
    (at_ : a.stage = .walk) (turn : walkTurn s id a = true) (unmapped : findMap s a.ctx a.dva = none)
    (p : P (accFail s id (.xlate 2))) : Runs (.translationWalkDone id) s P :=
  runs_live (show execTranslationWalkDone id s = _ from rfl) awake (by simpa [held, at_, turn, unmapped] using p)

/-- A walk that has its turn and finds an entry issues the access, unless it reads a poisoned line. -/
theorem walk_mapped {s : State} {id : Nat} {a : Access} {e : MapEnt} {P : State → Prop} (awake : Awake s)
    (held : accOf s id = some a) (at_ : a.stage = .walk) (turn : walkTurn s id a = true) (found : findMap s a.ctx a.dva = some e)
    (p : P (if walkPoisoned s a.ctx a.dva then accFail s id (.xlate 2) else issue (tlbUse s a.stream a.oct e) id)) :
    Runs (.translationWalkDone id) s P :=
  runs_live (show execTranslationWalkDone id s = _ from rfl) awake (by simpa [held, at_, turn, found] using p)

/-! ### A tower controller serves a line (08 R175, R182, R185) -/

/-- A line the host holds is snooped, and the host holds it no more (06 R125). -/
theorem snoop_of_holds {s : State} {dpa : Nat} (h : hostHolds s dpa = true) :
    snoop s dpa = emit { s with hl := { s.hl with held := s.hl.held.filter (· != dpa / 64) } } (.backInval (dpa / 64 * 64)) := by
  simp only [hostHolds, Bool.and_eq_true] at h
  obtain ⟨⟨window, link⟩, -⟩ := h
  simp [snoop, window, link]

theorem hostHolds_snoop {s : State} {dpa : Nat} (h : hostHolds s dpa = true) : hostHolds (snoop s dpa) dpa = false := by
  rw [snoop_of_holds h]
  simp [hostHolds]

/-- A line that the host does not hold is served. -/
theorem line_served {s : State} {id : Nat} {a : Access} {dpa : Nat} {P : State → Prop} (awake : Awake s)
    (held : accOf s id = some a) (at_ : a.stage = .tower dpa) (free : hostHolds s dpa = false)
    (p : P (towerServe s id dpa a .none)) : Runs (.towerLineAccess id .none) s P :=
  runs_live (show execTowerLineAccess id .none s = _ from rfl) awake (by simpa [held, at_, free] using p)

theorem towerRead_clean {s : State} {dpa cell : Nat} (c : cellOf s dpa = some cell) (n source : Nat) :
    towerRead s dpa n .none source = (s, memRead s.tw.cells cell n, isPoisoned s cell) := by
  simp [towerRead, c, lineCheck]

theorem towerWrite_stores {s : State} {dpa cell : Nat} {d : Bytes} (c : cellOf s dpa = some cell)
    (ok : isPoisoned s cell = false ∨ d.length = 64) (mark : Bool) :
    towerWrite s dpa d mark .none = (setPoison (storeCells s cell d) cell mark, true) := by
  by_cases whole : d.length = 64
  · simp [towerWrite, c, whole]
  · have clean : isPoisoned s cell = false := ok.resolve_right whole
    simp [towerWrite, c, whole, lineCheck, clean]

theorem towerWrite_poisoned {s : State} {dpa cell : Nat} {d : Bytes} (c : cellOf s dpa = some cell)
    (poisoned : isPoisoned s cell = true) (part : d.length ≠ 64) (mark : Bool) :
    towerWrite s dpa d mark .none = (s, false) := by
  simp [towerWrite, c, part, lineCheck, poisoned]

/-- Settles O17: a walk ends in its entry or NOT_MAPPED, and a tower controller or a row cache serves one line. -/
theorem lineAccesses : Obligations.LineAccesses := by
  unfold Obligations.LineAccesses
  intro s id a awake owned
  have ⟨held, own, _⟩ := owned
  refine ⟨?_, ?_, ?_, ?_, ?_, ?_, ?_, ?_⟩
  · intro at_ turn unmapped
    exact walk_unmapped awake held at_ turn unmapped ⟨_, accOf_accFail owned _, rfl⟩
  · intro e at_ turn found go tower
    refine walk_mapped awake held at_ turn found ?_
    by_cases bad : walkPoisoned s a.ctx a.dva = true
    · simp only [bad, if_true]
      exact ⟨_, accOf_accFail owned _, rfl⟩
    · simp only [bad]
      exact ⟨_, issue_tower held (missesBefore_of_turn turn) go tower, rfl⟩
  · intro e at_ turn found clean go tower
    refine walk_mapped awake held at_ turn found ?_
    simp only [clean]
    exact issue_tower held (missesBefore_of_turn turn) go tower
  · intro dpa at_ holds
    refine runs_live (show execTowerLineAccess id .none s = _ from rfl) awake ?_
    simp only [held, at_, holds, if_true]
    refine ⟨snoop_tw s dpa, ?_, hostHolds_snoop holds, ?_⟩
    · rw [accOf, snoop_acc]
      exact held
    · rw [snoop_of_holds holds]
      rfl
  · intro d x at_ has
    refine runs_live (show execTowerLineAccess id .none s = _ from rfl) awake ?_
    have touched : accOf (rcTouch s a.oct x) id = some a := held
    simp only [held, at_, rowCacheServe, has, reduceCtorEq, if_false, accEnd_tw]
    exact ⟨rfl, _, accOf_accEnd (accOf_accMod touched _) own _, rfl, rfl⟩
  · intro dpa cell at_ free read c
    refine line_served awake held at_ free ?_
    simp only [towerServe, read, towerRead_clean c]
    exact ⟨accEnd_tw _ _ _, _, accOf_accEnd (accOf_accMod held _) own _, rfl, rfl, rfl⟩
  · intro dpa cell at_ free write clean c ok wf
    refine line_served awake held at_ free ?_
    have stored : accOf (setPoison (storeCells s cell a.data) cell false) id = some a := held
    simp only [towerServe, write, clean, towerWrite_stores c ok, if_true, accEnd_tw]
    exact ⟨memRead_memWrite wf _ _, fun x out => memGet_memWrite_other wf _ _ _ out, _,
      accOf_accEnd (id := id) stored own _, rfl⟩
  · intro dpa cell at_ free write c poisoned part
    refine line_served awake held at_ free ?_
    simp only [towerServe, write, towerWrite_poisoned c poisoned part, if_neg Bool.false_ne_true]
    refine ⟨?_, _, accOf_accFail owned _, rfl⟩
    rw [accFail_owned owned, accEnd_tw]

end Sys2Proof.Machine

/-! ## 06: host reads and writes of tower memory (R121, R122, R124, R134; the statement of O13) -/

namespace Sys2Proof.Machine

/-! ### The lines of a host access (06 R121) -/

/-- An access within one line is one piece. -/
theorem bar4Cuts_one {a n : Nat} (some_ : 0 < n) (fits : a % 64 + n ≤ 64) : bar4Cuts (n + 1) a n = [(a, n)] := by
  have whole : min n (64 - a % 64) = n := by omega
  have rest : bar4Cuts n (a + n) 0 = [] := by cases n <;> rfl
  rw [bar4Cuts, if_neg (by omega), whole, Nat.sub_self, rest]

/-- The pieces of an access have its length in all. -/
theorem bar4Cuts_sum {fuel a n : Nat} (enough : n < fuel) : ((bar4Cuts fuel a n).map Prod.snd).sum = n := by
  induction fuel generalizing a n with
  | zero => omega
  | succ fuel ih =>
    rw [bar4Cuts]
    split
    · next none_ => rw [none_]; rfl
    · rw [List.map_cons, List.sum_cons, ih (by omega)]
      dsimp only
      omega

theorem errOf_mild {errs : List (Nat × LineErr)} (mild : ∀ e ∈ errs, e.2 ≠ .uncorrectable) (a : Nat) :
    errOf errs a ≠ .uncorrectable := by
  unfold errOf
  cases found : errs.find? fun e => e.1 = a / 64 with
  | none => exact LineErr.noConfusion
  | some e => exact mild e (List.mem_of_find?_eq_some found)

/-- A line read without an uncorrectable error stays as it is: at most an error is counted (08 R182). -/
theorem lineCheck_mild {err : LineErr} (mild : err ≠ .uncorrectable) (s : State) (dpa cell source : Nat) :
    ∃ ce, lineCheck s dpa cell err source = { s with tw := { s.tw with ce := ce } } := by
  cases err with
  | none => exact ⟨_, rfl⟩
  | corrected =>
    rw [lineCheck]
    split
    · exact ⟨_, rfl⟩
    · exact ⟨_, rfl⟩
  | uncorrectable => exact absurd rfl mild

theorem towerRead_mild {err : LineErr} (mild : err ≠ .uncorrectable) (s : State) (dpa n source : Nat) :
    (towerRead s dpa n err source).1.tw.cells = s.tw.cells ∧ (towerRead s dpa n err source).2.1.length = n := by
  unfold towerRead
  split
  · exact ⟨rfl, zeros_length n⟩
  · next cell _ =>
    obtain ⟨ce, e⟩ := lineCheck_mild mild s dpa cell source
    rw [e]
    exact ⟨rfl, memRead_length _ _ _⟩

theorem setInt_tw (s : State) (b : Fin 6) : (setInt s b).tw = s.tw := by
  obtain ⟨_, _, _, _, e⟩ := Announced.ofSetInt s b
  rw [e]

/-! ### Host reads (06 R122) -/

/-- The piece `c` of a host read, joined to what was read before it. -/
def joinLine (errs : List (Nat × LineErr)) (r : State × Bytes × Bool) (c : Nat × Nat) : State × Bytes × Bool :=
  let line := towerRead r.1 c.1 c.2 (errOf errs c.1) 0
  (line.1, r.2.1 ++ line.2.1, r.2.2 || line.2.2)

theorem hostTowerRead_eq (s : State) (a n : Nat) (errs : List (Nat × LineErr)) :
    hostTowerRead s a n errs =
      let r := (bar4Cuts (n + 1) a n).foldl (joinLine errs) (s, [], false)
      (if r.2.2 then setInt r.1 1 else r.1, r.2) := rfl

/-- Without uncorrectable errors the pieces change no byte, and each adds its length. -/
theorem joinLines_mild {errs : List (Nat × LineErr)} (mild : ∀ e ∈ errs, e.2 ≠ .uncorrectable) (l : List (Nat × Nat))
    (r : State × Bytes × Bool) :
    (l.foldl (joinLine errs) r).1.tw.cells = r.1.tw.cells ∧
      (l.foldl (joinLine errs) r).2.1.length = r.2.1.length + (l.map Prod.snd).sum := by
  induction l generalizing r with
  | nil => exact ⟨rfl, rfl⟩
  | cons c l ih =>
    obtain ⟨cells, len⟩ := towerRead_mild (errOf_mild mild c.1) r.1 c.1 c.2 0
    obtain ⟨restCells, restLen⟩ := ih (joinLine errs r c)
    refine ⟨restCells.trans cells, restLen.trans ?_⟩
    rw [joinLine, List.length_append, len, List.map_cons, List.sum_cons, Nat.add_assoc]

/-- A read without uncorrectable errors changes no byte, and has the length asked for. -/
theorem hostTowerRead_mild {errs : List (Nat × LineErr)} (mild : ∀ e ∈ errs, e.2 ≠ .uncorrectable) (s : State) (a n : Nat) :
    (hostTowerRead s a n errs).1.tw.cells = s.tw.cells ∧ (hostTowerRead s a n errs).2.1.length = n := by
  obtain ⟨cells, len⟩ := joinLines_mild mild (bar4Cuts (n + 1) a n) (s, [], false)
  rw [hostTowerRead_eq]
  refine ⟨?_, ?_⟩
  · dsimp only
    split
    · rw [setInt_tw, cells]
    · exact cells
  · rw [len, bar4Cuts_sum (Nat.lt_succ_self n)]
    exact Nat.zero_add n

/-- A read within one line that is not poisoned, and that meets no error, gives the line's bytes. -/
theorem hostTowerRead_line {s : State} {a n cell : Nat} {errs : List (Nat × LineErr)} (some_ : 0 < n) (fits : a % 64 + n ≤ 64)
    (c : cellOf s a = some cell) (clean : isPoisoned s cell = false) (sound : errOf errs a = .none) :
    hostTowerRead s a n errs = (s, memRead s.tw.cells cell n, false) := by
  simp [hostTowerRead, bar4Cuts_one some_ fits, sound, towerRead_clean c, clean]

/-! ### Host writes (06 R122, 08 R175, R185) -/

/-- With every byte enabled nothing of the old bytes is left. -/
theorem mergeBytes_all (d b : Bytes) (same : b.length = d.length) : mergeBytes b (d.map some) = d := by
  induction d generalizing b with
  | nil => rw [List.length_eq_zero_iff.mp same]; rfl
  | cons x d ih =>
    cases b with
    | nil => exact absurd same (by simp)
    | cons y b => rw [List.map_cons, mergeBytes, ih b (Nat.succ.inj same)]

/-- The line of a host write of every byte, as it leaves it: only counts of errors found on the way may differ else. -/
theorem hostLineWrite_all {s : State} {a cell : Nat} {d : Bytes} {err : LineErr} (c : cellOf s a = some cell)
    (some_ : 0 < d.length) (mild : d.length = 64 ∨ (err ≠ .uncorrectable ∧ isPoisoned s cell = false)) :
    ∃ ce po, hostLineWrite s a (d.map some) false err =
        { s with tw := { s.tw with ce := ce, poison := po, cells := memWrite s.tw.cells cell d } } ∧
      (d.length = 64 → po.contains (cell / 64) = false) := by
  have notNone : ((d.map some).all fun b => b.isNone) = false := by
    cases d with
    | nil => exact absurd some_ (by simp)
    | cons x d => rfl
  have every : ((d.map some).all fun b => b.isSome) = true := by simp
  have merged : ∀ m : Mem, mergeBytes (memRead m cell d.length) (d.map some) = d :=
    fun m => mergeBytes_all d _ (memRead_length m cell _)
  by_cases whole : d.length = 64
  · refine ⟨s.tw.ce, s.tw.poison.filter (· != cell / 64), ?_, fun _ => by simp⟩
    simp only [hostLineWrite, c, notNone, every, merged, List.length_map, decide_eq_true whole, Bool.and_true, Bool.or_false,
      if_true, Bool.false_eq_true, if_false]
    rfl
  · obtain ⟨mild, clean⟩ := mild.resolve_left whole
    obtain ⟨ce, e⟩ := lineCheck_mild mild s a cell 0
    refine ⟨ce, s.tw.poison, ?_, fun h => absurd h whole⟩
    have clean' : isPoisoned { s with tw := { s.tw with ce := ce } } cell = false := clean
    simp only [hostLineWrite, c, notNone, every, merged, List.length_map, decide_eq_false whole, Bool.false_and,
      Bool.or_false, Bool.false_eq_true, if_false, e, clean']
    rfl

theorem hostTowerWrite_line {s : State} {a : Nat} {d : Bytes} (errs : List (Nat × LineErr)) (some_ : 0 < d.length)
    (fits : a % 64 + d.length ≤ 64) :
    hostTowerWrite s a (d.map some) false errs = hostLineWrite s a (d.map some) false (errOf errs a) := by
  have all : ((d.map some).drop (a - a)).take d.length = d.map some := by simp
  rw [hostTowerWrite, List.length_map, bar4Cuts_one some_ fits, List.foldl_cons, List.foldl_nil, all]

/-! ### Lines of the shared-line window (06 R124, R125) -/

theorem mem_insertNat (l : List Nat) (a : Nat) : a ∈ insertNat l a := by
  induction l with
  | nil => exact List.mem_singleton_self a
  | cons b l ih =>
    unfold insertNat
    split
    · exact List.mem_cons_self
    · split
      · next same => rw [same]; exact List.mem_cons_self
      · exact List.mem_cons_of_mem _ ih

theorem hostTakes_in {s : State} {dpa : Nat} (w : inWindow s dpa = true) : dpa / 64 ∈ (hostTakes s dpa).hl.held := by
  rw [hostTakes, if_pos w]
  exact mem_insertNat _ _

theorem hostTakes_out {s : State} {dpa : Nat} (w : inWindow s dpa = false) : hostTakes s dpa = s := by
  rw [hostTakes, w]
  rfl

theorem hostTakes_tw (s : State) (dpa : Nat) : (hostTakes s dpa).tw = s.tw := by
  unfold hostTakes
  split <;> rfl

theorem hostTakes_sent (s : State) (dpa : Nat) : (hostTakes s dpa).out = s.out := by
  unfold hostTakes
  split <;> rfl

/-- The address of a line is its own line's. -/
theorem line_start {dpa : Nat} (aligned : dpa % 64 = 0) : dpa / 64 * 64 = dpa := Nat.div_mul_cancel (Nat.dvd_of_mod_eq_zero aligned)

/-! ### The four accesses -/

theorem runs_barRead {i : Instr} {s : State} {P : State → Prop} {f : State → State} (e : exec i s = barRead s f) (h : Awake s)
    (d : hostDecode s = true) (p : P (f s)) : Runs i s P :=
  ⟨f s, e.trans (barRead_on h d f), p⟩

section HostMemory
variable {s : State} {cell : Nat} (awake : Awake s)

include awake

/-- BAR4_READ within BAR4 answers what tower memory gives. -/
theorem bar4Read_serves {off n : Nat} {errs : List (Nat × LineErr)} {P : State → Prop} (decode : hostDecode s = true)
    (within : off + n ≤ s.hl.bar4)
    (p : P (emit (hostTowerRead s off n errs).1 (.readData (hostTowerRead s off n errs).2.1 (hostTowerRead s off n errs).2.2))) :
    Runs (.bar4Read off n errs) s P := by
  refine runs_barRead (show execBar4Read off n errs s = _ from rfl) awake decode ?_
  rw [if_neg (by omega)]
  exact p

theorem bar4Read_beyond {off n : Nat} (errs : List (Nat × LineErr)) (decode : hostDecode s = true) (beyond : s.hl.bar4 < off + n) :
    Runs (.bar4Read off n errs) s fun t => t = { s with out := s.out ++ [.unsupported] } := by
  refine runs_barRead (show execBar4Read off n errs s = _ from rfl) awake decode ?_
  rw [if_pos beyond]
  rfl

theorem bar4Write_beyond {off : Nat} {d : List (Option Byte)} (ep : Bool) (errs : List (Nat × LineErr))
    (decode : hostDecode s = true) (beyond : s.hl.bar4 < off + d.length) : Runs (.bar4Write off d ep errs) s fun t => t = s :=
  runs_barWrite (show execBar4Write off d ep errs s = _ from rfl) awake decode (if_pos beyond)

theorem bar4Write_line {off : Nat} {d : Bytes} {errs : List (Nat × LineErr)} (wf : Memory.wf s.tw.cells = true)
    (decode : hostDecode s = true) (within : off + d.length ≤ s.hl.bar4) (some_ : 0 < d.length)
    (fits : off % 64 + d.length ≤ 64) (c : cellOf s off = some cell) (clean : isPoisoned s cell = false ∨ d.length = 64)
    (mild : ∀ e ∈ errs, e.2 ≠ .uncorrectable) :
    Runs (.bar4Write off (d.map some) false errs) s fun t => memRead t.tw.cells cell d.length = d ∧
      (∀ a, (a < cell ∨ cell + d.length ≤ a) → memGet t.tw.cells a = memGet s.tw.cells a) ∧
      (d.length = 64 → isPoisoned t cell = false) := by
  refine runs_barWrite (show execBar4Write off (d.map some) false errs s = _ from rfl) awake decode ?_
  obtain ⟨ce, po, e, unmarked⟩ := hostLineWrite_all (err := errOf errs off) c some_
    (clean.symm.imp_right fun clean => ⟨errOf_mild mild off, clean⟩)
  rw [List.length_map, if_neg (by omega), hostTowerWrite_line errs some_ fits, e]
  exact ⟨memRead_memWrite wf _ _, fun a out => memGet_memWrite_other wf _ _ _ out, unmarked⟩

theorem cxlMemRead_line {dpa : Nat} (mem : s.hl.link.mem = true) (aligned : dpa % 64 = 0) (c : cellOf s dpa = some cell)
    (clean : isPoisoned s cell = false) :
    Runs (.cxlMemRead dpa .none) s fun t =>
      t.tw = s.tw ∧ t.out = s.out ++ [.readData (memRead s.tw.cells cell 64) false] ∧
        (inWindow s dpa = true → dpa / 64 ∈ t.hl.held) ∧ (inWindow s dpa = false → t.hl = s.hl) := by
  have sound : errOf [(dpa / 64, .none)] dpa = .none := by simp [errOf]
  have line := hostTowerRead_line (n := 64) (by decide) (by omega) c clean sound
  refine runs_live (show execCxlMemRead dpa .none s = _ from rfl) awake ?_
  simp only [mem, Bool.not_true, Bool.false_eq_true, if_false, line_start aligned, line]
  refine ⟨hostTakes_tw s dpa, congrArg (· ++ _) (hostTakes_sent s dpa), hostTakes_in, fun out => ?_⟩
  rw [hostTakes_out out]
  rfl

theorem cxlMemWrite_line {dpa : Nat} {d : Bytes} (e : LineErr) (wf : Memory.wf s.tw.cells = true) (mem : s.hl.link.mem = true)
    (aligned : dpa % 64 = 0) (whole : d.length = 64) (c : cellOf s dpa = some cell) :
    Runs (.cxlMemWrite dpa (d.map some) false e) s fun t =>
      memRead t.tw.cells cell 64 = d ∧ t.out = s.out ++ [.writeDone] ∧ (inWindow s dpa = true → dpa / 64 ∈ t.hl.held) ∧
        ∀ a, (a < cell ∨ cell + 64 ≤ a) → memGet t.tw.cells a = memGet s.tw.cells a := by
  have all : (d.map some).take 64 = d.map some := List.take_of_length_le (by simp [whole])
  obtain ⟨ce, po, wrote, -⟩ := hostLineWrite_all (err := errOf [(dpa / 64, e)] dpa) c (by omega) (.inl whole)
  refine runs_live (show execCxlMemWrite dpa (d.map some) false e s = _ from rfl) awake ?_
  simp only [mem, Bool.not_true, Bool.false_eq_true, if_false, line_start aligned, all]
  rw [hostTowerWrite_line _ (by omega) (by omega), wrote]
  refine ⟨?_, congrArg (· ++ _) (hostTakes_sent _ dpa), fun w => hostTakes_in w, fun a out => ?_⟩
  · rw [emit_tw, hostTakes_tw, ← whole]
    exact memRead_memWrite wf _ _
  · rw [emit_tw, hostTakes_tw]
    exact memGet_memWrite_other wf _ _ _ (by rw [whole]; exact out)

end HostMemory

/-- Settles O13: a host access within one line reads and writes that line's bytes, and no others. -/
theorem hostMemoryAccess : Obligations.HostMemoryAccess := by
  unfold Obligations.HostMemoryAccess
  intro s cell awake wf
  refine ⟨?_, ?_, ?_, ?_, ?_, ?_, ?_⟩
  · intro off n decode within some_ fits c clean
    refine bar4Read_serves awake decode within ?_
    rw [hostTowerRead_line some_ fits c clean rfl]
    rfl
  · intro off n errs decode within mild
    obtain ⟨cells, len⟩ := hostTowerRead_mild mild s off n
    exact bar4Read_serves awake decode within ⟨cells, _, _, len, List.getLast?_concat⟩
  · intro off n errs decode beyond
    exact bar4Read_beyond awake errs decode beyond
  · intro off d errs decode within some_ fits c clean mild
    exact bar4Write_line awake wf decode within some_ fits c clean mild
  · intro off d ep errs decode beyond
    exact bar4Write_beyond awake ep errs decode beyond
  · intro dpa mem aligned c clean
    exact cxlMemRead_line awake mem aligned c clean
  · intro dpa d e mem aligned whole c
    exact cxlMemWrite_line awake e wf mem aligned whole c

end Sys2Proof.Machine

/-! ## 06: what goes to the host keeps of the link (R120, R139, R142, R432) -/

namespace Sys2Proof.Machine

/-- The parts of the host link that `Onward` speaks of. -/
def onwardView (s : State) := (s.hl.first, s.hl.winBase, s.hl.intStatus, s.hl.nextTag, s.hl.ats, s.hl.atc)

/-- `t` is `s` gone on: the first training and the window's base are as they were, bits of INT_STATUS stay set, no tag is asked
a second time, and no translation leaves the cache. -/
structure Onward (s t : State) : Prop where
  first : t.hl.first = s.hl.first
  base : t.hl.winBase = s.hl.winBase
  status : ∀ b : Nat, s.hl.intStatus.getLsbD b = true → t.hl.intStatus.getLsbD b = true
  tags : s.hl.nextTag ≤ t.hl.nextTag
  ats : ∀ tag < s.hl.nextTag, tget s.hl.ats tag = none → tget t.hl.ats tag = none
  atc : s.hl.atc ⊆ t.hl.atc

namespace Onward

theorem trans {s t u : State} (h : Onward s t) (k : Onward t u) : Onward s u :=
  ⟨k.first.trans h.first, k.base.trans h.base, fun b on => k.status b (h.status b on), h.tags.trans k.tags,
    fun tag low none_ => k.ats tag (low.trans_le h.tags) (h.ats tag low none_), List.Subset.trans h.atc k.atc⟩

theorem ofSame {s t : State} (h : onwardView t = onwardView s) : Onward s t := by
  simp only [onwardView, Prod.mk.injEq] at h
  obtain ⟨first, base, status, tags, ats, atc⟩ := h
  exact ⟨first, base, fun b on => status ▸ on, tags.ge, fun tag _ none_ => ats ▸ none_, atc ▸ List.Subset.refl _⟩

theorem ofIte {s a b : State} {c : Prop} [Decidable c] (ha : Onward s a) (hb : Onward s b) : Onward s (if c then a else b) := by
  split
  · exact ha
  · exact hb

theorem foldl {α : Type} {f : State → α → State} (h : ∀ s a, Onward s (f s a)) (l : List α) (s : State) : Onward s (l.foldl f s) := by
  induction l generalizing s with
  | nil => exact ofSame rfl
  | cons a l ih => exact (h s a).trans (ih _)

variable (s : State)

theorem ofMsixSend (v : Nat) : Onward s (msixSend s v) := by
  unfold msixSend
  exact ofIte (ofSame rfl) (ofSame rfl)

theorem ofMsixNow (v : Nat) : Onward s (msixNow s v) := ofIte (ofSame rfl) (ofIte (ofSame rfl) (ofMsixSend s v))

/-- A bit of INT_STATUS is set, and the others stay. -/
theorem ofStatus (b : Fin 6) : Onward s { s with hl := { s.hl with intStatus := s.hl.intStatus ||| BitVec.ofNat 6 (2 ^ b.val) } } :=
  ⟨rfl, rfl, fun i on => by simp [on], Nat.le_refl _, fun _ _ none_ => none_, List.Subset.refl _⟩

theorem ofSetInt (b : Fin 6) : Onward s (setInt s b) :=
  ofIte (ofSame rfl) (ofIte ((ofStatus s b).trans (ofMsixNow _ _)) (ofStatus s b))

theorem ofPostOut (a : Nat) (d : Bytes) (ro : Bool) (ctx : Nat) : Onward s (postOut s a d ro ctx) := ofIte (ofSame rfl) (ofSame rfl)

/-- A request of a translation takes a new tag. -/
theorem ofAtsAsk (w : AtsWhy) (p : Option (BitVec 20)) (a : Nat) (b : Bool) : Onward s (atsAsk s w p a b) :=
  ⟨rfl, rfl, fun _ on => on, Nat.le_succ _, fun _ low none_ => (tget_tput_other _ _ low.ne).trans none_, List.Subset.refl _⟩

theorem ofEventQuiet (t : Half) (v : Byte) (d : Bytes) : Onward s (eventQuiet s t v d).1 := by
  unfold eventQuiet
  split
  · exact ofSame rfl
  · dsimp only
    split <;> exact ofSame rfl

theorem ofPostDenied (a ctx : Nat) : Onward s (postDenied s a ctx) :=
  ((ofSetInt s 3).trans (ofEventQuiet _ _ _ _)).trans (ofSame rfl)

theorem ofEventDenied (a : Nat) : Onward s (eventDenied s a) := (ofSetInt s 3).trans (ofEventQuiet _ _ _ _)

/-- The posts being taken from the queue is no part of it. -/
theorem ofRest (l : List Post) {t : State} (h : Onward { s with hl := { s.hl with posts := l } } t) : Onward s t :=
  (ofSame rfl : Onward s { s with hl := { s.hl with posts := l } }).trans h

theorem ofDrainPosts (n : Nat) : Onward s (drainPosts n s) := by
  induction n generalizing s with
  | zero => exact ofSame rfl
  | succ n ih =>
    unfold drainPosts
    split
    · exact ofSame rfl
    · dsimp only
      split
      · exact ofRest s _ ((ofMsixNow _ _).trans (ih _))
      · split
        · exact ofRest s _ ((ofPostOut _ _ _ _ _).trans (ih _))
        · exact ofRest s _ ((ofPostDenied _ _ _).trans (ih _))
        · exact ofIte (ofRest s _ (ih _)) (ofIte (ofSame rfl) (ofAtsAsk s _ _ _ _))
      · split
        · exact ofRest s _ ((ofPostOut _ _ _ _ _).trans (ih _))
        · exact ofRest s _ ((ofEventDenied _ _).trans (ih _))
        · exact ofIte (ofRest s _ (ih _)) (ofIte (ofSame rfl) (ofAtsAsk s _ _ _ _))

theorem ofEnqueue (l : List Post) : Onward s (enqueue s l) := ofSame rfl

theorem ofPostsGo : Onward s (postsGo s) := ofDrainPosts s _

theorem ofMsix (v : Nat) : Onward s (msix s v) := (ofEnqueue s _).trans (ofPostsGo _)

theorem ofEvent (t : Half) (v : Byte) (d : Bytes) : Onward s (event s t v d) :=
  ((ofEventQuiet s t v d).trans (ofEnqueue _ _)).trans (ofPostsGo _)

theorem ofSendPending : Onward s (sendPending s) := foldl (fun t _ => ofIte (ofMsixNow t _) (ofSame rfl)) _ _

end Onward

/-- The bit that `setInt` sets is set (06 R142). -/
theorem setInt_status (s : State) (b : Fin 6) : (setInt s b).hl.intStatus.getLsbD b = true := by
  have set : (s.hl.intStatus ||| BitVec.ofNat 6 (2 ^ b.val)).getLsbD b = true := by
    fin_cases b <;> simp
  unfold setInt
  split
  · assumption
  · dsimp only
    split
    · exact (Onward.ofMsixNow _ _).status b set
    · exact set

end Sys2Proof.Machine

/-! ## 06: the host link trains and goes down; MSI-X vectors (the statement of O12) -/

namespace Sys2Proof.Machine

/-! ### With the link down every post is discarded (06 R432) -/

/-- The steps a waiting post may take to go: a denied write adds an event's two. -/
def Post.steps : Post → Nat
  | .write _ _ _ _ => 3
  | _ => 1

def postSteps (l : List Post) : Nat := (l.map Post.steps).sum

theorem postSteps_le (l : List Post) : postSteps l ≤ 3 * l.length := by
  induction l with
  | nil => exact Nat.le_refl _
  | cons p l ih =>
    have one : p.steps ≤ 3 := by cases p <;> simp [Post.steps]
    simp only [postSteps, List.map_cons, List.sum_cons, List.length_cons] at ih ⊢
    omega

theorem setInt_posts (s : State) (b : Fin 6) : (setInt s b).hl.posts = s.hl.posts := by
  cases on : s.hl.intStatus.getLsbD b with
  | true => rw [setInt, if_pos on]
  | false =>
    obtain ⟨_, e⟩ := setInt_hl on
    rw [e]

/-- An event writes at most its record and its message. -/
theorem eventQuiet_posts (s : State) (t : Half) (v : Byte) (d : Bytes) :
    (eventQuiet s t v d).1.hl.posts = s.hl.posts ∧ postSteps (eventQuiet s t v d).2 ≤ 2 := by
  unfold eventQuiet
  split
  · exact ⟨rfl, Nat.zero_le _⟩
  · dsimp only
    split
    · exact ⟨rfl, Nat.zero_le _⟩
    · refine ⟨rfl, ?_⟩
      dsimp only
      split <;> simp [postSteps, Post.steps]

theorem postDenied_steps (s : State) (a ctx : Nat) : postSteps (postDenied s a ctx).hl.posts ≤ postSteps s.hl.posts + 2 := by
  obtain ⟨same, few⟩ := eventQuiet_posts (setInt s 3) 0x0009 1 (xlateFaultData ctx 5 (if ctx = 0xFF then 0xA0 else 0x80) a)
  rw [postDenied, enqueue_posts, same, setInt_posts, postSteps, List.map_append, List.sum_append]
  exact Nat.add_le_add_left few _

theorem eventDenied_posts (s : State) (a : Nat) : (eventDenied s a).hl.posts = s.hl.posts := by
  rw [eventDenied, (eventQuiet_posts _ _ _ _).1, setInt_posts]

theorem postOut_posts (s : State) (a : Nat) (d : Bytes) (ro : Bool) (ctx : Nat) : (postOut s a d ro ctx).hl.posts = s.hl.posts := by
  unfold postOut
  split <;> rfl

theorem drainPosts_down (n : Nat) (s : State) (down : hostUp s = false) (enough : postSteps s.hl.posts ≤ n) :
    (drainPosts n s).hl.posts = [] := by
  induction n generalizing s with
  | zero =>
    cases waiting : s.hl.posts with
    | nil => exact waiting
    | cons p l =>
      have one : 1 ≤ p.steps := by cases p <;> simp [Post.steps]
      rw [waiting] at enough
      simp only [postSteps, List.map_cons, List.sum_cons] at enough
      omega
  | succ n ih =>
    unfold drainPosts
    cases waiting : s.hl.posts with
    | nil => exact waiting
    | cons p l =>
      have stays {t : State} (q : Quiet { s with hl := { s.hl with posts := l } } t) : hostUp t = false :=
        (hostUp_eq q.settings).trans down
      rw [waiting] at enough
      simp only [postSteps, List.map_cons, List.sum_cons] at enough
      have rest : postSteps ({ s with hl := { s.hl with posts := l } } : State).hl.posts = (l.map Post.steps).sum := rfl
      cases p with
      | msix v =>
        simp only [Post.steps] at enough
        refine ih _ (stays (.ofMsixNow _ v)) ?_
        rw [msixNow_posts, rest]
        omega
      | write a d ro ctx =>
        simp only [Post.steps] at enough
        dsimp only
        split
        · refine ih _ (stays (.ofPostOut _ _ d ro ctx)) ?_
          rw [postOut_posts, rest]
          omega
        · refine ih _ (stays (.ofPostDenied _ a ctx)) ((postDenied_steps _ a ctx).trans ?_)
          rw [rest]
          omega
        · rw [if_pos (by rw [down]; rfl)]
          exact ih _ down (by rw [rest]; omega)
      | event a d =>
        simp only [Post.steps] at enough
        dsimp only
        split
        · refine ih _ (stays (.ofPostOut _ _ d false 0xFF)) ?_
          rw [postOut_posts, rest]
          omega
        · refine ih _ (stays (.ofEventDenied _ a)) ?_
          rw [eventDenied_posts, rest]
          omega
        · rw [if_pos (by rw [down]; rfl)]
          exact ih _ down (by rw [rest]; omega)

theorem postsGo_down {s : State} (down : hostUp s = false) : (postsGo s).hl.posts = [] :=
  drainPosts_down _ s down (postSteps_le _)

/-! ### Vectors (06 R136, R137) -/

/-- A vector whose message has been sent. -/
def VecState.sentAt (x : VecState) (up : Nat) : VecState := { x with pend := false, held := false, lastAt := some up }

theorem msixSend_vec (s : State) (v : Fin 256) : (msixSend s v.val).hl.vecs[v] = (s.hl.vecs[v]).sentAt s.tb.up := by
  have set : (vmod s.hl.vecs v.val fun x => x.sentAt s.tb.up)[v] = (s.hl.vecs[v]).sentAt s.tb.up := by
    rw [vmod_fin]
    simp
  unfold msixSend
  dsimp only
  split
  · exact set
  · exact set

theorem vmod_vec_other (x : Vector VecState 256) {v : Fin 256} {w : Nat} (apart : v.val ≠ w) (f : VecState → VecState) :
    (vmod x w f)[v] = x[v] := by
  rw [← vget_fin _ v ⟨0, false, false, none⟩, vget_vmod, if_neg fun h => apart h.1, vget_fin]

/-- A trigger on another vector leaves this one. -/
theorem msixNow_vec_other (s : State) {v : Fin 256} {w : Nat} (apart : v.val ≠ w) :
    (msixNow s w).hl.vecs[v] = s.hl.vecs[v] := by
  unfold msixNow msixSend
  split
  · exact vmod_vec_other _ apart _
  · split
    · exact vmod_vec_other _ apart _
    · dsimp only
      split
      · exact vmod_vec_other _ apart _
      · exact vmod_vec_other _ apart _

/-- A trigger on an open vector outside its gap, with the host reached, sends its message and leaves nothing pending. -/
theorem msixNow_sends {s : State} {v : Fin 256} (o : vecOpen s v = true) (g : vecGap s v = false) (u : hostUp s = true) :
    (msixNow s v).out = s.out ++ [message s v] ∧ (msixNow s v).hl.vecs[v] = (s.hl.vecs[v]).sentAt s.tb.up := by
  refine ⟨msixNow_out o g u, ?_⟩
  rw [msixNow, o, g]
  exact msixSend_vec s v

/-- A vector whose message is pending, and that can send it, does. -/
def sendOne (s : State) (v : Nat) : State :=
  if (vget s.hl.vecs v ⟨0, false, false, none⟩).pend && vecOpen s v then msixNow s v else s

theorem sendPending_eq (s : State) : sendPending s = (List.range 256).foldl sendOne s := rfl

theorem Quiet.ofSendOne (s : State) (v : Nat) : Quiet s (sendOne s v) := .ofIte s (.ofMsixNow s v) (.refl s)

theorem Quiet.foldl {α : Type} {f : State → α → State} (h : ∀ s a, Quiet s (f s a)) (l : List α) (s : State) :
    Quiet s (l.foldl f s) := by
  induction l generalizing s with
  | nil => exact .refl s
  | cons a l ih => exact (h s a).trans (ih _)

theorem Quiet.cfg {s t : State} (q : Quiet s t) : t.hl.cfg = s.hl.cfg := congrArg HostSettings.cfg q.settings

theorem Quiet.link {s t : State} (q : Quiet s t) : t.hl.link = s.hl.link := congrArg HostSettings.link q.settings

theorem Quiet.ofPostsGo (s : State) : Quiet s (postsGo s) := .ofDrainPosts s _

theorem Quiet.ofSendPending (s : State) : Quiet s (sendPending s) := .foldl .ofSendOne _ s

theorem sendOne_vec_other (s : State) {v : Fin 256} {w : Nat} (apart : v.val ≠ w) : (sendOne s w).hl.vecs[v] = s.hl.vecs[v] := by
  unfold sendOne
  split
  · exact msixNow_vec_other s apart
  · rfl

theorem sendAll_vec_other {l : List Nat} {v : Fin 256} (apart : v.val ∉ l) (s : State) :
    (l.foldl sendOne s).hl.vecs[v] = s.hl.vecs[v] := by
  induction l generalizing s with
  | nil => rfl
  | cons w l ih =>
    obtain ⟨first, rest⟩ := not_or.mp (mt List.mem_cons.mpr apart)
    exact (ih rest _).trans (sendOne_vec_other s first)

/-- Within the same settings a vector is open as before, and its message is the same. -/
theorem vecOpen_eq {s t : State} (h : hostSettings t = hostSettings s) (v : Nat) : vecOpen t v = vecOpen s v := by
  have cfg : t.hl.cfg = s.hl.cfg := congrArg HostSettings.cfg h
  rw [vecOpen, vecOpen, cfg]

theorem message_eq {s t : State} (h : hostSettings t = hostSettings s) (v : Nat) : message t v = message s v := by
  have cfg : t.hl.cfg = s.hl.cfg := congrArg HostSettings.cfg h
  rw [message, message, cfg]

/-- An open vector without a gap has its pending message sent (06 R136). -/
theorem sendPending_sends {s : State} {v : Fin 256} (pend : (s.hl.vecs[v]).pend = true) (gap : (s.hl.vecs[v]).gapUs = 0)
    (opened : vecOpen s v = true) (u : hostUp s = true) :
    ((sendPending s).hl.vecs[v]).pend = false ∧ message s v ∈ (sendPending s).out := by
  obtain ⟨before, after, split⟩ := List.append_of_mem (List.mem_range.mpr v.isLt)
  have once : (before ++ v.val :: after).Nodup := split ▸ List.nodup_range
  have ⟨notBefore, notAfter⟩ : v.val ∉ before ∧ v.val ∉ after := by
    have := List.nodup_middle.mp once
    simpa using (List.nodup_cons.mp this).1
  have first := Quiet.foldl Quiet.ofSendOne before s
  have kept := sendAll_vec_other notBefore s
  rw [sendPending_eq, split, List.foldl_append, List.foldl_cons]
  generalize before.foldl sendOne s = t at first kept
  have noGap : vecGap t v = false := by
    rw [vecGap]
    simp only [vget_fin, kept, gap]
    rfl
  have opened' := (vecOpen_eq first.settings v).trans opened
  have one : sendOne t v = msixNow t v := by
    rw [sendOne, vget_fin, kept, pend, opened']
    rfl
  obtain ⟨sent, vec⟩ := msixNow_sends opened' noGap ((hostUp_eq first.settings).trans u)
  rw [one]
  refine ⟨?_, ?_⟩
  · rw [sendAll_vec_other notAfter, vec]
    rfl
  · have grows := (Quiet.foldl Quiet.ofSendOne after (msixNow t v)).announced.timeOnly.out
    refine grows.subset ?_
    rw [sent, message_eq first.settings]
    exact List.mem_append_right _ (List.mem_singleton_self _)

/-! ### The commands -/

/-- The link as training with `p` leaves it, before anything is announced. -/
def trained (p : LinkParams) (g : PcieConfig) (s : State) : State :=
  { s with hl := { s.hl with
    link := p
    cfg := g
    atc := if g.atsEn then s.hl.atc else []
    first := some (s.hl.first.getD (p.speed, p.width)) } }

/-- The link trains anew, not only its configuration changes (log 16). -/
def trainsAnew (p : LinkParams) (s : State) : Bool := s.hl.link.speed = 0 || p != s.hl.link

/-- The bits of INT_STATUS that training sets (06 R126, R142). -/
def trainedInts (p : LinkParams) (g : PcieConfig) (s : State) : State :=
  let u := if trainsAnew p s && degraded s p then setInt (trained p g s) 5 else trained p g s
  if trainsAnew p s && s.hl.cohMode = 2 && !sharedOk p then setInt u 4 else u

theorem trainedInts_quiet (p : LinkParams) (g : PcieConfig) (s : State) : Quiet (trained p g s) (trainedInts p g s) :=
  have low : Quiet (trained p g s) (if trainsAnew p s && degraded s p then setInt (trained p g s) 5 else trained p g s) :=
    .ofIte _ (.ofSetInt _ 5) (.refl _)
  .ofIte _ (low.trans (.ofSetInt _ 4)) low

theorem trainedInts_onward (p : LinkParams) (g : PcieConfig) (s : State) : Onward (trained p g s) (trainedInts p g s) :=
  have low : Onward (trained p g s) (if trainsAnew p s && degraded s p then setInt (trained p g s) 5 else trained p g s) :=
    .ofIte (.ofSetInt _ 5) (.ofSame rfl)
  .ofIte (low.trans (.ofSetInt _ 4)) low

theorem trainedInts_low {p : LinkParams} (g : PcieConfig) {s : State} (anew : trainsAnew p s = true) (low : degraded s p = true) :
    (trainedInts p g s).hl.intStatus.getLsbD 5 = true := by
  have set := setInt_status (trained p g s) 5
  simp only [trainedInts, anew, low, Bool.true_and, if_true]
  split
  · exact (Onward.ofSetInt _ 4).status 5 set
  · exact set

theorem trainedInts_lost {p : LinkParams} (g : PcieConfig) {s : State} (anew : trainsAnew p s = true) (shared : s.hl.cohMode = 2)
    (lost : sharedOk p = false) : (trainedInts p g s).hl.intStatus.getLsbD 4 = true := by
  simp only [trainedInts, anew, shared, lost, Bool.true_and, decide_true, Bool.not_false, if_true]
  exact setInt_status _ 4

/-- The link as its loss leaves it, before the posts are discarded. -/
def untrained (s : State) : State :=
  { s with hl := { s.hl with link := ⟨0, 0, false, false, false, false, false⟩ } }

/-- Function Mask cleared. -/
def unmaskedAll (s : State) : State := { s with hl := { s.hl with cfg := { s.hl.cfg with funcMask := false } } }

/-- The entry of vector `v` unmasked. -/
def unmasked (s : State) (v : Fin 256) : List MsixEntry :=
  s.hl.cfg.msix.set v.val { s.hl.cfg.msix.getD v.val ⟨0, 0, true⟩ with mask := false }

/-- The configuration with other MSI-X entries. -/
def withMsix (s : State) (m : List MsixEntry) : State := { s with hl := { s.hl with cfg := { s.hl.cfg with msix := m } } }

theorem unmasked_entry {s : State} {v : Fin 256} (all : s.hl.cfg.msix.length = 256) :
    (unmasked s v)[v.val]? = (s.hl.cfg.msix[v.val]?).map fun e => { e with mask := false } := by
  have there : v.val < s.hl.cfg.msix.length := by rw [all]; exact v.isLt
  simp [unmasked, there]

section Link
variable {s : State} (awake : Awake s)
include awake

theorem hostLinkTrain_runs {p : LinkParams} {g : PcieConfig} {P : State → Prop} (ok : linkValid p = true)
    (q : P (postsGo (sendPending (trainedInts p g s)))) : Runs (.hostLinkTrain p g) s P := by
  refine runs_live (show execHostLinkTrain p g s = _ from rfl) awake ?_
  rw [if_neg (by rw [ok]; decide)]
  exact q

theorem hostLinkTrain_trains {p : LinkParams} (g : PcieConfig) (ok : linkValid p = true) :
    Runs (.hostLinkTrain p g) s fun t =>
      t.hl.link = p ∧ t.hl.cfg = g ∧ t.hl.first = some (s.hl.first.getD (p.speed, p.width)) ∧
        ((s.hl.link.speed = 0 ∨ p ≠ s.hl.link) → degraded s p = true → t.hl.intStatus.getLsbD 5 = true) ∧
        ((s.hl.link.speed = 0 ∨ p ≠ s.hl.link) → s.hl.cohMode = 2 → sharedOk p = false →
          t.hl.intStatus.getLsbD 4 = true) := by
  refine hostLinkTrain_runs awake ok ?_
  have quiet := ((trainedInts_quiet p g s).trans ((Quiet.ofSendPending _).trans (.ofPostsGo _)))
  have on : Onward (trainedInts p g s) (postsGo (sendPending (trainedInts p g s))) :=
    (Onward.ofSendPending _).trans (.ofPostsGo _)
  have anew : (s.hl.link.speed = 0 ∨ p ≠ s.hl.link) → trainsAnew p s = true := fun h => by simpa [trainsAnew] using h
  exact ⟨quiet.link, quiet.cfg, ((trainedInts_onward p g s).trans on).first,
    fun h low => on.status 5 (trainedInts_low g (anew h) low),
    fun h shared lost => on.status 4 (trainedInts_lost g (anew h) shared lost)⟩

theorem hostLinkDown_downs : Runs .hostLinkDown s fun t => t.hl.link.speed = 0 ∧ t.hl.posts = [] := by
  refine runs_live (show execHostLinkDown s = _ from rfl) awake ?_
  have down : hostUp (untrained s) = false := by simp [hostUp, untrained]
  exact ⟨congrArg LinkParams.speed (Quiet.ofPostsGo (untrained s)).link, postsGo_down down⟩

theorem bar4Resize_resizes {n : Nat} (least : 28 ≤ n) (most : 2 ^ n ≤ Config.towerGib * 8 * gib) (up : s.hl.link.speed ≠ 0)
    (off : s.hl.cfg.mse = false) : Runs (.bar4Resize (2 ^ n)) s fun t => t.hl.bar4 = 2 ^ n := by
  have large : 2 ^ 28 ≤ 2 ^ n := Nat.pow_le_pow_right (by decide) least
  refine runs_live (show execBar4Resize (2 ^ n) s = _ from rfl) awake ?_
  rw [if_neg]
  simp only [off, Nat.log2_two_pow, bne_self_eq_false, Bool.or_false, Bool.or_eq_true, decide_eq_true_eq, not_or, not_lt]
  exact ⟨⟨up, large⟩, most⟩

theorem msixUnmask_all {P : State → Prop} (p : P (sendPending (unmaskedAll s))) : Runs (.msixUnmask .function) s P :=
  runs_live (show execMsixUnmask .function s = _ from rfl) awake p

theorem msixUnmask_function : Runs (.msixUnmask .function) s fun t => t.hl.cfg.funcMask = false :=
  msixUnmask_all awake (congrArg PcieConfig.funcMask (Quiet.ofSendPending (unmaskedAll s)).cfg)

theorem msixUnmask_vector {P : State → Prop} (v : Fin 256) (p : P (sendPending (withMsix s (unmasked s v)))) :
    Runs (.msixUnmask (.vector v)) s P :=
  runs_live (show execMsixUnmask (.vector v) s = _ from rfl) awake p

theorem msixUnmask_unmasks (v : Fin 256) (all : s.hl.cfg.msix.length = 256) :
    Runs (.msixUnmask (.vector v)) s fun t =>
      t.hl.cfg.msix[v.val]? = (s.hl.cfg.msix[v.val]?).map fun e => { e with mask := false } := by
  refine msixUnmask_vector awake v ?_
  rw [(Quiet.ofSendPending _).cfg]
  exact unmasked_entry all

theorem msixUnmask_sends (v : Fin 256) (pend : (s.hl.vecs[v]).pend = true) (gap : (s.hl.vecs[v]).gapUs = 0)
    (all : s.hl.cfg.msix.length = 256) (en : s.hl.cfg.msixEn = true) (func : s.hl.cfg.funcMask = false) (up : hostUp s = true) :
    Runs (.msixUnmask (.vector v)) s fun t => (t.hl.vecs[v]).pend = false ∧ message s v ∈ t.out := by
  refine msixUnmask_vector awake v ?_
  have there : v.val < s.hl.cfg.msix.length := by rw [all]; exact v.isLt
  have entry : (unmasked s v).getD v.val ⟨0, 0, true⟩ = { s.hl.cfg.msix.getD v.val ⟨0, 0, true⟩ with mask := false } := by
    simp [unmasked, there]
  have opened : vecOpen (withMsix s (unmasked s v)) v = true := by
    rw [vecOpen]
    simp only [withMsix, entry, en, func]
    rfl
  have same : message (withMsix s (unmasked s v)) v = message s v := by
    rw [message, message]
    simp only [withMsix, entry]
  rw [← same]
  exact sendPending_sends pend gap opened up

/-- The triggers held in the gap produce one message once it is over (06 R137). -/
theorem msixGapEnd_sends (v : Fin 256) (held : (s.hl.vecs[v]).held = true) (ended : vecGap s v = false)
    (opened : vecOpen s v = true) (up : hostUp s = true) :
    Runs (.msixGapEnd v) s fun t =>
      (t.hl.vecs[v]).held = false ∧ (t.hl.vecs[v]).lastAt = some s.tb.up ∧ t.out = s.out ++ [message s v] := by
  refine runs_live (show execMsixGapEnd v s = _ from rfl) awake ?_
  dsimp only
  rw [held, ended, if_neg (by decide)]
  have ended' : vecGap { s with hl := { s.hl with vecs := s.hl.vecs.set v { s.hl.vecs[v] with held := false } } } v = false := by
    rw [← ended, vecGap, vecGap]
    simp [vget_fin]
  obtain ⟨out, vec⟩ := msixNow_sends
    (s := { s with hl := { s.hl with vecs := s.hl.vecs.set v { s.hl.vecs[v] with held := false } } }) opened ended' up
  exact ⟨congrArg VecState.held vec, congrArg VecState.lastAt vec, out⟩

end Link

/-- Settles O12: each command of the host link and of the vectors leaves what it says. -/
theorem hostLinkAndVectors : Obligations.HostLinkAndVectors := by
  unfold Obligations.HostLinkAndVectors
  intro s awake
  refine ⟨?_, hostLinkDown_downs awake, ?_, msixUnmask_function awake, ?_, ?_, ?_⟩
  · intro p g ok
    exact hostLinkTrain_trains awake g ok
  · intro n least most up off
    exact bar4Resize_resizes awake least most up off
  · intro v all
    exact msixUnmask_unmasks awake v all
  · intro v pend gap all en func up
    exact msixUnmask_sends awake v pend gap all en func up
  · intro v held ended opened up
    exact msixGapEnd_sends awake v held ended opened up

end Sys2Proof.Machine

/-! ## 06: non-posted requests to the host end (R119, R139 to R141; the statement of O14) -/

namespace Sys2Proof.Machine

/-! ### What the end of a request keeps -/

namespace Announced
variable (s : State)

theorem foldl {α : Type} {f : State → α → State} (h : ∀ s a, Announced s (f s a)) (l : List α) (s : State) :
    Announced s (l.foldl f s) := by
  induction l generalizing s with
  | nil => exact refl s
  | cons a l ih => exact (h s a).trans (ih _)

theorem ofInvalDrain (tag : Nat) : Announced s (invalDrain s tag) := (ofLink s _).trans (foldl (fun t _ => ofEmit t _) _ _)

theorem ofSendRead (tag : Nat) : Announced s (sendRead s tag) := by
  unfold sendRead
  split
  · exact refl s
  · split
    · exact refl s
    · split
      · exact (ofLink s _).trans (ofEmit _ _)
      · exact ofIte s (refl s) (ofAtsAsk s _ _ _ _)
      · exact refl s

theorem ofPumpReads : Announced s (pumpReads s) := foldl (fun t _ => ofIte t (refl t) (ofSendRead t _)) _ _

theorem acc {s t : State} (h : Announced s t) : t.acc = s.acc := by
  obtain ⟨_, _, _, _, rfl⟩ := h
  rfl

theorem mpServes {s t : State} (h : Announced s t) : mpServes t = mpServes s := by
  obtain ⟨_, _, _, _, rfl⟩ := h
  rfl

end Announced

namespace Onward
variable (s : State)

theorem ofAccEnd (id : Nat) (g : AccStage) : Onward s (accEnd s id g) := ofIte (ofSame rfl) (ofSame rfl)

theorem ofAccFail (id : Nat) (why : AccFail) : Onward s (accFail s id why) := by
  unfold accFail
  dsimp only
  split
  · split
    · exact (ofAccEnd s _ _).trans (ofEvent _ _ _ _)
    · exact ofAccEnd s _ _
  · exact ofAccEnd s _ _

theorem ofStopped {s t : State} (h : Stopped s t) : Onward s t := by
  obtain ⟨_, _, _, _, _, _, _, _, _, _, rfl⟩ := h
  exact ofSame rfl

theorem ofFinishCmd (c : Chan) (st d : Nat) (p : Bytes) : Onward s (finishCmd s c st d p) := by
  unfold finishCmd finishWith
  split
  · exact ofSame rfl
  · split
    · exact ofSame rfl
    · exact (ofSame rfl : Onward s (modChan s c _)).trans (ofIte (ofMsix _ _) (ofSame rfl))

theorem ofEndCmd (c : Chan) (st : Nat) : Onward s (endCmd s c st) := by
  unfold endCmd
  split
  · exact ofSame rfl
  · exact ofIte (ofSame rfl) (ofIte (ofSame rfl) ((ofStopped (.ofStopCmd s _ _)).trans (ofFinishCmd _ _ _ _ _)))

theorem ofFlushEnd (i : Nat) (ok : Bool) : Onward s (flushEnd s i ok) :=
  (ofSame rfl : Onward s (modSlot s i _)).trans (ofIte (ofSame rfl) (ofSetInt _ _))

/-- A request is recorded under a new tag. -/
theorem ofRecordRead (w : ReadWhy) (a n : Nat) (p : Option (BitVec 20)) (b : Bool) : Onward s (recordRead s w a n p b).2 :=
  ⟨rfl, rfl, fun _ on => on, Nat.le_succ _, fun _ _ none_ => none_, List.Subset.refl _⟩

theorem ofHostOut (id addr : Nat) (a : Access) : Onward s (hostOut s id addr a) :=
  ofIte (ofAccFail s _ _) (ofIte
    ((ofSame rfl : Onward s (emit s _)).trans ((ofRecordRead _ _ _ _ _ _).trans (ofSame rfl)))
    ((ofSame rfl : Onward s (emit s _)).trans (ofAccEnd _ _ _)))

theorem ofHostPut (id addr : Nat) (a : Access) : Onward s (hostPut s id addr a) := by
  unfold hostPut
  split
  · exact ofHostOut s _ _ _
  · exact (ofSetInt s 3).trans (ofAccFail _ _ _)
  · exact ofIte (ofAccFail s _ _) ((ofSame rfl : Onward s (accStage s id _)).trans (ofAtsAsk _ _ _ _ _))

theorem ofSendRead (tag : Nat) : Onward s (sendRead s tag) := by
  unfold sendRead
  split
  · exact ofSame rfl
  · split
    · exact ofSame rfl
    · split
      · exact ofSame rfl
      · exact ofIte (ofSame rfl) (ofAtsAsk s _ _ _ _)
      · exact ofSame rfl

/-- A refused page joins the cache. -/
theorem ofDenied (e : AtcEnt) : Onward s { s with hl := { s.hl with atc := e :: s.hl.atc } } :=
  ⟨rfl, rfl, fun _ on => on, Nat.le_refl _, fun _ _ none_ => none_, List.subset_cons_self _ _⟩

/-- What waited for a translation learns that there is none, once a refusal has set ATS_FAULT. -/
theorem ofNoXlateAsked (q : AtsReq) (denied : Bool) : Onward (if denied then setInt s 3 else s) (noXlate s q denied) := by
  unfold noXlate
  dsimp only
  generalize (if denied then setInt s 3 else s) = u
  split
  · exact ofIte (ofAccFail _ _ _) (ofSame rfl)
  · split
    · exact ofIte (ofDenied _ _) (ofSame rfl)
    · next tag _ _ r _ =>
      have dropped {u t : State} (h : Onward { u with hl := { u.hl with reads := tdel u.hl.reads tag } } t) : Onward u t :=
        (ofSame rfl : Onward u { u with hl := { u.hl with reads := tdel u.hl.reads tag } }).trans h
      refine dropped ?_
      split
      · exact ofAccFail _ _ _
      · exact ofAccFail _ _ _
      · exact (ofIte (ofEvent _ _ _ _) (ofSame rfl)).trans (ofEndCmd _ _ _)
      · exact ofFlushEnd _ _ _
  · split
    · exact ofRest _ _ (ofIte (ofPostDenied _ _ _) (ofSame rfl))
    · exact ofRest _ _ (ofIte (ofEventDenied _ _) (ofSame rfl))
    · exact ofSame rfl

theorem ofNoXlate (q : AtsReq) (denied : Bool) : Onward s (noXlate s q denied) :=
  (ofIte (ofSetInt s 3) (ofSame rfl)).trans (ofNoXlateAsked s q denied)

theorem ofWithXlate (q : AtsReq) : Onward s (withXlate s q) := by
  unfold withXlate
  split
  · split
    · exact ofIte (ofHostPut s _ _ _) (ofSame rfl)
    · exact ofSame rfl
  · split
    · exact ofIte (ofNoXlate s _ _) (ofSendRead s _)
    · exact ofSame rfl
  · exact ofSame rfl

end Onward

/-- A refused translation sets ATS_FAULT (06 R141). -/
theorem noXlate_denied (s : State) (q : AtsReq) : (noXlate s q true).hl.intStatus.getLsbD 3 = true :=
  (Onward.ofNoXlateAsked s q true).status 3 (setInt_status s 3)

/-! ### A read is over (06 R119, R432) -/

/-- The tag of a read is given back, and invalidations wait for it no more. -/
def tagFreed (s : State) (tag : Nat) : State := invalDrain { s with hl := { s.hl with reads := tdel s.hl.reads tag } } tag

theorem tagFreed_announced (s : State) (tag : Nat) : Announced s (tagFreed s tag) :=
  (Announced.ofLink s _).trans (.ofInvalDrain _ _)

/-- An access of the same accesses stands as it did. -/
theorem accOf_announced {s t : State} (h : Announced s t) (id : Nat) : accOf t id = accOf s id := by rw [accOf, h.acc, accOf]

theorem chan_tagFreed (s : State) (tag : Nat) (c : Chan) : chan (tagFreed s tag) c = chan s c :=
  (tagFreed_announced s tag).timeOnly.chan c

theorem owned_tagFreed {s : State} {id : Nat} {a : Access} (h : Owned s id a) (tag : Nat) : Owned (tagFreed s tag) id a :=
  h.congr (tagFreed_announced s tag).acc

/-- Data of the length asked for are taken as they come. -/
theorem readBytes_of_length {r : HostRead} {d : Bytes} (len : d.length = r.len) : readBytes r d = d := by
  simp [readBytes, fit, zeros, ← len]

/-! ### A tag that is free stays free -/

theorem tget_none_of_subset {α : Type} {t u : Tab α} {i : Nat} (sub : u ⊆ t) (h : tget t i = none) : tget u i = none := by
  have apart : ∀ x ∈ u, x.1 ≠ i := fun x m => ne_of_tget_none h x (sub m)
  clear sub h
  induction u with
  | nil => rfl
  | cons x u ih =>
    rw [tget, if_neg fun e => apart x List.mem_cons_self e.symm]
    exact ih fun y m => apart y (List.mem_cons_of_mem _ m)

theorem sendRead_free {s : State} {tag : Nat} (h : tget s.hl.reads tag = none) (w : Nat) : tget (sendRead s w).hl.reads tag = none := by
  unfold sendRead
  split
  · exact h
  · split
    · exact h
    · split
      · simp [tget_tmod, h]
      · split
        · exact h
        · exact h
      · exact h

theorem pumpReads_free {s : State} {tag : Nat} (h : tget s.hl.reads tag = none) : tget (pumpReads s).hl.reads tag = none := by
  have each : ∀ (l : Tab HostRead) (t : State), tget t.hl.reads tag = none →
      tget (l.foldl (fun t r => if r.2.sent then t else sendRead t r.1) t).hl.reads tag = none := by
    intro l
    induction l with
    | nil => exact fun t free => free
    | cons r l ih =>
      intro t free
      refine ih _ ?_
      dsimp only
      split
      · exact free
      · exact sendRead_free free _
  exact each _ s h

theorem tagFreed_free (s : State) (tag : Nat) : tget (tagFreed s tag).hl.reads tag = none :=
  tget_none_of_subset (Ends.ofStopped (.ofInvalDrain _ tag)).reads (tget_tdel s.hl.reads tag)

/-! ### The commands -/

section Reads
variable {s : State} {tag : Nat} {r : HostRead} (awake : Awake s) (read : tget s.hl.reads tag = some r) (sent : r.sent = true)
include awake read sent

/-- Data that come in time end the read. -/
theorem completion_ends {d : Bytes} {P : State → Prop} (up : s.hl.link.speed ≠ 0) (early : s.tb.up < r.limit)
    (p : P (pumpReads (readEnd (tagFreed s tag) r (some (readBytes r d))))) : Runs (.hostReadCompletion tag (some d)) s P := by
  refine runs_live (show execHostReadCompletion tag (some d) s = _ from rfl) awake ?_
  simp only [read, sent, bne_iff_ne.mpr up, Bool.and_self, if_true, if_neg early.not_ge]
  exact p

/-- A read that is not answered in time fails. -/
theorem timeout_ends {P : State → Prop} (late : r.limit ≤ s.tb.up) (p : P (pumpReads (readEnd (tagFreed s tag) r none))) :
    Runs (.completionTimeout tag) s P := by
  refine runs_live (show execCompletionTimeout tag s = _ from rfl) awake ?_
  simp only [read, sent, decide_eq_true late, Bool.and_self, if_true]
  exact p

theorem completion_access {id : Nat} {a : Access} {d : Bytes} (up : s.hl.link.speed ≠ 0) (early : s.tb.up < r.limit)
    (why : r.why = .access id) (owned : Owned s id a) (kind : a.kind = .read) (same : a.len = r.len) (len : d.length = r.len) :
    Runs (.hostReadCompletion tag (some d)) s fun t => ∃ b, accOf t id = some b ∧ b.stage = .done ∧ b.data = d := by
  refine completion_ends awake read sent up early ?_
  obtain ⟨held, own, -⟩ := owned_tagFreed owned tag
  have all : d.take a.len = d := List.take_of_length_le (by omega)
  simp only [readEnd, why, hostReadEnd, held, kind, AccKind.isRead, if_true, readBytes_of_length len]
  exact ⟨_, (accOf_announced (.ofPumpReads _) id).trans (accOf_accEnd (accOf_accMod held _) own _), rfl, all⟩

theorem completion_go {id : Nat} {a : Access} {d : Bytes} (up : s.hl.link.speed ≠ 0) (early : s.tb.up < r.limit)
    (why : r.why = .go id) (owned : Owned s id a) :
    Runs (.hostReadCompletion tag (some d)) s fun t => ∃ b, accOf t id = some b ∧ b.stage = .done := by
  refine completion_ends awake read sent up early ?_
  obtain ⟨held, own, -⟩ := owned_tagFreed owned tag
  simp only [readEnd, why, hostGo, Option.isSome_some, if_true]
  exact ⟨_, (accOf_announced (.ofPumpReads _) id).trans (accOf_accEnd held own _), rfl⟩

theorem timeout_access {id : Nat} {a : Access} (late : r.limit ≤ s.tb.up) (why : r.why = .access id) (owned : Owned s id a) :
    Runs (.completionTimeout tag) s fun t =>
      tget t.hl.reads tag = none ∧ ∃ b, accOf t id = some b ∧ b.stage = .failed .memory := by
  refine timeout_ends awake read sent late ?_
  have owned' := owned_tagFreed owned tag
  simp only [readEnd, why, hostReadEnd, owned'.1]
  exact ⟨pumpReads_free (tget_none_of_subset (Ends.ofAccFail _ _ _).reads (tagFreed_free s tag)), _,
    (accOf_announced (.ofPumpReads _) id).trans (accOf_accFail owned' _), rfl⟩

/-- A piece of an indirect payload goes to its command (05 R96). -/
theorem completion_piece {c : Chan} {off : Nat} {d : Bytes} {P : State → Prop} (up : s.hl.link.speed ≠ 0)
    (early : s.tb.up < r.limit) (why : r.why = .indirect c off) (serves : mpServes s = true) (len : d.length = r.len)
    (p : P (pumpReads (indirectDone (tagFreed s tag) c off d))) : Runs (.hostReadCompletion tag (some d)) s P := by
  refine completion_ends awake read sent up early ?_
  simp only [readEnd, why, (tagFreed_announced s tag).mpServes, serves, Bool.not_true, Bool.false_eq_true, if_false,
    readBytes_of_length len]
  exact p

end Reads

/-! ### The pieces of an indirect payload (05 R96, R430) -/

/-- The payload of a command with the piece `d` at `off` put to those that have come. -/
def gathered (k : CmdHeld) (off : Nat) (d : Bytes) : Bytes := ((tput k.pieces off d).map fun x => x.2).flatten

section Pieces
variable {s : State} {c : Chan} {off : Nat} {k : CmdHeld} {w : OpRow} {d : Bytes} (cmd : (chan s c).cmd = some k)
  (row : opRow k.opcode.toNat = some w)
include cmd row

theorem indirectDone_whole (all : k.f 8 4 ≤ (gathered k off d).length)
    (fits : lenFits w.len (gathered k off d).length (gathered k off d) = true) :
    indirectDone s c off d =
      modChan s c fun ch => { ch with cmd := some { k with payload := gathered k off d, pieces := [], ready := true } } := by
  rw [gathered] at all fits
  simp only [indirectDone, cmd, row, gathered]
  rw [if_neg all.not_gt, if_pos fits]

theorem indirectDone_part (part : (gathered k off d).length < k.f 8 4) :
    indirectDone s c off d = modChan s c fun ch => { ch with cmd := some { k with pieces := tput k.pieces off d } } := by
  simp only [indirectDone, cmd, row]
  exact if_pos part

theorem indirectDone_bad (all : k.f 8 4 ≤ (gathered k off d).length)
    (bad : lenFits w.len (gathered k off d).length (gathered k off d) = false) :
    indirectDone s c off d = finishCmd s c stBadLen 0 [] := by
  rw [gathered] at all bad
  simp only [indirectDone, cmd, row]
  rw [if_neg all.not_gt, if_neg (Bool.not_eq_true _ ▸ bad)]

end Pieces

/-! ### Translation requests (06 R139, R141) -/

/-- Translation request `id` is no longer outstanding. -/
def atsAnswered (s : State) (id : Nat) : State := { s with hl := { s.hl with ats := tdel s.hl.ats id } }

section Ats
variable {s : State} {id : Nat} {q : AtsReq} (awake : Awake s) (asked : tget s.hl.ats id = some q)
include awake asked

theorem atsTimeout_ends (free : tget s.hl.reads id = none) (late : q.limit ≤ s.tb.up) (low : id < s.hl.nextTag) :
    Runs (.completionTimeout id) s fun t => tget t.hl.ats id = none := by
  refine runs_live (show execCompletionTimeout id s = _ from rfl) awake ?_
  simp only [free, asked, late, if_true]
  have on : Onward (atsAnswered s id) (postsOn (noXlate (atsAnswered s id) q false)) :=
    (Onward.ofNoXlate _ _ _).trans (.ofPostsGo _)
  exact on.ats id low (tget_tdel s.hl.ats id)

theorem atsCompletion_enters {x : AtsResp} (given : x.read = true ∨ x.write = true) (low : id < s.hl.nextTag)
    (early : s.tb.up < q.limit) :
    Runs (.atsTranslationCompletion id x) s fun t => tget t.hl.ats id = none ∧ ∃ e ∈ t.hl.atc,
      e.pasid = q.pasid ∧ e.target = x.addr ∧ e.read = x.read ∧ e.write = x.write ∧ e.size = x.size := by
  have granted : (!x.read && !x.write) = false := by
    rcases given with h | h <;> simp [h]
  refine runs_live (show execAtsTranslationCompletion id x s = _ from rfl) awake ?_
  simp only [asked, granted, if_neg early.not_ge, Bool.false_eq_true, if_false]
  have on : Onward (atcPut (atsAnswered s id) q x) (postsOn (withXlate (atcPut (atsAnswered s id) q x) q)) :=
    (Onward.ofWithXlate _ _).trans (.ofPostsGo _)
  exact ⟨on.ats id low (tget_tdel s.hl.ats id), _, on.atc List.mem_cons_self, rfl, rfl, rfl, rfl, rfl⟩

theorem atsCompletion_refused {x : AtsResp} (noRead : x.read = false) (noWrite : x.write = false) (early : s.tb.up < q.limit) :
    Runs (.atsTranslationCompletion id x) s fun t => t.hl.intStatus.getLsbD 3 = true := by
  refine runs_live (show execAtsTranslationCompletion id x s = _ from rfl) awake ?_
  simp only [asked, noRead, noWrite, if_neg early.not_ge, Bool.not_false, Bool.and_self, if_true]
  have on : Onward (noXlate (atsAnswered s id) q true) (postsOn (noXlate (atsAnswered s id) q true)) := .ofPostsGo _
  exact on.status 3 (noXlate_denied _ q)

end Ats

/-- The cached translation is one of PASID `pasid` and meets the range. -/
def atcMeets (pasid : Option Nat) (addr size : Nat) (e : AtcEnt) : Bool :=
  (e.pasid.map fun x => x.toNat) == pasid && e.page < addr + size && addr < e.page + e.size

/-- An invalidation leaves no translation of its range, and completes at once with no read outstanding (06 R140). -/
theorem atsInvalidation_removes {s : State} (awake : Awake s) (addr size : Nat) (p : Option (BitVec 20))
    (few : s.hl.invals.length < 32) :
    Runs (.atsInvalidation addr size (p.map fun x => x.toNat)) s fun t =>
      (∀ e ∈ t.hl.atc, e.pasid = p → addr + size ≤ e.page ∨ e.page + e.size ≤ addr) ∧
        (s.hl.reads = [] → t.out = s.out ++ [.atsInvalDone]) := by
  refine runs_live (show execAtsInvalidation addr size (p.map fun x => x.toNat) s = _ from rfl) awake ?_
  rw [if_neg few.not_ge]
  have apart : ∀ e ∈ s.hl.atc.filter fun e => !atcMeets (p.map fun x => x.toNat) addr size e,
      e.pasid = p → addr + size ≤ e.page ∨ e.page + e.size ≤ addr := by
    intro e m same
    have out := (List.mem_filter.mp m).2
    simp only [atcMeets, same, beq_self_eq_true, Bool.true_and, Bool.not_eq_true', Bool.and_eq_false_iff,
      decide_eq_false_iff_not] at out
    omega
  dsimp only
  split
  · exact ⟨apart, fun _ => rfl⟩
  · next waits => exact ⟨apart, fun none_ => absurd (by rw [none_]; rfl) waits⟩

/-- Settles O14: a read, a write by CXL.cache or a translation request ends when it is answered, or at its timeout. -/
theorem hostReadsEnd : Obligations.HostReadsEnd := by
  unfold Obligations.HostReadsEnd
  intro s awake
  refine ⟨?_, ?_, ?_, ?_, ?_, ?_, ?_, ?_⟩
  · intro tag id r a d read sent up early why owned kind same len
    exact completion_access awake read sent up early why owned kind same len
  · intro tag id r a d read sent up early why owned
    exact completion_go awake read sent up early why owned
  · intro tag off r c k w d read sent up early why serves cmd row len
    have cmd' : (chan (tagFreed s tag) c).cmd = some k := by rw [chan_tagFreed, cmd]
    have end_ {P : State → Prop} (p : P (pumpReads (indirectDone (tagFreed s tag) c off d))) :
        Runs (.hostReadCompletion tag (some d)) s P := completion_piece awake read sent up early why serves len p
    refine ⟨?_, ?_, ?_⟩
    · intro all fits
      refine end_ ?_
      rw [indirectDone_whole cmd' row all fits, (Announced.ofPumpReads _).timeOnly.chan, chan_modChan]
      rfl
    · intro part
      refine end_ ?_
      rw [indirectDone_part cmd' row part, (Announced.ofPumpReads _).timeOnly.chan, chan_modChan]
    · intro all bad wf
      refine end_ ?_
      have running : s.hlt.mpHung = false := by
        simp only [mpServes, Bool.and_eq_true, Bool.not_eq_true'] at serves
        exact serves.1
      rw [indirectDone_bad cmd' row all bad, Answered, (Announced.ofPumpReads _).timeOnly.chan]
      refine finishCmd_answered cmd' ?_ (by rw [chan_tagFreed, wf]) _ _
      rw [(tagFreed_announced s tag).timeOnly.hlt, running]
  · intro tag id r a read sent late why owned
    exact timeout_access awake read sent late why owned
  · intro tag q free asked late low
    exact atsTimeout_ends awake asked free late low
  · intro id q x asked given low early
    exact atsCompletion_enters awake asked given low early
  · intro id q x asked noRead noWrite early
    exact atsCompletion_refused awake asked noRead noWrite early
  · intro addr size p few
    exact atsInvalidation_removes awake addr size p few

end Sys2Proof.Machine

/-! ## 06, 07: the coherence mode, contexts, mappings and invalidation (the statement of O15) -/

namespace Sys2Proof.Machine

/-! ### A command that names objects goes (05 R104, R430) -/

theorem unordered_of_others {s : State} {c : Chan} (h : OthersIdle s c) (k : CmdHeld) (chk : Chk) : orderHeld s c k chk = false := by
  rw [orderHeld, List.any_eq_false]
  intro e m
  obtain ⟨d, rfl⟩ := (mem_listIdx_vector s.mbx.chans e).mp m
  by_cases own : d = c
  · simp [own]
  · have idle : (s.mbx.chans[d]).cmd.all (fun q => !q.begun && (chan s c).bellNo ≤ (s.mbx.chans[d]).bellNo) = true := h d own
    have apart : ((s.mbx.chans[d]).cmd.any fun q =>
        (q.begun || (s.mbx.chans[d]).bellNo < (chan s c).bellNo) && sameObject q k chk) = false := by
      cases held : (s.mbx.chans[d]).cmd with
      | none => rfl
      | some q =>
        rw [held] at idle
        simp only [Option.all_some, Bool.and_eq_true, Bool.not_eq_true', decide_eq_true_eq] at idle
        obtain ⟨waiting, later⟩ := idle
        rw [Option.any_some, waiting, decide_eq_false later.not_gt]
        rfl
    simp only [apart, Bool.and_false, Bool.false_eq_true, not_false_eq_true]

/-- The steps 5 to 9 find nothing. -/
theorem firstFail_none {ch : MbxChan} {h : Chk} (param : ∀ x ∈ h.param, x.1 = false)
    (ctxs : ch.ctxBound = true → ∀ x ∈ h.ctxs, x = ch.ctx.toNat) (there : h.missing = false) (state : h.state = none)
    (room : h.full = false) : firstFail ch h = none := by
  have named : (ch.ctxBound && h.ctxs.any fun x => x != ch.ctx.toNat) = false := by
    cases bound : ch.ctxBound with
    | false => rfl
    | true => simpa using ctxs bound
  simp [firstFail, lowestBad_none param, named, there, state, room]

/-- A context that the channel may name passes the steps 6 to 8. -/
theorem ctxChk_passes {s : State} {c : Chan} {x : Nat} {l : List (Bool × Nat)} (ctx : CtxOk s c x) (param : ∀ y ∈ l, y.1 = false) :
    firstFail (chan s c) (ctxChk s x l none) = none := by
  obtain ⟨-, name, alive⟩ := ctx
  cases there : ctxOf s x with
  | none => simp [there] at alive
  | some y =>
    have living : y.dying = false := by simpa [there] using alive
    refine firstFail_none param (fun bound z m => ?_) ?_ ?_ rfl
    · rw [List.mem_singleton.mp m]
      exact name bound
    · simp [ctxChk, there]
    · simp [ctxChk, ctxDying, there, living]

section Goes
variable {i : Instr} {s : State} {c : Chan} {op : Nat} {k : CmdHeld} {chk : State → CmdHeld → Chk}
  {resp : CmdHeld → State → Bytes} {P : State → Prop} (others : OthersIdle s c) (h : HasCmd s c op k)
  (pass : firstFail (chan s c) (chk s k) = none)
include others h pass

/-- With no other command on its object, an opcode that passes its checks has its effect. -/
theorem HasCmd.plainGoes {eff : CmdHeld → State → State} (e : exec i s = live s fun s => plainOp s c op (chk s) resp eff)
    (p : P (finishCmd (eff k s) c stOk 0 (resp k (eff k s)))) : Runs i s P :=
  runs_live e h.1 (by rw [plainOp_ok resp eff h.opCmd (unordered_of_others others _ _) pass]; exact p)

theorem HasCmd.opGoes {eff : CmdHeld → State → Done} {t : State} {r : Bytes}
    (e : exec i s = live s fun s => runOp s c op (chk s) resp eff) (d : eff k s = .ok t r) (p : P (finishCmd t c stOk 0 r)) :
    Runs i s P :=
  runs_live e h.1 (by rw [runOp_ok ⟨h.opCmd, .inr ⟨unordered_of_others others _ _, pass⟩⟩ d]; exact p)

end Goes

/-! ### What a completion leaves -/

@[simp] theorem finishCmd_xl (s : State) (c : Chan) (st d : Nat) (p : Bytes) : (finishCmd s c st d p).xl = s.xl := by
  obtain ⟨_, _, _, _, _, e⟩ := finishCmd_besides s c st d p
  rw [e]

theorem finishCmd_coherence (s : State) (c : Chan) (st d : Nat) (p : Bytes) :
    (finishCmd s c st d p).hl.cohMode = s.hl.cohMode ∧ (finishCmd s c st d p).hl.winUnits = s.hl.winUnits ∧
      (finishCmd s c st d p).hl.winBase = s.hl.winBase := by
  obtain ⟨_, q⟩ := Quiet.ofFinishCmd s c st d p
  exact ⟨congrArg HostSettings.cohMode q.settings, congrArg HostSettings.winUnits q.settings,
    (Onward.ofFinishCmd s c st d p).base⟩

/-- A command that has noted its progress is answered as it was held. -/
theorem HasCmd.answers_progress {s t : State} {c : Chan} {op n : Nat} {k : CmdHeld} (h : HasCmd s c op k)
    (own : chan t c = chan (setProgress s c n) c) (hlt : t.hlt = s.hlt) (st : Nat) (p : Bytes) :
    Answered (finishCmd t c st 0 p) c k st p := by
  have running := h.running
  obtain ⟨-, -, cmd, -, -, -, wf⟩ := h
  have noted : (chan t c).cmd = some { k with progress := n } := by rw [own, chan_setProgress, cmd]; rfl
  have area : (chan t c).resp = (chan s c).resp := by rw [own, chan_setProgress]
  exact finishCmd_answered noted (hlt ▸ running) (by rw [area, wf]) st p

/-! ### The coherence mode (06 R126) -/

/-- The mode, its window's units and its base as the command gives them. -/
def cohSet (k : CmdHeld) (s : State) : State :=
  { s with hl := { s.hl with
    cohMode := BitVec.ofNat 2 (k.f 0 1)
    winUnits := BitVec.ofNat 32 (k.f 4 4)
    winBase := BitVec.ofNat 64 (k.f 8 8) } }

section Coherence
variable {s : State} {c : Chan} {k : CmdHeld} (others : OthersIdle s c)
include others

theorem opCoherenceMode_completes (h : HasCmd s c 0x0301 k) (pass : firstFail (chan s c) (cohChk s k) = none) :
    Runs (.opCoherenceMode c) s fun t => Answered t c k 0 [] ∧ t.hl.cohMode = BitVec.ofNat 2 (k.f 0 1) ∧
      t.hl.winUnits = BitVec.ofNat 32 (k.f 4 4) ∧ t.hl.winBase = BitVec.ofNat 64 (k.f 8 8) :=
  h.plainGoes (chk := cohChk) (eff := cohSet) others pass (show execOpCoherenceMode c s = _ from rfl)
    ⟨h.answers_own (t := cohSet k s) rfl rfl _ _, finishCmd_coherence (cohSet k s) c _ _ _⟩

theorem opCoherenceMode_private (h : HasCmd s c 0x0301 k) (mode : k.f 0 1 = 1) (units : k.f 4 4 = 0) (base : k.f 8 8 = 0)
    (r : Reserved k [1, 2, 3]) (free : s.sch.queues = []) :
    Runs (.opCoherenceMode c) s fun t => Answered t c k 0 [] ∧ t.hl.cohMode = 1 ∧ t.hl.winUnits = 0 := by
  have pass : firstFail (chan s c) (cohChk s k) = none := by
    refine firstFail_none (fun x m => ?_) (fun _ x m => absurd m List.not_mem_nil) rfl ?_ rfl
    · rcases List.mem_append.mp m with m | m
      · exact rsv_none r (by decide) x m
      · simp only [bad, mode, units, base, List.mem_cons, List.not_mem_nil, or_false] at m
        rcases m with rfl | rfl | rfl | rfl | rfl | rfl <;> rfl
    · simp [cohChk, mode, free]
  obtain ⟨t, ran, answered, set, window, -⟩ := opCoherenceMode_completes others h pass
  exact ⟨t, ran, answered, by rw [set, mode]; rfl, by rw [window, units]; rfl⟩

theorem opCoherenceMode_shared (h : HasCmd s c 0x0301 k) (mode : k.f 0 1 = 2) (least : 1 ≤ k.f 4 4) (most : k.f 4 4 ≤ 256)
    (aligned : k.f 8 8 % 2 ^ 28 = 0) (inside : k.f 8 8 + k.f 4 4 * 2 ^ 28 ≤ Config.towerGib * 8 * gib)
    (r : Reserved k [1, 2, 3]) (free : s.sch.queues = []) (shared : sharedOk s.hl.link = true) :
    Runs (.opCoherenceMode c) s fun t => Answered t c k 0 [] ∧ t.hl.cohMode = 2 ∧ t.hl.winUnits.toNat = k.f 4 4 ∧
      t.hl.winBase.toNat = k.f 8 8 := by
  have pass : firstFail (chan s c) (cohChk s k) = none := by
    refine firstFail_none (fun x m => ?_) (fun _ x m => absurd m List.not_mem_nil) rfl ?_ rfl
    · rcases List.mem_append.mp m with m | m
      · exact rsv_none r (by decide) x m
      · have some_ : k.f 4 4 ≠ 0 := by omega
        simp only [bad, mode, aligned, inside.not_gt, most.not_gt, some_, List.mem_cons, List.not_mem_nil, or_false] at m
        rcases m with rfl | rfl | rfl | rfl | rfl | rfl <;> rfl
    · simp [cohChk, mode, free, shared]
  have units : k.f 4 4 % 2 ^ 32 = k.f 4 4 := Nat.mod_eq_of_lt (fieldAt_lt _ _ _)
  have base : k.f 8 8 % 2 ^ 64 = k.f 8 8 := Nat.mod_eq_of_lt (fieldAt_lt _ _ _)
  obtain ⟨t, ran, answered, set, window, start⟩ := opCoherenceMode_completes others h pass
  exact ⟨t, ran, answered, by rw [set, mode]; rfl, by rw [window, BitVec.toNat_ofNat, units],
    by rw [start, BitVec.toNat_ofNat, base]⟩

end Coherence

/-! ### Contexts (07 R143, R144) -/

/-- The checks of OP_CTX_CREATE. -/
def ctxCreateChk (s : State) (k : CmdHeld) : Chk :=
  { param := k.rsv 2 4 ++ [bad (decide (63 < k.f 0 1)) 0, bad (decide (3 < k.f 1 1)) 1, bad (decide (2 ^ 20 ≤ k.f 4 4)) 4]
    ctxs := [k.f 0 1]
    state := if (ctxOf s (k.f 0 1)).isSome || (bitAt (k.f 1 1) 0 && !s.hl.cfg.pasidEn) then some stBadState else none }

/-- The context that OP_CTX_CREATE makes. -/
def ctxMade (k : CmdHeld) : Ctx :=
  ⟨if bitAt (k.f 1 1) 0 then some (BitVec.ofNat 20 (k.f 4 4)) else none, bitAt (k.f 1 1) 1, false⟩

theorem ctxMade_eq {k : CmdHeld} (flags : k.f 1 1 ≤ 3) :
    ctxMade k = ⟨if k.f 1 1 % 2 = 1 then some (BitVec.ofNat 20 (k.f 4 4)) else none, decide (2 ≤ k.f 1 1), false⟩ := by
  have high : bitAt (k.f 1 1) 1 = decide (2 ≤ k.f 1 1) := by
    rw [bitAt, decide_eq_decide]
    omega
  have low : bitAt (k.f 1 1) 0 = decide (k.f 1 1 % 2 = 1) := by simp [bitAt]
  simp only [ctxMade, high, low, decide_eq_true_eq]

def ctxCreated (k : CmdHeld) (s : State) : State :=
  { s with xl := { s.xl with ctxs := tput s.xl.ctxs (k.f 0 1) (ctxMade k) } }

/-- The checks of OP_CTX_DESTROY. -/
def ctxDestroyChk (s : State) (k : CmdHeld) : Chk :=
  { param := k.rsv 1 4 ++ [bad (decide (63 < k.f 0 1)) 0]
    ctxs := [k.f 0 1]
    missing := (ctxOf s (k.f 0 1)).isNone
    state := if ctxInUse s (k.f 0 1) then some stBadState else none }

/-- The mappings, the translations and the advice of a context gone, and the command's progress noted. -/
def ctxEmptied (s : State) (c : Chan) (x : Nat) : State :=
  let u := tlbDrop s fun e => e.ctx = x
  setProgress { u with xl := { u.xl with
    maps := u.xl.maps.filter fun e => e.ctx != x
    advice := u.xl.advice.filter fun a => a.ctx != x } } c s.nextAcc

/-- The context's number freed. -/
def ctxDestroyed (s : State) (c : Chan) (x : Nat) : State :=
  { ctxEmptied s c x with xl := { (ctxEmptied s c x).xl with ctxs := tdel s.xl.ctxs x } }

/-! ### Mappings and translations (07 R150, R161) -/

/-- The range's translations gone from the caches, and the command's progress noted. -/
def rangeDropped (s : State) (c : Chan) (x dva len : Nat) : State :=
  setProgress (tlbDrop s fun e => e.meets x dva len) c s.nextAcc

/-- The range's mappings gone too. -/
def rangeUnmapped (s : State) (c : Chan) (x dva len : Nat) : State :=
  let u := tlbDrop s fun e => e.meets x dva len
  setProgress { u with xl := { u.xl with maps := s.xl.maps.filter fun e => !e.meets x dva len } } c s.nextAcc

/-- The pages mapped. -/
def mapped (k : CmdHeld) (s : State) : State := { s with xl := { s.xl with maps := s.xl.maps ++ mapPages k } }

/-- The checks of OP_UNMAP. -/
def unmapChk (s : State) (k : CmdHeld) : Chk :=
  let l := entriesOf s (k.f 0 1) (k.f 8 8) (k.f 16 8)
  ctxChk s (k.f 0 1)
    (k.rsv 1 8 ++ rangeChk k ++ [bad (decide (63 < k.f 0 1)) 0, bad (l.any (splits (k.f 8 8) (k.f 16 8))) 8,
      bad (decide (16384 < l.length)) 8])
    (if migrating s (k.f 0 1) (k.f 8 8) (k.f 16 8) then some stBadState else none)

/-- The checks of OP_TLB_INVAL. -/
def tlbInvalChk (s : State) (k : CmdHeld) : Chk :=
  ctxChk s (k.f 0 1)
    (k.rsv 2 8 ++ [bad (decide (63 < k.f 0 1)) 0, bad (decide (1 < k.f 1 1)) 1]
      ++ (if bitAt (k.f 1 1) 0 then [] else rangeChk k ++
        [bad (decide (16384 < (entriesOf s (k.f 0 1) (k.f 8 8) (k.f 16 8)).length)) 8])) none

theorem rangeChk_passes {k : CmdHeld} (h : RangeOk k) : ∀ x ∈ rangeChk k, x.1 = false := by
  obtain ⟨pages, some_, inside⟩ := h
  intro x m
  simp only [rangeChk, bad, dvaTop, pages, some_, inside.not_gt, List.mem_cons, List.not_mem_nil, or_false] at m
  rcases m with rfl | rfl <;> rfl

/-- No second-level TLB holds a translation that was dropped. -/
theorem tlbDrop_l2 (s : State) (f : MapEnt → Bool) (i : Fin 8) : ∀ e ∈ (tlbDrop s f).xl.l2[i], f e.ent = false := by
  intro e m
  have kept : e ∈ (s.xl.l2[i]).filter fun e => !f e.ent := by simpa [tlbDrop] using m
  simpa using (List.mem_filter.mp kept).2

section Commands
variable {s : State} {c : Chan} {k : CmdHeld} (others : OthersIdle s c)
include others

theorem opCtxCreate_creates (h : HasCmd s c 0x0302 k) (number : k.f 0 1 ≤ 63) (flags : k.f 1 1 ≤ 3) (pasid : k.f 4 4 < 2 ^ 20)
    (r : Reserved k [2, 3]) (name : MayName s c (k.f 0 1)) (free : ctxOf s (k.f 0 1) = none)
    (enabled : k.f 1 1 % 2 = 1 → s.hl.cfg.pasidEn = true) :
    Runs (.opCtxCreate c) s fun t => Answered t c k 0 [] ∧ t.xl.maps = s.xl.maps ∧
      ctxOf t (k.f 0 1) = some ⟨if k.f 1 1 % 2 = 1 then some (BitVec.ofNat 20 (k.f 4 4)) else none,
        decide (2 ≤ k.f 1 1), false⟩ := by
  have pass : firstFail (chan s c) (ctxCreateChk s k) = none := by
    refine firstFail_none (fun x m => ?_) (fun bound x m => ?_) rfl ?_ rfl
    · rcases List.mem_append.mp m with m | m
      · exact rsv_none r (by decide) x m
      · simp only [bad, number.not_gt, flags.not_gt, pasid.not_ge, List.mem_cons, List.not_mem_nil, or_false] at m
        rcases m with rfl | rfl | rfl <;> rfl
    · rw [List.mem_singleton.mp m]
      exact name bound
    · by_cases p : k.f 1 1 % 2 = 1
      · simp [ctxCreateChk, free, enabled p]
      · simp [ctxCreateChk, free, bitAt, p]
  refine h.plainGoes (chk := ctxCreateChk) (eff := ctxCreated) others pass (show execOpCtxCreate c s = _ from rfl)
    ⟨h.answers_own (t := ctxCreated k s) rfl rfl _ _, by rw [finishCmd_xl]; rfl, ?_⟩
  rw [ctxOf, finishCmd_xl, ← ctxMade_eq flags]
  exact tget_tput _ _ _

theorem opCtxDestroy_destroys (h : HasCmd s c 0x0303 k) (number : k.f 0 1 ≤ 63) (r : Reserved k [1, 2, 3])
    (name : MayName s c (k.f 0 1)) (there : (ctxOf s (k.f 0 1)).isSome = true) (free : ctxInUse s (k.f 0 1) = false)
    (quiet : outstanding s (k.f 0 1) 0 (2 ^ 64) s.nextAcc = false) :
    Runs (.opCtxDestroy c) s fun t => Answered t c k 0 [] ∧ ctxOf t (k.f 0 1) = none ∧
      t.xl.maps = s.xl.maps.filter fun e => e.ctx != k.f 0 1 := by
  have ⟨_, _, _, _, _, begun, _⟩ := h
  have pass : firstFail (chan s c) (ctxDestroyChk s k) = none := by
    refine firstFail_none (fun x m => ?_) (fun bound x m => ?_) ?_ ?_ rfl
    · rcases List.mem_append.mp m with m | m
      · exact rsv_none r (by decide) x m
      · rw [List.mem_singleton.mp m]
        exact decide_eq_false number.not_gt
    · rw [List.mem_singleton.mp m]
      exact name bound
    · simpa [ctxDestroyChk, Option.isSome_iff_ne_none] using there
    · simp [ctxDestroyChk, free]
  have still : outstanding (ctxEmptied s c (k.f 0 1)) (k.f 0 1) 0 (2 ^ 64) (ctxEmptied s c (k.f 0 1)).nextAcc = false := quiet
  refine h.opGoes (chk := ctxDestroyChk) (t := ctxDestroyed s c (k.f 0 1)) (r := []) others pass
    (show execOpCtxDestroy c s = _ from rfl) ?_
    ⟨h.answers_progress (t := ctxDestroyed s c (k.f 0 1)) (n := s.nextAcc) rfl rfl _ _, ?_, ?_⟩
  · simp only [begun, Bool.false_eq_true, if_false]
    exact if_neg (by rw [Bool.not_eq_true]; exact still)
  · rw [ctxOf, finishCmd_xl]
    exact tget_tdel _ _
  · rw [finishCmd_xl]
    rfl

theorem opMap_maps (h : HasCmd s c 0x0304 k) (pass : firstFail (chan s c) (mapChk s k) = none) :
    Runs (.opMap c) s fun t => Answered t c k 0 [] ∧ t.xl.maps = s.xl.maps ++ mapPages k :=
  h.plainGoes (chk := mapChk) (eff := mapped) others pass (show execOpMap c s = _ from rfl)
    ⟨h.answers_own (t := mapped k s) rfl rfl _ _, by rw [finishCmd_xl]; rfl⟩

theorem opUnmap_unmaps (h : HasCmd s c 0x0305 k) (r : Reserved k [1, 2, 3, 4, 5, 6, 7]) (range : RangeOk k)
    (ctx : CtxOk s c (k.f 0 1)) (few : (entriesOf s (k.f 0 1) (k.f 8 8) (k.f 16 8)).length ≤ 16384)
    (whole : (entriesOf s (k.f 0 1) (k.f 8 8) (k.f 16 8)).any (splits (k.f 8 8) (k.f 16 8)) = false)
    (stays : migrating s (k.f 0 1) (k.f 8 8) (k.f 16 8) = false)
    (quiet : outstanding s (k.f 0 1) (k.f 8 8) (k.f 16 8) s.nextAcc = false) :
    Runs (.opUnmap c) s fun t => Answered t c k 0 [] ∧
      t.xl.maps = s.xl.maps.filter fun e => !e.meets (k.f 0 1) (k.f 8 8) (k.f 16 8) := by
  have ⟨_, _, _, _, _, begun, _⟩ := h
  have pass : firstFail (chan s c) (unmapChk s k) = none := by
    rw [unmapChk, stays]
    refine ctxChk_passes ctx fun x m => ?_
    rcases List.mem_append.mp m with m | m
    · rcases List.mem_append.mp m with m | m
      · exact rsv_none r (by decide) x m
      · exact rangeChk_passes range x m
    · simp only [bad, ctx.1.not_gt, whole, few.not_gt, List.mem_cons, List.not_mem_nil, or_false] at m
      rcases m with rfl | rfl | rfl <;> rfl
  have still : outstanding (rangeUnmapped s c (k.f 0 1) (k.f 8 8) (k.f 16 8)) (k.f 0 1) (k.f 8 8) (k.f 16 8)
    (rangeUnmapped s c (k.f 0 1) (k.f 8 8) (k.f 16 8)).nextAcc = false := quiet
  refine h.opGoes (chk := unmapChk) (t := rangeUnmapped s c (k.f 0 1) (k.f 8 8) (k.f 16 8)) (r := []) others pass
    (show execOpUnmap c s = _ from rfl) ?_
    ⟨h.answers_progress (t := rangeUnmapped s c (k.f 0 1) (k.f 8 8) (k.f 16 8)) (n := s.nextAcc) rfl rfl _ _, ?_⟩
  · simp only [begun, Bool.false_eq_true, if_false]
    exact if_neg (by rw [Bool.not_eq_true]; exact still)
  · rw [finishCmd_xl]
    rfl

/-- An invalidation that passes its checks leaves the range in no TLB, and the mappings as they are. -/
theorem opTlbInval_drops (h : HasCmd s c 0x0306 k) (pass : firstFail (chan s c) (tlbInvalChk s k) = none) {dva len : Nat}
    (range : invalRange k = (dva, len)) (quiet : outstanding s (k.f 0 1) dva len s.nextAcc = false) :
    Runs (.opTlbInval c) s fun t => Answered t c k 0 [] ∧ t.xl.maps = s.xl.maps ∧
      ∀ i : Fin 8, ∀ e ∈ t.xl.l2[i], e.ent.meets (k.f 0 1) dva len = false := by
  have ⟨_, _, _, _, _, begun, _⟩ := h
  have still : outstanding (rangeDropped s c (k.f 0 1) dva len) (k.f 0 1) dva len
    (rangeDropped s c (k.f 0 1) dva len).nextAcc = false := quiet
  refine h.opGoes (chk := tlbInvalChk) (t := rangeDropped s c (k.f 0 1) dva len) (r := []) others pass
    (show execOpTlbInval c s = _ from rfl) ?_
    ⟨h.answers_progress (t := rangeDropped s c (k.f 0 1) dva len) (n := s.nextAcc) rfl rfl _ _, ?_, ?_⟩
  · simp only [begun, range, Bool.false_eq_true, if_false]
    exact if_neg (by rw [Bool.not_eq_true]; exact still)
  · rw [finishCmd_xl]
    rfl
  · rw [finishCmd_xl]
    exact tlbDrop_l2 s fun e => e.meets (k.f 0 1) dva len

theorem opTlbInval_range (h : HasCmd s c 0x0306 k) (ranged : k.f 1 1 = 0) (r : Reserved k [2, 3, 4, 5, 6, 7])
    (range : RangeOk k) (ctx : CtxOk s c (k.f 0 1))
    (few : (entriesOf s (k.f 0 1) (k.f 8 8) (k.f 16 8)).length ≤ 16384)
    (quiet : outstanding s (k.f 0 1) (k.f 8 8) (k.f 16 8) s.nextAcc = false) :
    Runs (.opTlbInval c) s fun t => Answered t c k 0 [] ∧ t.xl.maps = s.xl.maps ∧
      ∀ i : Fin 8, ∀ e ∈ t.xl.l2[i], e.ent.meets (k.f 0 1) (k.f 8 8) (k.f 16 8) = false := by
  have part : bitAt (k.f 1 1) 0 = false := by rw [ranged]; rfl
  refine opTlbInval_drops others h (ctxChk_passes ctx fun x m => ?_) (by rw [invalRange, part]; rfl) quiet
  rw [part] at m
  rcases List.mem_append.mp m with m | m
  · rcases List.mem_append.mp m with m | m
    · exact rsv_none r (by decide) x m
    · simp only [bad, ctx.1.not_gt, ranged, List.mem_cons, List.not_mem_nil, or_false] at m
      rcases m with rfl | rfl <;> rfl
  · rcases List.mem_append.mp m with m | m
    · exact rangeChk_passes range x m
    · rw [List.mem_singleton.mp m]
      exact decide_eq_false few.not_gt

theorem opTlbInval_context (h : HasCmd s c 0x0306 k) (all : k.f 1 1 = 1) (r : Reserved k [2, 3, 4, 5, 6, 7])
    (ctx : CtxOk s c (k.f 0 1)) (quiet : outstanding s (k.f 0 1) 0 (2 ^ 64) s.nextAcc = false) :
    Runs (.opTlbInval c) s fun t => Answered t c k 0 [] ∧
      ∀ i : Fin 8, ∀ e ∈ t.xl.l2[i], e.ent.meets (k.f 0 1) 0 (2 ^ 64) = false := by
  have whole : bitAt (k.f 1 1) 0 = true := by rw [all]; rfl
  obtain ⟨t, ran, answered, -, gone⟩ := opTlbInval_drops others h (ctxChk_passes ctx fun x m => by
    rw [whole] at m
    rcases List.mem_append.mp m with m | m
    · rcases List.mem_append.mp m with m | m
      · exact rsv_none r (by decide) x m
      · simp only [bad, ctx.1.not_gt, all, List.mem_cons, List.not_mem_nil, or_false] at m
        rcases m with rfl | rfl <;> rfl
    · exact absurd m List.not_mem_nil) (by rw [invalRange, whole]; rfl) quiet
  exact ⟨t, ran, answered, gone⟩

end Commands

/-- Settles O15: each command that passes its checks is answered ST_OK and has its effect. -/
theorem contextsAndMappings : Obligations.ContextsAndMappings := by
  unfold Obligations.ContextsAndMappings
  intro s c k others
  refine ⟨?_, ?_, ?_, ?_, ?_, ?_, ?_, ?_⟩
  · intro h mode units base r free
    exact opCoherenceMode_private others h mode units base r free
  · intro h mode least most aligned inside r free shared
    exact opCoherenceMode_shared others h mode least most aligned inside r free shared
  · intro h number flags pasid r name free enabled
    exact opCtxCreate_creates others h number flags pasid r name free enabled
  · intro h number r name there free quiet
    exact opCtxDestroy_destroys others h number r name there free quiet
  · intro h pass
    exact opMap_maps others h pass
  · intro h r range ctx few whole stays quiet
    exact opUnmap_unmaps others h r range ctx few whole stays quiet
  · intro h ranged r range ctx few quiet
    exact opTlbInval_range others h ranged r range ctx few quiet
  · intro h all r ctx quiet
    exact opTlbInval_context others h all r ctx quiet

end Sys2Proof.Machine

/-! ## 07, 08: the parts of the state that O58 speaks of, and what keeps each (the statement of O58) -/

namespace Sys2Proof.Machine

/-- The layout of the memory tiers (08 R171, R178, R187). -/
structure TierLayout where
  fullG : Nat
  quadG : Nat
  rc : Vector Nat 8
  ports : Vector DeepPort 4
  interleave : Bool
  retPages : List (List Nat)
  retDeep : List (Nat × Nat)

def tierLayout (tw : Tower) : TierLayout :=
  ⟨tw.fullG, tw.quadG, tw.rc, tw.ports, tw.interleave, tw.retPages, tw.retDeep⟩

/-- The parts of the state that O58 speaks of. -/
inductive MemPart where
  | bytes | layout | maps

/-- What such a part holds. -/
abbrev MemPart.Val : MemPart → Type
  | .bytes => Mem
  | .layout => TierLayout
  | .maps => List MapEnt × Tab Ctx

/-- Such a part of a state. An operation that keeps it has a rule `memPart_<operation>`. -/
def memPart : (p : MemPart) → State → p.Val
  | .bytes, s => s.tw.cells
  | .layout, s => tierLayout s.tw
  | .maps, s => (s.xl.maps, s.xl.ctxs)

section
variable {p : MemPart}

/-- An update that leaves tower memory and translation. -/
@[simp] theorem memPart_updOther (s : State)
    {tb cal gn mbx hl acc nextAcc cores bridled te sch fab hlt pwr sec out freeCtr pending} :
    memPart p ⟨tb, cal, gn, mbx, hl, s.xl, acc, nextAcc, s.tw, cores, bridled, te, sch, fab, hlt, pwr, sec, out, freeCtr,
      pending⟩ = memPart p s := by
  cases p <;> rfl

/-- An update of the towers' counters, poison and row caches. -/
@[simp] theorem memPart_updCounts (s : State)
    {poison ce ue rcDrop deepPoison deepTimeout scrubPass scrubPos scrubDone rcs arrivals recent refresh2 limited}
    {tb cal gn mbx hl acc nextAcc cores bridled te sch fab hlt pwr sec out freeCtr pending} :
    memPart p ⟨tb, cal, gn, mbx, hl, s.xl, acc, nextAcc,
      ⟨s.tw.cells, poison, s.tw.fullG, s.tw.quadG, s.tw.rc, s.tw.retPages, s.tw.retDeep, ce, ue, rcDrop, deepPoison,
        deepTimeout, scrubPass, scrubPos, scrubDone, rcs, s.tw.ports, arrivals, s.tw.interleave, recent, refresh2, limited⟩,
      cores, bridled, te, sch, fab, hlt, pwr, sec, out, freeCtr, pending⟩ = memPart p s := by
  cases p <;> rfl

/-- An update of the bytes of tower memory. -/
@[simp] theorem memPart_updBytes (h : p ≠ .bytes) (s : State) (cells : Mem)
    {poison ce ue rcDrop deepPoison deepTimeout scrubPass scrubPos scrubDone rcs arrivals recent refresh2 limited}
    {tb cal gn mbx hl acc nextAcc cores bridled te sch fab hlt pwr sec out freeCtr pending} :
    memPart p ⟨tb, cal, gn, mbx, hl, s.xl, acc, nextAcc,
      ⟨cells, poison, s.tw.fullG, s.tw.quadG, s.tw.rc, s.tw.retPages, s.tw.retDeep, ce, ue, rcDrop, deepPoison,
        deepTimeout, scrubPass, scrubPos, scrubDone, rcs, s.tw.ports, arrivals, s.tw.interleave, recent, refresh2, limited⟩,
      cores, bridled, te, sch, fab, hlt, pwr, sec, out, freeCtr, pending⟩ = memPart p s := by
  cases p <;> trivial

/-- An update of the layout of the tiers, not of the bytes. -/
@[simp] theorem memPart_updLayout (h : p ≠ .layout) (s : State)
    {poison fullG quadG rc retPages retDeep ce ue rcDrop deepPoison deepTimeout scrubPass scrubPos scrubDone rcs ports
      arrivals interleave recent refresh2 limited}
    {tb cal gn mbx hl acc nextAcc cores bridled te sch fab hlt pwr sec out freeCtr pending} :
    memPart p ⟨tb, cal, gn, mbx, hl, s.xl, acc, nextAcc,
      ⟨s.tw.cells, poison, fullG, quadG, rc, retPages, retDeep, ce, ue, rcDrop, deepPoison, deepTimeout, scrubPass,
        scrubPos, scrubDone, rcs, ports, arrivals, interleave, recent, refresh2, limited⟩,
      cores, bridled, te, sch, fab, hlt, pwr, sec, out, freeCtr, pending⟩ = memPart p s := by
  cases p <;> trivial

/-- An update of translation caches, advice, prefetches and migrations. -/
@[simp] theorem memPart_updCaches (s : State) {l1 l2 advice prefetches migrations}
    {tb cal gn mbx hl acc nextAcc cores bridled te sch fab hlt pwr sec out freeCtr pending} :
    memPart p ⟨tb, cal, gn, mbx, hl, ⟨s.xl.ctxs, s.xl.maps, l1, l2, advice, prefetches, migrations⟩, acc, nextAcc, s.tw,
      cores, bridled, te, sch, fab, hlt, pwr, sec, out, freeCtr, pending⟩ = memPart p s := by
  cases p <;> rfl

/-- An update of mappings and contexts. -/
@[simp] theorem memPart_updMaps (h : p ≠ .maps) (s : State) {xl : Xlate}
    {tb cal gn mbx hl acc nextAcc cores bridled te sch fab hlt pwr sec out freeCtr pending} :
    memPart p ⟨tb, cal, gn, mbx, hl, xl, acc, nextAcc, s.tw, cores, bridled, te, sch, fab, hlt, pwr, sec, out, freeCtr,
      pending⟩ = memPart p s := by
  cases p <;> trivial

@[simp] theorem memPart_ite (c : Prop) [Decidable c] (s t : State) :
    memPart p (if c then s else t) = if c then memPart p s else memPart p t :=
  apply_ite _ _ _ _

theorem memPart_ite_of {c : Prop} [Decidable c] {s t : State} {x : p.Val} (hs : memPart p s = x) (ht : memPart p t = x) :
    memPart p (if c then s else t) = x := by
  split <;> assumption

theorem memPart_foldl {α : Type} {f : State → α → State} (h : ∀ s x, memPart p (f s x) = memPart p s)
    (l : List α) (s : State) :
    memPart p (l.foldl f s) = memPart p s := by
  induction l generalizing s with
  | nil => rfl
  | cons x l ih => exact (ih _).trans (h s x)

theorem Announced.memPart {s t : State} (h : Announced s t) : memPart p t = memPart p s := by
  obtain ⟨n, l, hl, o, rfl⟩ := h
  exact memPart_updOther s

theorem memPart_fst {α : Type} {x : State × α} {a : α} {s t : State} (e : x = (t, a))
    (h : memPart p x.1 = memPart p s) : memPart p t = memPart p s := by
  subst e; exact h

theorem memPart_snd {α : Type} {x : α × State} {a : α} {s t : State} (e : x = (a, t))
    (h : memPart p x.2 = memPart p s) : memPart p t = memPart p s := by
  subst e; exact h

end

end Sys2Proof.Machine

/-! ## 00: the operations that leave the memories and their maps (the statement of O58) -/

namespace Sys2Proof.Machine

section
variable {p : MemPart}


/-! ### Ops.lean -/

@[simp] theorem memPart_takeFree (s : State) : memPart p (takeFree s).2 = memPart p s := by simp [takeFree]

@[simp] theorem memPart_takeFreeBytes (s : State) (n) : memPart p (takeFreeBytes s n).2 = memPart p s := by
  simp [takeFreeBytes]

@[simp] theorem memPart_emit (s : State) (o) : memPart p (emit s o) = memPart p s := by simp [emit]

@[simp] theorem memPart_atsAsk (s : State) (why pasid addr write) :
    memPart p (atsAsk s why pasid addr write) = memPart p s := by simp [atsAsk]

@[simp] theorem memPart_msixNow (s : State) (v) : memPart p (msixNow s v) = memPart p s := (Announced.ofMsixNow _ _).memPart

@[simp] theorem memPart_setInt (s : State) (b) : memPart p (setInt s b) = memPart p s := (Announced.ofSetInt _ _).memPart

@[simp] theorem memPart_postDenied (s : State) (addr ctx) : memPart p (postDenied s addr ctx) = memPart p s :=
  (Announced.ofPostDenied _ _ _).memPart

@[simp] theorem memPart_eventDenied (s : State) (addr) : memPart p (eventDenied s addr) = memPart p s :=
  (Announced.ofEventDenied _ _).memPart

@[simp] theorem memPart_drainPosts (n) (s : State) : memPart p (drainPosts n s) = memPart p s :=
  (Announced.ofDrainPosts _ _).memPart

@[simp] theorem memPart_postsGo (s : State) : memPart p (postsGo s) = memPart p s := by simp [postsGo]

@[simp] theorem memPart_post (s : State) (q) : memPart p (post s q) = memPart p s := (Announced.ofPost _ _).memPart

@[simp] theorem memPart_msix (s : State) (v) : memPart p (msix s v) = memPart p s := (Announced.ofMsix _ _).memPart

@[simp] theorem memPart_postPages (n : Nat) (s : State) (a d ro ctx) : memPart p (postPages n s a d ro ctx) = memPart p s := by
  induction n generalizing s a d with
  | zero => rfl
  | succ n ih => simp [postPages, ih]

@[simp] theorem memPart_hostWrite (s : State) (addr data ro ctx) : memPart p (hostWrite s addr data ro ctx) = memPart p s := by
  simp [hostWrite]

@[simp] theorem memPart_sendRead (s : State) (tag) : memPart p (sendRead s tag) = memPart p s := by
  simp only [sendRead]
  repeat' split
  all_goals simp

@[simp] theorem memPart_recordRead (s : State) (why addr len pasid sent) :
    memPart p (recordRead s why addr len pasid sent).2 = memPart p s := by simp [recordRead]

@[simp] theorem memPart_hostRead (s : State) (why addr len ctx) : memPart p (hostRead s why addr len ctx).2 = memPart p s := by
  simp only [hostRead]
  repeat' split
  all_goals simp

@[simp] theorem memPart_invalDrain (s : State) (tag) : memPart p (invalDrain s tag) = memPart p s := by
  simp [invalDrain, memPart_foldl]

@[simp] theorem memPart_event (s : State) (typ sev data) : memPart p (event s typ sev data) = memPart p s :=
  (Announced.ofEvent _ _ _ _).memPart

@[simp] theorem memPart_fwError (s : State) (subtype sev rest) : memPart p (fwError s subtype sev rest) = memPart p s :=
  (Announced.ofFwError _ _ _ _).memPart

@[simp] theorem memPart_norWrite (s : State) (record) : memPart p (norWrite s record) = memPart p s :=
  (Announced.ofNorWrite _ _).memPart

@[simp] theorem memPart_modCore (s : State) (n f) : memPart p (modCore s n f) = memPart p s := by simp [modCore]

/-! ### FlitOps.lean -/

@[simp] theorem memPart_modLink (s : State) (l f) : memPart p (modLink s l f) = memPart p s := by simp [modLink]

@[simp] theorem memPart_sendFlit (s : State) (l ftype vc seq payload) :
    memPart p (sendFlit s l ftype vc seq payload).1 = memPart p s := by simp [sendFlit]

@[simp] theorem memPart_sendNumbered (s : State) (l ftype vc payload) :
    memPart p (sendNumbered s l ftype vc payload) = memPart p s := by simp [sendNumbered]

@[simp] theorem memPart_sendCtrl (s : State) (l) : memPart p (sendCtrl s l) = memPart p s := by simp [sendCtrl]

@[simp] theorem memPart_sendCtrlAll (s : State) : memPart p (sendCtrlAll s) = memPart p s := by
  simp [sendCtrlAll, memPart_foldl]

@[simp] theorem memPart_sendIdle (s : State) (l) : memPart p (sendIdle s l) = memPart p s := by simp [sendIdle]

/-! ### FabricOps.lean -/

@[simp] theorem memPart_toRouter (s : State) (q) : memPart p (toRouter s q) = memPart p s := by simp [toRouter]

@[simp] theorem memPart_sendRequest (s : State) (op flags tclass chip inc gaddr issuer parts why) :
    memPart p (sendRequest s op flags tclass chip inc gaddr issuer parts why).2 = memPart p s := by
  simp only [sendRequest]
  repeat' split
  all_goals simp [memPart_foldl]

@[simp] theorem memPart_freeTrack (s : State) (i) : memPart p (freeTrack s i) = memPart p s := by
  unfold freeTrack
  split <;> simp

@[simp] theorem memPart_respond (s : State) (q op status poison payload) :
    memPart p (respond s q op status poison payload) = memPart p s := by simp [respond, memPart_foldl]

@[simp] theorem memPart_refuse (s : State) (q status) : memPart p (refuse s q status) = memPart p s := by simp [refuse]

/-! ### Sync.lean -/

@[simp] theorem memPart_modQueue (s : State) (q f) : memPart p (modQueue s q f) = memPart p s := by simp [modQueue]

@[simp] theorem memPart_settleAll (s : State) (o v) : memPart p (settleAll s o v) = memPart p s := by simp [settleAll]

@[simp] theorem memPart_fabricQueues (s : State) (o v) : memPart p (fabricQueues s o v) = memPart p s := by simp [fabricQueues]

@[simp] theorem memPart_syncApply (s : State) (o f) : memPart p (syncApply s o f) = memPart p s := by
  unfold syncApply
  split <;> simp

@[simp] theorem memPart_syncAdd (s : State) (o v) : memPart p (syncAdd s o v) = memPart p s := by simp [syncAdd]

@[simp] theorem memPart_syncSet (s : State) (o v) : memPart p (syncSet s o v) = memPart p s := by simp [syncSet]

/-! ### Tower.lean -/

@[simp] theorem memPart_poisonEvent (s : State) (source dpa) : memPart p (poisonEvent s source dpa) = memPart p s := by
  simp [poisonEvent]

@[simp] theorem memPart_setPoison (s : State) (cell v) : memPart p (setPoison s cell v) = memPart p s := by simp [setPoison]

@[simp] theorem memPart_storeCells (s : State) (cell data) (hBytes : p ≠ .bytes) :
    memPart p (storeCells s cell data) = memPart p s := by
  simp [hBytes, storeCells]

@[simp] theorem memPart_loseLine (s : State) (cell) (hBytes : p ≠ .bytes) :
    memPart p (loseLine s cell) = memPart p s := by simp [hBytes, loseLine]

@[simp] theorem memPart_lineCheck (s : State) (dpa cell err source) (hBytes : p ≠ .bytes) :
    memPart p (lineCheck s dpa cell err source) = memPart p s := by
  unfold lineCheck
  split <;> simp [hBytes]

@[simp] theorem memPart_towerRead (s : State) (dpa n err source) (hBytes : p ≠ .bytes) :
    memPart p (towerRead s dpa n err source).1 = memPart p s := by
  unfold towerRead
  split <;> simp [hBytes]

@[simp] theorem memPart_towerWrite (s : State) (dpa data mark err) (hBytes : p ≠ .bytes) :
    memPart p (towerWrite s dpa data mark err).1 = memPart p s := by
  simp only [towerWrite]
  repeat' split
  all_goals simp [hBytes]

@[simp] theorem memPart_towerAdd (s : State) (dpa fmt delta err) (hBytes : p ≠ .bytes) :
    memPart p (towerAdd s dpa fmt delta err).1 = memPart p s := by
  simp only [towerAdd]
  repeat' split
  all_goals simp [hBytes]

@[simp] theorem memPart_snoop (s : State) (dpa) : memPart p (snoop s dpa) = memPart p s := by simp [snoop]

@[simp] theorem memPart_hostTakes (s : State) (dpa) : memPart p (hostTakes s dpa) = memPart p s := by simp [hostTakes]

@[simp] theorem memPart_deepPoisonEvent (s : State) (source q dpa) :
    memPart p (deepPoisonEvent s source q dpa) = memPart p s := by simp [deepPoisonEvent]

/-! ### Access.lean -/

@[simp] theorem memPart_l2Put (s : State) (k e) : memPart p (l2Put s k e) = memPart p s := by simp [l2Put]

@[simp] theorem memPart_tlbUse (s : State) (st k e) : memPart p (tlbUse s st k e) = memPart p s := by simp [tlbUse]

@[simp] theorem memPart_tlbDrop (s : State) (f) : memPart p (tlbDrop s f) = memPart p s := by simp [tlbDrop]

@[simp] theorem memPart_accMod (s : State) (id f) : memPart p (accMod s id f) = memPart p s := by simp [accMod]

@[simp] theorem memPart_accStage (s : State) (id g) : memPart p (accStage s id g) = memPart p s := by simp [accStage]

@[simp] theorem memPart_accEnd (s : State) (id g) : memPart p (accEnd s id g) = memPart p s := by simp [accEnd]

@[simp] theorem memPart_accFail (s : State) (id why) : memPart p (accFail s id why) = memPart p s := by
  simp only [accFail]
  repeat' split
  all_goals simp

@[simp] theorem memPart_rcFill (s : State) (k dpa data) (hBytes : p ≠ .bytes) :
    memPart p (rcFill s k dpa data) = memPart p s := by simp [hBytes, rcFill]

@[simp] theorem memPart_rcTouch (s : State) (k x) : memPart p (rcTouch s k x) = memPart p s := by simp [rcTouch]

@[simp] theorem memPart_rcDropIf (s : State) (f) : memPart p (rcDropIf s f) = memPart p s := by simp [rcDropIf]

@[simp] theorem memPart_rcDropErr (s : State) (k x) (hBytes : p ≠ .bytes) :
    memPart p (rcDropErr s k x) = memPart p s := by simp [hBytes, rcDropErr]

@[simp] theorem memPart_poisonRead (s : State) (id a) : memPart p (poisonRead s id a) = memPart p s := by simp [poisonRead]

@[simp] theorem memPart_deepLost (s : State) (id q dpa a) : memPart p (deepLost s id q dpa a) = memPart p s := by
  simp [deepLost]

@[simp] theorem memPart_pumpDeep (n : Nat) (s : State) (q) : memPart p (pumpDeep n s q) = memPart p s := by
  induction n generalizing s with
  | zero => rfl
  | succ n ih =>
    unfold pumpDeep
    split <;> simp [ih]

@[simp] theorem memPart_pumpPort (s : State) (q) : memPart p (pumpPort s q) = memPart p s := by simp [pumpPort]

@[simp] theorem memPart_pumpPorts (s : State) : memPart p (pumpPorts s) = memPart p s := by simp [pumpPorts, memPart_foldl]

@[simp] theorem memPart_deepIssue (s : State) (id d a) : memPart p (deepIssue s id d a) = memPart p s := by
  simp only [deepIssue]
  repeat' split
  all_goals simp

@[simp] theorem memPart_hostOut (s : State) (id addr a) : memPart p (hostOut s id addr a) = memPart p s := by simp [hostOut]

@[simp] theorem memPart_hostPut (s : State) (id addr a) : memPart p (hostPut s id addr a) = memPart p s := by
  unfold hostPut
  split <;> simp

@[simp] theorem memPart_hostGet (s : State) (id addr a) : memPart p (hostGet s id addr a) = memPart p s := by
  unfold hostGet
  split
  · simp
  · split
    · next e => rw [memPart_accFail]; exact memPart_snd e (by simp)
    · next e => rw [memPart_accStage]; exact memPart_snd e (by simp)

@[simp] theorem memPart_hostReadEnd (s : State) (id addr data) : memPart p (hostReadEnd s id addr data) = memPart p s := by
  unfold hostReadEnd
  split <;> simp

@[simp] theorem memPart_hostGo (s : State) (id ok) : memPart p (hostGo s id ok) = memPart p s := by simp [hostGo]

@[simp] theorem memPart_remotePut (s : State) (id chip inc g a) : memPart p (remotePut s id chip inc g a) = memPart p s := by
  unfold remotePut
  dsimp only
  split
  · next e => rw [memPart_accFail]; exact memPart_snd e (by simp)
  · next e => rw [memPart_accStage]; exact memPart_snd e (by simp)
  · next e => rw [memPart_accStage]; exact memPart_snd e (by simp)

@[simp] theorem memPart_issueAt (s : State) (id a e) : memPart p (issueAt s id a e) = memPart p s := by
  unfold issueAt
  split <;> simp

@[simp] theorem memPart_issue (s : State) (id) : memPart p (issue s id) = memPart p s := by
  simp only [issue]
  repeat' split
  all_goals simp

@[simp] theorem memPart_addAccess (s : State) (a) : memPart p (addAccess s a).2 = memPart p s := by simp [addAccess]

@[simp] theorem memPart_startAccess (s : State) (a) : memPart p (startAccess s a) = memPart p s := by
  simp [startAccess, memPart_foldl]

@[simp] theorem memPart_startPhys (s : State) (a deep pa) : memPart p (startPhys s a deep pa) = memPart p s := by
  simp [startPhys]

@[simp] theorem memPart_accDrop (s : State) (f) : memPart p (accDrop s f) = memPart p s := by simp [accDrop]

@[simp] theorem memPart_accDiscard (s : State) (f) : memPart p (accDiscard s f) = memPart p s := by
  refine (memPart_updOther _).trans (memPart_foldl (fun _ _ => ?_) _ _)
  split <;> simp

@[simp] theorem memPart_accConfirm (s : State) (f) : memPart p (accConfirm s f) = memPart p s := by
  simp [accConfirm, memPart_foldl]

@[simp] theorem memPart_pumpStalled (s : State) : memPart p (pumpStalled s) = memPart p s := by
  refine memPart_foldl (fun _ _ => ?_) _ _
  split <;> simp

@[simp] theorem memPart_notifyErr (s : State) (q) : memPart p (notifyErr s q) = memPart p s := by simp [notifyErr]

@[simp] theorem memPart_notifyOnce (s : State) (q x) : memPart p (notifyOnce s q x).1 = memPart p s := by
  unfold notifyOnce
  dsimp only
  split
  · next e => exact memPart_snd e (by simp)
  · next e => simpa using memPart_snd e (by simp)
  · next e => simpa using memPart_snd e (by simp)

@[simp] theorem memPart_pumpNotes (s : State) : memPart p (pumpNotes s) = memPart p s := by
  refine memPart_foldl (fun _ _ => memPart_foldl (fun _ _ => ?_) _ _) _ _
  split
  · simp
  · rfl

@[simp] theorem memPart_accRemoteEnd (s : State) (id r) : memPart p (accRemoteEnd s id r) = memPart p s := by
  unfold accRemoteEnd
  split <;> simp

@[simp] theorem memPart_rowCacheServe (s : State) (id d a err) (hBytes : p ≠ .bytes) :
    memPart p (rowCacheServe s id d a err) = memPart p s := by
  unfold rowCacheServe
  split <;> simp [hBytes]

@[simp] theorem memPart_towerServe (s : State) (id dpa a err) (hBytes : p ≠ .bytes) :
    memPart p (towerServe s id dpa a err) = memPart p s := by
  unfold towerServe
  split <;> simp [hBytes]

@[simp] theorem memPart_deepWritten (s : State) (id d) : memPart p (deepWritten s id d) = memPart p s := by simp [deepWritten]

@[simp] theorem memPart_deepServe (s : State) (q id d a r) (hBytes : p ≠ .bytes) :
    memPart p (deepServe s q id d a r) = memPart p s := by
  unfold deepServe
  split <;> simp [hBytes]

@[simp] theorem memPart_portLose (s : State) (q) : memPart p (portLose s q) = memPart p s := by
  rw [portLose, memPart_pumpPort]
  refine memPart_foldl (fun _ _ => ?_) _ _
  split <;> simp

@[simp] theorem memPart_deepLinkEvent (s : State) (up) : memPart p (deepLinkEvent s up) = memPart p s := by
  simp [deepLinkEvent]

/-! ### Mailbox.lean -/

@[simp] theorem memPart_modChan (s : State) (c f) : memPart p (modChan s c f) = memPart p s := by simp [modChan]

@[simp] theorem memPart_finishWith (irq) (s : State) (c status detail payload) :
    memPart p (finishWith irq s c status detail payload) = memPart p s := by
  unfold finishWith
  split <;> simp

@[simp] theorem memPart_finishCmd (s : State) (c status detail payload) :
    memPart p (finishCmd s c status detail payload) = memPart p s := by simp [finishCmd]

@[simp] theorem memPart_setBegun (s : State) (c) : memPart p (setBegun s c) = memPart p s := by simp [setBegun]

@[simp] theorem memPart_setProgress (s : State) (c n) : memPart p (setProgress s c n) = memPart p s := by simp [setProgress]

@[simp] theorem memPart_runOp (s : State) (c op) {chk refused} {eff : CmdHeld → State → Done}
    (h : ∀ k, memPart p (eff k s).state = memPart p s) :
    memPart p (runOp s c op chk refused eff) = memPart p s := by
  unfold runOp
  split
  · rfl
  · next k _ =>
    split
    · rfl
    · split
      · simp
      · have kept := h k
        split <;> (next e => rw [e] at kept; simpa using kept)

@[simp] theorem memPart_plainOp (s : State) (c op) {chk} {resp} {eff} (h : ∀ k, memPart p (eff k s) = memPart p s) :
    memPart p (plainOp s c op chk resp eff) = memPart p s := by
  simp only [plainOp]
  repeat' split
  all_goals simp [h]

/-! ### Slots.lean -/

@[simp] theorem memPart_modSlot (s : State) (i f) : memPart p (modSlot s i f) = memPart p s := by simp [modSlot]

@[simp] theorem memPart_decideEnd (s : State) (i status detail app) :
    memPart p (decideEnd s i status detail app) = memPart p s := by simp [decideEnd]

@[simp] theorem memPart_endRequest (s : State) (i status detail app) :
    memPart p (endRequest s i status detail app) = memPart p s := by simp [endRequest]

/-! ### Cores.lean -/

@[simp] theorem memPart_modBank (s : State) (n b f) : memPart p (modBank s n b f) = memPart p s := by simp [modBank]

@[simp] theorem memPart_spadPut (s : State) (n spa v) : memPart p (spadPut s n spa v) = memPart p s := by
  unfold spadPut
  split <;> simp

@[simp] theorem memPart_spadWrite (s : State) (n a) (l : Bytes) : memPart p (spadWrite s n a l) = memPart p s := by
  induction l generalizing s a with
  | nil => rfl
  | cons b l ih => simp [spadWrite, ih]

@[simp] theorem memPart_modThread (s : State) (n t f) : memPart p (modThread s n t f) = memPart p s := by simp [modThread]

@[simp] theorem memPart_modOp (s : State) (n id f) : memPart p (modOp s n id f) = memPart p s := by simp [modOp]

@[simp] theorem memPart_setHeld (s : State) (q held) : memPart p (setHeld s q held) = memPart p s := by simp [setHeld]

@[simp] theorem memPart_bridleTo (k on) (s : State) :
    memPart p (bridleTo k on s).state = memPart p s := by simp [bridleTo]

@[simp] theorem memPart_bridleEff (k on) (s : State) :
    memPart p (bridleEff k on s).state = memPart p s := by simp [bridleEff]

/-! ### Seq.lean -/

@[simp] theorem memPart_account (s : State) (n t) : memPart p (account s n t) = memPart p s := by simp [account]

@[simp] theorem memPart_squashOps (s : State) (n q) : memPart p (squashOps s n q) = memPart p s := by simp [squashOps]

@[simp] theorem memPart_raiseFault (s : State) (n t num kind detail pc addr) :
    memPart p (raiseFault s n t num kind detail pc addr) = memPart p s := by
  unfold raiseFault
  split <;> simp

@[simp] theorem memPart_seqFault (s : State) (n t kind detail pc addr) :
    memPart p (seqFault s n t kind detail pc addr) = memPart p s := by simp [seqFault]

@[simp] theorem memPart_retire (s : State) (n t r old pc) : memPart p (retire s n t r old pc) = memPart p s := by simp [retire]

@[simp] theorem memPart_branchTo (s : State) (n t r old actual other) :
    memPart p (branchTo s n t r old actual other) = memPart p s := by simp [branchTo]

@[simp] theorem memPart_seqDo (s : State) (n t key) {f : Nat → Regs → State → SeqRes}
    (h : ∀ w r, memPart p ((f w r s).state s) = memPart p s) :
    memPart p (seqDo s n t key f) = memPart p s := by
  unfold seqDo
  split
  · rfl
  · dsimp only
    split
    · simp
    · split
      · simp
      · split
        · rfl
        · have k := h (instrAt s n (landDue (threadOf s n t).regs).pc) (landDue (threadOf s n t).regs)
          split
          case h_2 => simp
          all_goals next e => rw [e] at k; simpa using k

@[simp] theorem memPart_seqAlu (s : State) (n t key f) : memPart p (seqAlu s n t key f) = memPart p s :=
  memPart_seqDo s n t key fun _ _ => rfl

@[simp] theorem memPart_seqHeld (s : State) (n t key) {f : Nat → Regs → State → SeqRes}
    (h : ∀ w r, memPart p ((f w r s).state s) = memPart p s) :
    memPart p (seqHeld s n t key f) = memPart p s := memPart_seqDo s n t key fun w r => by simp [h w r]

@[simp] theorem memPart_seqLoad (s : State) (n t key len) : memPart p (seqLoad s n t key len) = memPart p s := by
  refine memPart_seqDo s n t key fun w r => ?_
  dsimp only
  split
  · next e => rw [scalarBad_state e]
  · rfl

@[simp] theorem memPart_seqStore (s : State) (n t key len) : memPart p (seqStore s n t key len) = memPart p s := by
  refine memPart_seqDo s n t key fun w r => ?_
  dsimp only
  split
  · next e => rw [scalarBad_state e]
  · split <;> simp

@[simp] theorem memPart_withObj (s : State) (n v) {f : Nat → SeqRes} (h : ∀ o, memPart p ((f o).state s) = memPart p s) :
    memPart p ((withObj s n v f).state s) = memPart p s := by
  unfold withObj
  split
  · exact h _
  · next e => rw [syncObj_state e]

@[simp] theorem memPart_arm (s : State) (n t obj v d) {f : State → SeqRes}
    (h : ∀ u, memPart p u = memPart p s → memPart p ((f u).state s) = memPart p s) :
    memPart p ((arm s n t obj v d f).state s) = memPart p s := by
  refine memPart_withObj s n obj fun o => ?_
  split
  · rfl
  · split
    · rfl
    · exact h _ (by simp)

@[simp] theorem memPart_wblkOn (s u : State) (n t w r b) : memPart p ((wblkOn u n t w r b).state s) = memPart p u := by
  simp only [wblkOn]
  repeat' split
  all_goals simp

@[simp] theorem memPart_writeOwner (s : State) (n t c b code r) :
    memPart p ((writeOwner s n t c b code r).state s) = memPart p s := by simp [writeOwner]

@[simp] theorem memPart_crWrite (s : State) (n t w r) : memPart p ((crWrite s n t w r).state s) = memPart p s := by
  unfold crWrite
  split <;> simp

@[simp] theorem memPart_copIssue (s : State) (n t w r) : memPart p ((copIssue s n t w r).state s) = memPart p s := by
  simp only [copIssue]
  repeat' split
  all_goals simp

@[simp] theorem memPart_dropOp (s : State) (n id) : memPart p (dropOp s n id) = memPart p s := by simp [dropOp]

@[simp] theorem memPart_opFault (s : State) (n o kind detail addr) :
    memPart p (opFault s n o kind detail addr) = memPart p s := by simp [opFault]

@[simp] theorem memPart_backTo (s : State) (n t r) : memPart p (backTo s n t r) = memPart p s := by simp [backTo]

@[simp] theorem memPart_commitStores (s : State) (n t k) (l : List HeldStore) :
    memPart p (commitStores s n t k l) = memPart p s := by
  induction l generalizing s with
  | nil => rfl
  | cons x l ih =>
    unfold commitStores
    split
    · rfl
    · dsimp only
      split <;> simp [ih]

@[simp] theorem memPart_settleThread (s : State) (n t) : memPart p (settleThread s n t) = memPart p s := by
  simp only [settleThread]
  repeat' split
  all_goals simp

@[simp] theorem memPart_confirmOne (s : State) (n t) : memPart p (confirmOne s n t) = memPart p s := by simp [confirmOne]

@[simp] theorem memPart_squashOne (s : State) (n t b) : memPart p (squashOne s n t b) = memPart p s := by simp [squashOne]

/-! ### CopOps.lean -/

@[simp] theorem memPart_putAll (s : State) (n l) : memPart p (putAll s n l) = memPart p s := by simp [putAll, memPart_foldl]

@[simp] theorem memPart_opOut (s : State) (n o ws status detail) : memPart p (opOut s n o ws status detail) = memPart p s := by
  simp [opOut]

@[simp] theorem memPart_opRun (s : State) (n id kind) {reads} {writes} {f : CopOp → State → State}
    (h : ∀ o, memPart p (f o s) = memPart p s) :
    memPart p (opRun s n id kind reads writes f) = memPart p s := by
  simp only [opRun]
  repeat' split
  all_goals simp [h]

/-! ### Dma.lean -/

@[simp] theorem memPart_dmaRow (s : State) (n o r) : memPart p (dmaRow s n o r) = memPart p s := by simp [dmaRow]

@[simp] theorem memPart_dmaDeliver (s : State) (n l) : memPart p (dmaDeliver s n l) = memPart p s := by
  simp [dmaDeliver, memPart_foldl]

@[simp] theorem memPart_noteHost (s : State) (n l) : memPart p (noteHost s n l) = memPart p s := by
  unfold noteHost
  split <;> simp

@[simp] theorem memPart_completeOp (s : State) (n o status detail) :
    memPart p (completeOp s n o status detail) = memPart p s := by
  unfold completeOp
  split <;> simp

@[simp] theorem memPart_dmaFaults (s : State) (n o l k d a) : memPart p (dmaFaults s n o l k d a) = memPart p s := by
  simp [dmaFaults]

@[simp] theorem memPart_dmaComplete (s : State) (n o) : memPart p (dmaComplete s n o) = memPart p s := by
  simp only [dmaComplete]
  repeat' split
  all_goals simp

@[simp] theorem memPart_flushStaging (s : State) (n o) : memPart p (flushStaging s n o).2 = memPart p s := by
  unfold flushStaging
  split <;> simp

/-! ### Vector.lean -/

@[simp] theorem memPart_skipFree (s : State) (n) : memPart p (skipFree s n) = memPart p s := by simp [skipFree]

@[simp] theorem memPart_vecStore (s : State) (n o cs) : memPart p (vecStore s n o cs) = memPart p s := by simp [vecStore]

@[simp] theorem memPart_vec1 (s : State) (n id kind f) : memPart p (vec1 s n id kind f) = memPart p s := by simp [vec1]

@[simp] theorem memPart_vec2 (s : State) (n id kind f) : memPart p (vec2 s n id kind f) = memPart p s := by simp [vec2]

@[simp] theorem memPart_vecRed (s : State) (n id kind f z) : memPart p (vecRed s n id kind f z) = memPart p s := by
  simp [vecRed]

@[simp] theorem memPart_vecStoreInt (s : State) (n o l) : memPart p (vecStoreInt s n o l) = memPart p s := by
  simp [vecStoreInt]

/-! ### Tables.lean -/

@[simp] theorem memPart_modTable (s : State) (i f) : memPart p (modTable s i f) = memPart p s := by simp [modTable]

@[simp] theorem memPart_modEngine (s : State) (e f) : memPart p (modEngine s e f) = memPart p s := by simp [modEngine]

@[simp] theorem memPart_applySwitch (s : State) (i) : memPart p (applySwitch s i) = memPart p s := by simp [applySwitch]

@[simp] theorem memPart_ownerSwitches (s : State) (t) : memPart p (ownerSwitches s t) = memPart p s := by
  simp [ownerSwitches, memPart_foldl]

@[simp] theorem memPart_modLookup (s : State) (e id f) : memPart p (modLookup s e id f) = memPart p s := by simp [modLookup]

@[simp] theorem memPart_pumpRows (n : Nat) (s : State) (e) : memPart p (pumpRows n s e) = memPart p s := by
  induction n generalizing s with
  | zero => rfl
  | succ n ih =>
    rw [pumpRows]
    split
    · rfl
    · dsimp only
      split <;> simp [ih]

@[simp] theorem memPart_pumpEngine (s : State) (e) : memPart p (pumpEngine s e) = memPart p s := by simp [pumpEngine]

@[simp] theorem memPart_modPart (s : State) (e id i f) : memPart p (modPart s e id i f) = memPart p s := by simp [modPart]

@[simp] theorem memPart_sendPart (s : State) (e l i x) : memPart p (sendPart s e l i x) = memPart p s := by
  unfold sendPart
  split
  · rfl
  · split
    · rfl
    · split
      · next e => exact memPart_snd e (by simp)
      · next e => simpa using memPart_snd e (by simp)
      · next e => simpa using memPart_snd e (by simp)

@[simp] theorem memPart_pumpParts (s : State) : memPart p (pumpParts s) = memPart p s :=
  memPart_foldl (fun _ _ => memPart_foldl (fun _ _ => memPart_foldl (fun _ _ => by simp) _ _) _ _) _ _

@[simp] theorem memPart_countLookup (s : State) (l) : memPart p (countLookup s l) = memPart p s := by simp [countLookup]

@[simp] theorem memPart_acceptLookup (s : State) (e l) : memPart p (acceptLookup s e l) = memPart p s := by
  have owners (u : State) (o : Option TableD) : memPart p (o.elim u (ownerSwitches u)) = memPart p u := by
    cases o <;> simp
  simp [acceptLookup, owners]

@[simp] theorem memPart_dropLookup (s : State) (e id) : memPart p (dropLookup s e id) = memPart p s := by
  simp [dropLookup, memPart_foldl]

@[simp] theorem memPart_rowFailed (s : State) (e l w dva) : memPart p (rowFailed s e l w dva) = memPart p s := by
  simp only [rowFailed]
  repeat' split
  all_goals simp

@[simp] theorem memPart_pumpAll (s : State) (e) : memPart p (pumpAll s e) = memPart p s := by simp [pumpAll]

/-! ### Pooling.lean -/

@[simp] theorem memPart_writeOuts (e n) (l : List (Nat × Bytes)) (s : State) (ok) :
    memPart p (writeOuts e n l s ok).1 = memPart p s := by
  induction l generalizing s ok with
  | nil => rfl
  | cons x l ih =>
    unfold writeOuts
    split
    · exact ih _ _
    · split
      · rw [ih, memPart_spadWrite]
      · exact ih _ _

@[simp] theorem memPart_freeOuts (s : State) (e n l size) : memPart p (freeOuts s e n l size) = memPart p s := by
  simp [freeOuts, memPart_foldl]

@[simp] theorem memPart_returnBanks (s : State) (e l) : memPart p (returnBanks s e l) = memPart p s := by
  simp [returnBanks, memPart_foldl]

@[simp] theorem memPart_removeLookup (s : State) (e id) : memPart p (removeLookup s e id) = memPart p s := by
  simp [removeLookup]

@[simp] theorem memPart_endLookup (s : State) (e n id l status) : memPart p (endLookup s e n id l status) = memPart p s := by
  unfold endLookup
  dsimp only
  split <;> simp

@[simp] theorem memPart_completeLocal (s : State) (e n id l) : memPart p (completeLocal s e n id l) = memPart p s := by
  unfold completeLocal
  split
  · simp
  · split
    · dsimp only
      split
      · next e => rw [memPart_endLookup]; exact memPart_fst e (by simp)
      · next e => rw [memPart_endLookup, memPart_freeOuts]; exact memPart_fst e (by simp)
    · simp

@[simp] theorem memPart_dropServing (s : State) (i) : memPart p (dropServing s i) = memPart p s := by simp [dropServing]

@[simp] theorem memPart_completePeer (s : State) (e i l) : memPart p (completePeer s e i l) = memPart p s := by
  unfold completePeer
  dsimp only
  split <;> simp

@[simp] theorem memPart_partEnd (s : State) (e lk tag r) : memPart p (partEnd s e lk tag r) = memPart p s := by
  simp only [partEnd]
  repeat' split
  all_goals simp

/-! ### Update.lean -/

@[simp] theorem memPart_modStream (s : State) (held f) : memPart p (modStream s held f) = memPart p s := by simp [modStream]

@[simp] theorem memPart_countUpd (s : State) (tbl st dropped) : memPart p (countUpd s tbl st dropped) = memPart p s := by
  simp [countUpd]

@[simp] theorem memPart_ringFailed (s : State) (r) : memPart p (ringFailed s r) = memPart p s := by
  unfold ringFailed
  split <;> simp

@[simp] theorem memPart_recSettled (s : State) (r status dup) : memPart p (recSettled s r status dup) = memPart p s := by
  simp only [recSettled]
  repeat' split
  all_goals simp

@[simp] theorem memPart_arrive (s : State) (e r) : memPart p (arrive s e r) = memPart p s := by simp [arrive]

@[simp] theorem memPart_sendRec (s : State) (e entry r o) : memPart p (sendRec s e entry r o).1 = memPart p s := by
  unfold sendRec
  dsimp only
  split
  · next e => exact memPart_snd e (by simp)
  · next e => simpa using memPart_snd e (by simp)
  · next e => simpa using memPart_snd e (by simp)

@[simp] theorem memPart_routeRec (s : State) (e ctx r) : memPart p (routeRec s e ctx r).1 = memPart p s := by
  simp only [routeRec]
  repeat' split
  all_goals simp

@[simp] theorem memPart_routeAll (n o) (l : List (Nat × Nat × Nat)) (s : State) :
    memPart p (routeAll n o l s) = memPart p s := by
  induction l generalizing s with
  | nil => rfl
  | cons x l ih =>
    unfold routeAll
    dsimp only
    split
    · simp
    · split
      · next e => rw [ih, memPart_modOp]; exact memPart_fst e (by simp)
      · next e => exact memPart_fst e (by simp)

@[simp] theorem memPart_applyRec (s : State) (e r held t row) : memPart p (applyRec s e r held t row) = memPart p s := by
  simp [applyRec]

@[simp] theorem memPart_recFails (s : State) (r w a) : memPart p (recFails s r w a) = memPart p s := by
  simp only [recFails]
  repeat' split
  all_goals simp

@[simp] theorem memPart_settleUpdates (s : State) (e) : memPart p (settleUpdates s e) = memPart p s := by
  refine memPart_foldl (fun _ _ => ?_) _ _
  dsimp only
  split
  · rfl
  · split <;> simp

@[simp] theorem memPart_settleAllUpdates (s : State) : memPart p (settleAllUpdates s) = memPart p s := by
  simp [settleAllUpdates, memPart_foldl]

@[simp] theorem memPart_arrival (s : State) (e r) : memPart p (arrival s e r) = memPart p s := by
  unfold arrival
  dsimp only
  split <;> simp

@[simp] theorem memPart_recRemoteEnd (s : State) (e id r) : memPart p (recRemoteEnd s e id r) = memPart p s := by
  unfold recRemoteEnd
  split <;> simp

@[simp] theorem memPart_updateComplete (s : State) (n o) : memPart p (updateComplete s n o) = memPart p s := by
  unfold updateComplete
  dsimp only
  split <;> simp

@[simp] theorem memPart_ringRecord (s : State) (held x b) : memPart p (ringRecord s held x b) = memPart p s := by
  unfold ringRecord
  dsimp only
  split <;> simp

/-! ### Handover.lean -/

@[simp] theorem memPart_bankServes (s : State) (c) : memPart p (bankServes s c) = memPart p s := by
  simp [bankServes, memPart_foldl]

/-! ### Queues.lean -/

@[simp] theorem memPart_notify (s : State) (q) : memPart p (notify s q) = memPart p s := by simp [notify]

@[simp] theorem memPart_fabricRecord (s : State) (q x dva b errs) (hBytes : p ≠ .bytes) :
    memPart p (fabricRecord s q x dva b errs) = memPart p s := by
  unfold fabricRecord
  split
  · simp
  · dsimp only
    split
    · split
      · next e => rw [memPart_notify]; exact memPart_fst e (by simp [hBytes])
      · next e => exact memPart_fst e (by simp [hBytes])
    · simp

@[simp] theorem memPart_postRecord (s : State) (q token user e dup cached errs) (hBytes : p ≠ .bytes) :
    memPart p (postRecord s q token user e dup cached errs) = memPart p s := by
  unfold postRecord
  split <;> simp [hBytes]

@[simp] theorem memPart_cachePut (s : State) (e) : memPart p (cachePut s e) = memPart p s := by
  simp only [cachePut]
  repeat' split
  all_goals simp

@[simp] theorem memPart_admitSlot (s : State) (i q x b d) : memPart p (admitSlot s i q x b d) = memPart p s := by
  simp only [admitSlot]
  repeat' split
  all_goals simp [memPart_foldl]

@[simp] theorem memPart_admission (s : State) (q x b errs) (hBytes : p ≠ .bytes) :
    memPart p (admission s q x b errs) = memPart p s := by
  simp only [admission]
  repeat' split
  all_goals simp [hBytes]

@[simp] theorem memPart_atcForget (s : State) : memPart p (atcForget s) = memPart p s := by simp [atcForget]

@[simp] theorem memPart_hostDesc (s : State) (x data) : memPart p (hostDesc s x data).2 = memPart p s := by
  simp only [hostDesc]
  repeat' split
  all_goals simp

@[simp] theorem memPart_fabricDesc (s : State) (x data errs) (hBytes : p ≠ .bytes) :
    memPart p (fabricDesc s x data errs).2 = memPart p s := by
  simp only [fabricDesc]
  repeat' split
  all_goals simp [hBytes]

@[simp] theorem memPart_postSlot (s : State) (i errs) (hBytes : p ≠ .bytes) :
    memPart p (postSlot s i errs) = memPart p s := by
  simp only [postSlot]
  repeat' split
  all_goals simp [hBytes, memPart_foldl]

@[simp] theorem memPart_flushRead (s : State) (i a ctx) : memPart p (flushRead s i a ctx) = memPart p s := by
  unfold flushRead
  split
  · next e => rw [memPart_modSlot]; exact memPart_snd e (by simp)
  · next e => rw [memPart_setInt, memPart_modSlot]; exact memPart_snd e (by simp)

@[simp] theorem memPart_flushEnd (s : State) (i ok) : memPart p (flushEnd s i ok) = memPart p s := by simp [flushEnd]

/-! ### Reef.lean -/

@[simp] theorem memPart_thermalEvent (s : State) (source k t cleared) :
    memPart p (thermalEvent s source k t cleared) = memPart p s := by simp [thermalEvent]

@[simp] theorem memPart_modOct (s : State) (k f) : memPart p (modOct s k f) = memPart p s := by simp [modOct]

@[simp] theorem memPart_noteReef (s : State) : memPart p (noteReef s) = memPart p s := by simp [noteReef, memPart_foldl]

/-! ### Memory.lean -/

@[simp] theorem memPart_scrubEnd (s : State) (k) : memPart p (scrubEnd s k) = memPart p s := by simp [scrubEnd]

@[simp] theorem memPart_rcRefetch (s : State) (k x) : memPart p (rcRefetch s k x) = memPart p s := by simp [rcRefetch]

@[simp] theorem memPart_scrubLine (s : State) (k i err) (hBytes : p ≠ .bytes) :
    memPart p (scrubLine s k i err) = memPart p s := by
  -- The address stays a name: the kernel would evaluate it where the cases are compared.
  suffices unfolded : ∀ addr scrub, addr = dpaOfCell → scrub = scrubLine → memPart p (scrub s k i err) = memPart p s from
    unfolded _ _ rfl rfl
  intro addr scrub hAddr hScrub
  delta scrubLine at hScrub
  rw [← hAddr] at hScrub
  clear hAddr
  subst hScrub
  beta_reduce
  dsimp only
  split
  · exact memPart_lineCheck _ _ _ _ _ hBytes
  · rfl
  · simp [hBytes]
  · exact (memPart_foldl (fun _ _ => by simp [hBytes]) _ _).trans (memPart_loseLine _ _ hBytes)

@[simp] theorem memPart_rcEmpty (s : State) : memPart p (rcEmpty s) = memPart p s := by simp [rcEmpty]

@[simp] theorem memPart_enumerate (s : State) (mask found) (hLayout : p ≠ .layout) :
    memPart p (enumerate s mask found) = memPart p s := by
  simp [hLayout, enumerate, memPart_foldl]

@[simp] theorem memPart_fillTower (k) (n : Nat) (s : State) (i) (hBytes : p ≠ .bytes) :
    memPart p (fillTower k n s i) = memPart p s := by
  induction n generalizing s i with
  | zero => rfl
  | succ n ih => simp [hBytes, fillTower, ih]

@[simp] theorem memPart_fillDeep (c k) (n : Nat) (s : State) (i) : memPart p (fillDeep c k n s i).1 = memPart p s := by
  induction n generalizing s i with
  | zero => rfl
  | succ n ih =>
    unfold fillDeep
    dsimp only
    split
    · rfl
    · rw [ih, memPart_startPhys]

@[simp] theorem memPart_setEnding (s : State) (c status) : memPart p (setEnding s c status) = memPart p s := by
  simp [setEnding]

/-! ### Xlate.lean -/

@[simp] theorem memPart_readForget (s : State) (tag) : memPart p (readForget s tag) = memPart p s := by simp [readForget]

@[simp] theorem memPart_hostAbandon (s : State) (id g) : memPart p (hostAbandon s id g) = memPart p s := by
  unfold hostAbandon
  split <;> simp

@[simp] theorem memPart_prefetchLines (s : State) (i o e lo hi) : memPart p (prefetchLines s i o e lo hi) = memPart p s := by
  simp [prefetchLines, memPart_foldl]

@[simp] theorem memPart_prefetchRun (s : State) (i k pages) : memPart p (prefetchRun s i k pages) = memPart p s := by
  simp [prefetchRun, memPart_foldl]

@[simp] theorem memPart_setMig (s : State) (i m) : memPart p (setMig s i m) = memPart p s := by simp [setMig]

@[simp] theorem memPart_migLine (s : State) (i m e j old) : memPart p (migLine s i m e j old) = memPart p s := by
  unfold migLine
  split <;> simp

@[simp] theorem memPart_migRelease (s : State) (m e) : memPart p (migRelease s m e) = memPart p s := by
  simp [migRelease, memPart_foldl]

@[simp] theorem memPart_migNext (s : State) (i m e) : memPart p (migNext s i m e) = memPart p s := by simp [migNext]

@[simp] theorem memPart_migPhase (s : State) (i m e) (hMaps : p ≠ .maps) :
    memPart p (migPhase s i m e) = memPart p s := by
  unfold migPhase
  split <;> simp [hMaps, memPart_foldl]

@[simp] theorem memPart_migRun (n : Nat) (s : State) (i) (hMaps : p ≠ .maps) :
    memPart p (migRun n s i) = memPart p s := by
  induction n generalizing s with
  | zero => rfl
  | succ n ih =>
    unfold migRun
    split
    · rfl
    · split
      · simp [hMaps]
      · split
        · simp
        · simp [hMaps, ih]

@[simp] theorem memPart_pinRange (s : State) (mask l) : memPart p (pinRange s mask l) = memPart p s := by simp [pinRange]

@[simp] theorem memPart_unpinRange (s : State) (x dva len) : memPart p (unpinRange s x dva len) = memPart p s := by
  simp [unpinRange]

/-! ### Sched.lean -/

@[simp] theorem memPart_boundary (s : State) (i app) : memPart p (boundary s i app) = memPart p s := by
  simp only [boundary]
  repeat' split
  all_goals simp

@[simp] theorem memPart_loadCode (s : State) (n key code) : memPart p (loadCode s n key code) = memPart p s := by
  simp [loadCode]

@[simp] theorem memPart_startStage (s : State) (i n y g) : memPart p (startStage s i n y g) = memPart p s := by
  simp [startStage]

@[simp] theorem memPart_endStranded (s : State) : memPart p (endStranded s) = memPart p s := by
  simp [endStranded, memPart_foldl]

theorem memPart_pickCore {s t : State} {g : PlanStage} {n : Nat} (h : pickCore s g = some (n, t)) :
    memPart p t = memPart p s := by
  unfold pickCore at h
  extract_lets l near l' at h
  split at h
  · cases h
  · cases h
    simp

@[simp] theorem memPart_cancelSlot (s : State) (i) : memPart p (cancelSlot s i) = memPart p s := by
  unfold cancelSlot
  split <;> simp

@[simp] theorem memPart_dropQueue (s : State) (q) : memPart p (dropQueue s q) = memPart p s := by simp [dropQueue]

/-! ### Fence.lean -/

@[simp] theorem memPart_dropLookups (s : State) (f) : memPart p (dropLookups s f) = memPart p s := by
  simp [dropLookups, memPart_foldl]

@[simp] theorem memPart_fenceSlot (s : State) (i n) : memPart p (fenceSlot s i n) = memPart p s := by simp [fenceSlot]

@[simp] theorem memPart_fenceRecords (s : State) (i) (hBytes : p ≠ .bytes) :
    memPart p (fenceRecords s i) = memPart p s := by
  unfold fenceRecords
  split <;> simp [hBytes]

@[simp] theorem memPart_fence (s : State) (n cause) (hBytes : p ≠ .bytes) :
    memPart p (fence s n cause) = memPart p s := by
  simp only [fence]
  repeat' split
  all_goals simp [hBytes]

@[simp] theorem memPart_capture (s : State) (n bank word portB) : memPart p (capture s n bank word portB) = memPart p s := by
  simp [capture]

@[simp] theorem memPart_applyBypass (s : State) (b) : memPart p (applyBypass s b) = memPart p s := by simp [applyBypass]

@[simp] theorem memPart_bypassOne (s : State) (b) : memPart p (bypassOne s b) = memPart p s := by simp [bypassOne]

@[simp] theorem memPart_afterStage (s : State) (i app) : memPart p (afterStage s i app) = memPart p s := by
  unfold afterStage
  split <;> simp

@[simp] theorem memPart_endStage (s : State) (n g l) :
    memPart p (endStage s n g l) = memPart p s := by simp [endStage, memPart_foldl]

/-! ### Calib.lean -/

@[simp] theorem memPart_modItem (s : State) (n f) : memPart p (modItem s n f) = memPart p s := by simp [modItem]

@[simp] theorem memPart_calFailEvent (s : State) (run mask) : memPart p (calFailEvent s run mask) = memPart p s := by
  simp [calFailEvent]

@[simp] theorem memPart_calRecord (s : State) (mask) : memPart p (calRecord s mask) = memPart p s := by simp [calRecord]

@[simp] theorem memPart_calApply (s : State) (n v) : memPart p (calApply s n v) = memPart p s := by simp [calApply]

@[simp] theorem memPart_calSettle (n) (s : State) : memPart p (calSettle n s) = memPart p s := by simp [calSettle]

@[simp] theorem memPart_calPass (s : State) (n r) : memPart p (calPass s n r) = memPart p s := by simp [calPass]

@[simp] theorem memPart_calJudge (s : State) (powerUp ok n r) :
    memPart p (calJudge s powerUp ok n r) = memPart p s := by simp [calJudge]

@[simp] theorem memPart_calDone (s : State) (n) : memPart p (calDone s n) = memPart p s := by simp [calDone]

@[simp] theorem memPart_calTake (s : State) (n r) : memPart p (calTake s n r) = memPart p s := by
  unfold calTake
  split <;> simp

@[simp] theorem memPart_calTherm (s : State) (l) : memPart p (calTherm s l) = memPart p s := by
  unfold calTherm
  split <;> simp

@[simp] theorem memPart_calSkip (s : State) (n result) : memPart p (calSkip s n result) = memPart p s := by
  unfold calSkip
  split <;> simp

@[simp] theorem memPart_calNoRef (s : State) (n) : memPart p (calNoRef s n) = memPart p s := by
  unfold calNoRef
  split <;> simp

@[simp] theorem memPart_calEnd (s : State) : memPart p (calEnd s) = memPart p s := by
  unfold calEnd
  split
  · rfl
  · split
    · rfl
    · dsimp only
      split
      · simp
      · split <;> simp

@[simp] theorem memPart_calAbort (s : State) : memPart p (calAbort s) = memPart p s := by simp [calAbort]

@[simp] theorem memPart_modGate (s : State) (g) : memPart p (modGate s g) = memPart p s := by simp [modGate]

@[simp] theorem memPart_refPresence (freqPpm) (s : State) :
    memPart p (refPresence freqPpm s) = memPart p s := by simp [refPresence, memPart_foldl]

@[simp] theorem memPart_gnStart (s : State) : memPart p (gnStart s) = memPart p s := by simp [gnStart]

@[simp] theorem memPart_loopbacksDone (m) (s : State) : memPart p (loopbacksDone m s) = memPart p s := by
  unfold loopbacksDone
  split <;> simp [memPart_foldl]

@[simp] theorem memPart_gateStart (s : State) : memPart p (gateStart s) = memPart p s := by
  unfold gateStart
  split <;> simp

@[simp] theorem memPart_gateEdge (periods) (s : State) : memPart p (gateEdge periods s) = memPart p s := by
  unfold gateEdge
  split <;> simp

@[simp] theorem memPart_gateEnd (osc tempco span) (s : State) : memPart p (gateEnd osc tempco span s) = memPart p s := by
  unfold gateEnd
  split <;> simp

@[simp] theorem memPart_calRunEff (m c k) (s : State) : memPart p (calRunEff m c k s).state = memPart p s := by
  simp only [calRunEff]
  repeat' split
  all_goals simp [memPart_foldl]

@[simp] theorem memPart_calSlewEnd (s : State) : memPart p (calSlewEnd s) = memPart p s := by
  simp [calSlewEnd, memPart_foldl]

@[simp] theorem memPart_calFirstLock (s : State) : memPart p (calFirstLock s) = memPart p s := by simp [calFirstLock]

/-! ### Time.lean -/

@[simp] theorem memPart_timeEvent (b) (s : State) : memPart p (timeEvent b s) = memPart p s := by simp [timeEvent]

@[simp] theorem memPart_timeStep {f : State → State} (s : State) (h : memPart p (f s) = memPart p s) :
    memPart p (timeStep f s) = memPart p s := by simp [h, timeStep]

@[simp] theorem memPart_disciplined (x) (s : State) : memPart p (disciplined x s) = memPart p s := by simp [disciplined]

@[simp] theorem memPart_firstLock (s : State) (x now) : memPart p (firstLock s x now) = memPart p s := by simp [firstLock]

@[simp] theorem memPart_reselect (lost) (s : State) : memPart p (reselect lost s) = memPart p s := by
  simp only [reselect]
  repeat' split
  all_goals simp

@[simp] theorem memPart_gnssDue (s : State) : memPart p (gnssDue s) = memPart p s := by simp [gnssDue]

@[simp] theorem memPart_gnssQualify (s : State) : memPart p (gnssQualify s) = memPart p s := by simp [gnssQualify]

@[simp] theorem memPart_gnssDisqualify (s : State) :
    memPart p (gnssDisqualify s) = memPart p s := by simp [gnssDisqualify]

@[simp] theorem memPart_extDrop (s : State) : memPart p (extDrop s) = memPart p s := by simp [extDrop]

@[simp] theorem memPart_edgeTimeSet (s : State) : memPart p (edgeTimeSet s) = memPart p s := by
  unfold edgeTimeSet
  split <;> simp

@[simp] theorem memPart_ppsEdge (dev refPpb periods) (s : State) :
    memPart p (ppsEdge dev refPpb periods s) = memPart p s := by
  have upd (u : State) (tb) : memPart p { u with tb := tb } = memPart p u := memPart_updOther u
  have counted (tb) : memPart p { gateEdge periods s with tb := tb } = memPart p s := (upd _ _).trans (memPart_gateEdge _ _)
  refine memPart_timeStep s ((memPart_edgeTimeSet _).trans ((memPart_disciplined _ _).trans ?_))
  refine memPart_ite_of ((memPart_extDrop _).trans (counted _)) (memPart_ite_of ?_ (counted _))
  refine (memPart_reselect _ _).trans ?_
  exact (upd (gnssDue _) _).trans ((memPart_gnssDue _).trans (counted _))

@[simp] theorem memPart_refLoss (s : State) : memPart p (refLoss s) = memPart p s := by simp [refLoss]

@[simp] theorem memPart_ppsMissing (s : State) : memPart p (ppsMissing s) = memPart p s := by simp [ppsMissing]

@[simp] theorem memPart_takeover (s : State) : memPart p (takeover s) = memPart p s := by simp [takeover]

@[simp] theorem memPart_lock24 (s : State) : memPart p (lock24 s) = memPart p s := by simp [lock24]

@[simp] theorem memPart_leapNow (s : State) : memPart p (leapNow s) = memPart p s := by simp [leapNow]

@[simp] theorem memPart_slewingClear (err) (s : State) : memPart p (slewingClear err s) = memPart p s := by
  simp [slewingClear]

@[simp] theorem memPart_snapLatch (n wide) (s : State) : memPart p (snapLatch n wide s) = memPart p s := by
  simp [snapLatch]

@[simp] theorem memPart_ppsRise (s : State) : memPart p (ppsRise s) = memPart p s := by simp [ppsRise]

@[simp] theorem memPart_ppsFallStep (s : State) : memPart p (ppsFallStep s) = memPart p s := by simp [ppsFallStep]

@[simp] theorem memPart_sendTs (s : State) (l typ seq ts) : memPart p (sendTs s l typ seq ts) = memPart p s := by simp [sendTs]

@[simp] theorem memPart_fabDrop (s : State) : memPart p (fabDrop s) = memPart p s := by simp [fabDrop]

@[simp] theorem memPart_exchMiss (n) (s : State) : memPart p (exchMiss n s) = memPart p s := by simp [exchMiss]

@[simp] theorem memPart_exchExpire (s : State) : memPart p (exchExpire s) = memPart p s := by simp [exchExpire]

@[simp] theorem memPart_exchStart (s : State) : memPart p (exchStart s) = memPart p s := by simp [exchStart]

@[simp] theorem memPart_syncSend (l seq) (s : State) : memPart p (syncSend l seq s) = memPart p s := by simp [syncSend]

@[simp] theorem memPart_exchMissed8 (s : State) : memPart p (exchMissed8 s) = memPart p s := by simp [exchMissed8]

@[simp] theorem memPart_takeReport (f) (s : State) : memPart p (takeReport f s) = memPart p s := by simp [takeReport]

@[simp] theorem memPart_dropFrame (s : State) (l) : memPart p (dropFrame s l) = memPart p s := by simp [dropFrame]

@[simp] theorem memPart_syncStep (l) (s : State) : memPart p (syncStep l s) = memPart p s := by
  refine memPart_timeStep s ?_
  dsimp only
  split
  · rfl
  · split <;> simp

@[simp] theorem memPart_delayReq (l) (s : State) : memPart p (delayReq l s) = memPart p s := by
  unfold delayReq
  split <;> simp

@[simp] theorem memPart_delayResp (l) (s : State) : memPart p (delayResp l s) = memPart p s := by
  refine memPart_timeStep s ?_
  dsimp only
  split
  · rfl
  · split
    · simp
    · split
      · simp
      · split <;> simp

@[simp] theorem memPart_fabLinkDown (l) (s : State) : memPart p (fabLinkDown l s) = memPart p s := by simp [fabLinkDown]

@[simp] theorem memPart_timeConfigEff (k) (s : State) :
    memPart p (timeConfigEff k s) = memPart p s := by simp [timeConfigEff]

@[simp] theorem memPart_timeSetEff (c k) (s : State) :
    memPart p (timeSetEff c k s).state = memPart p s := by simp [timeSetEff]

@[simp] theorem memPart_timeSetTimeout (s : State) : memPart p (timeSetTimeout s) = memPart p s := by
  unfold timeSetTimeout
  split <;> simp

@[simp] theorem memPart_calThenLock {f : State → State} (s : State) (h : memPart p (f s) = memPart p s) :
    memPart p (calThenLock f s) = memPart p s := by simp [h, calThenLock]

/-! ### Gnss.lean -/

@[simp] theorem memPart_gnEvent (s : State) (cause set sev residual) :
    memPart p (gnEvent s cause set sev residual) = memPart p s := by simp [gnEvent]

@[simp] theorem memPart_modPort (s : State) (q f) : memPart p (modPort s q f) = memPart p s := by
  unfold modPort
  split <;> simp

@[simp] theorem memPart_setTarget (s : State) (sig sv st) :
    memPart p (setTarget s sig sv st) = memPart p s := by simp [setTarget]

@[simp] theorem memPart_chanLost (s : State) (n) : memPart p (chanLost s n) = memPart p s := by simp [chanLost]

@[simp] theorem memPart_dropPort (ok) (s : State) (q) : memPart p (dropPort ok s q) = memPart p s := by
  simp [dropPort, memPart_foldl]

@[simp] theorem memPart_gnMirror (s : State) : memPart p (gnMirror s) = memPart p s := by simp [gnMirror]

@[simp] theorem memPart_portFault (q noEdge devPpm) (s : State) :
    memPart p (portFault q noEdge devPpm s) = memPart p s := by simp [portFault]

@[simp] theorem memPart_portClear (q) (s : State) : memPart p (portClear q s) = memPart p s := by simp [portClear]

@[simp] theorem memPart_timeTag (q) (s : State) : memPart p (timeTag q s) = memPart p s := by simp [timeTag]

@[simp] theorem memPart_searchWindow (s : State) (sig sv) : memPart p (searchWindow s sig sv).2 = memPart p s := by
  simp only [searchWindow]
  repeat' split
  all_goals simp

@[simp] theorem memPart_searchEnd (i bins) (s : State) : memPart p (searchEnd i bins s) = memPart p s := by
  simp [searchEnd]

@[simp] theorem memPart_occupy (s : State) (n sig sv bin ph) :
    memPart p (occupy s n sig sv bin ph) = memPart p s := by simp [occupy]

@[simp] theorem memPart_placeCandidate (s : State) (sig sv bin ph) :
    memPart p (placeCandidate s sig sv bin ph) = memPart p s := by
  simp only [placeCandidate]
  repeat' split
  all_goals simp

@[simp] theorem memPart_verifyEnd (i tests) (s : State) : memPart p (verifyEnd i tests s) = memPart p s := by
  simp only [verifyEnd]
  repeat' split
  all_goals simp

@[simp] theorem memPart_listReturn (i) (s : State) : memPart p (listReturn i s) = memPart p s := by
  unfold listReturn
  dsimp only
  split <;> simp

@[simp] theorem memPart_modGnChan (s : State) (n f) : memPart p (modGnChan s n f) = memPart p s := by simp [modGnChan]

@[simp] theorem memPart_pullInLock (n) (s : State) : memPart p (pullInLock n s) = memPart p s := by simp [pullInLock]

@[simp] theorem memPart_pullInTimeout (n) (s : State) : memPart p (pullInTimeout n s) = memPart p s := by
  simp [pullInTimeout]

@[simp] theorem memPart_trackLoss (n) (s : State) : memPart p (trackLoss n s) = memPart p s := by simp [trackLoss]

@[simp] theorem memPart_coherentEnd (n acc bitSync) (s : State) :
    memPart p (coherentEnd n acc bitSync s) = memPart p s := by
  unfold coherentEnd
  refine memPart_ite_of rfl ?_
  extract_lets -underBinder acc k store val h near
  split
  next e => exact (memPart_modGnChan _ _ _).trans (memPart_snd e (by split <;> simp))

@[simp] theorem memPart_takeNav (sys) (s : State) (d) : memPart p (takeNav sys s d) = memPart p s := by simp [takeNav]

@[simp] theorem memPart_syncVerified (n word crcOk tow nav) (s : State) :
    memPart p (syncVerified n word crcOk tow nav s) = memPart p s := by simp [syncVerified, memPart_foldl]

@[simp] theorem memPart_cn0Expire (n) (s : State) : memPart p (cn0Expire n s) = memPart p s := by simp [cn0Expire]

@[simp] theorem memPart_takeRec (s : State) (r) : memPart p (takeRec s r) = memPart p s := by simp [takeRec]

@[simp] theorem memPart_takeResidual (s : State) (r) : memPart p (takeResidual s r) = memPart p s := by
  unfold takeResidual
  split <;> simp

@[simp] theorem memPart_takePosition (sol) (s : State) : memPart p (takePosition sol s) = memPart p s := by
  simp [takePosition]

@[simp] theorem memPart_solToTime (sol) (s : State) : memPart p (solToTime sol s) = memPart p s := by simp [solToTime]

@[simp] theorem memPart_measEpoch (sol recs) (s : State) : memPart p (measEpoch sol recs s) = memPart p s := by
  have taken (u : State) : memPart p (recs.foldl takeResidual (recs.foldl takeRec u)) = memPart p u :=
    (memPart_foldl (fun _ _ => by simp) _ _).trans (memPart_foldl (fun _ _ => by simp) _ _)
  refine memPart_timeStep s ?_
  dsimp only
  split
  · rfl
  · repeat' split
    all_goals simp [taken]

@[simp] theorem memPart_surveyMean (s : State) : memPart p (surveyMean s).2 = memPart p s := by
  unfold surveyMean
  split <;> simp

@[simp] theorem memPart_startHold (s : State) (q entered check) :
    memPart p (startHold s q entered check) = memPart p s := by simp [startHold]

@[simp] theorem memPart_surveyComplete (s : State) : memPart p (surveyComplete s) = memPart p s := by
  simp [surveyComplete]

@[simp] theorem memPart_startSurvey (s : State) (min_) : memPart p (startSurvey s min_) = memPart p s := by
  simp [startSurvey]

@[simp] theorem memPart_rmsCm (s : State) : memPart p (rmsCm s).2 = memPart p s := by
  unfold rmsCm
  split <;> simp

@[simp] theorem memPart_holdResidual (s : State) : memPart p (holdResidual s) = memPart p s := by simp [holdResidual]

@[simp] theorem memPart_gnConfigEff (k) (s : State) : memPart p (gnConfigEff k s) = memPart p s := by simp [gnConfigEff]

@[simp] theorem memPart_gnSurveyEff (k) (s : State) : memPart p (gnSurveyEff k s) = memPart p s := by simp [gnSurveyEff]

@[simp] theorem memPart_gnPositionEff (k) (s : State) : memPart p (gnPositionEff k s) = memPart p s := by
  simp [gnPositionEff]

@[simp] theorem memPart_gnStreamEff (k) (s : State) : memPart p (gnStreamEff k s) = memPart p s := by simp [gnStreamEff]

@[simp] theorem memPart_assistItem (k ok) (a : State × Nat) (i) : memPart p (assistItem k ok a i).1 = memPart p a.1 := by
  unfold assistItem
  dsimp only
  split
  · rfl
  · split <;> simp

@[simp] theorem memPart_gnAssistEff (ok k) (s : State) : memPart p (gnAssistEff ok k s).state = memPart p s := by
  have taken (l : List Nat) (a : State × Nat) : memPart p (l.foldl (assistItem k ok) a).1 = memPart p a.1 := by
    induction l generalizing a with
    | nil => rfl
    | cons i l ih => exact (ih _).trans (memPart_assistItem _ _ _ _)
  simp [gnAssistEff, taken]

/-! ### Links.lean -/

@[simp] theorem memPart_linkEvent (s : State) (l cause) : memPart p (linkEvent s l cause) = memPart p s := by simp [linkEvent]

@[simp] theorem memPart_owe (s : State) (q) : memPart p (owe s q) = memPart p s := by
  unfold owe
  split <;> simp

@[simp] theorem memPart_losePackets (s : State) (f) : memPart p (losePackets s f) = memPart p s := by
  refine (memPart_updOther _).trans (memPart_foldl (fun _ _ => ?_) _ _)
  split
  · rfl
  · split <;> simp

@[simp] theorem memPart_clearLink (s : State) (l) : memPart p (clearLink s l) = memPart p s := by simp [clearLink]

@[simp] theorem memPart_endTraining (s : State) (l status detail resp) :
    memPart p (endTraining s l status detail resp) = memPart p s := by
  unfold endTraining
  split <;> simp

@[simp] theorem memPart_linkDown (s : State) (l cause retrain) :
    memPart p (linkDown s l cause retrain) = memPart p s := by simp [linkDown]

@[simp] theorem memPart_linkGoesUp (s : State) (l chip inc d) : memPart p (linkGoesUp s l chip inc d) = memPart p s := by
  simp [linkGoesUp]

@[simp] theorem memPart_linkFault (s : State) (l) : memPart p (linkFault s l) = memPart p s := by simp [linkFault]

@[simp] theorem memPart_linkMismatch (s : State) (l chip inc) : memPart p (linkMismatch s l chip inc) = memPart p s := by
  simp [linkMismatch]

@[simp] theorem memPart_trainTimeout (s : State) (l) : memPart p (trainTimeout s l) = memPart p s := by
  unfold trainTimeout
  dsimp only
  split <;> simp

@[simp] theorem memPart_trainStop (s : State) (c) : memPart p (trainStop s c) = memPart p s := by
  simp [trainStop, memPart_foldl]

@[simp] theorem memPart_takeHeader (s : State) (l f) : memPart p (takeHeader s l f) = memPart p s := by simp [takeHeader]

@[simp] theorem memPart_sendNak (s : State) (l) : memPart p (sendNak s l) = memPart p s := by simp [sendNak]

@[simp] theorem memPart_flitIn (s : State) (l typ f ok) {g : State → State} (h : memPart p (g s) = memPart p s) :
    memPart p (flitIn s l typ f ok g) = memPart p s := by simp [h, flitIn]

@[simp] theorem memPart_numbered (s : State) (l f) {g : State → State} (h : ∀ u, memPart p (g u) = memPart p u) :
    memPart p (numbered s l f g) = memPart p s := by simp [h, numbered]

@[simp] theorem memPart_cutShort (s : State) (l vc) : memPart p (cutShort s l vc) = memPart p s := by simp [cutShort]

@[simp] theorem memPart_dataIn (l f) (s : State) : memPart p (dataIn l f s) = memPart p s := by simp [dataIn]

@[simp] theorem memPart_nakIn (l f) (s : State) : memPart p (nakIn l f s) = memPart p s := by simp [nakIn, memPart_foldl]

/-! ### Power.lean -/

@[simp] theorem memPart_modPwr (s : State) (f) : memPart p (modPwr s f) = memPart p s := by simp [modPwr]

@[simp] theorem memPart_hotLimit (s : State) (k) : memPart p (hotLimit s k) = memPart p s := by simp [hotLimit]

@[simp] theorem memPart_reefInput (s : State) (f) : memPart p (reefInput s f) = memPart p s := by simp [reefInput]

@[simp] theorem memPart_levelChange (s : State) (k src dst boost) :
    memPart p (levelChange s k src dst boost) = memPart p s := by simp [levelChange]

@[simp] theorem memPart_setLevel (s : State) (k level) :
    memPart p (setLevel s k level) = memPart p s := by simp [setLevel]

@[simp] theorem memPart_coreEmpty (s : State) (n) : memPart p (coreEmpty s n) = memPart p s := by simp [coreEmpty]

@[simp] theorem memPart_gnssOff (s : State) : memPart p (gnssOff s) = memPart p s := by
  unfold gnssOff
  dsimp only
  split <;> simp

@[simp] theorem memPart_deepOff (s : State) (hLayout : p ≠ .layout) :
    memPart p (deepOff s) = memPart p s := by simp [hLayout, deepOff, memPart_foldl]

@[simp] theorem memPart_setDomain (s : State) (d on) : memPart p (setDomain s d on) = memPart p s := by simp [setDomain]

@[simp] theorem memPart_domainEff (s : State) (d on found) (hLayout : p ≠ .layout) :
    memPart p (domainEff s d on found) = memPart p s := by simp [hLayout, domainEff]

/-! ### Boot.lean -/

@[simp] theorem memPart_modSec (s : State) (f) : memPart p (modSec s f) = memPart p s := by simp [modSec]

@[simp] theorem memPart_wipe (s : State) : memPart p (wipe s) = memPart p s := by simp [wipe]

@[simp] theorem memPart_deriveKeys (s : State) : memPart p (deriveKeys s) = memPart p s := by simp [deriveKeys]

@[simp] theorem memPart_startFw (s : State) (b fallback) :
    memPart p (startFw s b fallback) = memPart p s := by simp [startFw]

@[simp] theorem memPart_setSession (s : State) (x) : memPart p (setSession s x) = memPart p s := by simp [setSession]

@[simp] theorem memPart_putSlot (s : State) (b off d) : memPart p (putSlot s b off d) = memPart p s := by
  cases b <;> simp [putSlot]

@[simp] theorem memPart_adopt (s : State) (b) : memPart p (adopt s b) = memPart p s := by simp [adopt]

@[simp] theorem memPart_tamperActs (s : State) : memPart p (tamperActs s) = memPart p s := by simp [tamperActs]

/-! ### Dump.lean -/

@[simp] theorem memPart_modHlt (s : State) (f) : memPart p (modHlt s f) = memPart p s := by simp [modHlt]

@[simp] theorem memPart_dumpStep (c k) (s : State) : memPart p (dumpStep c k s).state = memPart p s := by simp [dumpStep]

/-! ### HostLink.lean -/

@[simp] theorem memPart_sendPending (s : State) : memPart p (sendPending s) = memPart p s := by
  simp [sendPending, memPart_foldl]

@[simp] theorem memPart_writePlain (s : State) (off v) : memPart p (writePlain s off v) = memPart p s := by simp [writePlain]

theorem memPart_joinLines (errs) (l : List (Nat × Nat)) (r : State × Bytes × Bool) (hBytes : p ≠ .bytes) :
    memPart p (l.foldl (joinLine errs) r).1 = memPart p r.1 := by
  induction l generalizing r with
  | nil => rfl
  | cons c l ih => exact (ih _).trans (memPart_towerRead _ _ _ _ _ hBytes)

@[simp] theorem memPart_hostTowerRead (s : State) (a len errs) (hBytes : p ≠ .bytes) :
    memPart p (hostTowerRead s a len errs).1 = memPart p s := by
  rw [hostTowerRead_eq]
  dsimp only
  split <;> simp [hBytes, memPart_joinLines]

@[simp] theorem memPart_hostLineWrite (s : State) (a m ep err) (hBytes : p ≠ .bytes) :
    memPart p (hostLineWrite s a m ep err) = memPart p s := by
  unfold hostLineWrite
  split <;> simp [hBytes]

@[simp] theorem memPart_hostTowerWrite (s : State) (a data ep errs) (hBytes : p ≠ .bytes) :
    memPart p (hostTowerWrite s a data ep errs) = memPart p s := by simp [hBytes, hostTowerWrite, memPart_foldl]

/-! ### TableOps.lean -/

@[simp] theorem memPart_closeRing (s : State) (held) : memPart p (closeRing s held) = memPart p s := by simp [closeRing]

/-! ### Responses.lean -/

@[simp] theorem memPart_stopReads (s : State) (c) : memPart p (stopReads s c) = memPart p s := by
  simp [stopReads, memPart_foldl]

@[simp] theorem memPart_stopCmd (s : State) (c k) : memPart p (stopCmd s c k) = memPart p s := by
  unfold stopCmd
  split <;> simp

@[simp] theorem memPart_endCmd (s : State) (c status) : memPart p (endCmd s c status) = memPart p s := by
  unfold endCmd
  split <;> simp

/-! ### HostReads.lean -/

@[simp] theorem memPart_indirectDone (s : State) (c off b) : memPart p (indirectDone s c off b) = memPart p s := by
  simp only [indirectDone]
  repeat' split
  all_goals simp

@[simp] theorem memPart_readEnd (s : State) (r data) : memPart p (readEnd s r data) = memPart p s := by
  simp only [readEnd]
  repeat' split
  all_goals simp

@[simp] theorem memPart_pumpReads (s : State) : memPart p (pumpReads s) = memPart p s := by simp [pumpReads, memPart_foldl]

@[simp] theorem memPart_readOver (s : State) (tag r data) :
    memPart p (readOver s tag r data) = memPart p s := by simp [readOver]

@[simp] theorem memPart_noXlate (s : State) (q denied) : memPart p (noXlate s q denied) = memPart p s := by
  simp only [noXlate]
  repeat' split
  all_goals simp

@[simp] theorem memPart_withXlate (s : State) (q) : memPart p (withXlate s q) = memPart p s := by
  simp only [withXlate]
  repeat' split
  all_goals simp

@[simp] theorem memPart_atcPut (s : State) (q r) : memPart p (atcPut s q r) = memPart p s := by simp [atcPut]

@[simp] theorem memPart_postsOn (s : State) : memPart p (postsOn s) = memPart p s := by simp [postsOn]

/-! ### MailboxFlow.lean -/

@[simp] theorem memPart_seqRefuse (s : State) (c) : memPart p (seqRefuse s c) = memPart p s := by simp [seqRefuse]

@[simp] theorem memPart_replay (s : State) (c) : memPart p (replay s c) = memPart p s := by simp [replay]

@[simp] theorem memPart_bellDecide (s : State) (c) : memPart p (bellDecide s c) = memPart p s := by simp [bellDecide]

@[simp] theorem memPart_ringBell (s : State) (c seq) : memPart p (ringBell s c seq) = memPart p s := by
  simp only [ringBell]
  repeat' split
  all_goals simp

@[simp] theorem memPart_indirectReads (c) (fuel : Nat) (s : State) (addr off len) :
    memPart p (indirectReads c fuel s addr off len).1 = memPart p s := by
  induction fuel generalizing s addr off len with
  | zero => rfl
  | succ fuel ih =>
    unfold indirectReads
    split
    · rfl
    · dsimp only
      split
      · next e => exact (ih _ _ _ _).trans (memPart_snd e (by simp))
      · next e => exact memPart_snd e (by simp)

@[simp] theorem memPart_indirectStart (s : State) (c k) : memPart p (indirectStart s c k) = memPart p s := by
  unfold indirectStart
  split
  · simp
  · split
    · next e => exact memPart_fst e (by simp)
    · next u a e =>
      have h : memPart p u = memPart p s := memPart_fst e (by simp)
      dsimp only
      split <;> simp [h]

@[simp] theorem memPart_lenCheck (s : State) (c k len indirect r) :
    memPart p (lenCheck s c k len indirect r) = memPart p s := by simp [lenCheck]

@[simp] theorem memPart_accept (s : State) (c held) : memPart p (accept s c held) = memPart p s := by
  simp only [accept]
  repeat' split
  all_goals simp

@[simp] theorem memPart_clearChan (s : State) (c) : memPart p (clearChan s c) = memPart p s := by simp [clearChan]

@[simp] theorem memPart_ctxStays (s : State) (x) (hMaps : p ≠ .maps) :
    memPart p (ctxStays s x) = memPart p s := by simp [hMaps, ctxStays]

@[simp] theorem memPart_timeOut (s : State) (c k) (hMaps : p ≠ .maps) :
    memPart p (timeOut s c k) = memPart p s := by
  simp only [timeOut]
  repeat' split
  all_goals simp [hMaps]

/-! ### Matrix.lean -/

@[simp] theorem memPart_modPair (s : State) (n f) : memPart p (modPair s n f) = memPart p s := by simp [modPair]

@[simp] theorem memPart_noteColumn (s : State) (n o fc) : memPart p (noteColumn s n o fc) = memPart p s := by simp [noteColumn]

@[simp] theorem memPart_mmRunOn (s : State) (n o bad) : memPart p (mmRunOn s n o bad) = memPart p s := by
  simp only [mmRunOn]
  repeat' split
  all_goals simp

@[simp] theorem memPart_swapTiles (s : State) (n) : memPart p (swapTiles s n) = memPart p s := by simp [swapTiles]

/-! ### Router.lean -/

@[simp] theorem memPart_returnCredits (s : State) (q) : memPart p (returnCredits s q) = memPart p s := by
  unfold returnCredits
  split <;> simp

@[simp] theorem memPart_sendPiece (s : State) (i q e) : memPart p (sendPiece s i q e) = memPart p s := by simp [sendPiece]

@[simp] theorem memPart_refuseStale (s : State) (q) : memPart p (refuseStale s q) = memPart p s := by simp [refuseStale]

@[simp] theorem memPart_deliver (s : State) (q) : memPart p (deliver s q) = memPart p s := by simp [deliver]

@[simp] theorem memPart_startOn (s : State) (i q l vc route) : memPart p (startOn s i q l vc route) = memPart p s := by
  simp [startOn]

/-! ### Remote.lean -/

@[simp] theorem memPart_dropIntake (s : State) (f) : memPart p (dropIntake s f) = memPart p s := by simp [dropIntake]

@[simp] theorem memPart_toServing (s : State) (q) : memPart p (toServing s q) = memPart p s := by simp [toServing]

@[simp] theorem memPart_incoming (s : State) (i op) {form} {gone} {f : Packet → State → State}
    (hGone : ∀ q u, memPart p (gone q u) = memPart p u) (h : ∀ q u, memPart p (f q u) = memPart p u) :
    memPart p (incoming s i op form gone f) = memPart p s := by
  unfold incoming
  split <;> simp [hGone, h]

@[simp] theorem memPart_refuseIn (s : State) (q status) : memPart p (refuseIn s q status) = memPart p s := by simp [refuseIn]

@[simp] theorem memPart_peerIssue (s : State) (q len kind data) : memPart p (peerIssue s q len kind data) = memPart p s := by
  simp [peerIssue]

@[simp] theorem memPart_peerEnd (s : State) (i op) {answer : Packet → List (Nat × Access) → State → State}
    (h : ∀ q l u, memPart p (answer q l u) = memPart p u) :
    memPart p (peerEnd s i op answer) = memPart p s := by
  simp only [peerEnd]
  repeat' split
  all_goals simp [h]

@[simp] theorem memPart_trackEnd (s : State) (i t r) : memPart p (trackEnd s i t r) = memPart p s := by
  unfold trackEnd
  split <;> simp

@[simp] theorem memPart_response (s : State) (i op) : memPart p (response s i op) = memPart p s := by
  simp only [response]
  repeat' split
  all_goals simp

/-! ### Reset.lean -/

@[simp] theorem memPart_failReads (s : State) : memPart p (failReads s) = memPart p s := by
  refine (memPart_foldl (fun _ _ => ?_) _ _).trans
    ((memPart_foldl (fun _ _ => by simp) _ _).trans (memPart_updOther s))
  split
  · split <;> simp
  · rfl

@[simp] theorem memPart_configReset (s : State) : memPart p (configReset s) = memPart p s := by simp [configReset]

@[simp] theorem memPart_abortAll (s : State) (skip) :
    memPart p (abortAll s skip) = memPart p s := by simp [abortAll, memPart_foldl]

@[simp] theorem memPart_warmFail (s : State) : memPart p (warmFail s) = memPart p s := by
  unfold warmFail
  refine memPart_foldl (fun u x => ?_) _ _
  generalize x.2.stage = stage
  cases stage with
  | remote | stalled | host | ats => exact memPart_accFail _ _ _
  | _ => rfl

@[simp] theorem memPart_warmQuiet (s : State) :
    memPart p (warmQuiet s) = memPart p s := by simp [warmQuiet, memPart_foldl]

@[simp] theorem memPart_warmAccept (s : State) (t skip) :
    memPart p (warmAccept s t skip) = memPart p s := by simp [warmAccept]

@[simp] theorem memPart_dueSwitches (s : State) : memPart p (dueSwitches s) = memPart p s := by
  simp [dueSwitches, memPart_foldl]

/-! ### SeqAlu.lean -/

@[simp] theorem memPart_seqPut (s : State) (n t key f) : memPart p (seqPut s n t key f) = memPart p s := by simp [seqPut]

/-! ### SeqFlow.lean -/

@[simp] theorem memPart_seqBranch (s : State) (n t key cond) : memPart p (seqBranch s n t key cond) = memPart p s := by
  refine memPart_seqDo _ _ _ _ fun _ _ => ?_
  dsimp only
  split <;> rfl

end

end Sys2Proof.Machine

/-! ## 00: the commands that leave the memories and their maps (the statement of O58) -/

namespace Sys2Proof.Machine

section
variable {p : MemPart}

@[simp] theorem memPart_live {s : State} {f : State → State} (h : memPart p (f s) = memPart p s) :
    memPart p (resState s (live s f)) = memPart p s := memPart_ite_of rfl h

@[simp] theorem memPart_barWrite {s : State} {f : State → State} (h : memPart p (f s) = memPart p s) :
    memPart p (resState s (barWrite s f)) = memPart p s := memPart_live (memPart_ite_of h rfl)

@[simp] theorem memPart_barRead {s : State} {f : State → State} (h : memPart p (f s) = memPart p s) :
    memPart p (resState s (barRead s f)) = memPart p s := memPart_live (memPart_ite_of h (memPart_emit _ _))

/-! ### Access.lean -/

@[simp] theorem memPart_execTranslationWalkDone (id) (s : State) :
    memPart p (resState s (execTranslationWalkDone id s)) = memPart p s := by
  refine memPart_live ?_
  repeat' split
  all_goals simp

@[simp] theorem memPart_execTowerLineAccess (id err) (s : State) (hBytes : p ≠ .bytes) :
    memPart p (resState s (execTowerLineAccess id err s)) = memPart p s := by
  refine memPart_live ?_
  repeat' split
  all_goals simp [hBytes]

@[simp] theorem memPart_execDeepPortResponse (port id r) (s : State) (hBytes : p ≠ .bytes) :
    memPart p (resState s (execDeepPortResponse port id r s)) = memPart p s := by
  refine memPart_live ?_
  repeat' split
  all_goals simp [hBytes]

@[simp] theorem memPart_execDeepRequestTimeout (port id) (s : State) :
    memPart p (resState s (execDeepRequestTimeout port id s)) = memPart p s := by
  refine memPart_live ?_
  repeat' split
  all_goals simp

/-! ### Seq.lean -/

@[simp] theorem memPart_execBranchResolve (n t) (s : State) :
    memPart p (resState s (execBranchResolve n t s)) = memPart p s := by
  refine memPart_live ?_
  split <;> simp

@[simp] theorem memPart_execSquashedOperationBoundary (n id) (s : State) :
    memPart p (resState s (execSquashedOperationBoundary n id s)) = memPart p s := by
  refine memPart_live ?_
  split <;> simp

/-! ### Dma.lean -/

@[simp] theorem memPart_execDmaCopy (n op) (s : State) : memPart p (resState s (execDmaCopy n op s)) = memPart p s := by
  refine memPart_live ?_
  simp [memPart_foldl]

/-! ### Tables.lean -/

@[simp] theorem memPart_execLookup (n op) (s : State) : memPart p (resState s (execLookup n op s)) = memPart p s := by
  refine memPart_live (memPart_opRun _ _ _ _ fun o => ?_)
  dsimp only
  repeat' split
  all_goals simp

@[simp] theorem memPart_execLookupAccept (e) (s : State) : memPart p (resState s (execLookupAccept e s)) = memPart p s := by
  refine memPart_live ?_
  split <;> simp

@[simp] theorem memPart_execLookupRowReturn (e lk acc) (s : State) :
    memPart p (resState s (execLookupRowReturn e lk acc s)) = memPart p s := by
  refine memPart_live ?_
  dsimp only
  repeat' split
  all_goals simp

@[simp] theorem memPart_execLookupDeadline (e lk) (s : State) :
    memPart p (resState s (execLookupDeadline e lk s)) = memPart p s := by
  refine memPart_live ?_
  dsimp only
  repeat' split
  all_goals simp [memPart_foldl]

/-! ### Pooling.lean -/

@[simp] theorem memPart_execLookupComplete (e lk) (s : State) :
    memPart p (resState s (execLookupComplete e lk s)) = memPart p s := by
  refine memPart_live ?_
  repeat' split
  all_goals simp

/-! ### Update.lean -/

@[simp] theorem memPart_execUpdateRecordArrival (e) (s : State) :
    memPart p (resState s (execUpdateRecordArrival e s)) = memPart p s := by
  refine memPart_live ?_
  dsimp only
  split <;> simp

@[simp] theorem memPart_execCopOperationComplete (n op) (s : State) :
    memPart p (resState s (execCopOperationComplete n op s)) = memPart p s := by
  have flushed (o : CopOp) : memPart p (flushStaging s n o).2 = memPart p s := by simp
  refine memPart_live ?_
  repeat' split
  any_goals simp
  all_goals next e => exact memPart_snd e (flushed _)

@[simp] theorem memPart_execUpdateRingRecord (h) (s : State) :
    memPart p (resState s (execUpdateRingRecord h s)) = memPart p s := by
  refine memPart_live ?_
  dsimp only
  split <;> simp

/-! ### Handover.lean -/

@[simp] theorem memPart_execHandoverComplete (c b) (s : State) :
    memPart p (resState s (execHandoverComplete c b s)) = memPart p s := by
  refine memPart_live ?_
  dsimp only
  split <;> simp

/-! ### Queues.lean -/

@[simp] theorem memPart_execDescriptorRead (data errs) (s : State) (hBytes : p ≠ .bytes) :
    memPart p (resState s (execDescriptorRead data errs s)) = memPart p s := by
  have got (x : Queue) : memPart p (if x.fabric then fabricDesc s x data errs else hostDesc s x data).2 = memPart p s := by
    split <;> simp [hBytes]
  refine memPart_live ?_
  dsimp only
  split
  · rfl
  · split
    · rfl
    · split
      · next e => exact memPart_snd e (got _)
      · next e =>
        have h := memPart_snd e (got _)
        split <;> simp [hBytes, h]

@[simp] theorem memPart_execCompletionRecordPost (i errs) (s : State) (hBytes : p ≠ .bytes) :
    memPart p (resState s (execCompletionRecordPost i errs s)) = memPart p s := by
  refine memPart_live ?_
  repeat' split
  all_goals simp [hBytes]

/-! ### Memory.lean -/

@[simp] theorem memPart_execOpFill (c lines) (s : State) (hBytes : p ≠ .bytes) :
    memPart p (resState s (execOpFill c lines s)) = memPart p s := by
  refine memPart_live (memPart_runOp _ _ _ fun k => ?_)
  dsimp only
  repeat' split
  all_goals simp [hBytes]

@[simp] theorem memPart_execOpPageRetire (c) (s : State) (hLayout : p ≠ .layout) :
    memPart p (resState s (execOpPageRetire c s)) = memPart p s := by
  refine memPart_live (memPart_plainOp _ _ _ fun k => ?_)
  dsimp only
  repeat' split
  all_goals simp [hLayout]

/-! ### Xlate.lean -/

@[simp] theorem memPart_execUnmapHostAbandon (c) (s : State) :
    memPart p (resState s (execUnmapHostAbandon c s)) = memPart p s := by
  refine memPart_live ?_
  dsimp only
  repeat' split
  all_goals simp [memPart_foldl]

@[simp] theorem memPart_execOpPrefetch (c) (s : State) : memPart p (resState s (execOpPrefetch c s)) = memPart p s := by
  refine memPart_live (memPart_runOp _ _ _ fun k => ?_)
  dsimp only
  simp [memPart_foldl]

@[simp] theorem memPart_execPrefetchDone (i) (s : State) : memPart p (resState s (execPrefetchDone i s)) = memPart p s := by
  refine memPart_live ?_
  split <;> simp

@[simp] theorem memPart_execOpAdvise (c) (s : State) : memPart p (resState s (execOpAdvise c s)) = memPart p s := by
  refine memPart_live (memPart_plainOp _ _ _ fun k => ?_)
  split <;> simp

/-! ### Sched.lean -/

@[simp] theorem memPart_execStageDispatch (s : State) : memPart p (resState s (execStageDispatch s)) = memPart p s := by
  refine memPart_live ?_
  dsimp only
  split
  · rfl
  · repeat' split
    any_goals simp
    next e => rw [memPart_pickCore e, memPart_endStranded]

@[simp] theorem memPart_execOpQueueDestroy (c) (s : State) :
    memPart p (resState s (execOpQueueDestroy c s)) = memPart p s := by
  refine memPart_live (memPart_runOp _ _ _ fun k => ?_)
  dsimp only
  repeat' split
  all_goals simp [memPart_foldl]

@[simp] theorem memPart_execOpReqCancel (c) (s : State) : memPart p (resState s (execOpReqCancel c s)) = memPart p s := by
  refine memPart_live (memPart_plainOp _ _ _ fun k => ?_)
  split <;> simp

/-! ### Fence.lean -/

@[simp] theorem memPart_execCoreFence (n cause) (s : State) (hBytes : p ≠ .bytes) :
    memPart p (resState s (execCoreFence n cause s)) = memPart p s := by
  refine memPart_live ?_
  split <;> simp [hBytes]

@[simp] theorem memPart_execStageEnd (n) (s : State) (hBytes : p ≠ .bytes) :
    memPart p (resState s (execStageEnd n s)) = memPart p s := by
  refine memPart_live ?_
  dsimp only
  repeat' split
  all_goals simp [hBytes]

/-! ### Time.lean -/

@[simp] theorem memPart_execTimesyncExchangeStart (peer) (s : State) :
    memPart p (resState s (execTimesyncExchangeStart peer s)) = memPart p s := by
  refine memPart_live ?_
  split <;> simp

/-! ### Links.lean -/

@[simp] theorem memPart_execRatlineLinkRetrainDone (l r) (s : State) :
    memPart p (resState s (execRatlineLinkRetrainDone l r s)) = memPart p s := by
  refine memPart_live ?_
  split <;> simp

@[simp] theorem memPart_execLinkTrainingEnd (l r) (s : State) :
    memPart p (resState s (execLinkTrainingEnd l r s)) = memPart p s := by
  refine memPart_live ?_
  dsimp only
  repeat' split
  all_goals simp

@[simp] theorem memPart_execOpChipIdSet (c) (s : State) : memPart p (resState s (execOpChipIdSet c s)) = memPart p s := by
  refine memPart_live (memPart_plainOp _ _ _ fun k => ?_)
  simp

@[simp] theorem memPart_execOpRouteSet (c) (s : State) : memPart p (resState s (execOpRouteSet c s)) = memPart p s := by
  refine memPart_live (memPart_plainOp _ _ _ fun k => ?_)
  simp

@[simp] theorem memPart_execOpRemoteTimeout (c) (s : State) :
    memPart p (resState s (execOpRemoteTimeout c s)) = memPart p s :=
  memPart_live (memPart_runOp _ _ _ fun _ => memPart_updOther s)

@[simp] theorem memPart_execDataFlit (l flit crcOk) (s : State) :
    memPart p (resState s (execDataFlit l flit crcOk s)) = memPart p s := by
  refine memPart_live ?_
  simp

@[simp] theorem memPart_execLinkCtrlFlit (l flit crcOk) (s : State) :
    memPart p (resState s (execLinkCtrlFlit l flit crcOk s)) = memPart p s := by
  refine memPart_live ?_
  simp

/-! ### Boot.lean -/

@[simp] theorem memPart_execOpFwUpdateData (c) (s : State) :
    memPart p (resState s (execOpFwUpdateData c s)) = memPart p s := by
  refine memPart_live (memPart_plainOp _ _ _ fun k => ?_)
  split <;> simp

@[simp] theorem memPart_execOpFwUpdateCommit (c) (s : State) :
    memPart p (resState s (execOpFwUpdateCommit c s)) = memPart p s := by
  refine memPart_live (memPart_runOp _ _ _ fun k => ?_)
  split <;> simp [modSec]

@[simp] theorem memPart_execOpLifecycleStatus (c) (s : State) :
    memPart p (resState s (execOpLifecycleStatus c s)) = memPart p s := by
  refine memPart_live (memPart_runOp _ _ _ fun k => ?_)
  simp [modSec]

/-! ### Dump.lean -/

@[simp] theorem memPart_execHeartbeat (check) (s : State) :
    memPart p (resState s (execHeartbeat check s)) = memPart p s := by
  refine memPart_live ?_
  split <;> simp

/-! ### HostLink.lean -/

@[simp] theorem memPart_execMsixUnmask (what) (s : State) : memPart p (resState s (execMsixUnmask what s)) = memPart p s := by
  refine memPart_live ?_
  split <;> simp

/-! ### MailboxOps.lean -/

@[simp] theorem memPart_execOpErrorLog (c) (s : State) : memPart p (resState s (execOpErrorLog c s)) = memPart p s := by
  refine memPart_live (memPart_runOp _ _ _ fun k => ?_)
  simp

/-! ### TableOps.lean -/

@[simp] theorem memPart_execOpTableEpochAt (c) (s : State) :
    memPart p (resState s (execOpTableEpochAt c s)) = memPart p s := by
  refine memPart_live ?_
  split <;> simp

@[simp] theorem memPart_execOpTableStats (c) (s : State) : memPart p (resState s (execOpTableStats c s)) = memPart p s := by
  refine memPart_live ?_
  split <;> simp

/-! ### HostReads.lean -/

@[simp] theorem memPart_execHostReadCompletion (tag data) (s : State) :
    memPart p (resState s (execHostReadCompletion tag data s)) = memPart p s := by
  refine memPart_live ?_
  split <;> simp

@[simp] theorem memPart_execAtsTranslationCompletion (id resp) (s : State) :
    memPart p (resState s (execAtsTranslationCompletion id resp s)) = memPart p s := by
  refine memPart_live ?_
  split <;> simp

@[simp] theorem memPart_execCompletionTimeout (tag) (s : State) :
    memPart p (resState s (execCompletionTimeout tag s)) = memPart p s := by
  refine memPart_live ?_
  dsimp only
  repeat' split
  all_goals simp

/-! ### MailboxFlow.lean -/

@[simp] theorem memPart_execMaxFirmwareTimeExpiry (c) (s : State) (hMaps : p ≠ .maps) :
    memPart p (resState s (execMaxFirmwareTimeExpiry c s)) = memPart p s := by
  refine memPart_live ?_
  split <;> simp [hMaps]

/-! ### Matrix.lean -/

@[simp] theorem memPart_execMmRun (n op bad) (s : State) : memPart p (resState s (execMmRun n op bad s)) = memPart p s := by
  refine memPart_live ?_
  split <;> simp

/-! ### Router.lean -/

@[simp] theorem memPart_execPacketForward (i) (s : State) : memPart p (resState s (execPacketForward i s)) = memPart p s := by
  refine memPart_live ?_
  dsimp only
  repeat' split
  all_goals simp

/-! ### Remote.lean -/

@[simp] theorem memPart_execRatlineRead (i) (s : State) : memPart p (resState s (execRatlineRead i s)) = memPart p s := by
  refine memPart_live ((memPart_peerEnd _ _ _ fun _ _ _ => by simp).trans ?_)
  refine memPart_incoming _ _ _ (fun _ _ => by simp) fun _ _ => ?_
  dsimp only
  split <;> simp

@[simp] theorem memPart_execRatlineWrite (i) (s : State) : memPart p (resState s (execRatlineWrite i s)) = memPart p s := by
  refine memPart_live ((memPart_peerEnd _ _ _ fun _ _ _ => by simp).trans ?_)
  refine memPart_incoming _ _ _ (fun _ _ => by simp) fun _ _ => ?_
  dsimp only
  split <;> simp

@[simp] theorem memPart_execRatlineAdd (i) (s : State) : memPart p (resState s (execRatlineAdd i s)) = memPart p s := by
  refine memPart_live ((memPart_peerEnd _ _ _ fun _ _ _ => by simp).trans ?_)
  refine memPart_incoming _ _ _ (fun _ _ => by simp) fun _ _ => ?_
  dsimp only
  split
  · simp
  · split <;> simp

@[simp] theorem memPart_execRatlineAddUpdateForm (i) (s : State) :
    memPart p (resState s (execRatlineAddUpdateForm i s)) = memPart p s := by
  refine memPart_live (memPart_incoming _ _ _ (fun _ _ => by simp) fun _ _ => ?_)
  split <;> simp

@[simp] theorem memPart_execRatlineSignal (i) (s : State) : memPart p (resState s (execRatlineSignal i s)) = memPart p s := by
  refine memPart_live (memPart_incoming _ _ _ (fun _ _ => by simp) fun _ _ => ?_)
  dsimp only
  repeat' split
  all_goals simp

@[simp] theorem memPart_execRatlineLookup (i) (s : State) : memPart p (resState s (execRatlineLookup i s)) = memPart p s := by
  refine memPart_live (memPart_incoming _ _ _ (fun _ _ => by simp) fun _ _ => ?_)
  dsimp only
  repeat' split
  all_goals simp

@[simp] theorem memPart_execRemoteTimeoutFire (tag) (s : State) :
    memPart p (resState s (execRemoteTimeoutFire tag s)) = memPart p s := by
  refine memPart_live ?_
  split <;> simp

/-! ### SeqFlow.lean -/

@[simp] theorem memPart_execSeqJ (n t) (s : State) : memPart p (resState s (execSeqJ n t s)) = memPart p s := by
  refine memPart_live (memPart_seqDo _ _ _ _ fun _ _ => ?_)
  simp

@[simp] theorem memPart_execSeqCall (n t) (s : State) : memPart p (resState s (execSeqCall n t s)) = memPart p s := by
  refine memPart_live (memPart_seqDo _ _ _ _ fun _ _ => ?_)
  simp

@[simp] theorem memPart_execSeqJr (n t) (s : State) : memPart p (resState s (execSeqJr n t s)) = memPart p s := by
  refine memPart_live (memPart_seqDo _ _ _ _ fun _ _ => ?_)
  simp

@[simp] theorem memPart_execSeqCallr (n t) (s : State) : memPart p (resState s (execSeqCallr n t s)) = memPart p s := by
  refine memPart_live (memPart_seqDo _ _ _ _ fun _ _ => ?_)
  simp

@[simp] theorem memPart_execSeqSpb (n t) (s : State) : memPart p (resState s (execSeqSpb n t s)) = memPart p s := by
  refine memPart_live (memPart_seqHeld _ _ _ _ fun _ _ => ?_)
  simp

@[simp] theorem memPart_execSeqBrk (n t) (s : State) : memPart p (resState s (execSeqBrk n t s)) = memPart p s := by
  refine memPart_live (memPart_seqHeld _ _ _ _ fun _ _ => ?_)
  simp

/-! ### SeqMem.lean -/

@[simp] theorem memPart_execSeqCrr (n t) (s : State) : memPart p (resState s (execSeqCrr n t s)) = memPart p s := by
  refine memPart_live (memPart_seqDo _ _ _ _ fun _ _ => ?_)
  split <;> simp

@[simp] theorem memPart_execSeqSrd (n t) (s : State) : memPart p (resState s (execSeqSrd n t s)) = memPart p s :=
  memPart_live (memPart_seqHeld _ _ _ _ fun _ _ => memPart_withObj _ _ _ fun _ => rfl)

@[simp] theorem memPart_execSeqSig (n t) (s : State) : memPart p (resState s (execSeqSig n t s)) = memPart p s := by
  refine memPart_live (memPart_seqHeld _ _ _ _ fun _ _ => ?_)
  simp

@[simp] theorem memPart_execSeqSset (n t) (s : State) : memPart p (resState s (execSeqSset n t s)) = memPart p s := by
  refine memPart_live (memPart_seqHeld _ _ _ _ fun _ _ => ?_)
  simp

@[simp] theorem memPart_execSeqWarm (n t) (s : State) : memPart p (resState s (execSeqWarm n t s)) = memPart p s :=
  memPart_live (memPart_seqHeld _ _ _ _ fun _ _ => memPart_arm _ _ _ _ _ _ fun _ h => h)

@[simp] theorem memPart_execSeqWait (n t) (s : State) : memPart p (resState s (execSeqWait n t s)) = memPart p s := by
  refine memPart_live (memPart_seqHeld _ _ _ _ fun _ _ => ?_)
  split
  · simp
  · exact memPart_arm _ _ _ _ _ _ fun u h => by simp [h]

/-! ### Boot.lean, Reset.lean: boot, the life cycle and the end of a warm reset -/

@[simp] theorem memPart_transit (s : State) : memPart p (transit s) = memPart p s := by simp [transit]

@[simp] theorem memPart_advanceInc (s : State) : memPart p (advanceInc s) = memPart p s := by simp [advanceInc]

@[simp] theorem memPart_warmClear (s : State) : memPart p (warmClear s) = memPart p s := by simp [warmClear]

@[simp] theorem memPart_execWarmReset (s : State) : memPart p (resState s (execWarmReset s)) = memPart p s := by
  refine memPart_live ?_
  dsimp only
  repeat' split
  all_goals simp

@[simp] theorem memPart_execTowerTrainingDone (ok found) (s : State) (hLayout : p ≠ .layout) :
    memPart p (resState s (execTowerTrainingDone ok found s)) = memPart p s := by
  refine memPart_live ?_
  simp [hLayout, memPart_foldl]

@[simp] theorem memPart_execBoot (b) (s : State) : memPart p (resState s (execBoot b s)) = memPart p s := by
  refine memPart_ite_of rfl ?_
  simp

@[simp] theorem memPart_execOpLifecycleAdvance (c) (s : State) :
    memPart p (resState s (execOpLifecycleAdvance c s)) = memPart p s := by
  refine memPart_live (memPart_runOp _ _ _ fun k => ?_)
  simp

/-! ### Commands that change another part -/

@[simp] theorem memPart_execOpCoreFence (c) (s : State) (hBytes : p ≠ .bytes) :
    memPart p (resState s (execOpCoreFence c s)) = memPart p s :=
  memPart_live (memPart_plainOp _ _ _ fun _ => memPart_fence _ _ _ hBytes)

@[simp] theorem memPart_execOpRowcacheConfig (c) (s : State) (hLayout : p ≠ .layout) :
    memPart p (resState s (execOpRowcacheConfig c s)) = memPart p s :=
  memPart_live (memPart_plainOp _ _ _ fun _ => by simp [hLayout])

@[simp] theorem memPart_execOpDeepPortConfig (c found) (s : State) (hLayout : p ≠ .layout) :
    memPart p (resState s (execOpDeepPortConfig c found s)) = memPart p s :=
  memPart_live (memPart_plainOp _ _ _ fun _ => by simp [hLayout])

@[simp] theorem memPart_execOpDomainPower (c found) (s : State) (hLayout : p ≠ .layout) :
    memPart p (resState s (execOpDomainPower c found s)) = memPart p s :=
  memPart_live (memPart_plainOp _ _ _ fun _ => by simp [hLayout])

@[simp] theorem memPart_execOpCtxCreate (c) (s : State) (hMaps : p ≠ .maps) :
    memPart p (resState s (execOpCtxCreate c s)) = memPart p s :=
  memPart_live (memPart_plainOp _ _ _ fun _ => memPart_updMaps hMaps s)

@[simp] theorem memPart_execOpCtxDestroy (c) (s : State) (hMaps : p ≠ .maps) :
    memPart p (resState s (execOpCtxDestroy c s)) = memPart p s :=
  memPart_live (memPart_runOp _ _ _ fun _ => by simp [hMaps])

@[simp] theorem memPart_execOpMap (c) (s : State) (hMaps : p ≠ .maps) :
    memPart p (resState s (execOpMap c s)) = memPart p s :=
  memPart_live (memPart_plainOp _ _ _ fun _ => memPart_updMaps hMaps s)

@[simp] theorem memPart_execOpUnmap (c) (s : State) (hMaps : p ≠ .maps) :
    memPart p (resState s (execOpUnmap c s)) = memPart p s :=
  memPart_live (memPart_runOp _ _ _ fun _ => by simp [hMaps])

/-! ### All commands -/

/-- The list of O58 for each part. -/
def changesMem (i : Instr) : MemPart → Bool
  | .bytes => i.storesTower
  | .layout => i.changesLayout
  | .maps => i.changesMaps

theorem ne_of_changesMem {i : Instr} (h : changesMem i p = false) (q : MemPart) (w : changesMem i q = true) : p ≠ q := by
  rintro rfl
  rw [h] at w
  cases w

/-- A plain write of BAR0, which may be another command. -/
def plainWrite : Instr → Bool
  | .bar0WritePlain _ _ _ => true
  | _ => false

/-- A command keeps each part whose list does not name it; the plain writes of BAR0 follow. -/
theorem memPart_command {i : Instr} (s : State) (plain : plainWrite i = false) (h : changesMem i p = false) :
    memPart p (resState s (exec i s)) = memPart p s := by
  cases i with
  | bar0WritePlain => contradiction
  | coldReset | dbgColdReqWrite | railUndervoltage => cases p <;> contradiction
  | bar4Read | bar4Write | cxlMemRead | cxlMemWrite | patrolScrub =>
    simp [exec, execBar4Read, execBar4Write, execCxlMemRead, execCxlMemWrite, execPatrolScrub, ne_of_changesMem h .bytes rfl]
  | towerLineAccess | opFill | coreFence | opCoreFence | descriptorRead | stageEnd | completionRecordPost |
    deepPortResponse =>
    simp [exec, ne_of_changesMem h .bytes rfl]
  | deepPortLinkDown | deepPortLinkReturn =>
    simp [exec, execDeepPortLinkDown, execDeepPortLinkReturn, ne_of_changesMem h .layout rfl]
  | opRowcacheConfig | opDeepPortConfig | opDomainPower | opPageRetire | towerTrainingDone =>
    simp [exec, ne_of_changesMem h .layout rfl]
  | migratePage =>
    simp [exec, execMigratePage, ne_of_changesMem h .maps rfl]
  | opCtxCreate | opCtxDestroy | opMap | opUnmap | maxFirmwareTimeExpiry =>
    simp [exec, ne_of_changesMem h .maps rfl]
  | opCoreBridle | opCoreUnbridle | opCoreStatus =>
    simp [exec, execOpCoreBridle, execOpCoreUnbridle, execOpCoreStatus]
  | syncWaitTimeout =>
    simp [exec, execSyncWaitTimeout]
  | vecAdd | vecSub | vecMul | vecFma | vecMin | vecMax | vecDiv | vecSqrt | vecRsqrt | vecExp | vecLog | vecTanh |
    vecSigmoid | vecGelu | vecRelu | vecConvert | vecRsum | vecRmax | vecQuant | vecRequant | vecMxquant | vecDequant =>
    simp [exec, execVecAdd, execVecSub, execVecMul, execVecFma, execVecMin, execVecMax, execVecDiv, execVecSqrt, execVecRsqrt,
      execVecExp, execVecLog, execVecTanh, execVecSigmoid, execVecGelu, execVecRelu, execVecConvert, execVecRsum,
      execVecRmax, execVecQuant, execVecRequant, execVecMxquant, execVecDequant]
  | epochSwitch | prevBusyClear =>
    simp [exec, execEpochSwitch, execPrevBusyClear]
  | teUpdate | rqUpdTailWrite =>
    simp [exec, execTeUpdate, execRqUpdTailWrite]
  | reclaimComplete =>
    simp [exec, execReclaimComplete]
  | rqSqTailWrite | rqCqHeadWrite | rqQStatusClear | rqSyncSelWrite =>
    simp [exec, execRqSqTailWrite, execRqCqHeadWrite, execRqQStatusClear, execRqSyncSelWrite]
  | towerTemperatureChange =>
    simp [exec, execTowerTemperatureChange]
  | opTlbInval | opMigrate =>
    simp [exec, execOpTlbInval, execOpMigrate]
  | opPlanLoad | opPlanUnload | opQueueCreate | opReplayWindow | opSyncAlloc | opSyncFree =>
    simp [exec, execOpPlanLoad, execOpPlanUnload, execOpQueueCreate, execOpReplayWindow, execOpSyncAlloc, execOpSyncFree]
  | frequencyGateStart | opCalRun | opCalRead | calSlewingClear =>
    simp [exec, execFrequencyGateStart, execOpCalRun, execOpCalRead, execCalSlewingClear]
  | gnssQualify | gnssDisqualify | ppsInEdge | ref10mLoss | ppsInMissing | sourceTakeover | lock24hSet | leapSecond |
    tbSlewingClear | tbSnapLatch | ppsOutRise | ppsOutFall | exchangeIntervalMissed | sync | delayReq | delayResp |
    opTimeConfig | opTimeSet | timeSetTimeout | opTimeStatus | refPresenceDecided | calLoopbacksDone | frequencyGateEnd =>
    simp [exec, execGnssQualify, execGnssDisqualify, execPpsInEdge, execRef10mLoss, execPpsInMissing, execSourceTakeover,
      execLock24hSet, execLeapSecond, execTbSlewingClear, execTbSnapLatch, execPpsOutRise, execPpsOutFall,
      execExchangeIntervalMissed, execSync, execDelayReq, execDelayResp, execOpTimeConfig, execOpTimeSet,
      execTimeSetTimeout, execOpTimeStatus, execRefPresenceDecided, execCalLoopbacksDone, execFrequencyGateEnd]
  | samplePortFault | samplePortFaultClear | sampleTimeTag | search | verify | searchListReturn | pullInLock |
    pullInTimeout | trackLoss | coherentIntervalEnd | syncEventVerified | cn0Expire | measurementEpoch |
    surveyComplete | holdResidualCheck | opGnssConfig | opGnssSurvey | opGnssPosition | opGnssStream | opGnssAssist =>
    simp [exec, execSamplePortFault, execSamplePortFaultClear, execSampleTimeTag, execSearch, execVerify, execSearchListReturn,
      execPullInLock, execPullInTimeout, execTrackLoss, execCoherentIntervalEnd, execSyncEventVerified,
      execCn0Expire, execMeasurementEpoch, execSurveyComplete, execHoldResidualCheck, execOpGnssConfig,
      execOpGnssSurvey, execOpGnssPosition, execOpGnssStream, execOpGnssAssist]
  | ratlineLinkLoss | opLinkUp | opLinkDown | opFabricStatus | nakFlit | idleFlit | timesyncFlit =>
    simp [exec, execRatlineLinkLoss, execOpLinkUp, execOpLinkDown, execOpFabricStatus, execNakFlit, execIdleFlit,
      execTimesyncFlit]
  | hotspotTemperatureChange | powerSample | pwrCapNChange | overcurrent | reefLevelStep | opPowerLimit |
    opReefStatus | opBoost | opThermalRead =>
    simp [exec, execHotspotTemperatureChange, execPowerSample, execPwrCapNChange, execOvercurrent, execReefLevelStep,
      execOpPowerLimit, execOpReefStatus, execOpBoost, execOpThermalRead]
  | firmwareStart | bootReady | opFwUpdateBegin | opAttest | tamper | tamperNRelease | jtagInstruction =>
    simp [exec, execFirmwareStart, execBootReady, execOpFwUpdateBegin, execOpAttest, execTamper, execTamperNRelease,
      execJtagInstruction]
  | opHeartbeatConfig | opDump | capture | freeze | captureDone =>
    simp [exec, execOpHeartbeatConfig, execOpDump, execCapture, execFreeze, execCaptureDone]
  | hostLinkTrain | hostLinkDown | bar0BadAccess | bar4Resize |
    msixGapEnd | intStatusClear | intEnableWrite | atsInvalidation =>
    simp [exec, execHostLinkTrain, execHostLinkDown, execBar0BadAccess, execBar4Resize, execMsixGapEnd, execIntStatusClear,
      execIntEnableWrite, execAtsInvalidation]
  | opNop | opGetInfo | opMbxGrant | opEventRing | opHealthSummary =>
    simp [exec, execOpNop, execOpGetInfo, execOpMbxGrant, execOpEventRing, execOpHealthSummary]
  | opTableCreate | opTableDestroy | opUpdateStreamOpen | opUpdateStreamClose =>
    simp [exec, execOpTableCreate, execOpTableDestroy, execOpUpdateStreamOpen, execOpUpdateStreamClose]
  | mbxDoorbell | mbxStatusClear | mbxAck | solpReq | solpStat | opMbxReset | fwUpdateSessionTimeout =>
    simp [exec, execMbxDoorbell, execMbxStatusClear, execMbxAck, execSolpReq, execSolpStat, execOpMbxReset,
      execFwUpdateSessionTimeout]
  | mmLoad =>
    simp [exec, execMmLoad]
  | ack | readData | pooled | refused =>
    simp [exec, execAck, execReadData, execPooled, execRefused]
  | flr | perstNAssert | opChipReset =>
    simp [exec, execFlr, execPerstNAssert, execOpChipReset]
  | seqAdd | seqSub | seqAnd | seqOr | seqXor | seqSll | seqSrl | seqSra | seqSlt | seqSltu | seqMin | seqMax |
    seqMinu | seqMaxu | seqAddi | seqAndi | seqOri | seqXori | seqSlli | seqSrli | seqSrai | seqMfpl | seqMfph |
    seqMflk | seqLui | seqMul | seqMulu | productLand | seqMtlk | seqRdtime =>
    simp [exec, execSeqAdd, execSeqSub, execSeqAnd, execSeqOr, execSeqXor, execSeqSll, execSeqSrl, execSeqSra, execSeqSlt,
      execSeqSltu, execSeqMin, execSeqMax, execSeqMinu, execSeqMaxu, execSeqAddi, execSeqAndi, execSeqOri,
      execSeqXori, execSeqSlli, execSeqSrli, execSeqSrai, execSeqMfpl, execSeqMfph, execSeqMflk, execSeqLui,
      execSeqMul, execSeqMulu, execProductLand, execSeqMtlk, execSeqRdtime]
  | seqRet | seqBeq | seqBne | seqBlt | seqBge | seqBltu | seqBgeu | seqCdrain | seqHalt =>
    simp [exec, execSeqRet, execSeqBeq, execSeqBne, execSeqBlt, execSeqBge, execSeqBltu, execSeqBgeu, execSeqCdrain,
      execSeqHalt]
  | seqLd | seqLw | seqLbu | seqSt | seqSw | seqSb | seqCrw | seqCop | seqWblk =>
    simp [exec, execSeqLd, execSeqLw, execSeqLbu, execSeqSt, execSeqSw, execSeqSb, execSeqCrw, execSeqCop, execSeqWblk]
  | opCoherenceMode =>
    simp [exec, execOpCoherenceMode]
  | _ => simp [exec]

/-! ### Plain writes of BAR0 (00 R5) -/

theorem memPart_writeMbx (s : State) (off v) : memPart p (writeMbx s off v) = memPart p s :=
  memPart_ite_of (memPart_command s (i := .mbxDoorbell _ v) rfl (by cases p <;> rfl))
    (memPart_ite_of (memPart_command s (i := .mbxStatusClear _ v) rfl (by cases p <;> rfl)) (memPart_writePlain s off v))

theorem memPart_writeRq (s : State) (o v) : memPart p (writeRq s o v) = memPart p s :=
  memPart_ite_of
    (memPart_ite_of (memPart_command s (i := .rqSqTailWrite _ v) rfl (by cases p <;> rfl))
      (memPart_ite_of (memPart_command s (i := .rqCqHeadWrite _ v) rfl (by cases p <;> rfl))
        (memPart_ite_of (memPart_command s (i := .rqQStatusClear _ v) rfl (by cases p <;> rfl)) rfl)))
    (memPart_ite_of (memPart_command s (i := .rqUpdTailWrite _ v) rfl (by cases p <;> rfl))
      (memPart_ite_of (memPart_command s (i := .rqSyncSelWrite _ v) rfl (by cases p <;> rfl)) rfl))

/-- A write of DBG that asks for no cold reset. -/
theorem memPart_writeDbg (s : State) {o : Nat} (v) (hCold : o ≠ 8) : memPart p (writeDbg s o v) = memPart p s := by
  have captured : memPart p (if v.getLsbD 0 then resState s (execCapture s) else s) = memPart p s :=
    memPart_ite_of (memPart_command s (i := .capture) rfl (by cases p <;> rfl)) rfl
  refine memPart_ite_of (memPart_ite_of ?_ captured) ((congrArg _ (if_neg hCold)).trans rfl)
  exact (memPart_command _ (i := .freeze) rfl (by cases p <;> rfl)).trans captured

theorem memPart_writeReg (s : State) {off : Nat} (v) (hCold : off ≠ 0xC0008) :
    memPart p (writeReg s off v) = memPart p s := by
  unfold writeReg
  split
  · exact memPart_writeMbx _ _ _
  · refine memPart_ite_of (memPart_command s (i := .intStatusClear v) rfl (by cases p <;> rfl))
      (memPart_ite_of (memPart_command s (i := .intEnableWrite v) rfl (by cases p <;> rfl))
        (memPart_ite_of (memPart_writeRq _ _ _) ?_))
    split
    next inside =>
      simp only [Bool.and_eq_true, decide_eq_true_eq] at inside
      exact memPart_writeDbg _ _ (by omega)
    · exact memPart_writePlain _ _ _

/-- A plain write that is no 64-bit write of DBG_COLD_REQ. -/
theorem memPart_execBar0WritePlain (off) (wide : Bool) (val) (s : State) (hCold : wide = true → off ≠ 0xC0008) :
    memPart p (resState s (execBar0WritePlain off wide val s)) = memPart p s := by
  refine memPart_barWrite ?_
  cases wide with
  | false => exact memPart_ite_of rfl (memPart_writePlain _ _ _)
  | true =>
    simp only [if_true]
    split
    · rfl
    next aligned =>
      simp only [bne_iff_ne, ne_eq, Decidable.not_not] at aligned
      exact (memPart_writeReg _ _ (by omega)).trans (memPart_writeReg _ _ (hCold rfl))

theorem memPart_exec {i : Instr} (s : State) (h : changesMem i p = false) :
    memPart p (resState s (exec i s)) = memPart p s := by
  cases plain : plainWrite i with
  | false => exact memPart_command s plain h
  | true =>
    cases i with
    | bar0WritePlain off wide val =>
      refine memPart_execBar0WritePlain off wide val s fun w e => ?_
      subst w e
      cases p <;> contradiction
    | _ => contradiction

theorem memPart_next {i : Instr} {s t : State} (e : exec i s = .next t) (h : changesMem i p = false) :
    memPart p t = memPart p s := by
  have kept := memPart_exec s h
  rwa [e] at kept

end

end Sys2Proof.Machine

/-! ## 06, 08: host writes within a line, and of a whole line (06 R121, R122, R134; 08 R175, R182), and the statement of O58 -/

namespace Sys2Proof.Machine

theorem Announced.tw {s t : State} (h : Announced s t) : t.tw = s.tw := by
  obtain ⟨_, _, _, _, rfl⟩ := h
  rfl

theorem mergeBytes_length (b : Bytes) (m : List (Option Byte)) : (mergeBytes b m).length = b.length := by
  induction b generalizing m with
  | nil => rfl
  | cons x b ih =>
    match m with
    | [] => rfl
    | none :: m => exact congrArg (· + 1) (ih m)
    | some _ :: m => exact congrArg (· + 1) (ih m)

/-- A line read, or left unread, without an uncorrectable error keeps every byte. -/
theorem lineCheck_cells {err : LineErr} (mild : err ≠ .uncorrectable) (s : State) (dpa cell source : Nat) :
    (lineCheck s dpa cell err source).tw.cells = s.tw.cells := by
  obtain ⟨ce, e⟩ := lineCheck_mild mild s dpa cell source
  rw [e]

/-- A host write within one line that meets no uncorrectable error leaves every byte but those it names. -/
theorem hostLineWrite_outside {s : State} {a cell : Nat} {m : List (Option Byte)} {err : LineErr} (ep : Bool)
    (wf : Memory.wf s.tw.cells = true) (c : cellOf s a = some cell) (mild : err ≠ .uncorrectable) {x : Nat}
    (out : x < cell ∨ cell + m.length ≤ x) :
    memGet (hostLineWrite s a m ep err).tw.cells x = memGet s.tw.cells x := by
  have stored (u : State) (same : u.tw.cells = s.tw.cells) :
      memGet (storeCells u cell (mergeBytes (memRead u.tw.cells cell m.length) m)).tw.cells x = memGet s.tw.cells x := by
    rw [storeCells, same]
    exact memGet_memWrite_other wf _ _ _ (by rwa [mergeBytes_length, memRead_length])
  unfold hostLineWrite
  rw [c]
  dsimp only
  generalize seen : (if m.length = 64 && m.all (fun b => b.isSome) || m.all (fun b => b.isNone) then s
    else lineCheck s a cell err 0) = u
  have same : u.tw.cells = s.tw.cells := by
    rw [← seen]
    split
    · rfl
    · exact lineCheck_cells mild s a cell 0
  split
  · rw [same]
  · split
    · split
      · exact stored u same
      · rw [poisonEvent, (Announced.ofEvent _ _ _ _).tw]
        exact stored u same
    · split
      · exact stored u same
      · split
        · rw [same]
        · exact stored u same

/-- Within one line the write is one piece. -/
theorem hostTowerWrite_one {s : State} {a : Nat} {d : List (Option Byte)} (ep : Bool) (errs : List (Nat × LineErr))
    (some_ : 0 < d.length) (fits : a % 64 + d.length ≤ 64) :
    hostTowerWrite s a d ep errs = hostLineWrite s a d ep (errOf errs a) := by
  have all : (d.drop (a - a)).take d.length = d := by simp
  rw [hostTowerWrite, bar4Cuts_one some_ fits, List.foldl_cons, List.foldl_nil, all]

theorem hostTowerWrite_outside {s : State} {a cell : Nat} {d : List (Option Byte)} {errs : List (Nat × LineErr)} (ep : Bool)
    (wf : Memory.wf s.tw.cells = true) (some_ : 0 < d.length) (fits : a % 64 + d.length ≤ 64)
    (c : cellOf s a = some cell) (mild : ∀ e ∈ errs, e.2 ≠ .uncorrectable) {x : Nat}
    (out : x < cell ∨ cell + d.length ≤ x) :
    memGet (hostTowerWrite s a d ep errs).tw.cells x = memGet s.tw.cells x := by
  rw [hostTowerWrite_one ep errs some_ fits]
  exact hostLineWrite_outside ep wf c (errOf_mild mild a) out

section HostFrame
variable {s : State} (awake : Awake s)
include awake

theorem bar4Read_keeps_bytes {off n : Nat} {errs : List (Nat × LineErr)} (mild : ∀ e ∈ errs, e.2 ≠ .uncorrectable) :
    Runs (.bar4Read off n errs) s fun t => t.tw.cells = s.tw.cells := by
  cases decode : hostDecode s with
  | false =>
    obtain ⟨t, ran, rfl⟩ := runs_barRead_off (i := .bar4Read off n errs)
      (show execBar4Read off n errs s = _ from rfl) awake decode
    exact ⟨_, ran, rfl⟩
  | true =>
    refine runs_barRead (show execBar4Read off n errs s = _ from rfl) awake decode ?_
    split
    · rfl
    · exact (hostTowerRead_mild mild s off n).1

theorem bar4Write_outside {off cell : Nat} {d : List (Option Byte)} {errs : List (Nat × LineErr)} (ep : Bool)
    (wf : Memory.wf s.tw.cells = true) (some_ : 0 < d.length) (fits : off % 64 + d.length ≤ 64)
    (c : cellOf s off = some cell) (mild : ∀ e ∈ errs, e.2 ≠ .uncorrectable) :
    Runs (.bar4Write off d ep errs) s fun t => ∀ x, (x < cell ∨ cell + d.length ≤ x) →
      memGet t.tw.cells x = memGet s.tw.cells x := by
  cases decode : hostDecode s with
  | false =>
    obtain ⟨t, ran, rfl⟩ := runs_barWrite_off (i := .bar4Write off d ep errs)
      (show execBar4Write off d ep errs s = _ from rfl) decode
    exact ⟨_, ran, fun _ _ => rfl⟩
  | true =>
    refine runs_barWrite (show execBar4Write off d ep errs s = _ from rfl) awake decode fun x out => ?_
    split
    · rfl
    · exact hostTowerWrite_outside ep wf some_ fits c mild out

theorem cxlMemWrite_outside {dpa cell : Nat} {d : List (Option Byte)} {err : LineErr} (ep : Bool)
    (wf : Memory.wf s.tw.cells = true) (aligned : dpa % 64 = 0) (whole : d.length = 64) (c : cellOf s dpa = some cell)
    (mild : err ≠ .uncorrectable) :
    Runs (.cxlMemWrite dpa d ep err) s fun t => ∀ x, (x < cell ∨ cell + 64 ≤ x) →
      memGet t.tw.cells x = memGet s.tw.cells x := by
  refine runs_live (show execCxlMemWrite dpa d ep err s = _ from rfl) awake fun x out => ?_
  have all : d.take 64 = d := List.take_of_length_le whole.le
  have mildAll : ∀ e ∈ [(dpa / 64, err)], e.2 ≠ .uncorrectable := by simpa using mild
  split
  · rfl
  · rw [emit_tw, hostTakes_tw, line_start aligned, all]
    exact hostTowerWrite_outside ep wf (by omega) (by omega) c mildAll (by rwa [whole])

end HostFrame

/-- Settles O58: each part by `memPart_exec`, which goes through the commands, and the host's accesses line by line. -/
theorem memoryFrame : Obligations.MemoryFrame := by
  unfold Obligations.MemoryFrame
  refine ⟨fun i s t e => ⟨fun h a => ?_, fun h => ?_, fun h => ?_⟩, ?_, ?_, ?_⟩
  · have kept : t.tw.cells = s.tw.cells := memPart_next (p := .bytes) e h
    rw [kept]
  · have kept : tierLayout t.tw = tierLayout s.tw := memPart_next (p := .layout) e h
    simpa only [tierLayout, TierLayout.mk.injEq] using kept
  · have kept : (t.xl.maps, t.xl.ctxs) = (s.xl.maps, s.xl.ctxs) := memPart_next (p := .maps) e h
    exact Prod.mk.inj kept
  · intro s off n errs awake mild
    obtain ⟨t, ran, kept⟩ := bar4Read_keeps_bytes (off := off) (n := n) awake mild
    exact ⟨t, ran, fun a => by rw [kept]⟩
  · intro s off cell d ep errs awake wf some_ fits c mild
    exact bar4Write_outside awake ep wf some_ fits c mild
  · intro s dpa cell d ep err awake wf aligned whole c mild
    exact cxlMemWrite_outside awake ep wf aligned whole c mild

end Sys2Proof.Machine

/-! ## 07: what an access that goes on leaves (R152, R157, R163; the statement of O16) -/

namespace Sys2Proof.Machine

/-- What no step of an access changes: the prefetches accepted, and the sync objects. -/
def besideAccess (s : State) : Tab Prefetch × Tab SyncObj := (s.xl.prefetches, s.sch.sync)

/-- An update that leaves translation and the scheduler. -/
@[simp] theorem besideAccess_updOther (s : State)
    {tb cal gn mbx hl acc nextAcc tw cores bridled te fab hlt pwr sec out freeCtr pending} :
    besideAccess ⟨tb, cal, gn, mbx, hl, s.xl, acc, nextAcc, tw, cores, bridled, te, s.sch, fab, hlt, pwr, sec, out, freeCtr,
      pending⟩ = besideAccess s := rfl

/-- An update of translation that leaves the prefetches. -/
@[simp] theorem besideAccess_updTlb (s : State) {ctxs maps l1 l2 advice migrations}
    {tb cal gn mbx hl acc nextAcc tw cores bridled te fab hlt pwr sec out freeCtr pending} :
    besideAccess ⟨tb, cal, gn, mbx, hl, ⟨ctxs, maps, l1, l2, advice, s.xl.prefetches, migrations⟩, acc, nextAcc, tw,
      cores, bridled, te, s.sch, fab, hlt, pwr, sec, out, freeCtr, pending⟩ = besideAccess s := rfl

@[simp] theorem besideAccess_ite (c : Prop) [Decidable c] (s t : State) :
    besideAccess (if c then s else t) = if c then besideAccess s else besideAccess t :=
  apply_ite _ _ _ _

theorem besideAccess_foldl {α : Type} {f : State → α → State} (h : ∀ s x, besideAccess (f s x) = besideAccess s)
    (l : List α) (s : State) : besideAccess (l.foldl f s) = besideAccess s := by
  induction l generalizing s with
  | nil => rfl
  | cons x l ih => exact (ih _).trans (h s x)

theorem Announced.besideAccess {s t : State} (h : Announced s t) : besideAccess t = besideAccess s := by
  obtain ⟨_, _, _, _, rfl⟩ := h
  rfl

theorem besideAccess_snd {α : Type} {x : α × State} {a : α} {s t : State} (e : x = (a, t))
    (h : besideAccess x.2 = besideAccess s) : besideAccess t = besideAccess s := by
  subst e; exact h

/-! ### Accesses -/

@[simp] theorem besideAccess_emit (s : State) (o) : besideAccess (emit s o) = besideAccess s := rfl

@[simp] theorem besideAccess_event (s : State) (typ sev data) : besideAccess (event s typ sev data) = besideAccess s :=
  (Announced.ofEvent _ _ _ _).besideAccess

@[simp] theorem besideAccess_setInt (s : State) (b) : besideAccess (setInt s b) = besideAccess s :=
  (Announced.ofSetInt _ _).besideAccess

@[simp] theorem besideAccess_atsAsk (s : State) (why pasid addr write) :
    besideAccess (atsAsk s why pasid addr write) = besideAccess s := rfl

@[simp] theorem besideAccess_accMod (s : State) (id f) : besideAccess (accMod s id f) = besideAccess s := rfl

@[simp] theorem besideAccess_accStage (s : State) (id g) : besideAccess (accStage s id g) = besideAccess s := rfl

@[simp] theorem besideAccess_accDrop (s : State) (f) : besideAccess (accDrop s f) = besideAccess s := rfl

@[simp] theorem besideAccess_accEnd (s : State) (id g) : besideAccess (accEnd s id g) = besideAccess s := by simp [accEnd]

@[simp] theorem besideAccess_accFail (s : State) (id why) : besideAccess (accFail s id why) = besideAccess s := by
  simp only [accFail]
  repeat' split
  all_goals simp

/-! ### Deep memory (08 R179, R180, R184) -/

@[simp] theorem besideAccess_deepPoisonEvent (s : State) (source q dpa) :
    besideAccess (deepPoisonEvent s source q dpa) = besideAccess s := by simp [deepPoisonEvent]

@[simp] theorem besideAccess_poisonRead (s : State) (id a) : besideAccess (poisonRead s id a) = besideAccess s := by
  simp [poisonRead, takeFreeBytes]

@[simp] theorem besideAccess_deepLost (s : State) (id q dpa a) : besideAccess (deepLost s id q dpa a) = besideAccess s := by
  simp [deepLost, rcDropIf]

@[simp] theorem besideAccess_pumpDeep (n : Nat) (s : State) (q) : besideAccess (pumpDeep n s q) = besideAccess s := by
  induction n generalizing s with
  | zero => rfl
  | succ n ih =>
    unfold pumpDeep
    split <;> simp [ih]

@[simp] theorem besideAccess_pumpPort (s : State) (q) : besideAccess (pumpPort s q) = besideAccess s := by simp [pumpPort]

@[simp] theorem besideAccess_deepIssue (s : State) (id d a) : besideAccess (deepIssue s id d a) = besideAccess s := by
  simp only [deepIssue]
  repeat' split
  all_goals simp

@[simp] theorem besideAccess_snoop (s : State) (dpa) : besideAccess (snoop s dpa) = besideAccess s := by simp [snoop]

@[simp] theorem besideAccess_startPhys (s : State) (a deep pa) : besideAccess (startPhys s a deep pa) = besideAccess s := by
  simp [startPhys, addAccess]

/-! ### Host and remote memory (07 R152, 12 R288, 14 R340) -/

@[simp] theorem besideAccess_recordRead (s : State) (why addr len pasid sent) :
    besideAccess (recordRead s why addr len pasid sent).2 = besideAccess s := rfl

@[simp] theorem besideAccess_sendRead (s : State) (tag) : besideAccess (sendRead s tag) = besideAccess s := by
  simp only [sendRead]
  repeat' split
  all_goals simp

@[simp] theorem besideAccess_hostRead (s : State) (why addr len ctx) :
    besideAccess (hostRead s why addr len ctx).2 = besideAccess s := by
  simp only [hostRead]
  repeat' split
  all_goals simp

@[simp] theorem besideAccess_hostOut (s : State) (id addr a) : besideAccess (hostOut s id addr a) = besideAccess s := by
  simp [hostOut]

@[simp] theorem besideAccess_hostPut (s : State) (id addr a) : besideAccess (hostPut s id addr a) = besideAccess s := by
  unfold hostPut
  split <;> simp

@[simp] theorem besideAccess_hostGet (s : State) (id addr a) : besideAccess (hostGet s id addr a) = besideAccess s := by
  unfold hostGet
  split
  · simp
  · split
    · next e => rw [besideAccess_accFail]; exact besideAccess_snd e (by simp)
    · next e => rw [besideAccess_accStage]; exact besideAccess_snd e (by simp)

@[simp] theorem besideAccess_toRouter (s : State) (q) : besideAccess (toRouter s q) = besideAccess s := rfl

@[simp] theorem besideAccess_sendRequest (s : State) (op flags tclass chip inc gaddr issuer parts why) :
    besideAccess (sendRequest s op flags tclass chip inc gaddr issuer parts why).2 = besideAccess s := by
  simp only [sendRequest]
  split
  · rfl
  · split
    · rfl
    · exact besideAccess_foldl (fun u _ => besideAccess_toRouter u _) _ _

@[simp] theorem besideAccess_remotePut (s : State) (id chip inc g a) :
    besideAccess (remotePut s id chip inc g a) = besideAccess s := by
  unfold remotePut
  dsimp only
  split
  · next e => rw [besideAccess_accFail]; exact besideAccess_snd e (by simp)
  · next e => rw [besideAccess_accStage]; exact besideAccess_snd e (by simp)
  · next e => rw [besideAccess_accStage]; exact besideAccess_snd e (by simp)

/-! ### Translation, and the work of prefetches and migrations (07 R157, R162, R163) -/

@[simp] theorem besideAccess_l2Put (s : State) (k e) : besideAccess (l2Put s k e) = besideAccess s := rfl

@[simp] theorem besideAccess_tlbUse (s : State) (st k e) : besideAccess (tlbUse s st k e) = besideAccess s := rfl

@[simp] theorem besideAccess_issueAt (s : State) (id a e) : besideAccess (issueAt s id a e) = besideAccess s := by
  unfold issueAt
  split <;> simp

@[simp] theorem besideAccess_issue (s : State) (id) : besideAccess (issue s id) = besideAccess s := by
  simp only [issue]
  repeat' split
  all_goals simp

@[simp] theorem besideAccess_prefetchLines (s : State) (i o e lo hi) :
    besideAccess (prefetchLines s i o e lo hi) = besideAccess s := by simp [prefetchLines, besideAccess_foldl]

@[simp] theorem besideAccess_prefetchRun (s : State) (i k pages) :
    besideAccess (prefetchRun s i k pages) = besideAccess s := by simp [prefetchRun, besideAccess_foldl]

@[simp] theorem besideAccess_migRelease (s : State) (m e) : besideAccess (migRelease s m e) = besideAccess s := by
  simp [migRelease, besideAccess_foldl]

end Sys2Proof.Machine

/-! ## 07: prefetch, migration, advice, and an unmap that gives up on host accesses (R161 to R165; the statement of O16) -/

namespace Sys2Proof.Machine

/-! ### Numbers free in a table -/

theorem mem_keys_of_tget {α : Type} {t : Tab α} {i : Nat} {v : α} (h : tget t i = some v) : i ∈ t.map Prod.fst := by
  induction t with
  | nil => cases h
  | cons e r ih =>
    rw [tget] at h
    split at h
    · next own => simp [own]
    · exact List.mem_cons_of_mem _ (ih h)

/-- Of the numbers up to a table's length one is unused. -/
theorem tget_freshIdx {α : Type} (t : Tab α) : tget t (freshIdx t) = none := by
  unfold freshIdx
  cases found : (List.range (t.length + 1)).find? fun i => !thas t i with
  | some i => simpa [thas] using List.find?_some found
  | none =>
    have used : List.range (t.length + 1) ⊆ t.map Prod.fst := fun i m => by
      have held : tget t i ≠ none := by simpa [thas] using List.find?_eq_none.mp found i m
      obtain ⟨v, hv⟩ := Option.ne_none_iff_exists'.mp held
      exact mem_keys_of_tget hv
    have short := (List.nodup_range.subperm used).length_le
    simp at short

/-! ### A signal to a sync object (13 R320) -/

theorem syncAdd_xl (s : State) (o : Nat) (v : Dword) : (syncAdd s o v).xl = s.xl := by
  unfold syncAdd syncApply
  split <;> rfl

theorem syncOf_syncAdd {s : State} {o : Nat} {y : SyncObj} (h : syncOf s o = some y) (v : Dword) :
    syncOf (syncAdd s o v) o = some { y with counter := y.counter + v } := by
  unfold syncAdd syncApply
  rw [h]
  exact tget_tput _ _ _

end Sys2Proof.Machine
namespace Sys2Proof.Machine

/-! ### OP_PREFETCH and its end (07 R162) -/

/-- The checks of OP_PREFETCH. -/
def prefetchChk (s : State) (k : CmdHeld) : Chk :=
  let h := ctxChk s (k.f 0 1)
    (k.rsv 3 4 ++ k.rsv 6 8 ++ k.rsv 32 40 ++ rangeChk k ++ syncChk s (k.f 0 1) (k.f 4 2) 4 ++
      [bad (decide (63 < k.f 0 1)) 0, bad (decide (3 < k.f 1 1)) 1,
       bad (decide (16384 < (entriesOf s (k.f 0 1) (k.f 8 8) (k.f 16 8)).length)) 8]) none
  { h with missing := h.missing || (syncOf s (k.f 4 2)).isNone }

/-- The prefetch that the command accepts. -/
def prefetchMade (s : State) (k : CmdHeld) : Prefetch :=
  ⟨k.f 0 1, k.f 8 8, k.f 16 8, BitVec.ofNat 8 (k.f 1 1), BitVec.ofNat 8 (k.f 2 1), k.f 4 2, BitVec.ofNat 64 (k.f 24 8),
    (prefetchPages s k).filter fun e => !prefetchFaults s k e⟩

/-- The events of the pages whose walk reads poison, raised. -/
def prefetchWarned (s : State) (k : CmdHeld) : State :=
  ((prefetchPages s k).filter (prefetchFaults s k)).foldl (fun s e =>
    event s 0x0009 1 (xlateFaultData e.ctx 2 (streamCode .firmware) (max (k.f 8 8) e.dva))) s

/-- The prefetch accepted, its work not yet begun. -/
def prefetchNoted (s : State) (k : CmdHeld) : State :=
  let u := prefetchWarned s k
  { u with xl := { u.xl with prefetches := tput u.xl.prefetches (freshIdx u.xl.prefetches) (prefetchMade s k) } }

/-- The prefetch accepted, its work issued. -/
def prefetched (s : State) (k : CmdHeld) : State :=
  prefetchRun (prefetchNoted s k) (freshIdx (prefetchWarned s k).xl.prefetches) k (prefetchMade s k).pages

theorem besideAccess_prefetchWarned (s : State) (k : CmdHeld) : besideAccess (prefetchWarned s k) = besideAccess s :=
  besideAccess_foldl (fun _ _ => besideAccess_event _ _ _ _) _ _

/-- It stands under a number that was free. -/
theorem prefetched_prefetches (s : State) (k : CmdHeld) :
    (prefetched s k).xl.prefetches = tput s.xl.prefetches (freshIdx s.xl.prefetches) (prefetchMade s k) := by
  have ran : (prefetched s k).xl.prefetches = (prefetchNoted s k).xl.prefetches :=
    congrArg Prod.fst (besideAccess_prefetchRun (prefetchNoted s k) _ _ _)
  have warned : (prefetchWarned s k).xl.prefetches = s.xl.prefetches := congrArg Prod.fst (besideAccess_prefetchWarned s k)
  rw [ran, prefetchNoted, warned]

theorem prefetched_chan (s : State) (k : CmdHeld) (c : Chan) : chan (prefetched s k) c = chan s c :=
  (chan_prefetchRun (prefetchNoted s k) _ _ _).trans (chan_foldl (fun _ _ => chan_event _ _ _ _) _ _)

theorem prefetched_hlt (s : State) (k : CmdHeld) : (prefetched s k).hlt = s.hlt :=
  (part_prefetchRun (p := .health) (prefetchNoted s k) _ _ _).trans
    (part_foldl (p := .health) (fun _ _ => part_event _ _ _ _) _ _)

theorem prefetchChk_passes {s : State} {c : Chan} {k : CmdHeld} {y : SyncObj} (kinds : k.f 1 1 ≤ 3)
    (r : Reserved k ([3, 6, 7] ++ span 32 40)) (range : RangeOk k) (ctx : CtxOk s c (k.f 0 1)) (obj : k.f 4 2 ≤ 8191)
    (there : syncOf s (k.f 4 2) = some y) (own : y.ctx = k.f 0 1)
    (few : (entriesOf s (k.f 0 1) (k.f 8 8) (k.f 16 8)).length ≤ 16384) :
    firstFail (chan s c) (prefetchChk s k) = none := by
  simp only [prefetchChk, there, Option.isNone_some, Bool.or_false]
  refine ctxChk_passes ctx fun x m => ?_
  rcases List.mem_append.mp m with m | m
  · rcases List.mem_append.mp m with m | m
    · rcases List.mem_append.mp m with m | m
      · rcases List.mem_append.mp m with m | m
        · rcases List.mem_append.mp m with m | m <;> exact rsv_none r (by decide) x m
        · exact rsv_none r (by decide) x m
      · exact rangeChk_passes range x m
    · simp only [syncChk, bad, there, obj.not_gt, own, Option.any_some, List.mem_cons, List.not_mem_nil, or_false] at m
      rcases m with rfl | rfl
      · rfl
      · exact bne_self_eq_false _
  · simp only [bad, ctx.1.not_gt, kinds.not_gt, few.not_gt, List.mem_cons, List.not_mem_nil, or_false] at m
    rcases m with rfl | rfl | rfl <;> rfl

section Commands
variable {s : State} {c : Chan} {k : CmdHeld} (others : OthersIdle s c)
include others

theorem opPrefetch_accepts (h : HasCmd s c 0x0307 k) (pass : firstFail (chan s c) (prefetchChk s k) = none) :
    Runs (.opPrefetch c) s fun t => Answered t c k 0 (leBytes 4 (prefetchPages s k).length) ∧
      t.xl.prefetches = tput s.xl.prefetches (freshIdx s.xl.prefetches) (prefetchMade s k) := by
  refine h.opGoes (chk := prefetchChk) (t := prefetched s k) others pass (show execOpPrefetch c s = _ from rfl) rfl
    ⟨h.answers_own (prefetched_chan s k c) (prefetched_hlt s k) _ _, ?_⟩
  rw [finishCmd_xl, prefetched_prefetches]

end Commands

theorem prefetchDone_signals {s : State} (awake : Awake s) {i : Nat} {p : Prefetch} {y : SyncObj}
    (found : tget s.xl.prefetches i = some p) (ended : allEnded (accsOf s (isPrefetch i)) = true)
    (there : syncOf s p.sync = some y) :
    Runs (.prefetchDone i) s fun t =>
      tget t.xl.prefetches i = none ∧ syncOf t p.sync = some { y with counter := y.counter + p.sig } := by
  refine runs_live (show execPrefetchDone i s = _ from rfl) awake ?_
  simp only [found, ended, Bool.not_true, Bool.false_eq_true, if_false]
  refine ⟨?_, syncOf_syncAdd ?_ p.sig⟩
  · rw [syncAdd_xl]
    exact tget_tdel _ _
  · exact there

/-! ### OP_MIGRATE and the pages it moves (07 R163) -/

/-- The migration that OP_MIGRATE accepts. -/
def migrationMade (s : State) (k : CmdHeld) : Migration :=
  let pages := entriesOf s (k.f 0 1) (k.f 8 8) (k.f 16 8)
  { ctx := k.f 0 1, dva := k.f 8 8, len := k.f 16 8, deep := k.f 1 1 = 1, interleave := BitVec.ofNat 2 (k.f 2 1),
    sync := k.f 4 2, sig := BitVec.ofNat 64 (k.f 32 8), target := k.f 24 8,
    olds := pages.map fun e => (e.tier = 1, e.addr.toNat, e.size), pages := pages, phase := 0, mark := 0 }

theorem opMigrate_accepts {s : State} {c : Chan} {k : CmdHeld} (others : OthersIdle s c) (h : HasCmd s c 0x0308 k)
    (pass : firstFail (chan s c) (migrateChk s k) = none) :
    Runs (.opMigrate c) s fun t =>
      Answered t c k 0 (leBytes 4 (entriesOf s (k.f 0 1) (k.f 8 8) (k.f 16 8)).length) ∧ t.xl.maps = s.xl.maps ∧
        t.xl.migrations = tput s.xl.migrations (freshIdx s.xl.migrations) (migrationMade s k) := by
  refine h.opGoes (chk := migrateChk) (t := setMig s (freshIdx s.xl.migrations) (migrationMade s k)) others pass
    (show execOpMigrate c s = _ from rfl) rfl
    ⟨h.answers_own (t := setMig s _ (migrationMade s k)) rfl rfl _ _, ?_, ?_⟩
  · rw [finishCmd_xl]; rfl
  · rw [finishCmd_xl]; rfl

/-- The last page finished: the migration is gone, and its object has the signal. -/
theorem migNext_last {s : State} {i : Nat} {m : Migration} {e : MapEnt} {y : SyncObj} (last : m.pages.drop 1 = [])
    (there : syncOf s m.sync = some y) :
    tget (migNext s i m e).xl.migrations i = none ∧
      syncOf (migNext s i m e) m.sync = some { y with counter := y.counter + m.sig } := by
  simp only [migNext, last, List.isEmpty_nil, if_true]
  refine ⟨?_, syncOf_syncAdd ?_ m.sig⟩
  · rw [syncAdd_xl]
    exact tget_tdel _ _
  · have kept := congrArg Prod.snd (besideAccess_migRelease
      (accDrop (setMig s i { m with pages := [], phase := 0 }) (isMigrate i)) m e)
    exact (congrArg (tget · m.sync) kept).trans there

/-- A page in the last phase is as `migPhase` leaves it. -/
theorem migRun_last {s : State} {i n : Nat} {m : Migration} {e x : MapEnt} {r : List MapEnt}
    (found : tget s.xl.migrations i = some m) (head : m.pages = e :: r) (mapped : findMap s m.ctx e.dva = some x)
    (phase : m.phase = 4) : migRun (n + 1) s i = migPhase s i m e := by
  simp only [migRun, found, head, mapped, phase, if_true]

theorem migratePage_signals {s : State} (awake : Awake s) {i : Nat} {m : Migration} {e x : MapEnt} {y : SyncObj}
    (found : tget s.xl.migrations i = some m) (only : m.pages = [e]) (mapped : findMap s m.ctx e.dva = some x)
    (phase : m.phase = 4) (quiet : outstanding s m.ctx e.dva e.size m.mark = false) (there : syncOf s m.sync = some y) :
    Runs (.migratePage i) s fun t =>
      tget t.xl.migrations i = none ∧ syncOf t m.sync = some { y with counter := y.counter + m.sig } := by
  refine runs_live (show execMigratePage i s = _ from rfl) awake ?_
  have done : migPhase s i m e = migNext s i m e := by
    simp only [migPhase, phase, quiet, Bool.false_eq_true, if_false]
  rw [migRun_last found only mapped phase, done]
  exact migNext_last (by rw [only]; rfl) there

end Sys2Proof.Machine
namespace Sys2Proof.Machine

/-- The mappings with `x` moved to the migration's new target. -/
def movedMaps (s : State) (m : Migration) (x : MapEnt) : List MapEnt :=
  s.xl.maps.map fun z => if z = x then movedEnt x m.deep m.interleave.toNat (migTarget m.dva m.target x) else z

/-- The page's copy made, its entry names the new target, and no cache holds the old one. -/
def migMoved (s : State) (i : Nat) (m : Migration) (x : MapEnt) : State :=
  setMig (tlbDrop { s with xl := { s.xl with maps := movedMaps s m x } } fun z => z = x) i
    { m with phase := 4, mark := s.nextAcc }

theorem migPhase_copied {s : State} {i : Nat} {m : Migration} (x : MapEnt) (phase : m.phase = 3)
    (copied : (accsOf s (isMigrate i)).all (fun a => a.2.stage == .done) = true) :
    migPhase s i m x = migMoved s i m x := by
  have ended : allEnded (accsOf s (isMigrate i)) = true :=
    List.all_eq_true.mpr fun a m => by
      have stage := eq_of_beq (List.all_eq_true.mp copied a m)
      rw [stage]
      rfl
  have sound : (accsOf s (isMigrate i)).any (fun a => a.2.stage != .done) = false := by
    simpa [bne] using copied
  simp only [migPhase, phase, ended, sound, Bool.not_true, Bool.false_eq_true, if_false]
  rfl

/-- In the last phase of a page no mapping changes. -/
theorem migRun_maps {s : State} {i : Nat} {m : Migration} (found : tget s.xl.migrations i = some m) (phase : m.phase = 4)
    (n : Nat) : (migRun n s i).xl.maps = s.xl.maps := by
  have next (e : MapEnt) : (migNext s i m e).xl.maps = s.xl.maps :=
    congrArg Prod.fst (memPart_migNext (p := .maps) s i m e)
  cases n with
  | zero => rfl
  | succ n =>
    simp only [migRun, found]
    split
    · rw [syncAdd_xl]
    · split
      · exact next _
      · simp only [phase, if_true, migPhase]
        split
        · rfl
        · exact next _

theorem migratePage_moves {s : State} (awake : Awake s) {i : Nat} {m : Migration} {e x : MapEnt} {r : List MapEnt}
    (found : tget s.xl.migrations i = some m) (head : m.pages = e :: r) (mapped : findMap s m.ctx e.dva = some x)
    (phase : m.phase = 3) (copied : (accsOf s (isMigrate i)).all (fun a => a.2.stage == .done) = true) :
    Runs (.migratePage i) s fun t => t.xl.maps = movedMaps s m x := by
  refine runs_live (show execMigratePage i s = _ from rfl) awake ?_
  have first : migRun 6 s i = migRun 5 (migMoved s i m x) i := by
    have early : m.phase ≠ 4 := by omega
    rw [migRun, found]
    simp only [head, mapped, early, if_false, migPhase_copied x phase copied]
  rw [first, migRun_maps (m := { m with phase := 4, mark := s.nextAcc }) (tget_tput _ _ _) rfl]
  rfl

/-! ### OP_ADVISE (07 R158, R165) -/

/-- The checks of OP_ADVISE. -/
def adviseChk (s : State) (k : CmdHeld) : Chk :=
  ctxChk s (k.f 0 1)
    (k.rsv 3 8 ++ rangeChk k ++ [bad (decide (63 < k.f 0 1)) 0, bad (decide (3 < k.f 1 1)) 1,
      bad (decide (16384 < (entriesOf s (k.f 0 1) (k.f 8 8) (k.f 16 8)).length)) 8]) none

/-- The advice in force with the row cache's advice on the range cut out. -/
def adviceCut (s : State) (k : CmdHeld) : List Advice :=
  s.xl.advice.flatMap (carve (k.f 0 1) (k.f 8 8) (k.f 16 8) [2, 3])

/-- The advice taken: 0 withdraws, 1 pins, 2 and 3 advise the row cache. -/
def advised (k : CmdHeld) (s : State) : State :=
  match k.f 1 1 with
  | 0 => unpinRange { s with xl := { s.xl with advice := adviceCut s k } } (k.f 0 1) (k.f 8 8) (k.f 16 8)
  | 1 => pinRange s (k.f 2 1) (entriesOf s (k.f 0 1) (k.f 8 8) (k.f 16 8))
  | a => { s with xl := { s.xl with advice := adviceCut s k ++ [⟨k.f 0 1, k.f 8 8, k.f 16 8, BitVec.ofNat 8 a⟩] } }

theorem advised_mailbox (k : CmdHeld) (s : State) : MailboxKept s (advised k s) := by
  unfold advised
  split <;> exact ⟨rfl, rfl⟩

theorem advised_rowCache {k : CmdHeld} (s : State) (kind : 2 ≤ k.f 1 1) :
    ⟨k.f 0 1, k.f 8 8, k.f 16 8, BitVec.ofNat 8 (k.f 1 1)⟩ ∈ (advised k s).xl.advice := by
  unfold advised
  split
  · omega
  · omega
  · exact List.mem_append_right _ (List.mem_singleton_self _)

theorem advised_pins {k : CmdHeld} (s : State) (kind : k.f 1 1 = 1) : (advised k s).xl.advice = s.xl.advice := by
  rw [advised, kind]
  rfl

theorem advised_withdraws {k : CmdHeld} (s : State) (kind : k.f 1 1 = 0) (i : Fin 8) :
    ∀ e ∈ (advised k s).xl.l2[i], e.ent.meets (k.f 0 1) (k.f 8 8) (k.f 16 8) = true → e.pinned = false := by
  intro e m met
  simp only [advised, kind, unpinRange, Fin.getElem_fin, Vector.getElem_map, List.mem_map] at m
  obtain ⟨x, -, rfl⟩ := m
  by_cases inside : x.ent.meets (k.f 0 1) (k.f 8 8) (k.f 16 8) = true
  · rw [if_pos inside]
  · rw [if_neg inside] at met
    exact absurd met inside

theorem opAdvise_advises {s : State} {c : Chan} {k : CmdHeld} (others : OthersIdle s c) (h : HasCmd s c 0x0309 k)
    (kinds : k.f 1 1 ≤ 3) (r : Reserved k [3, 4, 5, 6, 7]) (range : RangeOk k) (ctx : CtxOk s c (k.f 0 1))
    (few : (entriesOf s (k.f 0 1) (k.f 8 8) (k.f 16 8)).length ≤ 16384) :
    Runs (.opAdvise c) s fun t => Answered t c k 0 [] ∧ t.xl = (advised k s).xl := by
  have pass : firstFail (chan s c) (adviseChk s k) = none := by
    refine ctxChk_passes ctx fun x m => ?_
    rcases List.mem_append.mp m with m | m
    · rcases List.mem_append.mp m with m | m
      · exact rsv_none r (by decide) x m
      · exact rangeChk_passes range x m
    · simp only [bad, ctx.1.not_gt, kinds.not_gt, few.not_gt, List.mem_cons, List.not_mem_nil, or_false] at m
      rcases m with rfl | rfl | rfl <;> rfl
  exact h.plainGoes (chk := adviseChk) (eff := advised) others pass (show execOpAdvise c s = _ from rfl)
    ⟨h.answers (advised_mailbox k s) _ _, finishCmd_xl _ _ _ _ _⟩

/-! ### UNMAP_HOST_ABANDON (07 R161) -/

namespace Ends
variable (s : State)

theorem ofReadForget (tag : Nat) : Ends s (readForget s tag) :=
  ofStopped ((Stopped.ofReads s (List.filter_subset_self _)).trans (Stopped.ofInvalDrain _ _))

theorem ofHostAbandon (id : Nat) (g : AccStage) : Ends s (hostAbandon s id g) := by
  unfold hostAbandon
  split
  · exact (ofReadForget s _).trans (ofAccFail _ _ _)
  · have forgot (l : List (Nat × AtsReq)) : Ends s { s with hl := { s.hl with ats := l } } :=
      ⟨rfl, List.Subset.refl _, fun _ e => e⟩
    exact (forgot _).trans (ofAccFail _ _ _)
  · exact refl s

end Ends

/-- The read of an abandoned host access is awaited no more. -/
theorem hostAbandon_forgets (s : State) (id tag : Nat) : tget (hostAbandon s id (.host tag)).hl.reads tag = none := by
  have drained : (readForget s tag).hl.reads ⊆ tdel s.hl.reads tag :=
    (Ends.ofStopped (Stopped.ofInvalDrain { s with hl := { s.hl with reads := tdel s.hl.reads tag } } tag)).reads
  exact tget_none_of_subset (List.Subset.trans (Ends.ofAccFail _ id .memory).reads drained) (tget_tdel _ _)

/-- An unmap's host accesses of a range below its mark, abandoned. -/
def abandonRange (k : CmdHeld) (dva len : Nat) (s : State) (a : Nat × Access) : State :=
  if a.1 < k.progress && a.2.ctx = k.f 0 1 && meets a.2.dva a.2.len dva len then hostAbandon s a.1 a.2.stage else s

theorem Ends.ofAbandonRange (k : CmdHeld) (dva len : Nat) (s : State) (a : Nat × Access) :
    Ends s (abandonRange k dva len s a) := .ofIte (.ofHostAbandon s _ _) (.refl s)

/-- Of the accesses in `l`, the read of one that the range meets is awaited no more. -/
theorem abandonRange_forgets {k : CmdHeld} {dva len id tag : Nat} {a : Access} {l : List (Nat × Access)} (s : State)
    (member : (id, a) ∈ l) (early : id < k.progress) (ctx : a.ctx = k.f 0 1) (met : meets a.dva a.len dva len = true)
    (stage : a.stage = .host tag) : tget (l.foldl (abandonRange k dva len) s).hl.reads tag = none := by
  obtain ⟨before, after, rfl⟩ := List.append_of_mem member
  rw [List.foldl_append, List.foldl_cons]
  refine tget_none_of_subset (Ends.foldl (Ends.ofAbandonRange k dva len) after _).reads ?_
  rw [abandonRange, if_pos (by simp [early, ctx, met]), stage]
  exact hostAbandon_forgets _ _ _

theorem unmapHostAbandon_forgets {s : State} (awake : Awake s) {c : Chan} {k : CmdHeld} {id tag : Nat} {a : Access}
    (cmd : (chan s c).cmd = some k) (begun : k.begun = true) (code : k.opcode.toNat = 0x0305)
    (waited : k.ackAt + msUp 4 ≤ s.tb.up) (member : (id, a) ∈ s.acc) (early : id < k.progress) (ctx : a.ctx = k.f 0 1)
    (met : meets a.dva a.len (k.f 8 8) (k.f 16 8) = true) (stage : a.stage = .host tag) :
    Runs (.unmapHostAbandon c) s fun t => tget t.hl.reads tag = none := by
  refine runs_live (show execUnmapHostAbandon c s = _ from rfl) awake ?_
  have due : since s k.ackAt (msUp 4) = true := decide_eq_true waited
  simp only [cmd, begun, due, code, Bool.not_true, Bool.or_self, Bool.false_eq_true, if_false, if_true]
  exact abandonRange_forgets s member early ctx met stage

/-- Settles O16: each command has its effect, and the accesses it sets going change no prefetch, no sync object, no mapping. -/
theorem rangeWork : Obligations.RangeWork := by
  unfold Obligations.RangeWork
  intro s awake
  refine ⟨?_, ?_, ?_, ?_, ?_, ?_, ?_⟩
  · intro c k y others h kinds r range ctx obj there own few
    obtain ⟨t, ran, answered, noted⟩ :=
      opPrefetch_accepts others h (prefetchChk_passes kinds r range ctx obj there own few)
    have sig : k.f 24 8 % 2 ^ 64 = k.f 24 8 := Nat.mod_eq_of_lt (fieldAt_lt _ _ _)
    exact ⟨t, ran, answered, _, prefetchMade s k, tget_freshIdx _, by rw [noted]; exact tget_tput _ _ _, rfl, rfl,
      (BitVec.toNat_ofNat _ _).trans sig⟩
  · intro i p y found ended there
    exact prefetchDone_signals awake found ended there
  · intro c k others h pass
    obtain ⟨t, ran, answered, kept, noted⟩ := opMigrate_accepts others h pass
    exact ⟨t, ran, answered, kept, _, migrationMade s k, tget_freshIdx _, by rw [noted]; exact tget_tput _ _ _, rfl, rfl,
      rfl⟩
  · intro i m e x y found only mapped phase quiet there
    exact migratePage_signals awake found only mapped phase quiet there
  · intro i m e x r found head mapped phase copied
    exact migratePage_moves awake found head mapped phase copied
  · intro c k others h kinds r range ctx few
    obtain ⟨t, ran, answered, same⟩ := opAdvise_advises others h kinds r range ctx few
    exact ⟨t, ran, answered, by rw [same]; exact advised_rowCache s, by rw [same]; exact advised_pins s,
      by rw [same]; exact advised_withdraws s⟩
  · intro c k id tag a cmd begun code waited member early ctx met stage
    exact unmapHostAbandon_forgets awake cmd begun code waited member early ctx met stage

end Sys2Proof.Machine
